-- ==== Sys2Proof/Word.lean ====
section
/-! DEFINITION. The word type of the register file (00 R6, 20 R478), and the sparse tables that hold
parameters, forme records and live slot states: a list of (key, value) pairs in one canonical form. -/

namespace Sys2Proof

/-- A 32-bit register word; used where the manual treats a value as bits (masks, W1C registers). -/
abbrev Word := BitVec 32

/-- A sparse table: keys strictly rising, no entry that holds the default of its table. -/
abbrev Sparse (α : Type) := List (Nat × α)

end Sys2Proof
end

