-- ==== Sys2Proof/Syntax.lean ====
section
/-! DEFINITION. The commands: one constructor per row of spec/opcode_table.json, in its order. Every command's
first operand `dt` is the time it comes at: the MT ticks (10 ns) that have passed since the command before it.
Quantities that the plant or the wiring decides are operands of the event that brings them. -/

namespace Sys2Proof

/-- What every host frame carries: its session, SEQ, ACK and the length of its payload (14 Table 14.1). A session
number from 65,536 on stands for an association, less 65,536, that has no session yet (14 R351). -/
structure Hdr where
  sid : Nat
  seq : Nat
  ack : Nat
  len : Nat
  deriving DecidableEq, Repr

/-- A 64-byte command entry (14 R361, Table 14.4); `args` are argument bytes 0 to 55. -/
structure CmdEntry where
  op : Nat
  flags : Nat
  tag : Nat
  target : Nat
  expEpoch : Nat
  rsv : Nat
  args : List Nat
  deriving DecidableEq, Repr

/-- What a conversion measured at the end of its slot: raw code, the quantity before scaling (0.01 Ω,
0.1 µV, 0.1 µA or 0.01 pF by mode), MOIST conductance, overload, and the apparent lead resistances of the post-check in
kΩ, the channel's and that of a 4-wire pair's other channel (06). -/
structure Meas where
  raw : Nat
  q : Int
  cond : Nat
  overload : Bool
  leadA : Nat
  leadB : Nat
  deriving DecidableEq, Repr

/-- What came in a Pica read slot: the reply's bytes from SYNC to CRC, none where nothing came; whether a character had a
parity error; the ticks from the request's end to the reply's start, and those since the reply ended (07 R167, R170). -/
structure PicaReply where
  frame : List Nat
  parity : Bool
  start : Nat
  back : Nat
  deriving DecidableEq, Repr

/-- One point found by enumeration: ID, firmware, RH capability, and whether its ID answered twice (07 R172, R173). -/
structure PicaFound where
  id : Nat
  fw : Nat
  rh : Bool
  dup : Bool
  deriving DecidableEq, Repr

/-- What a high-limit channel shows: its resistance in 0.01 Ω at the comparators, and the monitoring converter's
temperature in 0.01 °C (12 R294, R295, R305). -/
structure HlMeas where
  r : Nat
  temp : Int
  deriving DecidableEq, Repr

/-- What one drive measures at a millisecond: the observer's speed in rpm, tachometer pulses and Hall edges per minute, phase
current 0.1 mA rms, input power W, bus 0.01 V, heatsink 0.01 °C; and, since the DRIVE phase of a kick began, the forward
electrical cycles that the observer confirmed, the tachometer pulses and the Hall edges (09 R217, R218, R224, R225, R230,
R241). -/
structure DriveMeas where
  obs : Nat
  tach : Nat
  hall : Nat
  irms : Nat
  pwr : Nat
  vbus : Nat
  heat : Int
  cycN : Nat
  tachN : Nat
  hallN : Nat
  deriving DecidableEq, Repr

/-- The straps of header X80 (18 R455, 12 Table 12.6). -/
structure Straps where
  hl0 : Nat := 0
  hl1 : Nat := 0
  epc : Nat := 0
  testEn : Bool := false
  nodeId : Nat := 0
  deriving DecidableEq, Repr

/-- What a node tells of itself in DISCOVER and STATUS cells (17 R431). `state` is coded as NODE_STAT STATE. -/
structure NodeInfo where
  peer : Bool
  serial : Nat
  nodeId : Nat
  fw : Nat
  epoch : Nat
  state : Nat
  hops : Nat
  alt : Bool
  deriving DecidableEq, Repr

/-- A SFP+ module as read on its two-wire interface (17 R426, Table 17.6 view 2). -/
structure Sfp where
  present : Bool := false
  supported : Bool := false
  txFault : Bool := false
  rxLoss : Bool := false
  temp : Int := 0
  tx : Nat := 0
  rx : Nat := 0
  deriving DecidableEq, Repr

/-- What the header and signature check of a staged image found (15 R394). -/
structure ImageInfo where
  formatOk : Bool := false
  targetOk : Bool := false
  complete : Bool := false
  sigOk : Bool := false
  hwOk : Bool := false
  version : Nat := 0
  length : Nat := 0
  rollback : Nat := 0
  controlRev : Nat := 0
  deriving DecidableEq, Repr

/-- The payload of a RECORD cell (17 Table 17.2): a Pica reading of a node port, a zone token, or a boost token. -/
inductive RecTok where
  | reading (port point code : Nat) (rhPresent brown : Bool) (temp : Option Int) (rh stamp scan : Nat)
  | zone (nodeId zone state : Nat) (value : Option Int) (demand : Nat)
  | boost (nodeId group : Nat) (on : Bool)
  deriving DecidableEq, Repr

/-- The commands of the block, one per row of the table. `f` names a fetched command (see COMMAND_FETCH). -/
inductive Instr where
  -- register words with rows of their own (20, 04, 03, 11, 08, 14)
  | registerWrite (dt sid addr val : Nat)
  | loWordRead (dt sid addr : Nat)
  | gstart (dt sid mask : Nat)
  | gstop (dt sid mask : Nat)
  | cntClr (dt sid : Nat)
  | latClr (dt sid : Nat)
  | wdRel (dt sid : Nat)
  | loopRegisterWrite (dt sid loop off val : Nat)
  | sqDoorbellWrite (dt sid q idx : Nat)
  | headDoorbellWrite (dt sid q idx : Nat)
  -- time bases (02)
  | toothEdge (dt w : Nat)
  | toothSynth (dt w : Nat)
  | twInterpAdvance (dt w : Nat)
  | twStopTimeout (dt w : Nat)
  | maLock (dt : Nat) (errs : List Nat) (ext freq : Nat)
  | maRefLost (dt ext freq : Nat)
  | maCoastEnd (dt : Nat)
  | maRefReturn (dt : Nat)
  | mainsEventStart (dt ev ph val ext freq : Nat)
  | mainsEventEnd (dt ev ph val : Nat)
  | tbStatus (dt f : Nat)
  -- imposition (03)
  | slotWrite (dt f : Nat)
  | slotRead (dt f : Nat)
  | slotEnable (dt f : Nat)
  | mtSlotCrossing (dt : Nat)
  | maSlotCrossing (dt ext freq : Nat)
  | windowRefill (dt b : Nat)
  | actionDispatch (dt : Nat)
  -- timers (04)
  | timerStart (dt n : Nat)
  | timerStop (dt n : Nat)
  | timerExpiry (dt n : Nat)
  | timerMatch (dt n : Nat)
  -- ledger and batch (05)
  | ledgerShift (dt c : Nat)
  | parcelClose (dt c : Nat)
  | ledgerSample (dt c : Nat)
  | heatIntegralTick (dt : Nat)
  | batchConditionTick (dt : Nat)
  | batchTmax (dt c : Nat)
  | ledgerRead (dt f : Nat)
  | batchStep (dt f : Nat)
  -- probes (06)
  | seqTrig (dt g : Nat)
  | seqTrigger (dt f : Nat)
  | settleEnd (dt g leadA leadB : Nat)
  | conversionSlotEnd (dt g : Nat) (m : Meas)
  | channelStale (dt ch : Nat)
  | sampleRead (dt f : Nat)
  | streamOpen (dt f : Nat)
  -- Pica and zones (07)
  | picaScanPeriod (dt p : Nat)
  | picaReadSlotEnd (dt p : Nat) (r : PicaReply)
  | picaEnumEnd (dt p : Nat) (found : List PicaFound)
  | portOpen (dt p : Nat)
  | portShort (dt p : Nat)
  | portShortRetry (dt p : Nat)
  | picaPointStale (dt p point : Nat)
  | zoneEvaluate (dt z : Nat)
  | zoneAgeingTick (dt : Nat)
  | zoneHoldTimeout (dt z : Nat)
  | picaScan (dt f : Nat)
  | picaEnum (dt f : Nat)
  -- control engine (08)
  | loopEval (dt l : Nat)
  | cleValueToken (dt l : Nat)
  | loopEvalStart (dt : Nat)
  | loopEvalComplete (dt l : Nat)
  | loopDeadline (dt l : Nat)
  | setpointCopy (dt l : Nat)
  | galleySnap (dt g : Nat)
  | galleyCopy (dt g : Nat)
  | loopHold (dt f : Nat)
  | loopRelease (dt f : Nat)
  | galleyArm (dt f : Nat)
  | galleyDump (dt f : Nat)
  -- fans (09)
  | driveRefTick (dt : Nat) (m : List DriveMeas)
  | kickCatchEnd (dt n fwd : Nat)
  | kickPulsesCounted (dt n pct : Nat)
  | kickTimeout (dt n : Nat)
  | stall (dt n : Nat) (lockLost : Bool)
  | retryAttempt (dt n : Nat)
  | retryCountReset (dt n : Nat)
  | i2tExhausted (dt n : Nat)
  | driveTrip (dt n src : Nat)
  | ftripInput (dt input : Nat) (opened : Bool)
  | powerLimitTick (dt : Nat)
  | powerLimitReduce (dt : Nat)
  | vinUndervolt (dt vin : Nat)
  | vinRecover (dt vin : Nat)
  | autonomyExpiry (dt : Nat)
  | internalFanFail (dt fan : Nat)
  | fanCmd (dt f : Nat)
  | fanClearTrip (dt f : Nat)
  | fanRetryNow (dt f : Nat)
  | fanUnlock (dt f : Nat)
  -- valves (10)
  | governorTick (dt : Nat) (imeas : List Nat) (vbst : Nat) (full : Nat)
  | pullinPeak (dt n vavg riseUs : Nat)
  | peakTimeEnd (dt n : Nat)
  | valveTrip (dt n src : Nat)
  | coilOpen (dt n : Nat)
  | clamp (dt burned : Nat)
  | govClampClear (dt : Nat)
  | burnerPermitChange (dt : Nat) (on : Bool)
  | vbFault (dt : Nat)
  | valveCmd (dt f : Nat)
  | valveLearnL (dt f vHold stepUs : Nat)
  -- field I/O (11)
  | diFilterStep (dt n : Nat) (raw : Bool)
  | doSet (dt n : Nat)
  | doClear (dt n : Nat)
  | doPulse (dt n : Nat)
  | doPulseEnd (dt n : Nat)
  | tpropPeriodStart (dt n : Nat)
  | tpropOnEnd (dt n : Nat)
  | freqHalfPeriod (dt n : Nat)
  | dioUpdateFrame (dt : Nat)
  | supervisorHeartbeat (dt : Nat)
  | doWatchdogExpiry (dt n : Nat)
  | fieldFault (dt n cls : Nat) (on : Bool)
  | ovlRetry (dt n : Nat)
  | fioFaultRise (dt : Nat)
  | fioFaultFall (dt : Nat)
  | faultScanRepeat (dt : Nat)
  | faultScanStep (dt : Nat)
  | couplerFault (dt n : Nat) (out : Bool)
  | dioFaultScan (dt f : Nat)
  -- high limit (12)
  | hlTrip (dt ch : Nat)
  | heartbeatStale (dt : Nat)
  | contactWeld (dt relay : Nat)
  | limitResetKey (dt released : Nat)
  | keyStuck (dt : Nat)
  | hlReset (dt f : Nat)
  | pchain (dt : Nat)
  -- power and proof (13)
  | powerOn (dt : Nat) (straps : Straps)
  | powerFail (dt vin : Nat)
  | rideThrough (dt vin : Nat)
  | powerCommit (dt holdup : Nat)
  | supervisorWatchdog (dt : Nat)
  | proofStageEnd (dt : Nat) (pass : Bool) (item time meas : Nat) (hl0 hl1 : HlMeas)
  | proofVinReady (dt vin : Nat)
  | proofVinTimeout (dt : Nat)
  | tIntThreshold (dt : Nat) (t : Int)
  | overtemp (dt : Nat) (t : Int)
  | powerStateEntry (dt : Nat)
  | plannedWake (dt : Nat)
  | wake (dt src : Nat)
  | latencySet (dt f : Nat)
  -- host link (14)
  | clientHello (dt port assoc : Nat) (cookie offerOk : Bool)
  | handshakeDone (dt assoc fp : Nat) (certOk : Bool)
  | handshakeTimeout (dt assoc : Nat)
  | sessionOpen (dt : Nat) (h : Hdr) (assoc role opts rsv : Nat)
  | sessionOpenTimeout (dt assoc : Nat)
  | ack (dt : Nat) (h : Hdr)
  | sessionClose (dt : Nat) (h : Hdr) (reason : Nat)
  | keepalive (dt : Nat) (h : Hdr)
  | regRead (dt : Nat) (h : Hdr) (addr count : Nat)
  | regWrite (dt : Nat) (h : Hdr) (addr count rsv : Nat) (vals : List Nat)
  | qCreate (dt : Nat) (h : Hdr) (q depth cq coalN cls coalT : Nat)
  | qDelete (dt : Nat) (h : Hdr) (q : Nat)
  | submit (dt : Nat) (h : Hdr) (sq first rsv tail : Nat) (entries : List CmdEntry)
  | badFrame (dt : Nat) (h : Hdr) (kind : Nat)
  | frameRetransmit (dt sid : Nat)
  | ackTimer (dt sid : Nat)
  | sessionTimeout (dt sid : Nat)
  | keepaliveSend (dt sid : Nat)
  | deliver (dt q : Nat)
  | commandFetch (dt sq : Nat)
  | commandStart (dt f : Nat)
  | commandTimeout (dt f : Nat)
  | resetWaitExpiry (dt f : Nat)
  | lingerExpiry (dt sid : Nat)
  -- supervisor commands (15)
  | nop (dt f : Nat)
  | identify (dt f : Nat)
  | getState (dt f : Nat)
  | paramRead (dt f : Nat)
  | paramWrite (dt f : Nat)
  | formeOpen (dt f : Nat)
  | formeWrite (dt f : Nat)
  | formeCheck (dt f : Nat)
  | quoin (dt f : Nat)
  | quoinBoundary (dt : Nat)
  | stationChangeover (dt : Nat)
  | quoinTimeout (dt : Nat)
  | formeDiscard (dt f : Nat)
  | stationReset (dt f : Nat)
  | stationReturn (dt st : Nat)
  | unitReset (dt f : Nat)
  | updateStage (dt f : Nat)
  | updateCheck (dt f : Nat) (img : ImageInfo)
  | updateCommit (dt f : Nat)
  | updateAbort (dt f : Nat)
  | updateRestart (dt : Nat)
  | supervisorReturn (dt : Nat)
  -- record and reprint (16)
  | unitProgramDone (dt : Nat) (ok : Bool)
  | flushTimer (dt : Nat)
  | keyframeTimer (dt : Nat)
  | logRead (dt f : Nat)
  | logCopyResume (dt : Nat)
  | recordMark (dt f : Nat)
  | reprintStart (dt f : Nat)
  | reprintStop (dt f : Nat)
  | reprintRecord (dt : Nat)
  -- lanes (17)
  | sfpModuleChange (dt l : Nat) (m : Sfp)
  | laneUp (dt l : Nat)
  | laneDown (dt l hop : Nat)
  | discoverCell (dt l : Nat) (info : NodeInfo)
  | statusCell (dt l pos : Nat) (info : NodeInfo)
  | statusCellSend (dt l : Nat)
  | syncCellReceive (dt l masterMt masterId serial : Nat) (offset : Int) (delay : Nat)
  | syncCellSend (dt : Nat)
  | controlCell (dt st cseq status : Nat) (result : List Nat)
  | controlCellRetransmit (dt st : Nat)
  | recordCell (dt st epoch seq : Nat) (tok : RecTok)
  | bulkCell (dt st : Nat)
  | tripBlockReceive (dt l st bits seq : Nat) (crcOk : Bool)
  | tripBlockRepeat (dt : Nat)
  | tripCellReceive (dt st bits : Nat)
  | tripCellRepeat (dt : Nat)
  | nodeLost (dt st : Nat)
  | nodeUpdateTimeout (dt st : Nat)
  | peerZoneExport (dt : Nat)
  | peerBoostSend (dt g : Nat)
  | peerTimeout (dt nodeId : Nat)
  | laneStatus (dt f : Nat)
  | nodeReset (dt f : Nat)
  -- service (18)
  | ackKey (dt released : Nat)
  | lampTest (dt : Nat)
  | ackStuck (dt : Nat)
  | strapSample (dt : Nat) (straps : Straps)
  | testmuxSet (dt f : Nat)
  | usbAttach (dt : Nat)
  -- rows at the table's end
  | vinRangeChange (dt vin : Nat)
  | picaConvertWaitEnd (dt p : Nat)
  | portFaultClear (dt p : Nat)
  | usbDetach (dt : Nat)
  | ethernetLinkChange (dt port : Nat) (up : Bool) (speed : Nat)
  | lampTestEnd (dt : Nat)
  | debugHalt (dt : Nat)
  | debugRelease (dt : Nat)
  | quoinPreloadDone (dt : Nat)
  | tripSourceClear (dt : Nat) (valve : Bool) (n src : Nat)
  | hlThresholdCrossing (dt ch : Nat) (m : HlMeas)
  deriving DecidableEq, Repr

end Sys2Proof
end

