-- ==== Sys2Proof/Config.lean ====
section
/-! DEFINITION. What the spec leaves open, as constants with no body (free values: nothing can be proved of
the value), and the fixed numbers of hardware revision C with firmware 4.2 (00 R1). -/

namespace Sys2Proof.Config

/-- Free: a fresh value for each use of the state's counter `free` (log 5). -/
opaque freeValue : Nat → Int

/-- Free: how far a PLL that follows the mains has advanced at an MT since the last angle and frequency known; the plant's
mains decide it (02 R59, R61; log 11). -/
opaque maAdvance : Nat → Nat → Nat → Nat

/-- Free: the CRC-32 of a forme's content; the manual ties it to no serialization (15 R389; log 7). -/
opaque formeCrc : List Int → BitVec 32

/-- Free: byte `i` of folio `num` (from 65,536 on, of its spare area) where the manual does not lay it out: keyframe
images, archived formes, the index, erased folios, MAINS samples (16 R399, R400, R411; log 7). -/
opaque folioByte : Nat → Nat → BitVec 8

/-- Free: how many KEY folios a keyframe takes, less 1, modulo 10 (16 R411: at most 10; log 7). -/
opaque keyFolios : Nat → Nat

/-- Free: how many BAD folios exhaust the spare blocks (16 R421; log 7). -/
opaque spareBlocks : Nat

/-- Free: the commit reserve of the hold-up voltage, 0.01 V (13 R320; log 8). -/
opaque holdupReserve : Nat

/-- Free: the speed in % that the internal cooling fans take at an internal temperature (09 R235; log 8). -/
opaque coolSpeed : Int → Nat

/-- MT ticks of 10 ns in a microsecond, a millisecond and a second (02, Machine time). -/
def us : Nat := 100
def ms : Nat := 100000
def sec : Nat := 100000000

/-- The station numbers of Table 1.2 (01 R16). -/
def stSup : Nat := 0x00
def stTime : Nat := 0x01
def stImp : Nat := 0x02
def stTim : Nat := 0x03
def stLdg : Nat := 0x04
def stAg (g : Nat) : Nat := 0x05 + g
def stPica : Nat := 0x09
def stCle : Nat := 0x0A
def stFd (n : Nat) : Nat := 0x0B + n
def stSv : Nat := 0x11
def stDio : Nat := 0x12
def stHl : Nat := 0x13
def stRec : Nat := 0x14
def stLane : Nat := 0x15

end Sys2Proof.Config
end

