-- ==== Sys2Proof/Machine/State.lean ====
section
/-! DEFINITION. The state of one Silath VX-960, revision C, firmware 4.2: every register, counter, queue, buffer,
mode and pin the spec gives the unit, station by station, and the queue of commands that wait. Each field's
docstring reads: meaning | width | file and rule | value at reset. A field marked MODEL is the model's own. -/

namespace Sys2Proof.Machine

/-- The unit states (01 R23, Table 1.4). -/
inductive UState where
  | proof | proofHold | standby | run | reprint | update
  deriving DecidableEq, Repr

/-- The tooth-wheel states (02 R53, Table 2.2). -/
inductive WState where
  | off | acquire | locked | resync | stopped
  deriving DecidableEq, Repr

/-- The states of mains angle (02 Table 2.7). -/
inductive MState where
  | invalid | acquire | locked | coast
  deriving DecidableEq, Repr

/-- MT_SYNC STATE (20 Table 20.3). -/
inductive SyncState where
  | master | locked | slewing | holdover
  deriving DecidableEq, Repr

/-- The slot states (03 Table 3.6). -/
inductive SlotState where
  | disabled | armed | held | done
  deriving DecidableEq, Repr

/-- Timer states (04 Table 4.4). -/
inductive TState where
  | stopped | running | expired
  deriving DecidableEq, Repr

/-- Batch program states (05 R127). -/
inductive BState where
  | idle | running | paused | done
  deriving DecidableEq, Repr

/-- Sample and reading status (06 Table 6.4). -/
inductive SCode where
  | ok | suspect | broken | overrange | stale
  deriving DecidableEq, Repr

/-- Phase of a sequencer's slot (06 R139). -/
inductive GPhase where
  | idle | settling | integrating
  deriving DecidableEq, Repr

/-- Zone states (07 Table 7.4). -/
inductive ZState where
  | off | init | ok | failed | hold
  deriving DecidableEq, Repr

/-- Galley states (08 R205). -/
inductive GalState where
  | idle | wait | recording | post | frozen
  deriving DecidableEq, Repr

/-- Drive states (09 Table 9.11). -/
inductive DState where
  | off | kick | run | wait | lockout | tripped | disabled | uv | stopping
  deriving DecidableEq, Repr

/-- Valve channel states (10 Table 10.8). -/
inductive VState where
  | off | on | pull | pullWait | hold | tripped | safe | uv
  deriving DecidableEq, Repr

/-- Node states (17 Table 17.5). -/
inductive NState where
  | absent | joining | online | resetting | updating | lost | mismatch
  deriving DecidableEq, Repr

/-- Slug classes (16 Table 16.4). -/
inductive SlugClass where
  | trip | fault | warn | info | trace
  deriving DecidableEq, Repr

/-- Acceptance codes (03, Refusal by the receiving station; 06 Table 6.13; DISCARDED follows as 4). -/
inductive Acc where
  | accepted | pended | replaced | dropped | discarded
  deriving DecidableEq, Repr

/-- The forme: forme parameters, WS registers and records that differ from the factory defaults (15 R387 to R389).
A record's key is 65,536 × kind + index; its value is its bytes. -/
structure Forme where
  /-- forme parameters by ID | 32 bits each | 15 R385 | factory defaults -/
  params : Sparse Int := []
  /-- TM_CFG and TM_RELOAD by address | 32 bits each | 20 R483 | 0 (04 Tables 4.3, 4.4) -/
  ws : Sparse Nat := []
  /-- slots, batch steps, point maps | 32 or 384 bytes each | 15 Table 15.7 | zero -/
  recs : Sparse (List Nat) := []
  deriving DecidableEq, Repr

/-- One tooth wheel TWn (02). -/
structure Wheel where
  /-- wheel state | 3 bits | 02 R53 | OFF (20 Table 20.4) -/
  st : WState := .off
  /-- P, the output position | 48 bits | 02 R40 | 0 (02 R54) -/
  pos : Nat := 0
  /-- E at the last counted pitch, 1/256 tooth, before wrapping | 48 bits | 02 R40, R54 | 0 -/
  count : Int := 0
  /-- interpolation of E, 0 to 255 | 8 bits | 02 R41 | 0 -/
  interp : Nat := 0
  /-- pitch index | 8 bits | 02 R49, 20 Table 20.4 | 0 -/
  pitch : Nat := 0
  /-- Tp, period estimate | ticks | 02 R42 | DESIGN CHOICE 0 (log 3) -/
  tp : Nat := 0
  /-- t_bound, last tooth boundary | MT | 02 R44 | DESIGN CHOICE 0 (log 3) -/
  tBound : Nat := 0
  /-- anchor of the interpolation | MT | 02 R41 | DESIGN CHOICE 0 (log 3) -/
  anchor : Nat := 0
  /-- last real accepted or absorbed edge | MT | 02 R42 | DESIGN CHOICE 0 (log 3) -/
  tReal : Nat := 0
  /-- pitches counted since that edge | count | 02 R42 | 0 -/
  sinceReal : Nat := 0
  /-- the run of consecutive rejections | 4 bits | 02 R44 | 0 -/
  rejRun : Nat := 0
  /-- last rejected edge | MT | 02 R48 | DESIGN CHOICE 0 (log 3) -/
  tRej : Nat := 0
  /-- teeth synthesized in a row | 4 bits | 02 R47 | 0 -/
  synthRow : Nat := 0
  /-- absorb window open | flag | 02 R46 | 0 -/
  absorb : Bool := false
  /-- last synthesis instant | MT | 02 R46 | DESIGN CHOICE 0 (log 3) -/
  tSynth : Nat := 0
  /-- SYNTH: P derives from a synthesized tooth | flag | 02 R45 | 0 -/
  synth : Bool := false
  /-- HOLD: P greater than E | flag | 02 R40 | 0 -/
  hold : Bool := false
  /-- OVERSPEED | flag | 02 R65 | 0 -/
  overSpd : Bool := false
  /-- NOISE_REJ | 16 bits | 20 Table 20.4 | 0 -/
  noiseRej : Nat := 0
  /-- synthesized teeth | 16 bits | 20 Table 20.4 | 0 -/
  synthCnt : Nat := 0
  /-- CORR, gap corrections | 16 bits | 20 Table 20.4 | 0 -/
  corr : Nat := 0
  /-- GAP_UNEXP | 8 bits | 02 R51 | 0 -/
  gapUnexp : Nat := 0
  /-- GAP_MISS | 8 bits | 02 R51 | 0 -/
  gapMiss : Nat := 0
  /-- consecutive revolutions with no gap signature | 2 bits | 02 R51 | 0 -/
  missRun : Nat := 0
  /-- pitches counted since the previous reference edge | count | 02 R50 | 0 -/
  sinceRef : Nat := 0
  /-- pitches counted in ACQUIRE | count | 02 R54 | 0 -/
  acq : Nat := 0
  /-- real edges accepted in a row in RESYNC | 4 bits | 02 R52 | 0 -/
  resyncRun : Nat := 0
  /-- last interval in ACQUIRE or after STOPPED | ticks | 02 Table 2.2, R55 | DESIGN CHOICE 0 (log 3) -/
  lastIv : Nat := 0
  /-- STOPPED was entered from LOCKED | flag | 02 Table 2.2 | DESIGN CHOICE true (log 3) -/
  fromLocked : Bool := true
  /-- edges still without window checks after STOPPED | 2 bits | 02 R55 | 0 -/
  restart : Nat := 0
  /-- last accepted or absorbed edge, for TW_STOP_T | MT | 02 R55 | DESIGN CHOICE 0 (log 3) -/
  tLast : Nat := 0
  /-- TW_EVT | 9 bits, W1C | 20 Table 20.4 | 0 -/
  evt : Word := 0
  /-- filtered edges since the keyframe | 32 bits | 16 Table 16.6 | 0 -/
  edges : Nat := 0
  /-- TW_WIN_HI, TW_SYNTH_MAX, TW_GAP_TOL and TW_STOP_T of the forme before a QUOIN, in force until the next edge
  | 4 values | 02 R63 | none -/
  kept : Option (List Nat) := none
  deriving DecidableEq, Repr

/-- Station 0x01, the time bases (02, 20 Tables 20.3 and 20.4). -/
structure TimeSt where
  /-- MT, ticks of 10 ns | 64 bits | 02 R34 | 0 -/
  mt : Nat := 0
  /-- MT_SYNC STATE | 2 bits | 20 Table 20.3 | MASTER (0) -/
  sync : SyncState := .master
  /-- NOSYNC | flag | 02 R39 | 0 -/
  nosync : Bool := false
  /-- DUP_ID | flag | 02 R37 | 0 -/
  dupId : Bool := false
  /-- MASTER_ID | 4 bits | 20 Table 20.3 | strap: DESIGN CHOICE 0 (log 2) -/
  masterId : Nat := 0
  /-- OFFSET to the master, ns | signed 16 bits | 20 Table 20.3 | 0 -/
  offset : Int := 0
  /-- MT_TRIM, 0.01 ppm | signed 16 bits | 20 Table 20.3 | 0 -/
  trim : Int := 0
  /-- consecutive SYNC cells within 100 ns | 5 bits | 17 R434 | 0 -/
  syncGood : Nat := 0
  /-- MA_STATE STATE | 2 bits | 20 Table 20.3 | INVALID (0) -/
  ma : MState := .invalid
  /-- the extended angle, and the MT at which it stood there | 48 bits, MT | 03 R70 | DESIGN CHOICE 0 (log 3) -/
  ext : Nat := 0
  extMt : Nat := 0
  /-- MA_FREQ, 1/65,536 Hz | 32 bits | 20 Table 20.3 | 0 -/
  freq : Nat := 0
  /-- COAST_LEFT | 4 bits | 02 R60 | 0 -/
  coastLeft : Nat := 0
  /-- MT at which coast began | MT | 02 R60 | 0 -/
  coastMt : Nat := 0
  /-- the reference is back during coast and the angle rate is steered to it | flag | 02 R61 | 0 -/
  steer : Bool := false
  /-- ACTIVE: phase mask per event SAG, SWELL, PHASE_LOSS, UNBALANCE, FREQ | 5 × 3 bits | 02 R62 | 0 -/
  active : List Nat := [0, 0, 0, 0, 0]
  /-- MA_EVT | 7 bits, W1C | 20 Table 20.3 | 0 -/
  maEvt : Word := 0
  /-- half-cycle rms L1, L2, L3, 0.1 V | 16 bits each | 02 Table 2.7 | DESIGN CHOICE 0 (log 3) -/
  rms : List Nat := [0, 0, 0]
  /-- unbalance, 0.01 % | 16 bits | 02 Table 2.7 | DESIGN CHOICE 0 (log 3) -/
  unbal : Nat := 0
  /-- TW0 to TW3 | - | 02 | as Wheel -/
  wheels : List Wheel := List.replicate 4 {}
  deriving DecidableEq, Repr

/-- The live state of one slot (03 Table 3.11, SLOT_READ view 0). -/
structure SlotLive where
  /-- slot state | 2 bits | 03 Table 3.6 | DISABLED -/
  st : SlotState := .disabled
  /-- next target | 64 bits | 03 R72 | 0 -/
  next : Nat := 0
  /-- firings | 32 bits | 03 Table 3.11 | 0 -/
  firings : Nat := 0
  /-- refusals | 16 bits | 03 Table 3.11 | 0 -/
  refusals : Nat := 0
  /-- LATE firings | 16 bits | 03 Table 3.11 | 0 -/
  late : Nat := 0
  /-- last marks | 5 bits | 03 Table 3.5 | 0 -/
  marks : Nat := 0
  /-- remaining COUNT | 16 bits | 03 R72 | 0 -/
  remaining : Nat := 0
  /-- last acceptance code | 3 bits | 03 Table 3.11 | 0 -/
  lastAcc : Nat := 0
  /-- a run of refusals is under way | flag | 03 Table 3.7 | 0 -/
  refRun : Bool := false
  deriving DecidableEq, Repr

/-- A firing in the dispatch queue, and the token it becomes in a station's inbox (03 R80). -/
structure Firing where
  slot : Nat
  base : Nat
  target : Nat
  mt : Nat
  occ : Nat
  marks : Nat
  action : Nat
  index : Nat
  argA : Nat
  argB : Nat
  /-- acknowledged PENDED by the ledger, beyond its 64-entry inbox | flag | 05 R111 | 0 -/
  pended : Bool := false
  deriving DecidableEq, Repr

/-- Station 0x02, the imposition (03, 20 Table 20.5). -/
structure ImpSt where
  /-- live slot states | 4,096 slots | 03 Table 3.6 | all DISABLED -/
  slots : Sparse SlotLive := []
  /-- dispatch queue | 256 firings | 03 R79 | empty -/
  queue : List Firing := []
  /-- crossings held back while the queue is full | - | 03 R79 | empty -/
  held : List Firing := []
  /-- action tokens handed to station inboxes and not yet taken | - | 03 R79 | empty -/
  inbox : List Firing := []
  /-- slots in the windows of MT, MA, TW0 to TW3 | 6 × 32 slots | 03 R77 | empty -/
  wins : List (List Nat) := List.replicate 6 []
  /-- IMP_EVT | 6 bits, W1C | 20 Table 20.5 | 0 -/
  evt : Word := 0
  /-- IMP_DISP_CNT | 32 bits | 20 Table 20.5 | 0 -/
  disp : Nat := 0
  /-- IMP_LATE_CNT | 32 bits | 20 Table 20.5 | 0 -/
  late : Nat := 0
  /-- IMP_REFUSED_CNT | 32 bits | 20 Table 20.5 | 0 -/
  refused : Nat := 0
  /-- IMP_WIN_LATE | 32 bits | 20 Table 20.5 | 0 -/
  winLate : Nat := 0
  /-- IMP_LAT_MAX, ticks | 32 bits | 20 Table 20.5 | 0 -/
  latMax : Nat := 0
  /-- IMP_SKIP | 32 bits | 20 Table 20.5 | 0 -/
  skip : Nat := 0
  /-- IMP_RESET_LOSS | 32 bits | 20 Table 20.5 | 0 -/
  resetLoss : Nat := 0
  deriving DecidableEq, Repr

/-- One timer TMn (04 Table 4.4). -/
structure Timer where
  /-- STATE | 2 bits | 04 Table 4.4 | STOPPED -/
  st : TState := .stopped
  /-- the count at `anchor`; the count itself when SRC is not 0 or the timer does not run | 32 bits | 04 R93 | 0 -/
  cnt : Nat := 0
  /-- MT at which `cnt` stood, for SRC 0 | MT | 04 R96 | DESIGN CHOICE 0 (log 3) -/
  anchor : Nat := 0
  /-- prescaler ticks done when stopped | 8 bits | 04 R96 | 0 -/
  pres : Nat := 0
  /-- expiries or matches reached by source units and not yet signalled, with their MT | MT each | 04 R101 | empty -/
  due : List Nat := []
  /-- the unit of a chained source that is counted on the cycle after its event: that cycle | MT | 04 R98 | none -/
  unit_ : Option Nat := none
  /-- EXP | flag, W1C | 04 Table 4.4 | 0 -/
  exp : Bool := false
  /-- OVF | flag, W1C | 04 Table 4.4 | 0 -/
  ovf : Bool := false
  /-- MT of the last clear of OVF, from which the wraps of a SRC 0 timer set it again | MT | 04 Table 4.4 | DESIGN CHOICE 0 (log 3) -/
  ovfMt : Nat := 0
  /-- EXP_CNT | 8 bits | 04 Table 4.4 | 0 -/
  expCnt : Nat := 0
  /-- the clock of SRC 0 is 32.768 kHz (LF of a timer with SRC 0); MT of the switch to it | flag, MT | 04 R105 | 0 -/
  lf : Bool := false
  lfMt : Nat := 0
  deriving DecidableEq, Repr

/-- A parcel record (05 R113, Table 5.1) and its open means (05 R115). -/
structure Parcel where
  /-- ENTRY_POS | 48 bits | 05 Table 5.1 | 0 -/
  entryPos : Nat := 0
  /-- M_IN, none = 0xFFFF | 16 bits | 05 Table 5.1 | unknown -/
  mIn : Option Int := none
  /-- T_IN, none = 0x8000 | 16 bits | 05 Table 5.1 | unknown -/
  tIn : Option Int := none
  /-- M_PRED, none = 0xFFFF | 16 bits | 05 Table 5.1 | unknown -/
  mPred : Option Int := none
  /-- DOSE when frozen | 32 bits | 05 R117 | 0 -/
  dose : Int := 0
  /-- M_OUT, none = 0xFFFF | 16 bits | 05 Table 5.1 | unknown -/
  mOut : Option Int := none
  /-- N_IN, saturating | 8 bits | 05 Table 5.1 | 0 -/
  nIn : Nat := 0
  /-- N_OUT, saturating | 8 bits | 05 Table 5.1 | 0 -/
  nOut : Nat := 0
  /-- FLAGS | 16 bits | 05 Table 5.2 | MIN_UNKNOWN and TIN_UNKNOWN (05 R129) -/
  flags : Nat := 3
  /-- SEQ | 16 bits | 05 Table 5.1 | 0 -/
  seq : Nat := 0
  /-- S_ENTRY | 48 bits | 05 R117 | 0 -/
  sEntry : Nat := 0
  /-- sums and counts of the OK samples of M_IN, T_IN, M_OUT so far | - | 05 R115 | 0 -/
  sumIn : Int := 0
  cntIn : Nat := 0
  sumT : Int := 0
  cntT : Nat := 0
  sumOut : Int := 0
  cntOut : Nat := 0
  /-- open means discarded by a station reset | flags | 05 R131 | 0 -/
  voidIn : Bool := false
  voidOut : Bool := false
  /-- it has left and its PARCEL slug is out | flag | 05 R122 | 0 -/
  sent : Bool := false
  deriving DecidableEq, Repr

/-- A shift whose means close 100 µs after its crossing MT; `out` is LDG_OUT_IDX at the shift (05 R115). -/
structure Closing where
  at_ : Nat
  cross : Nat
  out : Nat
  deriving DecidableEq, Repr

/-- One column's ledger and batch program (05). -/
structure Column where
  /-- parcels from the inlet, those that have left and wait for a mean last | up to 2,048 records | 05 R110 | none: unknown parcels -/
  parcels : List Parcel := []
  /-- SEQ of the next parcel | 16 bits | 05 Table 5.1 | 0 -/
  nextSeq : Nat := 0
  /-- S, heat integral | 64 bits | 05 R116 | 0 -/
  s : Nat := 0
  /-- B, bias | signed | 05 R118 | 0 -/
  bias : Int := 0
  /-- FFV published | 16 bits | 05 R120 | 0 -/
  ffv : Int := 0
  /-- FFV as the control engine has applied it, in the order of its inbox | 16 bits | 05 R120, 08 R190, R191 | 0 -/
  ffvCle : Int := 0
  /-- FFV status: published value is known | flag | 05 R121 | 0 -/
  ffOk : Bool := false
  /-- SEQ that the FFV carries | 16 bits | 05 R120 | 0 -/
  ffSeq : Nat := 0
  /-- last known FFV | 16 bits | 05 R121 | 0 -/
  lastFf : Int := 0
  /-- shifts | 16 bits | 05 Table 5.8 | 0 -/
  shifts : Nat := 0
  /-- LDG_LATE_SMP | 16 bits | 05 R115 | 0 -/
  lateSmp : Nat := 0
  /-- last OK plenum value and its stamp | 16 bits, MT | 05 R116 | none -/
  plen : Option (Int × Nat) := none
  /-- shifts whose means wait to close, oldest first | - | 05 R115 | none -/
  closing : List Closing := []
  /-- crossing MT of the last shift whose means have closed | MT | 05 R115 | 0 -/
  closedMt : Nat := 0
  /-- batch state | 2 bits | 05 R127 | IDLE -/
  bst : BState := .idle
  /-- current batch step | 4 bits | 05 Table 5.8 | 0 -/
  step : Nat := 0
  /-- REPEAT counters | 16 × 8 bits | 05 R126 | 0 -/
  ctrs : List Nat := List.replicate 16 0
  /-- HOST condition | flag | 05 R125 | 0 -/
  hostC : Bool := false
  /-- MT at step entry | MT | 05 R125 | 0 -/
  entryMt : Nat := 0
  /-- P of the four wheels at step entry | 4 × 48 bits | 05 Table 5.4 | 0 -/
  entryP : List Nat := [0, 0, 0, 0]
  /-- batch record: a DOSE step has begun; a DISCHARGE step has begun | flags | 05 R123 | 0 -/
  dosed : Bool := false
  discharged : Bool := false
  /-- batch record: S when its last DOSE step ended | 64 bits | 05 R123 | 0 -/
  doseS : Nat := 0
  /-- batch record: MT at which it opened; the last 16 phases of its program, newest first, by the MT of their start and the
  flags of the step, 0 while none runs | MT, 8 bits | 05 R114, R123 | 0, none -/
  recMt : Nat := 0
  phases : List (Nat × Nat) := []
  /-- outputs that the program drives | 24 bits | 05 R125 | 0 -/
  doOut : Nat := 0
  deriving DecidableEq, Repr

/-- A sample record (06 R143, Table 6.3). -/
structure Sample where
  ch : Nat := 0
  code : SCode := .stale
  aborted : Bool := false
  empty : Bool := false
  tcomp : Bool := false
  avgShort : Bool := false
  marks : Nat := 0
  src : Nat := 0
  epoch : Nat := 0
  value : Option Int := none
  stamp : Nat := 0
  pass : Nat := 0
  deriving DecidableEq, Repr

/-- One probe channel PCn (06). -/
structure Chan where
  /-- last sample | 16 bytes | 06 Table 6.3 | STALE, no value (06 R160) -/
  last : Sample := {}
  /-- last OK value and its stamp | 32 bits, MT | 06 R142 | none -/
  okVal : Option (Int × Nat) := none
  /-- averaging block: conversions, OK ones, their sum, worst code is OVERRANGE | - | 06 R145 | 0 -/
  blkN : Nat := 0
  blkOk : Nat := 0
  blkSum : Int := 0
  blkOver : Bool := false
  /-- a conversion of the block was EMPTY | flag | 06 R141, R145 | 0 -/
  blkEmpty : Bool := false
  /-- channel is BROKEN | flag | 06 R152 | 0 -/
  broken : Bool := false
  /-- last raw code | 24 bits | 06 Table 6.13 | 0 -/
  raw : Nat := 0
  /-- overload, pre-check failed, post-check failed | 3 bits | 06 Table 6.13 | 0 -/
  ovl : Bool := false
  preF : Bool := false
  postF : Bool := false
  /-- apparent lead resistance, kΩ | 32 bits | 06 Table 6.13 | not measured -/
  leadR : Nat := 0xFFFFFFFF
  /-- resistance 0.01 Ω or capacitance 0.01 pF | 32 bits | 06 Table 6.13 | 0 -/
  q : Nat := 0
  /-- MOIST conductance | 16 bits | 06 Table 6.13 | 0 -/
  cond : Nat := 0
  /-- SUSPECT count, BROKEN count | 16 bits each | 06 Table 6.13 | 0 -/
  nSusp : Nat := 0
  nBrok : Nat := 0
  /-- MT of the last delivered sample or STALE deadline | MT | 06 R160 | 0 -/
  lastMt : Nat := 0
  deriving DecidableEq, Repr

/-- One probe group AGg with its sequencer (06). -/
structure Group where
  /-- phase of the running slot | - | 06 R139 | idle -/
  phase : GPhase := .idle
  /-- start of the running slot | MT | 06 R139 | DESIGN CHOICE 0 (log 3) -/
  slotMt : Nat := 0
  /-- list entry being converted | 5 bits | 06 R146 | 0 -/
  idx : Nat := 0
  /-- the slot's pre-check failed | flag | 06 R152 | 0 -/
  preFail : Bool := false
  /-- PASS | 16 bits | 06 R146 | 0 -/
  pass : Nat := 0
  /-- trigger source and marks of the pass | 3 and 5 bits | 06 Table 6.3 | 0 -/
  src : Nat := 0
  marks : Nat := 0
  /-- pended trigger: source and marks | - | 06 R147 | none -/
  pended : Option (Nat × Nat) := none
  /-- SQ_OVERRUN | 32 bits | 06 R147 | 0 -/
  overrun : Nat := 0
  /-- SQ_RESTART | 32 bits | 06 R148 | 0 -/
  restart : Nat := 0
  deriving DecidableEq, Repr

/-- A stream bound by STREAM_OPEN (06 R164). -/
structure Stream where
  xq : Nat
  group : Nat
  mask : Nat
  decim : Nat
  cnts : List Nat
  written : Nat
  deriving DecidableEq, Repr

/-- Stations 0x05 to 0x08, the probe groups (06). -/
structure ProbeSt where
  /-- PC0 to PC63 | - | 06 R136 | as Chan -/
  chans : List Chan := List.replicate 64 {}
  /-- AG0 to AG3 | - | 06 R136 | as Group -/
  groups : List Group := List.replicate 4 {}
  /-- bound sample streams | - | 06 R164 | none -/
  streams : List Stream := []
  deriving DecidableEq, Repr

/-- A Pica reading (07 R171, Table 7.3). -/
structure Reading where
  point : Nat := 0
  code : SCode := .stale
  rhP : Bool := false
  brown : Bool := false
  port : Nat := 0
  epoch : Nat := 0
  temp : Option Int := none
  rh : Option Nat := none
  stamp : Nat := 0
  scan : Nat := 0
  deriving DecidableEq, Repr

/-- An entry of a port's point table (07 R172). -/
structure Point where
  id : Nat := 0
  mapped : Bool := false
  found : Bool := false
  rh : Bool := false
  fw : Nat := 0
  /-- run of misses | 4 bits | 07 R170 | 0 -/
  misses : Nat := 0
  rd : Reading := {}
  /-- MT of the last delivery or STALE deadline | MT | 07 R175 | 0 -/
  lastMt : Nat := 0
  deriving DecidableEq, Repr

/-- One local Pica port CBp (07). -/
structure Port where
  /-- OPEN, SHORT, OVERPOP, enumerating, scanning | flags | 07 Table 7.10 | 0 -/
  opened : Bool := false
  short : Bool := false
  overpop : Bool := false
  enumg : Bool := false
  scanning : Bool := false
  /-- the CONVERT wait runs | flag | 07 R169 | 0 -/
  converting : Bool := false
  /-- index of the read slot | 6 bits | 07 R169 | 0 -/
  idx : Nat := 0
  /-- scan number | 16 bits | 07 Table 7.3 | 0 -/
  scan : Nat := 0
  /-- MT at which the scan started | MT | 07 R169 | 0 -/
  startMt : Nat := 0
  /-- MT of the next PC_PERIOD expiry | MT | 07 R169 | 0 -/
  nextMt : Nat := 0
  /-- pended scan; pended enumeration | flags | 07 Table 7.8 | 0 -/
  pendScan : Bool := false
  pendEnum : Bool := false
  /-- flight of a PICA_ENUM that waits for the enumeration's end | - | 07 R173 | none -/
  enumF : Option Nat := none
  /-- point table | 64 entries | 07 R172 | empty -/
  table : List Point := []
  /-- results of the last enumeration: found, missing, extra, duplicates | 8 bits each | 07 Table 7.10 | 0 -/
  nFound : Nat := 0
  nMissing : Nat := 0
  nExtra : Nat := 0
  nDup : Nat := 0
  /-- MT of the switch-off of a shorted port, and of its last slug | MT | 07 R174 | 0 -/
  offMt : Nat := 0
  slugMt : Option Nat := none
  /-- miss total | 16 bits | 07 Table 7.10 | 0 -/
  missTot : Nat := 0
  /-- the last frame that the port put on its bus, SYNC to CRC | bytes | 07 R167 | none -/
  sent : List Nat := []
  deriving DecidableEq, Repr

/-- The latest token of one zone source (07 R176). -/
structure SrcTok where
  code : SCode := .stale
  epoch : Nat := 0
  station : Nat := 0
  value : Option Int := none
  stamp : Nat := 0
  deriving DecidableEq, Repr

/-- A zone token (07 R178). -/
structure ZoneTok where
  zone : Nat
  st : ZState
  value : Option Int
  demand : Nat
  valid : Nat
  epoch : Nat
  mt : Nat
  deriving DecidableEq, Repr

/-- One zone Zz (07 Table 7.4). -/
structure Zone where
  /-- state | 3 bits | 07 Table 7.4 | OFF -/
  st : ZState := .off
  /-- value, none = 0x8000 | 16 bits | 07 R177 | none -/
  value : Option Int := none
  /-- demand | 16 bits | 07 R177 | 0 -/
  demand : Nat := 0
  /-- valid count | 6 bits | 07 R178 | 0 -/
  valid : Nat := 0
  /-- MT of the last evaluation | MT | 07 Table 7.10 | 0 -/
  evalMt : Nat := 0
  /-- a FAILED evaluation was the last non-INIT one | flag | 07 R177 | 0 -/
  failed : Bool := false
  /-- latest tokens of the sources, by position in ZN_SRC | up to 32 | 07 R176 | none -/
  srcs : Sparse SrcTok := []
  /-- MT of the station reset that began HOLD | MT | 07 R181 | 0 -/
  holdMt : Nat := 0
  /-- the last token emitted since the zone entered INIT, as fan groups hold it | - | 07 R178, 09 R220 | none -/
  tok : Option ZoneTok := none
  deriving DecidableEq, Repr

/-- Station 0x09, Pica and zones (07). -/
structure PicaSt where
  /-- CB0 to CB7 | - | 07 R165 | as Port -/
  ports : List Port := List.replicate 8 {}
  /-- Z0 to Z15 | - | 07 R176 | as Zone -/
  zones : List Zone := List.replicate 16 {}
  /-- node points, by 64 × port slot + point | - | 07 R171, R175 | none -/
  nodePts : Sparse Point := []
  /-- MT of the last 100 ms boundary served | MT | 07 R177 | 0 -/
  ageMt : Nat := 0
  deriving DecidableEq, Repr

/-- A value token on its way to a consumer: kind 0 probe channel, 1 Pica point (index 64 × port + point),
2 zone; consumer 0 zone, 1 ledger column, 2 loop Y, 3 loop F (01 R18, R20). With consumer 4 it is a trigger of a
loop, in its place among the values: `role` is 0 slot, 1 timer, 2 Y token, `stamp` the trigger MT and `value` the MT
of arrival (08 R191, R193). -/
structure VTok where
  kind : Nat
  index : Nat
  station : Nat
  epoch : Nat
  code : SCode
  value : Option Int
  stamp : Nat
  cons : Nat
  obj : Nat
  /-- position: the source's place in ZN_SRC, or the ledger role 0 M_IN, 1 T_IN, 2 M_OUT, 3 plenum; of a trigger, 0 slot,
  1 timer, 2 Y token -/
  role : Nat
  /-- the running count: EXP_CNT of a timer's token (04 R100), SEQ of a ledger's (05 R120) -/
  n : Nat := 0
  deriving DecidableEq, Repr

/-- A loop's input as the CLE last had it (08 R199). -/
structure LIn where
  value : Option Int := none
  code : SCode := .stale
  epoch : Nat := 0
  station : Nat := 0
  stamp : Nat := 0
  /-- the token's state is usable (zone OK or HOLD, wheel valid, host) | flag | 08 R199 | 0 -/
  usable : Bool := false
  deriving DecidableEq, Repr

/-- A snapshot taken at the acceptance of a trigger (08 R190). -/
structure Snap where
  trigMt : Nat
  inMt : Nat
  y : Int
  yOk : Bool
  yStamp : Nat
  f : Int
  fOk : Bool
  fStamp : Nat
  sp : Int
  kp : Int
  ki : Int
  kd : Int
  kff : Int
  shift : Nat
  umin : Int
  umax : Int
  held : Bool
  holdVal : Option Int
  bump : Bool
  acc : Acc
  accN : Nat
  /-- deadline in DEADLINE mode; place in the acceptance order of the engine -/
  dl : Option Nat
  n : Nat
  deriving DecidableEq, Repr

/-- One loop Ll (08 Tables 8.5, 8.7). -/
structure Loop where
  /-- L_KP, L_KI, L_KD, L_KFF | signed 32 bits | 08 Table 8.7 | 0 -/
  kp : Int := 0
  ki : Int := 0
  kd : Int := 0
  kff : Int := 0
  /-- L_SHIFT | 20 bits | 08 Table 8.7 | 0 -/
  shift : Nat := 0
  /-- L_SP, L_UMIN, L_UMAX | signed 32 bits | 08 Table 8.7 | 0 -/
  sp : Int := 0
  umin : Int := 0
  umax : Int := 0
  /-- L_OUT, U_LAST | signed 32 bits | 08 Table 8.7 | 0 -/
  out : Int := 0
  /-- SAT, IN_BAD, FF_BAD, DL_MISS, OVERRUN | flags | 08 Table 8.7 | 0 -/
  sat : Bool := false
  inBad : Bool := false
  ffBad : Bool := false
  dlMiss : Bool := false
  overrun : Bool := false
  /-- I_ACC | signed 64 bits | 08 R187 | 0 -/
  iacc : Int := 0
  /-- Y_PREV | signed 32 bits | 08 R187 | 0 -/
  yprev : Int := 0
  /-- SHI_LAST | 5 bits | 08 R187 | 0 -/
  shiLast : Nat := 0
  /-- the next evaluation is a first evaluation | flag | 08 R189 | DESIGN CHOICE true (log 3) -/
  first : Bool := true
  /-- LOOP_HOLD in force; its hold value, not yet handed over; BUMPLESS pending | - | 08 R210 | none -/
  hold : Bool := false
  holdVal : Option Int := none
  bump : Bool := false
  /-- inputs Y and F as applied at the CLE | - | 08 R191 | none -/
  y : LIn := {}
  f : LIn := {}
  /-- the inputs before those, for the binding by stamps in REPRINT | - | 16 R416 | none -/
  yOld : LIn := {}
  fOld : LIn := {}
  /-- queued evaluation, pended trigger, computation in progress | - | 08 R194 | none -/
  queued : Option Snap := none
  pend : Option Snap := none
  busy : Option Snap := none
  /-- outputs that wait for their deadline: its MT and U | - | 08 R197 | none -/
  outs : List (Nat × Int) := []
  /-- evaluated since the entry to RUN | flag | 08 Table 8.7 | 0 -/
  active : Bool := false
  /-- L_EVAL_CNT, L_DLMISS_CNT, L_OVERRUN_CNT, L_HELD_CNT | 32 bits | 08 Table 8.5 | 0 -/
  nEval : Nat := 0
  nMiss : Nat := 0
  nOver : Nat := 0
  nHeld : Nat := 0
  /-- acceptance count | 32 bits | 08 R209 | 0 -/
  accN : Nat := 0
  /-- last evaluation missed its deadline | flag | 08 R198 | 0 -/
  missed : Bool := false
  /-- outputs that wait for the supervisor's setpoint copy, with their MT | - | 08 R185 | none -/
  copyU : List (Int × Nat) := []
  deriving DecidableEq, Repr

/-- A galley entry (08 Table 8.3). -/
structure GalEntry where
  stamp : Nat
  loop : Nat
  code : Nat
  v1 : Int
  v2 : Int
  deriving DecidableEq, Repr

/-- One galley Gg (08 Table 8.8). -/
structure Galley where
  /-- LOOP, START, STOP, TRIP | 6, 3, 3, 4 bits | 08 Table 8.8 | 0 -/
  loop : Nat := 0
  start : Nat := 0
  stop : Nat := 0
  trip : Nat := 0
  /-- GAL_NODES | 16 bits | 08 Table 8.8 | 0 -/
  nodes : Nat := 0
  /-- GAL_POST | 12 bits | 08 Table 8.8 | 0 -/
  post : Nat := 0
  /-- STATE | 3 bits | 08 R205 | IDLE -/
  st : GalState := .idle
  /-- BY_TRIP | flag | 08 Table 8.8 | 0 -/
  byTrip : Bool := false
  /-- GAL_MARK | 12 bits | 08 Table 8.8 | 0 -/
  mark : Nat := 0
  /-- entries written since the galley was armed, newest first, at most 4,096 kept | 16 bytes each | 08 R204 | empty -/
  entries : List GalEntry := []
  /-- entries written in all; since START; left to write in POST | 32 bits | 08 R205 | 0 -/
  total : Nat := 0
  sinceStart : Nat := 0
  postLeft : Nat := 0
  /-- frozen by a trip and not yet copied to a folio | flag | 08 R206 | 0 -/
  copying : Bool := false
  deriving DecidableEq, Repr

/-- Station 0x0A, the control engine (08). -/
structure CleSt where
  /-- L0 to L47 | - | 08 R184 | as Loop -/
  loops : List Loop := List.replicate 48 {}
  /-- evaluations accepted in all: the acceptance order of the engine | - | 08 R195 | 0 -/
  accepted : Nat := 0
  /-- MT at which the engine last started an evaluation | MT | 08 R195 | 0 -/
  busyMt : Nat := 0
  /-- destinations last seen BLOCKED, as L_DST codes | - | 08 R203, 16 Table 16.6 STATUS | none -/
  blocked : List Nat := []
  /-- CLE_LAT_MAX, ticks | 32 bits | 08 R196 | 0 -/
  latMax : Nat := 0
  /-- G0 to G7 | - | 08 R204 | as Galley -/
  galleys : List Galley := List.replicate 8 {}
  deriving DecidableEq, Repr

/-- One fan drive FDn (09 Table 20.6). -/
structure Drive where
  /-- state | 4 bits | 09 Table 9.11 | OFF -/
  st : DState := .off
  /-- FD_TRIP LATCHED, ACTIVE | 6 bits each | 20 Table 20.6 | 0 -/
  trip : Nat := 0
  active : Nat := 0
  /-- latched bits that a local source has set | 6 bits | 17 R436 | 0 -/
  tripLoc : Nat := 0
  /-- REF, TARGET, 0.01 % | 16 bits each | 20 Table 20.6 | 0 -/
  ref : Nat := 0
  target : Nat := 0
  /-- fraction of REF not yet applied by the ramp, 1/1,000 of 0.01 % | 10 bits | 09 R222 | 0 -/
  frac : Nat := 0
  /-- PCT, RPM | 16 bits each | 20 Table 20.6 | 0 -/
  pct : Nat := 0
  rpm : Nat := 0
  /-- FD_IRMS, FD_PWR, FD_VBUS | 32, 16, 16 bits | 20 Table 20.6 | 0 -/
  irms : Nat := 0
  pwr : Nat := 0
  vbus : Nat := 0
  /-- heatsink, 0.01 °C | signed | 09 R230 | DESIGN CHOICE 0 (log 3) -/
  heat : Int := 0
  /-- overload budget, 10^-11 A²s | 48 bits | 09 R218 | 2.8 × 10^14 = 28,000 in 0.1 A²s (20 Table 20.6) -/
  budget : Nat := 280000000000000
  /-- ATTEMPTS | 8 bits | 20 Table 20.6 | 0 -/
  attempts : Nat := 0
  /-- a retry wait runs; LOCKOUT is held | flags | 09 R228, R229 | 0 -/
  waiting : Bool := false
  lockout : Bool := false
  /-- MT of the next attempt, none while it is deferred | MT | 09 R228 | none (0xFFFF) -/
  nextMt : Option Nat := none
  /-- KICKS, STALLS | 16 bits each | 20 Table 20.6 | 0 -/
  kicks : Nat := 0
  stalls : Nat := 0
  /-- FD_EVT | 8 bits, W1C | 20 Table 20.6 | 0 -/
  evt : Word := 0
  /-- SKIP, PWR_LIM, I2T_LIM, RECOVERING | flags | 09 Table 9.11 | 0 -/
  skip : Bool := false
  pwrLim : Bool := false
  i2tLim : Bool := false
  recov : Bool := false
  /-- kick phase is DRIVE; MT of the phase; the kick is a retry attempt | - | 09 R224 | 0 -/
  kickDrive : Bool := false
  kickMt : Nat := 0
  retry : Bool := false
  /-- pulses counted in the kick | 8 bits | 09 R224 | 0 -/
  pulses : Nat := 0
  /-- MT since which the speed has been below FD_STALL_PCT of the reference | MT | 09 R225 | none -/
  slowMt : Option Nat := none
  /-- MT since which the drive has been in RUN | MT | 09 R228 | none -/
  runMt : Option Nat := none
  /-- DRIVE_OFF in force | flag | 09 Table 9.12 | 0 -/
  cmdOff : Bool := false
  /-- it stands in OFF since a station reset or an undervoltage, whatever is kept | flag | 09 R240, R242 | 0 -/
  parked : Bool := false
  /-- Hall edges, and not the observer, supply the rotor angle | flag | 09 R217 | 0 -/
  hallAngle : Bool := false
  /-- gates on | flag | 09 R230 | 0 -/
  gates : Bool := false
  deriving DecidableEq, Repr

/-- One fan group FGg (09 R220, Table 20.7). -/
structure FanGroup where
  /-- T, D | 16 bits each | 09 R220, R221 | 0 -/
  t : Nat := 0
  d : Nat := 0
  /-- stopped by FG_STOP | flag | 09 R221, 20 Table 20.7 | 0 -/
  stopped : Bool := false
  /-- SOURCE | 3 bits | 20 Table 20.7 | 0 -/
  src : Nat := 0
  /-- BOOST | flag | 20 Table 20.7 | 0 -/
  boost : Bool := false
  /-- host demand and its session | 16 bits | 09 R220 | none -/
  host : Option (Nat × Nat) := none
  /-- FORCE value and its session | 16 bits | 09 R220 | none -/
  force : Option (Nat × Nat) := none
  /-- target kept at the start of UPDATE | 16 bits | 09 R236 | 0 -/
  auton : Nat := 0
  /-- MT of the last boost token sent, and what it said | MT | 17 R445 | 0 -/
  sentMt : Nat := 0
  sentB : Bool := false
  deriving DecidableEq, Repr

/-- Stations 0x0B to 0x10 and the fan block (09). -/
structure FanSt where
  /-- FD0 to FD5 | - | 09 R216 | as Drive -/
  drives : List Drive := List.replicate 6 {}
  /-- FG0 to FG3 | - | 09 R220 | as FanGroup -/
  groups : List FanGroup := List.replicate 4 {}
  /-- FD_PTOT P, PL | 16 bits each | 20 Table 20.7 | 0 -/
  ptot : Nat := 0
  pl : Nat := 0
  /-- MT since which P > 1.05 PL, or of the last reduction | MT | 09 R233 | none -/
  overMt : Option Nat := none
  /-- current limit left by the reduction, 0.01 % of the limit | 14 bits | 09 R233 | 10,000 (no reduction) -/
  redu : Nat := 10000
  /-- MT of the last 5 % step of the withdrawal | MT | 09 R233 | 0 -/
  wdMt : Nat := 0
  /-- FTRIP0, FTRIP1 input open | 2 bits | 20 Table 20.7 | 0 -/
  ftrip : List Bool := [false, false]
  /-- FD_COOL: running, failed masks, boosting, speed % | 3, 3, 1, 8 bits | 20 Table 20.7 | 0 -/
  coolRun : Nat := 0
  coolFail : Nat := 0
  coolBoost : Bool := false
  coolSpd : Nat := 0
  /-- end of FD_AUTONOMY_T has passed in this UPDATE | flag | 09 R236 | 0 -/
  autonEnd : Bool := false
  /-- last millisecond boundary at which the references moved | ms of MT | 09 R222 | 0 -/
  tickMs : Nat := 0
  deriving DecidableEq, Repr

/-- One valve channel SVn (10, 20 Table 20.8). -/
structure Valve where
  /-- state | 4 bits | 10 Table 10.8 | OFF -/
  st : VState := .off
  /-- REF, CMD, 0.1 mA | 16 bits each | 20 Table 20.8 | 0 -/
  ref : Nat := 0
  cmd : Nat := 0
  /-- SV_IMEAS | 16 bits | 20 Table 20.8 | 0 -/
  imeas : Nat := 0
  /-- learned L, 0.1 mH | 16 bits, NV | 10 R254 | none: DESIGN CHOICE (log 2) -/
  learned : Option Nat := none
  /-- SV_TRIP LATCHED, ACTIVE | 4 bits each | 20 Table 20.8 | 0 -/
  trip : Nat := 0
  active : Nat := 0
  /-- SV_EVT | 7 bits, W1C | 20 Table 20.8 | 0 -/
  evt : Word := 0
  /-- GOV_CAP, CLASS_CAP, OPEN, PERMIT_OFF, DITH_FREE, LEARN_REQ | flags | 10 Table 10.8 | 0 -/
  govCap : Bool := false
  classCap : Bool := false
  opened : Bool := false
  permitOff : Bool := false
  dithFree : Bool := false
  learnReq : Bool := false
  /-- host command and its session; FORCE value and its session | - | 10 R245 | none -/
  host : Option (Nat × Nat) := none
  force : Option (Nat × Nat) := none
  /-- source of the command | 3 bits | 10 Table 10.9 | 0 (safe) -/
  src : Nat := 0
  /-- current of the present PH phase, 0.1 mA, and SV_PEAK_T of the pull-in, ms | 16 bits each | 10 R260 | 0 -/
  phI : Nat := 0
  phT : Nat := 0
  /-- dither accumulator | 32 bits | 10 R247 | DESIGN CHOICE 0 (log 3) -/
  dacc : Nat := 0
  /-- MT of the pull-in request; of its admission | MT | 10 R248, R252 | none -/
  reqMt : Option Nat := none
  admMt : Option Nat := none
  /-- rise cap and class cap | 16 bits each | 20 Table 20.8 | 0xFFFF (no cap) -/
  capGov : Nat := 0xFFFF
  capCls : Nat := 0xFFFF
  /-- E_i, µJ | 32 bits | 20 Table 20.8 | 0 -/
  e : Nat := 0
  /-- MT of the last change of E_i | MT | 10 R252 | 0 -/
  eMt : Nat := 0
  /-- MT since which the current has been below 25 % of the reference | MT | 10 R256 | none -/
  lowMt : Option Nat := none
  /-- the channel's current returns through the fast path | flag | 10 R249, 18 Table 18.3 | 0 -/
  fast : Bool := false
  /-- the current of a mode left behind still returns | flag | 10 R260 | 0 -/
  leaving : Bool := false
  /-- the step test of VALVE_LEARN_L has made its step to I2 | flag | 10 R254 | 0 -/
  stepped : Bool := false
  /-- the loop output held carries the epoch before the station's last reset | flag | 10 R265 | 0 -/
  oldU : Bool := false
  deriving DecidableEq, Repr

/-- Station 0x11, the valve block and the boost rail (10, 20 Table 20.9). -/
structure ValveSt where
  /-- SV0 to SV7 | - | 10 R244 | as Valve -/
  svs : List Valve := List.replicate 8 {}
  /-- VBST, 0.1 V | 16 bits | 20 Table 20.9 | 0 -/
  vb : Nat := 0
  /-- VB_TGT, 0.1 V | 16 bits | 20 Table 20.9 | 0 -/
  tgt : Nat := 0
  /-- GOV_CLAMP, VB_FAULT, CHARGE, RETURN | flags | 20 Table 20.9 | 0 -/
  govClamp : Bool := false
  vbFault : Bool := false
  charge : Bool := false
  ret : Bool := false
  /-- VB_CLAMP_CNT, VB_CLAMP_J | 32 bits each | 20 Table 20.9 | 0 -/
  clampCnt : Nat := 0
  clampJ : Nat := 0
  /-- MT of the last clamp event | MT | 20 R491 | 0 -/
  clampMt : Nat := 0
  /-- C, 0.1 µF | 16 bits | 20 Table 20.9 | proof: DESIGN CHOICE 0 until proof (log 2) -/
  c : Nat := 0
  /-- MT since which VBST has been below 80.0 V | MT | 10 R264 | none -/
  lowMt : Option Nat := none
  deriving DecidableEq, Repr

/-- One isolated input DIn (11). -/
structure Din where
  /-- filtered state | 1 bit | 11 Table 11.7 | 0 -/
  st : Bool := false
  /-- last raw sample | 1 bit | 11 Table 11.7 | 0 -/
  raw : Bool := false
  /-- filter counter c | 8 bits | 11 R269 | 0 -/
  c : Nat := 0
  /-- DI_CNT, rising transitions | 16 bits | 11 Table 11.7 | 0 -/
  cnt : Nat := 0
  /-- the next step presets the filter | flag | 11 R270 | set -/
  preset : Bool := true
  /-- MT of the last step | MT | 11 R269 | DESIGN CHOICE 0 (log 3) -/
  stepMt : Nat := 0
  /-- the state that the last token delivered to the consumers had | 1 bit | 11 R271, R292 | 0 -/
  tok : Bool := false
  deriving DecidableEq, Repr

/-- One isolated output DOn (11). -/
structure Dout where
  /-- state as sent in frames | 1 bit | 11 Table 11.7 | 0 -/
  out : Bool := false
  /-- state of function SLOT | 1 bit | 11 R272 | 0 -/
  slot : Bool := false
  /-- MT of the scheduled switch-off of a pulse | MT | 11 R273 | none -/
  pulse : Option Nat := none
  /-- field side: expired | flag | 11 R280 | 0 -/
  expired : Bool := false
  /-- field side: MT of the last FEED frame | MT | 11 R279 | 0 -/
  fed : Nat := 0
  /-- field side: a frame has arrived since power-on; the state that the last one carried | flags | 11 R280 | 0 -/
  framed : Bool := false
  del : Bool := false
  /-- field side: state kept as safe value | 1 bit | 11 R280 | 0 -/
  safeSt : Bool := false
  /-- TPROP: on, on-time of the period in ms, MT of the period's start | - | 11 R274 | 0 -/
  tpOn : Bool := false
  tpMs : Nat := 0
  tpMt : Nat := 0
  /-- FREQ: frequency in force, high half, MT of the period's start | 0.1 Hz | 11 R275 | 0 -/
  freq : Nat := 0
  fHigh : Bool := false
  fMt : Nat := 0
  /-- field faults OVL, THERM, OPEN | flags | 11 R282 | 0 -/
  ovl : Bool := false
  therm : Bool := false
  opn : Bool := false
  /-- MT of the next OVL retry; a retry has switched the channel on | MT, flag | 11 Table 11.4 | 0 -/
  retryMt : Nat := 0
  trying : Bool := false
  /-- DO_FQ | 3 bits | 11 R283 | 4 (11 Table 11.7) -/
  fq : Nat := 4
  /-- coupler fault | flag | 11 R286 | 0 -/
  cpl : Bool := false
  /-- the output takes its safe value; the state kept at entry to it | flags | 11 R289 | 0 -/
  inSafe : Bool := false
  kept : Bool := false
  deriving DecidableEq, Repr

/-- A fault scan: masks found, and where it stands; `endMt` is the MT of its last step, or of its end (11 R285). -/
structure Scan where
  /-- sampled steps done, 0 to 73 -/
  step : Nat := 0
  /-- flight of the DIO_FAULT_SCAN that runs it -/
  flight : Option Nat := none
  before : Bool := false
  supply : Bool := false
  ovl : Nat := 0
  therm : Nat := 0
  opn : Nat := 0
  auto : Bool := false
  after : Bool := false
  endMt : Nat := 0
  deriving DecidableEq, Repr

/-- Station 0x12, the field inputs and outputs (11 Table 11.7). -/
structure DioSt where
  /-- DI0 to DI31 | - | 11 R267 | as Din -/
  ins : List Din := List.replicate 32 {}
  /-- DO0 to DO23 | - | 11 R267 | as Dout -/
  outs : List Dout := List.replicate 24 {}
  /-- DI_EVT | 32 bits, W1C | 11 Table 11.7 | 0 -/
  diEvt : Word := 0
  /-- DO_HOST, DO_FORCE_EN, DO_FORCE_VAL | 24 bits each | 11 Table 11.7 | 0 -/
  doHost : Word := 0
  forceEn : Word := 0
  forceVal : Word := 0
  /-- DO_WDEXP | 24 bits, W1C | 11 Table 11.7 | 0 -/
  wdExp : Word := 0
  /-- FIO_FAULT, FIO_SEEN | flags | 11 Table 11.7 | 0 -/
  fio : Bool := false
  fioSeen : Bool := false
  /-- SUPPLY fault of L+ | flag | 11 Table 11.4 | 0 -/
  supply : Bool := false
  /-- SUP_MASK | flag | 11 Table 11.7 | 0 -/
  supMask : Bool := false
  /-- DI_CPL coupler faults | 32 bits | 11 Table 11.7 | 0 -/
  diCpl : Word := 0
  /-- the next frame carries RELEASE | flag | 11 R281 | 0 -/
  release : Bool := false
  /-- a run of watchdog expiries is under way | flag | 11 R280 | 0 -/
  expRun : Bool := false
  /-- running scan; last result | - | 11 R285 | none; zero -/
  scan : Option Scan := none
  last : Scan := {}
  /-- a scan has run since FIO_FAULT rose; MT of the end of the last one since then, also of an aborted one | flag, MT |
  11 R284 | 0; none -/
  scanned : Bool := false
  scanEnd : Option Nat := none
  deriving DecidableEq, Repr

/-- One high-limit channel HLh (12 R295, R301). -/
structure HlCh where
  overT : Bool := false
  opn : Bool := false
  short : Bool := false
  resetOk : Bool := false
  /-- MT since which the channel has been over-threshold; before a unit-level reset it is negative | MT | 12 R295 | none -/
  since : Option Int := none
  deriving DecidableEq, Repr

/-- What the TRIP slug of a setting of the latch carries (12 R304). -/
structure HlSlug where
  cause : Nat
  first : Nat
  chBits : Nat
  t0 : Int
  t1 : Int
  tmt : Nat
  deriving DecidableEq, Repr

/-- Station 0x13, the high limit (12 Table 12.6). -/
structure HlSt where
  /-- LATCH | flag, NV | 12 R297 | DESIGN CHOICE clear (log 2) -/
  latch : Bool := false
  /-- CAUSE HL0, HL1, PROOF, WELD | 4 bits, NV | 12 R297 | DESIGN CHOICE 0 (log 2) -/
  cause : Nat := 0
  /-- FIRST | 2 bits, NV | 12 R297 | DESIGN CHOICE 0 (log 2) -/
  first : Nat := 0
  /-- HL0, HL1 | 4 bits each | 12 Table 12.6 | proof: DESIGN CHOICE 0 until proof (log 2) -/
  chs : List HlCh := [{}, {}]
  /-- HL_TEMP0, HL_TEMP1, none = 0x8000 | 16 bits each | 12 R305 | 0x8000 -/
  temps : List (Option Int) := [none, none]
  /-- readbacks: contact A, B closed | flags | 12 Table 12.6 | 0 -/
  rb : List Bool := [false, false]
  /-- MT at which the relays were last de-energised | MT | 12 R300 | 0 -/
  deMt : Nat := 0
  /-- FWP | flag | 12 R299 | 0 -/
  fwp : Bool := false
  /-- the relays are released by the loss of VIN | flag | 12 R311 | 0 -/
  vinLost : Bool := false
  /-- PERMIT, filtered | flag | 12 R306 | 0 -/
  permit : Bool := false
  /-- a press of LIMIT RESET has acted, and whether the key is still down nothing reports; KEY_STUCK, PCHAIN | flags
  | 12 Table 12.6 | 0 -/
  key : Bool := false
  keyStuck : Bool := false
  pchain : Bool := false
  /-- MT at which the last press that acted began | MT | 12 R302 | none -/
  keyMt : Option Int := none
  /-- MT since which the permit has met an open readback | MT | 12 R307 | none -/
  pchainMt : Option Nat := none
  /-- HL_TMT | 48 bits, NV | 12 R304 | DESIGN CHOICE 0 (log 2) -/
  tmt : Nat := 0
  /-- TRIPS, REFUSED | 16, 8 bits | 12 Table 12.6 | 0 -/
  trips : Nat := 0
  refused : Nat := 0
  /-- TRIP slugs that wait for the supervisor's return, oldest first | - | 12 R304 | none -/
  slugs : List HlSlug := []
  deriving DecidableEq, Repr

/-- A proof stage's result (13 Table 13.13). -/
structure ProofRes where
  result : Nat := 2
  item : Nat := 0xFF
  time : Nat := 0
  deriving DecidableEq, Repr

/-- Supply, proof and power states (13 Table 13.13). -/
structure PowerSt where
  /-- the logic is powered | flag | 13 Table 13.4 | set (right after a reset) -/
  on : Bool := true
  /-- committed to power-down | flag | 13 R321 | 0 -/
  committed : Bool := false
  /-- CUR, CHOSEN | 2 bits each | 13 Table 13.13 | 0 -/
  cur : Nat := 0
  chosen : Nat := 0
  /-- REASON, DETAIL | 4, 8 bits | 13 Table 13.13 | 4, 0 -/
  reason : Nat := 4
  detail : Nat := 0
  /-- PFAIL and RIDE, MT of their setting | flags, MT | 13 R318 | 0 -/
  pfail : Bool := false
  ride : Bool := false
  pfailMt : Nat := 0
  /-- VIN at PFAIL, 0.01 V | 16 bits | 16 Table 16.5 | 0 -/
  pfailVin : Nat := 0
  /-- VIN_UV, VIN_LOW, VIN_HIGH, HOT, OVERTEMP, HOLDUP_OK | flags | 13 Table 13.13 | 0 -/
  vinUv : Bool := false
  vinLow : Bool := false
  vinHigh : Bool := false
  hot : Bool := false
  overtemp : Bool := false
  holdupOk : Bool := false
  /-- VIN, L+, 0.01 V | 16 bits each | 13 Table 13.13 | 0 -/
  vin : Nat := 0
  lp : Nat := 0
  /-- the drives and valves are held in UV | flag | 09 R240 | 0 -/
  uv : Bool := false
  /-- T_INT, 0.01 °C; hold-up voltage, 0.01 V | 16 bits each | 13 Table 13.13 | 0 -/
  tInt : Int := 0
  holdupV : Nat := 0
  /-- MT since which T_INT has been at or above the OVERTEMP threshold | MT | 13 R333 | none -/
  hotMt : Option Nat := none
  /-- RESET_CAUSE KIND, COUNT | 2, 8 bits | 13 Table 13.13 | 0; NV: DESIGN CHOICE 0 (log 2) -/
  kind : Nat := 0
  resets : Nat := 0
  /-- boot number | 16 bits, NV | 16 R401 | DESIGN CHOICE 0 (log 2) -/
  boot : Nat := 0
  /-- PROOF_STAT STAGE, PASS, FAIL, WAIT_VIN, RECOVERY, FAILED | 4, 4 × 1, 9 bits | 13 Table 13.13 | 0 -/
  stage : Nat := 0
  pass : Bool := false
  fail : Bool := false
  waitVin : Bool := false
  recovery : Bool := false
  failed : Nat := 0
  /-- PROOF_TIME, ms | 16 bits | 13 Table 13.13 | 0 -/
  proofMs : Nat := 0
  /-- PROOF_RES0 to PROOF_RES8 | 32 bits each | 13 Table 13.13 | NOT_RUN, 0xFF, 0 -/
  res : List ProofRes := List.replicate 9 {}
  /-- MT since which stage 4 has waited for VIN | MT | 13 R328 | 0 -/
  waitMt : Nat := 0
  /-- stage 0 failed: the unit is dark | flag | 13 R327 | 0 -/
  dark : Bool := false
  /-- PWR_CNT, PWR_TIME, in entries and ticks | 4 × 32 bits each | 13 Table 13.13 | 0 -/
  cnt : List Nat := [0, 0, 0, 0]
  time : List Nat := [0, 0, 0, 0]
  /-- MT of the supervisor's last heartbeat | MT | 11 R279 | 0 -/
  beat : Nat := 0
  /-- MT at the entry to P2 or P3, and the ticks of 10 ns since | MT, ticks | 13 R335 | 0 -/
  lfBase : Nat := 0
  lfReal : Nat := 0
  /-- MT from which the supervisor watchdog counts after a debug halt | MT | 04 R107 | 0 -/
  wdMt : Nat := 0
  /-- MT at which the current UPDATE began | MT | 13 R323 | 0 -/
  updMt : Nat := 0
  /-- supervisor debug halt | flag | 04 R107 | 0 -/
  debug : Bool := false
  /-- last millisecond boundary served by the heat integral | ms of MT | 05 R116 | 0 -/
  heatMs : Nat := 0
  /-- MT of the last batch condition tick served, in ms | ms of MT | 05 R125 | 0 -/
  batchMs : Nat := 0
  deriving DecidableEq, Repr

/-- The unit state block (20 Table 20.2). -/
structure UnitSt where
  /-- STATE, PREV | 3 bits each | 20 Table 20.2 | PROOF (0) -/
  st : UState := .proof
  prev : UState := .proof
  /-- STATE_MT | 48 bits | 20 Table 20.2 | 0 -/
  stMt : Nat := 0
  /-- RUN_REQUEST | 1 bit | 15 Table 15.5 | 0 -/
  runReq : Bool := false
  /-- UPDATE was entered from PROOF_HOLD | flag | 13 Table 13.6 | 0 -/
  updHold : Bool := false
  /-- serial number | 64 bits, NV | 20 Table 20.2 | DESIGN CHOICE 0 (log 2) -/
  serial : Nat := 0
  /-- order code VX-960-Z | flag | 20 Table 20.2 | DESIGN CHOICE 0 (log 2) -/
  zType : Bool := false
  /-- running firmware major, minor, patch as 65,536 a + 256 b + c | 24 bits | 00 R1 | 4.2; patch DESIGN CHOICE 0 (log 2) -/
  fw : Nat := 0x040200
  /-- CONTROL_REV | 16 bits | 16 R415 | proof: DESIGN CHOICE 0 (log 2) -/
  controlRev : Nat := 0
  /-- rollback counter | 16 bits, NV | 20 Table 20.2 | DESIGN CHOICE 0 (log 2) -/
  rollback : Nat := 0
  /-- station epochs 0x00 to 0x15 | 22 × 8 bits | 13 Table 13.3 | 0 -/
  epochs : List Nat := List.replicate 22 0
  /-- straps read at power-on | 16 bits | 12 Table 12.6 | strap: DESIGN CHOICE empty header (log 2) -/
  straps : Straps := {}
  /-- STRAPS CHANGED | flag | 18 R455 | 0 -/
  changed : Bool := false
  deriving DecidableEq, Repr

/-- A completion entry (14 R362, Table 14.5); `result` holds bytes 0 to 19. -/
structure Completion where
  tag : Nat
  status : Nat
  epoch : Nat
  sq : Nat
  result : List Nat
  mt : Nat
  deriving DecidableEq, Repr

/-- A slug (16 R403) with its body as R405 lays it out for station slugs; `bytes` holds other bodies. -/
structure Slug where
  seq : Nat
  cls : SlugClass
  audit : Bool
  reprint : Bool
  replay : Bool
  source : Nat
  kind : Nat
  mt : Nat
  epoch : Nat
  obj : Nat
  after : Nat
  before : Nat
  v1 : Int
  v2 : Int
  rel : Nat
  bytes : List Nat
  deriving DecidableEq, Repr

/-- A stream entry (14 R363, Table 14.6). -/
structure StreamEntry where
  record : List Nat
  source : Nat
  kind : Nat
  gap : Bool
  epochGap : Bool
  sseq : Nat
  lost : Nat
  deriving DecidableEq, Repr

/-- What a ring holds (14 Table 14.3). -/
inductive QEntry where
  | cmd (e : CmdEntry)
  | comp (c : Completion) (notify : Bool)
  | slug (s : Slug)
  | stream (e : StreamEntry)
  deriving DecidableEq, Repr

/-- One hardware queue (14 R358, Table 14.10). -/
structure Queue where
  num : Nat
  depth : Nat
  owner : Nat
  cq : Nat := 0
  coalN : Nat := 1
  cls : Nat := 0
  coalT : Nat := 0
  /-- head, tail and write index of the ring | 12 bits each | 14 R364, R365 | 0 -/
  head : Nat := 0
  tail : Nat := 0
  w : Nat := 0
  /-- passes of the write index over the ring | - | 14 R366 | 0 (phase 1) -/
  passes : Nat := 0
  /-- entries from the head on; those of an SQ up to the write index | - | 14 R358 | empty -/
  ring : List QEntry := []
  /-- entries from the head on that DELIVER frames have carried | 12 bits | 14 R364 | 0 -/
  sent : Nat := 0
  /-- MT since which an undelivered entry waits | MT | 14 R366 | none -/
  waitMt : Option Nat := none
  orphan : Bool := false
  /-- fetch paused by pool or credit | flag | 14 R367 | 0 -/
  paused : Bool := false
  /-- Q_OVF, Q_DISCARD | 32 bits each | 14 Table 14.10 | 0 -/
  ovf : Nat := 0
  discard : Nat := 0
  /-- XQ: bound to a source; SSEQ; entries lost; epoch of the last entry by source | - | 14 R363 | none -/
  bound : Bool := false
  sseq : Nat := 0
  lost : Nat := 0
  lastEp : Sparse Nat := []
  deriving DecidableEq, Repr

/-- A command fetched and not yet completed (14 R367 to R371). -/
structure Flight where
  f : Nat
  sq : Nat
  order : Nat
  sid : Nat
  role : Nat
  fp : Nat
  e : CmdEntry
  fetchMt : Nat
  /-- HL_CMD_TMO of its session, ms -/
  tmo : Nat
  /-- started at its station -/
  started : Bool := false
  /-- its body has run and a later event completes it -/
  deferred : Bool := false
  /-- MT of the reset it waits for -/
  resetMt : Option Nat := none
  deriving DecidableEq, Repr

/-- Frames of the host that a session may hold ahead of a gap (14 R356). -/
inductive HostFrame where
  | sessionClose (reason len : Nat)
  | keepalive (len : Nat)
  | regRead (addr count len : Nat)
  | regWrite (addr count rsv : Nat) (vals : List Nat) (len : Nat)
  | qCreate (q depth cq coalN cls coalT len : Nat)
  | qDelete (q len : Nat)
  | submit (sq first rsv tail : Nat) (entries : List CmdEntry) (len : Nat)
  | bad
  deriving DecidableEq, Repr

/-- Frames of the unit (14 Table 14.2). -/
inductive UnitFrame where
  | sessionAccept (status role sid epoch state reclaimed : Nat)
  | sessionClose (reason : Nat)
  | keepalive
  | regData (addr count status : Nat) (vals : List Nat)
  | regAck (addr written status : Nat)
  | qAck (q status free : Nat)
  | submitAck (sq status w head : Nat)
  | deliver (q first count phase : Nat) (entries : List QEntry)
  deriving DecidableEq, Repr

/-- A frame sent and not yet acknowledged (14 R356). -/
structure TxFrame where
  seq : Nat
  frame : UnitFrame
  sentMt : Nat
  tries : Nat
  deriving DecidableEq, Repr

/-- A latency contract: TL_CONTROL, TL_HOST, TL_PROBE in µs (13 R336). -/
structure Contract where
  control : Nat
  host : Nat
  probe : Nat
  deriving DecidableEq, Repr

/-- One session (14). -/
structure Session where
  sid : Nat
  port : Nat
  assoc : Nat
  fp : Nat
  role : Nat
  /-- highest SEQ received in order; frames held ahead of a gap | 32 bits | 14 R356 | 0 -/
  rx : Nat := 0
  held : List (Nat × HostFrame) := []
  /-- next SEQ to send; frames unacknowledged (32 at most), frames that wait for the window | - | 14 R356 | 1 -/
  tx : Nat := 1
  unacked : List TxFrame := []
  txq : List UnitFrame := []
  /-- an ACK is owed since this MT | MT | 14 R356 | none -/
  ackDue : Option Nat := none
  /-- MT of the last valid frame received; of the last frame sent | MT | 14 R357 | 0 -/
  rxMt : Nat := 0
  txMt : Nat := 0
  /-- HL_SESS_TMO, HL_LINGER, HL_RTO, HL_RETRIES, HL_CMD_TMO taken at opening | - | 14 R372 | - -/
  tmo : Nat := 10
  linger : Nat := 30
  rto : Nat := 20
  retries : Nat := 8
  cmdTmo : Nat := 1000
  /-- Q_SEL | 10 bits | 14 Table 14.10 | 0 -/
  qsel : Nat := 0
  /-- latched _HI words by address | 32 bits each | 20 R481 | 0 -/
  latches : Sparse Nat := []
  contract : Option Contract := none
  deriving DecidableEq, Repr

/-- A handshake in progress, or done and waiting for SESSION_OPEN (14 R348, R351). -/
structure Shake where
  assoc : Nat
  port : Nat
  startMt : Nat
  fp : Nat := 0
  doneMt : Option Nat := none
  /-- a hello with a valid cookie and a supported offer has come (14 R348) -/
  agreed : Bool := false
  deriving DecidableEq, Repr

/-- An ended session whose queues linger (14 R373). -/
structure Linger where
  sid : Nat
  fp : Nat
  untilMt : Nat
  /-- its HL_LINGER, s -/
  len : Nat
  deriving DecidableEq, Repr

/-- The host link (14 Table 14.10). -/
structure HostSt where
  /-- LINK and SPEED of X20, X21 | 1 and 2 bits each | 14 Table 14.10 | 0 -/
  link : List Bool := [false, false]
  speed : List Nat := [0, 0]
  /-- HL_FRAMES, HL_RETX, HL_BADFRAME, HL_HS_REF | 32 bits each | 14 Table 14.10 | 0 -/
  frames : Nat := 0
  retx : Nat := 0
  bad : Nat := 0
  hsRef : Nat := 0
  /-- highest number of commands in flight | 11 bits | 14 Table 14.10 | 0 -/
  maxFlight : Nat := 0
  sessions : List Session := []
  shakes : List Shake := []
  lingers : List Linger := []
  queues : List Queue := []
  flights : List Flight := []
  /-- MODEL: the number the next fetched command takes | - | - | 0 -/
  nextF : Nat := 0
  /-- status of the last register word written or read by a row of its own: address, value, status | - | 14 R355 | none -/
  lastWord : Option (Nat × Nat × Nat) := none
  /-- the last frame that the unit sent outside the window of a session: its association and the frame (SESSION_ACCEPT
  of a refusal, SESSION_CLOSE, ACK) | - | 14 R351, R356 | none -/
  outFrame : Option (Nat × Option UnitFrame) := none
  /-- SQ from which the next fetch starts | 9 bits | 14 R367 | 0 -/
  rr : Nat := 0
  /-- HL_PORT and the interface settings of X20 and X21 in force since the last unit-level reset | Table 14.7 | 14 R372 |
  their defaults -/
  iface : List Nat := [5960, 0xC0A8600A, 0xFFFFFF00, 0, 0, 0xC0A8610A, 0xFFFFFF00, 0, 0]
  deriving DecidableEq, Repr

/-- The open forme (15 R387). -/
structure OpenForme where
  forme : Forme
  baseGen : Nat
  opener : Nat
  /-- CHECKED and its check code -/
  checked : Option (BitVec 32) := none
  deriving DecidableEq, Repr

/-- A pending or running QUOIN (15 R390, R391). -/
structure Quoin where
  flight : Nat
  boundary : Nat
  column : Nat
  startMt : Nat
  waitMt : Nat
  /-- the preload has ended, at this MT; the target that boundary 1 then waits for -/
  loadedMt : Option Nat := none
  target : Nat := 0
  /-- after the boundary: its MT, the old forme, and the stations still to change over -/
  boundMt : Option Nat := none
  old : Forme := {}
  left : List Nat := []
  changed : Nat := 0
  deriving DecidableEq, Repr

/-- A station that resets (14 R371, 15 R383). -/
structure Resetting where
  station : Nat
  startMt : Nat
  oldEpoch : Nat
  flight : Option Nat
  /-- the station's registers as they read when the reset began, by address (20 R494) -/
  regs : Sparse Nat := []
  deriving DecidableEq, Repr

/-- A staged firmware image (15 R393 to R395). -/
structure Staged where
  /-- bytes staged | 26 bits | 15 R393 | 0 -/
  bytes : Nat := 0
  /-- last verdict, none since the last change | - | 15 R394 | none -/
  verdict : Option Nat := none
  img : ImageInfo := {}
  deriving DecidableEq, Repr

/-- The supervisor's parameters, formes, resets and firmware update (15). -/
structure SupSt where
  /-- live parameters that differ from their defaults | 32 bits each | 15 R385 | defaults: DESIGN CHOICE (log 2) -/
  live : Sparse Int := []
  /-- forme in force and FORME_GEN | 32 bits, NV | 15 R389, R392 | none applied, 0: DESIGN CHOICE (log 2) -/
  forme : Forme := {}
  gen : Nat := 0
  /-- CRC-32 of the forme in force, none while none has been applied | 32 bits, NV | 20 Table 20.2 | 0 -/
  crc : Word := 0
  /-- the forme is applied in this run since reset | flag | 13 R324 | 0 -/
  applied : Bool := false
  openF : Option OpenForme := none
  quoin : Option Quoin := none
  /-- QUOIN_MT | 48 bits | 20 Table 20.2 | 0 -/
  quoinMt : Nat := 0
  /-- forme archive, newest first | 64 formes | 16 Table 16.1 | empty -/
  archive : List (Nat × Forme) := []
  resets : List Resetting := []
  /-- staged image of the unit | - | 15 R393 | none -/
  staged : Staged := {}
  /-- scheduled UPDATE_COMMIT: MT and flight | - | 15 R395 | none -/
  commit : Option (Nat × Nat) := none
  /-- staged node images by station | - | 17 R443 | none -/
  nodeImg : Sparse Staged := []
  deriving DecidableEq, Repr

/-- A record of the input recorder (16 Table 16.6): type, index, MT, payload fields. -/
structure InRec where
  typ : Nat
  index : Nat
  mt : Nat
  pay : List Int
  deriving DecidableEq, Repr

/-- A folio's spare area (16 Table 16.2) without its CRCs, which are free values of the entries. -/
structure Folio where
  num : Nat
  typ : Nat
  st : Nat
  boot : Nat
  serial : Nat
  mt0 : Nat
  first : Nat
  count : Nat
  extra : Nat
  deriving DecidableEq, Repr

/-- What a station image of a keyframe or of a saved live state holds: stations 0x01 to 0x0A and 0x12 with their
epochs, the forme in force and the live parameters, FORME_GEN and CONTROL_REV (16 R411, R413). -/
structure Image where
  time : TimeSt
  imp : ImpSt
  timers : List Timer
  cols : List Column
  probe : ProbeSt
  pica : PicaSt
  toks : List VTok
  cle : CleSt
  dio : DioSt
  epochs : List Nat
  live : Sparse Int
  forme : Forme
  gen : Nat
  controlRev : Nat
  deriving DecidableEq, Repr

/-- A programmed unit of a log folio: its folio, its place, its slugs in SEQ order (16 R402). -/
structure LogUnit where
  folio : Nat
  unit : Nat
  slugs : List Slug
  deriving DecidableEq, Repr

/-- A programmed unit of an input folio: its folio, its place, boot, index of its first record since that boot, and
its records in order (16 Table 16.2, R402). -/
structure InUnit where
  folio : Nat
  unit : Nat
  boot : Nat
  first : Nat
  recs : List InRec
  deriving DecidableEq, Repr

/-- A keyframe (16 R411). -/
structure Keyframe where
  num : Nat
  boot : Nat
  mt : Nat
  /-- index, since the boot, of the record that follows its KEYREF -/
  pos : Nat
  /-- its KEY folios -/
  folios : List Nat
  /-- the unit was in RUN -/
  runs : Bool
  img : Image
  deriving DecidableEq, Repr

/-- A LOG_READ copy in progress (16 R424). -/
structure Copy where
  flight : Nat
  eq : Nat
  /-- entries still to queue -/
  todo : List Slug
  queued : Nat
  first : Nat
  last : Nat
  holes : Nat
  fol : Bool
  deriving DecidableEq, Repr

/-- A reprint in progress (16 R413, R417). -/
structure Reprint where
  boot : Nat
  startMt : Nat
  endMt : Nat
  /-- MT of the keyframe, and the live MT at which the reprint began -/
  kfMt : Nat
  liveMt : Nat
  fast : Bool
  stopDiff : Bool
  saved : Image
  kfNum : Nat
  /-- records still to deliver -/
  todo : List InRec
  done : Nat := 0
  diffs : List Nat := [0, 0, 0]
  lastMt : Nat := 0
  /-- outputs of the reprinted stations not yet met by a record -/
  made : List InRec := []
  /-- the recorded unit was in RUN -/
  runs : Bool := false
  /-- forme, FORME_GEN and live parameters of the recorded unit -/
  forme : Forme := {}
  gen : Nat := 0
  live : Sparse Int := []
  /-- the recorded unit's time bases at its last keyframe: MT_SYNC, HOLDOVER (20 R484; log 84) -/
  shown : TimeSt := {}
  /-- CLE writes delivered before their acceptance count is reached (08 R212) -/
  held : List InRec := []
  deriving DecidableEq, Repr

/-- Station 0x14, the record store (16). -/
structure RecSt where
  /-- next SEQ | 32 bits, NV | 16 R404 | DESIGN CHOICE 0 (log 2) -/
  nextSeq : Nat := 0
  /-- staging RAM; how many of its first entries are in the unit being programmed | 512 slugs | 16 R406 | empty -/
  staging : List Slug := []
  inProg : Nat := 0
  /-- TRIP queue | 256 slugs | 16 R406 | empty -/
  tripQ : List Slug := []
  /-- drops of FAULT, WARN, INFO, TRACE since the last GAP, and first and last SEQ dropped | 32 bits each | 16 R407 | 0 -/
  drops : List Nat := [0, 0, 0, 0]
  dropFirst : Nat := 0
  dropLast : Nat := 0
  /-- slugs dropped, staging high-water mark since the reset | 32, 16 bits | 16 R424 | 0 -/
  dropped : Nat := 0
  hwm : Nat := 0
  /-- programmed log units, newest first | 16 × REC_LOG_FOLIOS units | 16 Table 16.1 | DESIGN CHOICE empty (log 2) -/
  log : List LogUnit := []
  /-- MT of the first entry of the partial log unit | MT | 16 R402 | none -/
  partMt : Option Nat := none
  /-- slugs of the proof wait for stage 8 | flag | 16 R408 | set -/
  proofHeld : Bool := true
  /-- store mounted, read-only, TORN at mount | flags | 16 R409, R421 | 0 -/
  mounted : Bool := false
  readOnly : Bool := false
  torn : Bool := false
  /-- folios by number: the spare areas | - | 16 R400 | DESIGN CHOICE none (log 2) -/
  folios : List Folio := []
  /-- open log folio and open input folio | folio numbers | 16 R402 | none -/
  logOpen : Option Nat := none
  inOpen : Option Nat := none
  /-- place of the next folio in the log ring and in the input ring; units programmed in the open folios | - | 16
  R399, R402 | 0; the places NV: DESIGN CHOICE 0 (log 2) -/
  logNext : Nat := 0
  inNext : Nat := 0
  logUnits : Nat := 0
  inUnits : Nat := 0
  /-- place of the next folio in the galley ring; folio serials of System, Log, Input | NV | 16 Tables 16.1, 16.2 |
  DESIGN CHOICE 0 (log 2) -/
  galFolio : Nat := 0
  serials : List Nat := [0, 0, 0]
  /-- galley copies by folio | 4,096 × 16 bytes | 08 R206 | DESIGN CHOICE none (log 2) -/
  galCopies : Sparse (List GalEntry) := []
  /-- programs done; the failed ones among the last 10,000, by their number; folios found BAD | 32 bits each | 16 R421 | 0 -/
  progs : Nat := 0
  failAt : List Nat := []
  badFolios : Nat := 0
  /-- REC_LOG_FOLIOS in force | 32 bits, NV | 16 R419 | 65,536 -/
  logSize : Nat := 65536
  /-- input records buffered, oldest first, in all 16-byte lines; how many of its first are in the unit being programmed | 4 MiB | 16 R412 | empty -/
  buf : List InRec := []
  bufProg : Nat := 0
  /-- records written since the boot | - | 16 Table 16.2 | 0 -/
  recIdx : Nat := 0
  /-- programmed input units, newest first | - | 16 R402, R410 | DESIGN CHOICE empty (log 2) -/
  input : List InUnit := []
  /-- input records lost since the buffer filled, MT of the first loss | 32 bits | 16 R412 | 0 -/
  lost : Nat := 0
  lostMt : Nat := 0
  /-- keyframes kept, newest first; next keyframe number | - | 16 R411 | none, DESIGN CHOICE 0 (log 2) -/
  keys : List Keyframe := []
  keyNum : Nat := 0
  keyMt : Nat := 0
  /-- ledger snapshot: the four columns; the set before it | - | 05 R130, 16 Table 16.1 | DESIGN CHOICE none (log 2) -/
  snap : Option (List Column) := none
  snapPrev : Option (List Column) := none
  /-- the newest snapshot is in the second set of four folios | flag, NV | 16 Table 16.1 | DESIGN CHOICE 0 (log 2) -/
  snapSet : Bool := false
  copies : List Copy := []
  reprint : Option Reprint := none
  deriving DecidableEq, Repr

/-- One lane (17 Table 17.5). -/
structure Lane where
  /-- the SFP+ module | - | 17 R426 | none -/
  sfp : Sfp := {}
  /-- LOCK, UP, RING, RING_BROKEN | flags | 17 Table 17.5 | 0 -/
  lock : Bool := false
  up : Bool := false
  ring : Bool := false
  broken : Bool := false
  /-- BREAK | 8 bits | 17 Table 17.5 | 0xFF -/
  brk : Nat := 0xFF
  /-- FOUND | 4 bits | 17 Table 17.5 | 0 -/
  found : Nat := 0
  /-- LN_ERR, losses of lock, LN_LOST, LN_RETX, LN_DELAY | 16, 16, 32, 32, 32 bits | 17 Table 17.5 | 0 -/
  err : Nat := 0
  losses : Nat := 0
  lost : Nat := 0
  retx : Nat := 0
  delay : Nat := 0
  /-- the delays of the last 16 exchanges with the neighbour, and the MT of the last | 0.1 ns, MT | 17 R434 | none -/
  delays : List Nat := []
  delayMt : Option Nat := none
  /-- MT at which the last DISCOVER cell was sent | MT | 17 R431 | none -/
  discMt : Option Nat := none
  /-- LN_TRIP: last source, its bits, blocks received | 8, 4, 16 bits | 17 Table 17.5 | 0 -/
  tripSrc : Nat := 0
  tripBits : Nat := 0
  tripCnt : Nat := 0
  /-- MT of the last STATUS cell sent | MT | 17 Table 17.2 | 0 -/
  statMt : Nat := 0
  /-- the unit's position on a PEER lane, and what its head tells of itself | - | 17 R431 | 0, none -/
  pos : Nat := 0
  head : Option NodeInfo := none
  deriving DecidableEq, Repr

/-- A node in station space (17 R431, R441). -/
structure Node where
  st : NState := .absent
  info : NodeInfo := { peer := false, serial := 0, nodeId := 0, fw := 0, epoch := 0, state := 0, hops := 0, alt := false }
  mapped : Bool := false
  /-- MT of the last STATUS cell; of the start of an update or reset | MT | 17 R441 | 0 -/
  seenMt : Nat := 0
  sinceMt : Nat := 0
  /-- flight of the NODE_RESET or UPDATE_COMMIT that waits | - | 17 R442, R443 | none -/
  flight : Option Nat := none
  /-- epoch that the node had when NODE_RESET or UPDATE_COMMIT began | 8 bits | 17 R442, R443 | 0 -/
  wasEpoch : Nat := 0
  /-- last RECORD sequence number received | 16 bits | 17 Table 17.2 | none -/
  recSeq : Option Nat := none
  deriving DecidableEq, Repr

/-- A CONTROL or BULK cell not yet acknowledged: station, cell number, flight, retransmissions (17 Table 17.2). -/
structure Cell where
  station : Nat
  cseq : Nat
  flight : Option Nat
  bulk : Bool
  sentMt : Nat
  tries : Nat
  deriving DecidableEq, Repr

/-- A remote trip source (17 R437 to R439). -/
structure RTrip where
  station : Nat
  bits : Nat := 0
  seq : Nat := 0
  slugMt : Option Nat := none
  changes : Nat := 0
  deriving DecidableEq, Repr

/-- A peer's newest zone token or boost state (17 R444, R445). -/
structure PeerTok where
  nodeId : Nat
  index : Nat
  demand : Nat
  on : Bool
  mt : Nat
  deriving DecidableEq, Repr

/-- Station 0x15, the lanes (17). -/
structure LaneSt where
  /-- lanes A to D | - | 17 R425 | as Lane -/
  lanes : List Lane := List.replicate 4 {}
  /-- nodes by station number | 60 | 17 R431 | ABSENT -/
  nodes : Sparse Node := []
  cells : List Cell := []
  nextCell : Nat := 0
  /-- own trip bits sent last, with the trip sequence, MT of the last block | 4, 4 bits | 17 R436 | 0 -/
  tripSent : Nat := 0
  tripSeq : Nat := 0
  tripMt : Nat := 0
  /-- a TRIP cell waits for its acknowledgement | flag | 17 Table 17.2 | 0 -/
  tripCell : Bool := false
  tripAcks : List Nat := []
  tripCellMt : Nat := 0
  rtrips : List RTrip := []
  peerZones : List PeerTok := []
  peerBoosts : List PeerTok := []
  /-- zone tokens last exported, of the zones selected; MT of the last export | 16 tokens, MT | 17 R444 | none, 0 -/
  exported : List (Option ZoneTok) := List.replicate 16 none
  exportMt : Nat := 0
  /-- MT of the last SYNC cell sent | MT | 17 R434 | 0 -/
  syncMt : Nat := 0
  /-- serial of the MT master; completions of ended commands discarded | 64, 32 bits | 02 R36, 17 Table 17.4 | 0 -/
  masterSer : Nat := 0
  lateComp : Nat := 0
  deriving DecidableEq, Repr

/-- The service block (18 Table 18.7). -/
structure SvcSt where
  /-- USB_ATT | flag | 18 Table 18.7 | 0 -/
  usb : Bool := false
  /-- ACK_STUCK | flag | 18 R454 | 0 -/
  ackStuck : Bool := false
  /-- ACK_CNT | 16 bits | 18 Table 18.7 | 0 -/
  ackCnt : Nat := 0
  /-- a FAULT slug has been written since the last acknowledgement | flag | 18 Table 18.1 | 0 -/
  faultLed : Bool := false
  /-- a press of ACK has acted, and whether the key is still down nothing reports; MT of the press's action | flag, MT
  | 18 Table 18.7, R454 | 0 -/
  ack : Bool := false
  ackMt : Nat := 0
  /-- lamp test in progress, MT of its start | flag, MT | 18 R454 | 0 -/
  lamp : Bool := false
  lampMt : Nat := 0
  /-- test multiplexer codes of the six outputs | 6 × 8 bits | 18 Table 18.7 | 0 -/
  sel : List Nat := [0, 0, 0, 0, 0, 0]
  /-- owner session of the selections | 16 bits | 18 R457 | none (0xFFFF) -/
  owner : Option Nat := none
  deriving DecidableEq, Repr

/-- The whole unit and the queue of commands that wait. -/
structure State where
  time : TimeSt := {}
  imp : ImpSt := {}
  /-- TM0 to TM31 | - | 04 R93 | as Timer -/
  timers : List Timer := List.replicate 32 {}
  /-- C0 to C3 | - | 05 | as Column -/
  cols : List Column := List.replicate 4 {}
  probe : ProbeSt := {}
  pica : PicaSt := {}
  /-- value tokens on their way to consumers | - | 01 R18 | empty -/
  toks : List VTok := []
  cle : CleSt := {}
  fan : FanSt := {}
  valve : ValveSt := {}
  dio : DioSt := {}
  hl : HlSt := {}
  power : PowerSt := {}
  unit : UnitSt := {}
  host : HostSt := {}
  sup : SupSt := {}
  store : RecSt := {}
  lane : LaneSt := {}
  svc : SvcSt := {}
  /-- MODEL: counter of the free values used so far (log 5) | - | - | DESIGN CHOICE 0 -/
  free : Nat := 0
  /-- the commands that wait, first in, first out | - | the block's queue | empty -/
  pending : List Instr := []
  deriving DecidableEq, Repr

/-- Why the machine stops. -/
inductive Fault where
  /-- Raised by the supply events when VIN is above 100 V: the spec puts that outside the operating conditions
  and gives no behaviour there (13 R343, 19 R463). Safe: the model stops where the spec gives no effect. -/
  | outsideOperatingConditions
  deriving DecidableEq, Repr

/-- Why a command has no meaning. -/
inductive Refusal where
  /-- Raised by an arm of exec for a row that has no meaning yet; no arm raises it now. Safe. -/
  | notModelled (mnemonic : String)
  deriving DecidableEq, Repr

/-- The unit right after a power-on reset: PROOF, MT 0, every register at its reset value, nothing waiting. -/
def State.reset : State := {}

/-- What a command answers. -/
abbrev Out := Host.Outcome State Fault Refusal

end Sys2Proof.Machine
end

