-- ==== Sys2Proof/Machine/Params.lean ====
section
/-! DEFINITION. The parameter dictionary (15 R385, Tables 15.4, 15.5 and the parameter tables of each chapter):
for every assigned ID its kind, range, default, sign, write role, and whether it is kept; and the values in force. -/

namespace Sys2Proof.Machine

/-- What the dictionary says of a parameter: `role` is the lowest write role, 0xFF for read-only (15 Table 15.6). -/
structure PInfo where
  lo : Int
  hi : Int
  dflt : Int
  forme : Bool := true
  nv : Bool := true
  role : Nat := 2
  signed : Bool := false
  deriving DecidableEq, Repr

/-- A forme parameter, written by an Engineer. Its value is kept, since the forme in force is (15 R392). -/
def fpar (lo hi d : Int) : Option PInfo := some { lo, hi, dflt := d, signed := decide (lo < 0) }
/-- A live parameter kept in non-volatile memory. -/
def lpar (role : Nat) (lo hi d : Int) : Option PInfo :=
  some { lo, hi, dflt := d, forme := false, role, signed := decide (lo < 0) }
/-- A read-only live parameter. -/
def rpar (signed : Bool) : Option PInfo :=
  some { lo := if signed then -2147483648 else 0, hi := if signed then 2147483647 else 4294967295, dflt := 0,
         forme := false, nv := false, role := 0xFF, signed }

/-- 0x0: unit parameters (15 Table 15.5, R498). -/
def parUnit (id : Nat) : Option PInfo :=
  if 1 ≤ id ∧ id ≤ 8 then lpar 2 0 0x7E7E7E7E 0
  else if id = 0x10 then some { lo := 0, hi := 1, dflt := 0, forme := false, nv := false, role := 1 }
  else if id = 0x40 then lpar 2 0 0x3F 3
  else none

/-- One wheel's parameters, by offset (02 Table 2.4). -/
def parWheel (o : Nat) : Option PInfo :=
  match o with
  | 0x00 => fpar 0 1 0 | 0x01 => fpar 0 2 0 | 0x02 => fpar 0 1 0 | 0x03 => fpar 5 200 20
  | 0x04 => fpar 8 255 60 | 0x05 => fpar 0 2 1 | 0x06 => fpar 300 900 550 | 0x07 => fpar 1100 2500 1600
  | 0x08 => fpar 100 500 300 | 0x09 => fpar 0 8 2 | 0x0A => fpar 2 8 3 | 0x0B => fpar 0 4 2
  | 0x0C => fpar 0 4 2 | 0x0D => fpar 10 1200 600 | 0x0E => fpar 655 4294967295 5636096 | _ => none

/-- 0x1: time bases (02 Table 2.4, Table 2.3). -/
def parTime (id : Nat) : Option PInfo :=
  match id with
  | 0x1000 => fpar 50 60 50 | 0x1001 => fpar 0 1 1 | 0x1002 => fpar 0 1 0 | 0x1003 => fpar 1000 4800 4000
  | 0x1004 => fpar 5000 9500 9000 | 0x1005 => fpar 10500 13000 11000 | 0x1006 => fpar 1000 6000 4000
  | 0x1007 => fpar 50 1000 200 | 0x1008 => fpar 50 1000 200 | 0x1200 => fpar 1 1000 50
  | _ => if 0x1100 ≤ id ∧ id < 0x1180 then parWheel ((id - 0x1100) % 0x20) else none

/-- 0x2: imposition (03 Table 3.7). -/
def parImp (id : Nat) : Option PInfo :=
  if id = 0x2000 then fpar 0 2 1 else if id = 0x2001 then fpar 0 1 1 else none

/-- 0x3: ledger, column c by offset (05 Table 5.5). -/
def parLedger (c o : Nat) : Option PInfo :=
  match o with
  | 0x00 => fpar 0 2 0 | 0x01 => fpar 0 3 c | 0x02 => fpar 1 2048 32 | 0x03 => fpar 1000 10000000 200000
  | 0x04 => fpar 0 2048 0 | 0x05 => fpar 0 2048 24 | 0x06 => fpar 0 2047 31 | 0x07 => fpar 0 63 1
  | 0x08 => fpar 0 0xFF 0xFF | 0x09 => fpar 0 0x203F 0 | 0x0A => fpar 0 0x203F 0 | 0x0B => fpar 0 0x203F 0
  | 0x0C => fpar 0 0x203F 0 | 0x0D => fpar 0 600 100 | 0x0E => fpar 0 4294967295 0 | 0x0F => fpar 0 10000 500
  | 0x10 => fpar 0 10000 0 | 0x11 => fpar 0 8 3 | 0x12 => fpar 0 2000 300 | 0x13 => fpar 0 1 0
  | 0x14 => fpar 0 1 1 | 0x15 => fpar 0 1 1 | 0x16 => fpar 0 0xFF 0xFF | 0x17 => fpar 0 0xFFFFFF 0
  | 0x18 => fpar (-4000) 15000 0 | _ => none

/-- 0x4: probe channels, sequencers, grain tables (06 Tables 6.6 to 6.8). -/
def parChan (o : Nat) : Option PInfo :=
  match o with
  | 0 => fpar 0 7 0 | 1 => fpar 2 4 2 | 2 => fpar 0 7 1 | 3 => fpar 5 100 20 | 4 => fpar 1 255 1
  | 5 => fpar 0 1 1 | 6 => fpar 5 50 20 | 7 => fpar 0 10000 0 | 8 => fpar 100 1000000 10000
  | 9 => fpar 2000 5000 3435 | 10 => fpar 20 200 100 | 11 => fpar 0 15 0 | 12 => fpar 0 0xFF 0xFF
  | 13 => fpar 1 6000 50 | _ => none
def parSeq (o : Nat) : Option PInfo :=
  match o with
  | 0 => fpar 0 2 0 | 1 => fpar 0 1 0 | 2 => fpar 0 0xFF 0xFF | 3 => fpar 0 32 0
  | _ => if 0x10 ≤ o ∧ o < 0x30 then fpar 0 63 0 else none
def parGrain (o : Nat) : Option PInfo :=
  match o with
  | 0 => fpar 2 16 2 | 1 => fpar (-4000) 8000 2000 | 2 => fpar (-1000) 1000 0 | 3 => fpar 0 200000 0
  | _ => if 0x10 ≤ o ∧ o < 0x20 then fpar 100 200000 0
         else if 0x20 ≤ o ∧ o < 0x30 then fpar 0 10000 0 else none

/-- 0x5: Pica ports and zones (07 Tables 7.6, 7.7). -/
def parPort (o : Nat) : Option PInfo :=
  match o with
  | 0 => fpar 0 3 3 | 1 => fpar 0 36000 600 | 2 => fpar 15 36000 3000 | _ => fpar 1 0x4008 3
def parZone (o : Nat) : Option PInfo :=
  match o with
  | 0 => fpar 0 3 0 | 1 => fpar 0 32 0 | 2 => fpar 0 32 1 | 3 => fpar 10 36000 300 | 4 => fpar 0 10000 10000
  | 5 => fpar 2 8 2
  | _ => if 0x08 ≤ o ∧ o < 0x10 then fpar (-4000) 15000 0
         else if 0x10 ≤ o ∧ o < 0x18 then fpar 0 10000 0
         else if 0x20 ≤ o then fpar 0 0x205B073F 0 else none

/-- The signed 32-bit range. -/
def lpar32 (role : Nat) (d : Int) : Option PInfo := lpar role (-2147483648) 2147483647 d

/-- 0x6: the CLE's mirror and parameters (08 Table 8.5, R208, R209). -/
def parLoop (o : Nat) : Option PInfo :=
  match o with
  | 0 => lpar32 2 0 | 1 => lpar32 2 0 | 2 => lpar32 2 0 | 3 => lpar32 2 0 | 4 => lpar 2 0 0xFFFFF 0
  | 5 => lpar32 1 0 | 6 => lpar32 2 0 | 7 => lpar32 2 0 | 8 => rpar true | 9 => rpar false
  | 0x10 => lpar 2 0 1 0 | 0x11 => lpar 2 0 0x403F 0 | 0x12 => lpar 2 0 0x403F 0 | 0x13 => lpar 2 0 0x503F 0
  | 0x14 => lpar 2 0 1 0 | 0x15 => lpar 2 2 65535 50 | 0x16 => lpar 2 0 2 0 | 0x17 => lpar 2 0 0xFF 0xFF
  | 0x18 => lpar 2 0 1 0 | 0x19 => lpar 2 0 1 0 | 0x1A => lpar32 2 0 | 0x1B => lpar 2 1 6000 50
  | 0x1C => lpar32 1 0 | 0x1D => lpar32 1 0 | 0x20 => rpar false | 0x21 => rpar false | 0x22 => rpar true
  | 0x23 => rpar false | 0x24 => rpar false | 0x25 => rpar false | 0x26 => rpar false | _ => none

/-- 0x7: fans (09 Tables 9.5 to 9.7). -/
def parDrive (o : Nat) : Option PInfo :=
  match o with
  | 0x00 => fpar 0 1 0 | 0x01 => fpar 0 3 0 | 0x02 => fpar 1 32 4 | 0x03 => fpar 0 2 0 | 0x04 => fpar 1 4 2
  | 0x05 => fpar 16 48 24 | 0x06 => fpar 10 200 40 | 0x07 => fpar 10000 250000 250000
  | 0x08 => fpar 10000 450000 350000 | 0x09 => fpar 1 255 4 | 0x0A => fpar 5 50 20 | 0x0B => fpar 10 10000 500
  | 0x0C => fpar 10 10000 500 | 0x0D => fpar 100 50000 5000 | 0x18 => fpar 10 90 50 | 0x19 => fpar 5 100 20
  | _ => if 0x10 ≤ o ∧ o < 0x18 then fpar 0 10000 0 else none
def parFanGroup (o : Nat) : Option PInfo :=
  match o with
  | 0 => fpar 0 2 2 | 1 => fpar 0 0xFFFF 0 | 2 => fpar 0 10000 2000 | 3 => fpar 0 10000 10000
  | 4 => fpar 0 9800 0 | 5 => fpar 300 10000 1500 | 6 => fpar 0 10000 0 | 7 => fpar 0 3 0 | _ => none
def parFan (id : Nat) : Option PInfo :=
  if id < 0x7180 then parDrive ((id - 0x7000) % 0x40)
  else if 0x7200 ≤ id ∧ id < 0x7280 then parFanGroup ((id - 0x7200) % 0x20)
  else match id with
  | 0x7300 => fpar 500 5500 5500 | 0x7301 => fpar 0 600 30 | 0x7302 => fpar 0 0xFF3F 0x3F
  | 0x7303 => fpar 0 0xFF3F 0x3F | 0x7304 => fpar 60 86400 600 | 0x7305 => fpar 1 20 20 | _ => none

/-- 0x8: valves (10 Table 10.5). -/
def parValve (o : Nat) : Option PInfo :=
  match o with
  | 0x00 => fpar 0 2 0 | 0x01 => fpar 1000 25000 25000 | 0x02 => fpar 0 25000 0 | 0x03 => fpar 50 20000 20000
  | 0x04 => fpar 0 2 0 | 0x05 => fpar 0 3000 0 | 0x06 => fpar 250 4000 1000 | 0x07 => fpar 0 1 0
  | 0x08 => fpar 1 16 1 | 0x09 => fpar 1 16 1 | 0x0A => fpar 0 25000 10000 | 0x0B => fpar 10 2000 100
  | 0x0C => fpar 0 25000 3000 | 0x0D => fpar 0 0xFF 0xFF | 0x0E => fpar 0 1 0 | 0x0F => fpar 0 1 0
  | 0x10 => fpar 5 1000 20 | _ => none

/-- 0x9: field inputs and outputs (11 Table 11.5). -/
def parDio (id : Nat) : Option PInfo :=
  if id < 0x9080 then match id % 4 with
    | 0 => fpar 1 100 10 | 1 => fpar 1 255 3 | 2 => fpar 0 254 1 | _ => fpar 1 255 4
  else if 0x9100 ≤ id ∧ id < 0x91C0 then match id % 8 with
    | 0 => fpar 0 4 0 | 1 => fpar 0 2 0 | 2 => fpar 0 1 1 | 3 => fpar 100 60000 1000 | 4 => fpar 0 30000 20
    | _ => none
  else if 0x9200 ≤ id ∧ id < 0x9206 then fpar 0 4 0
  else if id = 0x9210 then fpar 10 10000 100
  else if id = 0x9211 then fpar 0 1 1
  else none

/-- 0xA: power and latency (13 R342); 0xB: record (16 Table 16.9); 0xC: lanes (17 Table 17.3). -/
def parPower (id : Nat) : Option PInfo :=
  match id with
  | 0xA000 => lpar 2 0 150 100 | 0xA001 => lpar 2 0 4294967295 0 | 0xA002 => lpar 2 0 4294967295 0
  | 0xA003 => lpar 2 0 4294967295 0 | _ => none
def parRecord (id : Nat) : Option PInfo :=
  match id with
  | 0xB000 => lpar 2 16384 1048576 65536 | 0xB001 => lpar 2 1 1000 10 | 0xB002 => lpar 2 0 0x3FFFFF 0
  | 0xB003 => lpar 2 0 1 1 | 0xB004 => lpar 2 10 600 60 | 0xB005 => lpar 2 0 1 0 | _ => none
def parLane (id : Nat) : Option PInfo :=
  if id < 0xC004 then lpar 2 0 2 0
  else if id = 0xC004 then lpar 2 0 3 0
  else if id = 0xC005 then lpar 2 100 10000 1000
  else if id = 0xC006 then lpar 2 0 0xFFFF 0
  else if 0xC008 ≤ id ∧ id < 0xC00C then lpar 2 0 10000 10000
  else if 0xC010 ≤ id ∧ id < 0xC018 then lpar 2 0 0x9FFF 0
  else if 0xC020 ≤ id ∧ id < 0xC030 then lpar 2 0 0x80FF 0
  else if 0xC100 ≤ id ∧ id < 0xC200 then
    if 2 ≤ (id - 0xC100) % 0x40 ∧ (id - 0xC100) % 0x40 ≤ 31 then lpar 2 0 4294967295 0 else none
  else none

/-- 0xD: security and host link (14 Table 14.7). -/
def parHost (id : Nat) : Option PInfo :=
  match id with
  | 0xD000 => lpar 3 1 65535 5960
  | 0xD001 => lpar 3 0 4294967295 0xC0A8600A | 0xD002 => lpar 3 0 4294967295 0xFFFFFF00
  | 0xD003 => lpar 3 0 4294967295 0 | 0xD004 => lpar 3 0 1 0
  | 0xD005 => lpar 3 0 4294967295 0xC0A8610A | 0xD006 => lpar 3 0 4294967295 0xFFFFFF00
  | 0xD007 => lpar 3 0 4294967295 0 | 0xD008 => lpar 3 0 1 0
  | 0xD010 => lpar 2 1 300 10 | 0xD011 => lpar 2 0 600 30 | 0xD012 => lpar 2 2 1000 20 | 0xD013 => lpar 2 2 16 8
  | 0xD014 => lpar 2 100 60000 1000
  | _ => if 0xD100 ≤ id ∧ id < 0xD300 then
      if id % 16 < 8 then lpar 3 0 4294967295 0
      else if id % 16 = 8 then lpar 3 0 0xFF 0xFF else none
    else none

/-- The dictionary: what is known of an ID, none where it is not assigned (15 R385). -/
def paramInfo (id : Nat) : Option PInfo :=
  match id / 0x1000 with
  | 0 => parUnit id
  | 1 => parTime id
  | 2 => parImp id
  | 3 => if id < 0x3100 then parLedger ((id - 0x3000) / 0x40) (id % 0x40) else none
  | 4 => if id < 0x4400 then parChan (id % 0x10)
         else if id < 0x4500 then parSeq (id % 0x40)
         else if 0x4800 ≤ id ∧ id < 0x4C00 then parGrain (id % 0x40) else none
  | 5 => if id < 0x57A0 then parPort (id % 4)
         else if 0x5800 ≤ id ∧ id < 0x5C00 then parZone (id % 0x40) else none
  | 6 => if id < 0x6C00 then parLoop (id % 0x40) else if id = 0x6F00 then rpar false else none
  | 7 => parFan id
  | 8 => if id < 0x8100 then parValve (id % 0x20) else if id = 0x8100 then fpar 0 1 1 else none
  | 9 => parDio id
  | 0xA => parPower id
  | 0xB => parRecord id
  | 0xC => parLane id
  | 0xD => parHost id
  | _ => none

/-- A code list that a range does not give: PLANT_TAG's bytes, the coded sources and destinations, optional
indices, wirings and roles (15 Table 15.5; 05, 06, 07, 08, 09, 14, 17 parameter tables). -/
def parCodeOk (id : Nat) (v : Int) : Bool :=
  let n := v.toNat
  let b (i : Nat) : Nat := n / 2 ^ (8 * i) % 256
  let optIdx (m : Nat) : Bool := decide (n < m ∨ n = 0xFF)
  if id / 0x1000 = 0 then
    if id ≤ 8 then [0, 1, 2, 3].all fun i => b i = 0 || decide (0x20 ≤ b i ∧ b i ≤ 0x7E) else true
  else if id = 0x1000 then n = 50 || n = 60
  else if 0x3000 ≤ id ∧ id < 0x3100 then
    let o := id % 0x40
    if o = 8 ∨ o = 0x16 then optIdx 48
    else if 9 ≤ o ∧ o ≤ 12 then
      n / 0x1000 ≤ 2 && n % 0x1000 < 64 && (n / 0x1000 ≠ 2 || n % 0x1000 < 16)
    else true
  else if 0x4000 ≤ id ∧ id < 0x4400 then if id % 16 = 12 then optIdx 64 else true
  else if 0x4400 ≤ id ∧ id < 0x4500 then if id % 0x40 = 2 then optIdx 32 else true
  else if 0x5000 ≤ id ∧ id < 0x57A0 then
    if id % 4 = 1 then n = 0 || 15 ≤ n
    else if id % 4 = 3 then 1 ≤ n % 256 && n % 256 ≤ 8 && n / 256 ≤ 64 else true
  else if 0x5800 ≤ id ∧ id < 0x5C00 ∧ 0x20 ≤ id % 0x40 then
    let st := n / 0x10000 % 256
    let kind := n / 0x10000000
    n / 0x1000000 % 16 = 0 && n / 0x800 % 32 = 0 && n / 0x40 % 4 = 0 &&
      (match kind with
       | 0 => decide (n = 0)
       | 1 => decide (st = 0 ∧ n / 0x100 % 8 = 0)
       | 2 => decide (st = 9 ∨ (0x20 ≤ st ∧ st ≤ 0x5B))
       | _ => false)
  else if 0x6000 ≤ id ∧ id < 0x6C00 then
    let o := id % 0x40
    let i := n % 0x1000
    if o = 0x11 then decide (i < [64, 64, 16, 4].getD (n / 0x1000) 64)
    else if o = 0x12 then decide (i < [64, 64, 64, 16].getD (n / 0x1000) 64)
    else if o = 0x13 then decide (i < [1, 8, 4, 24, 24, 48].getD (n / 0x1000) 0)
    else if o = 0x17 then optIdx 32 else true
  else if id = 0x7302 ∨ id = 0x7303 then n / 0x40 % 4 = 0
  else if 0x8000 ≤ id ∧ id < 0x8100 then if id % 0x20 = 0x0D then optIdx 24 else true
  else if 0xC010 ≤ id ∧ id < 0xC018 then n / 0x2000 % 4 = 0
  else if 0xC020 ≤ id ∧ id < 0xC030 then n / 0x100 % 128 = 0
  else if 0xD100 ≤ id then if id % 16 = 8 then n ≤ 3 || n = 0xFF else true
  else true

/-- A value is in the range stated for its parameter (00 R13). -/
def parInRange (id : Nat) (p : PInfo) (v : Int) : Bool :=
  decide (p.lo ≤ v ∧ v ≤ p.hi) && parCodeOk id v

end Sys2Proof.Machine
end

