-- ==== Sys2Proof/Machine/Ops.lean ====
section
/-! DEFINITION. The named operations that every station shares: exact and wrapped numbers, little-endian bytes,
sparse tables, the parameters in force, time, slugs (16 R403 to R407), rings (14 R366), input records (16 R410). -/

namespace Sys2Proof.Machine

-- Numbers -------------------------------------------------------------------------------------------------

/-- An integer modulo 2 to the power of `w`, as a two's complement field of that width (00 R7). -/
def uw (w : Nat) (i : Int) : Nat := (i % (2 ^ w : Int)).toNat
/-- A field of width `w` read as two's complement (00 R7). -/
def sx (w n : Nat) : Int :=
  let m := n % 2 ^ w
  if m < 2 ^ (w - 1) then (m : Int) else (m : Int) - 2 ^ w
/-- Clamped to an interval. -/
def clamp (lo hi x : Int) : Int := max lo (min hi x)
def sat16 (x : Int) : Int := clamp (-32768) 32767 x
def sat32 (x : Int) : Int := clamp (-2147483648) 2147483647 x
def sat64 (x : Int) : Int := clamp (-9223372036854775808) 9223372036854775807 x
/-- The operator rnd of the control engine; its sum saturates as every sum does (08 R186). -/
def rnd (x : Int) (s : Nat) : Int := if s = 0 then x else sat64 (x + 2 ^ (s - 1)) / 2 ^ s
/-- `a / b` rounded, an exact half toward plus infinity (00 R497); `b` positive. -/
def rdiv (a b : Int) : Int := (2 * a + b) / (2 * b)
/-- `a / b` rounded up (00 R497). -/
def cdiv (a b : Nat) : Nat := (a + (b - 1)) / b
/-- The IEC 60751 resistance of a platinum sensor relative to its value at 0 °C, at h/200 °C, times 16 × 10^23 (06 R137; the
standard's coefficients, 3.9083 × 10^-3, -5.775 × 10^-7 and -4.183 × 10^-12: PRESUMED, log 6). -/
def cvd16 (h : Int) : Int :=
  16 * 10 ^ 23 + 312664 * 10 ^ 14 * h - 23100 * 10 ^ 9 * h ^ 2 - (if h < 0 then 4183 * (h - 20000) * h ^ 3 else 0)
/-- Bit `i` of a number, and the field of `w` bits from bit `lo` (00 R6). -/
def bitOf (n i : Nat) : Bool := n / 2 ^ i % 2 = 1
def fld (n lo w : Nat) : Nat := n / 2 ^ lo % 2 ^ w
def b2n (b : Bool) : Nat := if b then 1 else 0
/-- Flags as bits, the first as bit 0. -/
def ofBits : List Bool → Nat
  | [] => 0
  | b :: r => b2n b + 2 * ofBits r
/-- A number with bit `i` set; cleared. -/
def setBit (n i : Nat) : Nat := n ||| 2 ^ i
def clrBit (n i : Nat) : Nat := if bitOf n i then n - 2 ^ i else n
def orBit (w : Word) (i : Nat) : Word := w ||| BitVec.ofNat 32 (2 ^ i)
/-- The difference of two 48-bit positions (02 R57), of two 64-bit times. -/
def diff48 (a b : Nat) : Int := sx 48 (uw 48 ((a : Int) - b))
def diff64 (a b : Nat) : Int := sx 64 (uw 64 ((a : Int) - b))
/-- The integer square root, by `fuel` bits from the top. -/
def isqrtFrom : Nat → Nat → Nat → Nat
  | 0, _, r => r
  | k + 1, n, r => isqrtFrom k n (if (r + 2 ^ k) * (r + 2 ^ k) ≤ n then r + 2 ^ k else r)
def isqrt (n : Nat) : Nat := isqrtFrom 48 n 0
/-- Saturating and wrapping increments of a counter of `w` bits (20 R485). -/
def incSat (w n : Nat) : Nat := if n + 1 < 2 ^ w then n + 1 else 2 ^ w - 1
def incW (w n : Nat) : Nat := (n + 1) % 2 ^ w

-- Bytes ---------------------------------------------------------------------------------------------------

/-- `k` bytes of a number, least significant first (00 R7). -/
def le (k n : Nat) : List Nat := (List.range k).map fun i => n / 256 ^ i % 256
def leI (k : Nat) (i : Int) : List Nat := le k (uw (8 * k) i)
def ofLe : List Nat → Nat
  | [] => 0
  | b :: r => b + 256 * ofLe r
/-- Bytes `lo` to `lo + k - 1` of a list, absent bytes 0. -/
def bytesAt (a : List Nat) (lo k : Nat) : List Nat := (List.range k).map fun i => a.getD (lo + i) 0
def numAt (a : List Nat) (lo k : Nat) : Nat := ofLe (bytesAt a lo k)
def intAt (a : List Nat) (lo k : Nat) : Int := sx (8 * k) (numAt a lo k)
/-- Exactly `k` bytes: cut or filled with 0. -/
def padTo (k : Nat) (a : List Nat) : List Nat := bytesAt a 0 k

-- Sparse tables -------------------------------------------------------------------------------------------

/-- The entry of a key. -/
def spGet {α : Type} : Sparse α → Nat → Option α
  | [], _ => none
  | (a, v) :: r, k => if a = k then some v else spGet r k
/-- A table without a key. -/
def spErase {α : Type} : Sparse α → Nat → Sparse α
  | [], _ => []
  | (a, v) :: r, k => if a = k then r else if k < a then (a, v) :: r else (a, v) :: spErase r k
/-- A table with a key's entry put in its place. -/
def spPut {α : Type} : Sparse α → Nat → α → Sparse α
  | [], k, x => [(k, x)]
  | (a, v) :: r, k, x => if a = k then (k, x) :: r else if k < a then (k, x) :: (a, v) :: r else (a, v) :: spPut r k x
/-- Writing the default removes the entry, so that equal tables are equal data. -/
def spSet {α : Type} [DecidableEq α] (d : α) (t : Sparse α) (k : Nat) (x : α) : Sparse α :=
  if x = d then spErase t k else spPut t k x
def spGetD {α : Type} (d : α) (t : Sparse α) (k : Nat) : α := (spGet t k).getD d

-- Parts of the state --------------------------------------------------------------------------------------

variable (s : State)

def State.onTime (f : TimeSt → TimeSt) : State := { s with time := f s.time }
def State.onImp (f : ImpSt → ImpSt) : State := { s with imp := f s.imp }
def State.onProbe (f : ProbeSt → ProbeSt) : State := { s with probe := f s.probe }
def State.onPica (f : PicaSt → PicaSt) : State := { s with pica := f s.pica }
def State.onCle (f : CleSt → CleSt) : State := { s with cle := f s.cle }
def State.onFan (f : FanSt → FanSt) : State := { s with fan := f s.fan }
def State.onValve (f : ValveSt → ValveSt) : State := { s with valve := f s.valve }
def State.onDio (f : DioSt → DioSt) : State := { s with dio := f s.dio }
def State.onHl (f : HlSt → HlSt) : State := { s with hl := f s.hl }
def State.onPower (f : PowerSt → PowerSt) : State := { s with power := f s.power }
def State.onUnit (f : UnitSt → UnitSt) : State := { s with unit := f s.unit }
def State.onHost (f : HostSt → HostSt) : State := { s with host := f s.host }
def State.onSup (f : SupSt → SupSt) : State := { s with sup := f s.sup }
def State.onStore (f : RecSt → RecSt) : State := { s with store := f s.store }
def State.onLane (f : LaneSt → LaneSt) : State := { s with lane := f s.lane }
def State.onSvc (f : SvcSt → SvcSt) : State := { s with svc := f s.svc }
def State.onToks (f : List VTok → List VTok) : State := { s with toks := f s.toks }
def State.onTimer (n : Nat) (f : Timer → Timer) : State := { s with timers := s.timers.modify n f }
def State.onCol (c : Nat) (f : Column → Column) : State := { s with cols := s.cols.modify c f }
def State.onWheel (n : Nat) (f : Wheel → Wheel) : State :=
  s.onTime fun t => { t with wheels := t.wheels.modify n f }
def State.onChan (n : Nat) (f : Chan → Chan) : State :=
  s.onProbe fun t => { t with chans := t.chans.modify n f }
def State.onGroup (g : Nat) (f : Group → Group) : State :=
  s.onProbe fun t => { t with groups := t.groups.modify g f }
def State.onPort (p : Nat) (f : Port → Port) : State :=
  s.onPica fun t => { t with ports := t.ports.modify p f }
def State.onZone (z : Nat) (f : Zone → Zone) : State :=
  s.onPica fun t => { t with zones := t.zones.modify z f }
def State.onLoop (l : Nat) (f : Loop → Loop) : State :=
  s.onCle fun t => { t with loops := t.loops.modify l f }
def State.onGal (g : Nat) (f : Galley → Galley) : State :=
  s.onCle fun t => { t with galleys := t.galleys.modify g f }
def State.onDrive (n : Nat) (f : Drive → Drive) : State :=
  s.onFan fun t => { t with drives := t.drives.modify n f }
def State.onFg (g : Nat) (f : FanGroup → FanGroup) : State :=
  s.onFan fun t => { t with groups := t.groups.modify g f }
def State.onSv (n : Nat) (f : Valve → Valve) : State :=
  s.onValve fun t => { t with svs := t.svs.modify n f }
def State.onDin (n : Nat) (f : Din → Din) : State :=
  s.onDio fun t => { t with ins := t.ins.modify n f }
def State.onDout (n : Nat) (f : Dout → Dout) : State :=
  s.onDio fun t => { t with outs := t.outs.modify n f }
def State.onQueue (q : Nat) (f : Queue → Queue) : State :=
  s.onHost fun t => { t with queues := t.queues.map fun x => if x.num = q then f x else x }
def State.onSession (sid : Nat) (f : Session → Session) : State :=
  s.onHost fun t => { t with sessions := t.sessions.map fun x => if x.sid = sid then f x else x }
def State.onFlight (n : Nat) (f : Flight → Flight) : State :=
  s.onHost fun t => { t with flights := t.flights.map fun x => if x.f = n then f x else x }
def State.onNode (st : Nat) (f : Node → Node) : State :=
  s.onLane fun t => { t with nodes := spSet {} t.nodes st (f (spGetD {} t.nodes st)) }

def State.wheel (n : Nat) : Wheel := s.time.wheels.getD n {}
def State.timer (n : Nat) : Timer := s.timers.getD n {}
def State.col (c : Nat) : Column := s.cols.getD c {}
def State.chan (n : Nat) : Chan := s.probe.chans.getD n {}
def State.group (g : Nat) : Group := s.probe.groups.getD g {}
def State.port (p : Nat) : Port := s.pica.ports.getD p {}
def State.zone (z : Nat) : Zone := s.pica.zones.getD z {}
def State.loop (l : Nat) : Loop := s.cle.loops.getD l {}
def State.gal (g : Nat) : Galley := s.cle.galleys.getD g {}
def State.drive (n : Nat) : Drive := s.fan.drives.getD n {}
def State.fg (g : Nat) : FanGroup := s.fan.groups.getD g {}
def State.sv (n : Nat) : Valve := s.valve.svs.getD n {}
def State.din (n : Nat) : Din := s.dio.ins.getD n {}
def State.dout (n : Nat) : Dout := s.dio.outs.getD n {}
def State.node (st : Nat) : Node := spGetD {} s.lane.nodes st
def State.queue? (q : Nat) : Option Queue := s.host.queues.find? fun x => x.num = q
def State.session? (sid : Nat) : Option Session := s.host.sessions.find? fun x => x.sid = sid
def State.flight? (n : Nat) : Option Flight := s.host.flights.find? fun x => x.f = n
/-- The present machine time. -/
def State.now : Nat := s.time.mt

-- Parameters ----------------------------------------------------------------------------------------------

/-- A forme's value of a forme parameter: what it holds, else the factory default (15 R389). -/
def Forme.par (fm : Forme) (id : Nat) : Int :=
  (spGet fm.params id).getD (((paramInfo id).map (·.dflt)).getD 0)
def Forme.parN (fm : Forme) (id : Nat) : Nat := (fm.par id).toNat
/-- The station whose settings a forme parameter is; the fans change over together (15 R391). -/
def parOwner (id : Nat) : Nat :=
  match id / 0x1000 with
  | 1 => 1 | 2 => 2 | 3 => 4
  | 4 => if id < 0x4400 then 5 + (id - 0x4000) / 0x100 else if id < 0x4500 then 5 + (id - 0x4400) / 0x40 else 5
  | 5 => 9 | 7 => 0x0B | 8 => 0x11 | 9 => 0x12 | _ => 0
/-- The forme that a station runs under: the old one from a QUOIN boundary to its own changeover; in REPRINT, that of
the recorded unit (15 R391, 16 R416). -/
def State.formeOf (st : Nat) : Forme :=
  match s.store.reprint, s.sup.quoin with
  | some r, _ => if st < 0x0B then r.forme else s.sup.forme
  | none, some q => if q.boundMt.isSome && q.left.contains st then q.old else s.sup.forme
  | none, none => s.sup.forme
/-- The live parameters in force: those of the CLE are the recorded unit's in REPRINT (16 R413, R416). -/
def State.livePars (id : Nat) : Sparse Int :=
  match s.store.reprint with
  | some r => if id / 0x1000 = 6 then r.live else s.sup.live
  | none => s.sup.live
/-- A live parameter's value. -/
def State.live (id : Nat) : Int := (spGet (s.livePars id) id).getD (((paramInfo id).map (·.dflt)).getD 0)
/-- A parameter's value in force at its station. -/
def State.par (id : Nat) : Int :=
  match id / 0x1000 with
  | 1 => (s.formeOf 1).par id | 2 => (s.formeOf 2).par id | 3 => (s.formeOf 4).par id
  | 4 => (s.formeOf (parOwner id)).par id | 5 => (s.formeOf 9).par id | 7 => (s.formeOf 0x0B).par id
  | 8 => (s.formeOf 0x11).par id | 9 => (s.formeOf 0x12).par id
  | _ => s.live id
def State.parN (id : Nat) : Nat := (s.par id).toNat

/-- Parameters of one wheel, column, channel, sequencer, port, zone, loop, drive, group, valve channel. -/
def State.pTw (n o : Nat) : Nat := s.parN (0x1100 + 0x20 * n + o)
def State.pLdg (c o : Nat) : Nat := s.parN (0x3000 + 0x40 * c + o)
def State.pCh (n o : Nat) : Nat := s.parN (0x4000 + 0x10 * n + o)
def State.pSq (g o : Nat) : Nat := s.parN (0x4400 + 0x40 * g + o)
def State.pPc (p o : Nat) : Nat := s.parN (0x5000 + 4 * p + o)
def State.pZn (z o : Nat) : Nat := s.parN (0x5800 + 0x40 * z + o)
def State.pL (l o : Nat) : Nat := s.parN (0x6000 + 0x40 * l + o)
def State.pFd (n o : Nat) : Nat := s.parN (0x7000 + 0x40 * n + o)
def State.pFg (g o : Nat) : Nat := s.parN (0x7200 + 0x20 * g + o)
def State.pSv (n o : Nat) : Nat := s.parN (0x8000 + 0x20 * n + o)
/-- A forme record's bytes in a forme (15 Table 15.7); none stored reads as zero. -/
def Forme.rec_ (fm : Forme) (kind idx : Nat) : List Nat :=
  (spGet fm.recs (kind * 65536 + idx)).getD (List.replicate (if kind = 0x51 then 384 else 32) 0)

-- Stations ------------------------------------------------------------------------------------------------

/-- The epoch of a station or a node (14 R362, 17 R441). -/
def State.epochOf (st : Nat) : Nat :=
  if st < 0x16 then s.unit.epochs.getD st 0
  else if 0x20 ≤ st ∧ st ≤ 0x5B then (s.node st).info.epoch else 0
def State.isResetting (st : Nat) : Bool := s.sup.resets.any fun r => r.station = st
def State.isNode (st : Nat) : Bool := decide (0x20 ≤ st ∧ st ≤ 0x5B)
def State.isSt (st : UState) : Bool := s.unit.st = st
/-- No proof stage has ended since the unit-level reset: words that show what proof settles read their reset values (20 R495). -/
def State.untouched : Bool := s.isSt .proof && s.power.stage = 0
def State.inProof : Bool := s.isSt .proof || s.isSt .proofHold

/-- MT after `dt` ticks of 10 ns: in P2 and P3 it advances on each 32.768 kHz tick by that tick's length, 390,625/128 of
10 ns (02 R34, 13 R335; log 42). -/
def State.mtAfter (dt : Nat) : Nat :=
  if 2 ≤ s.power.cur then
    max s.time.mt (s.power.lfBase + ((s.power.lfReal + dt) * 128 / 390625 * 390625 + 127) / 128)
  else s.time.mt + dt
/-- Time passes: MT counts, and the ticks in the present power state with it (02 R34, 13 R335, Table 13.13).
A unit without power has no clock. -/
def State.elapse (dt : Nat) : State :=
  if s.power.on then
    { s with time := { s.time with mt := s.mtAfter dt }
             power := { s.power with time := s.power.time.modify s.power.cur (· + dt), lfReal := s.power.lfReal + dt } }
  else s
/-- The supervisor's heartbeat is less than 5 ms old; in P2 and P3 the power controller stands in for it (11 R279, 13
R334). -/
def State.feeds : Bool := decide (2 ≤ s.power.cur) || decide (s.time.mt < s.power.beat + 5 * Config.ms)

/-- The next free value, and the state in which it is used up (log 5). -/
def State.fresh : Int × State := (Config.freeValue s.free, { s with free := s.free + 1 })

-- Rings ---------------------------------------------------------------------------------------------------

/-- An entry written at the tail of a CQ, EQ or XQ: the ring holds at most depth - 1 entries (14 R364, R366). -/
def qPush (q : Queue) (e : QEntry) (now : Nat) : Queue :=
  if q.ring.length + 1 < q.depth then
    { q with ring := q.ring ++ [e], tail := (q.tail + 1) % q.depth, w := (q.tail + 1) % q.depth
             passes := if q.tail + 1 = q.depth then q.passes + 1 else q.passes
             waitMt := q.waitMt.or (some now) }
  else { q with ovf := incW 32 q.ovf }
/-- A stream entry to an XQ, with GAP, LOST and EPOCH_GAP (14 R363). -/
def qStream (q : Queue) (record : List Nat) (source kind epoch now : Nat) : Queue :=
  if q.ring.length + 1 < q.depth then
    let e : StreamEntry := { record, source, kind, gap := decide (q.lost > 0)
                             epochGap := (spGet q.lastEp source).any (· ≠ epoch), sseq := q.sseq, lost := q.lost }
    { qPush q (.stream e) now with sseq := incW 32 q.sseq, lost := 0, lastEp := spPut q.lastEp source epoch }
  else { q with ovf := incW 32 q.ovf, lost := incW 32 q.lost, sseq := incW 32 q.sseq }
def State.stream (q : Nat) (record : List Nat) (source kind epoch : Nat) : State :=
  s.onQueue q fun x => qStream x record source kind epoch s.now

-- Slugs ---------------------------------------------------------------------------------------------------

def clsIdx : SlugClass → Nat
  | .trip => 0 | .fault => 1 | .warn => 2 | .info => 3 | .trace => 4
/-- Staging admits a class while it holds fewer entries (16 Table 16.4); an audit slug as a FAULT. -/
def clsLimit (i : Nat) : Nat := [512, 496, 480, 448, 384].getD i 0
def slugLimit (sl : Slug) : Nat := if sl.audit then 496 else clsLimit (clsIdx sl.cls)
/-- A dropped slug keeps its SEQ and is counted for the next GAP (16 R407). -/
def dropSlug (r : RecSt) (sl : Slug) : RecSt :=
  let none' := r.drops.all (· = 0)
  { r with drops := r.drops.modify (clsIdx sl.cls - 1) (incW 32)
           dropFirst := if none' ∨ sx 32 (uw 32 ((sl.seq : Int) - r.dropFirst)) < 0 then sl.seq else r.dropFirst
           dropLast := if none' ∨ 0 < sx 32 (uw 32 ((sl.seq : Int) - r.dropLast)) then sl.seq else r.dropLast
           dropped := incW 32 r.dropped }
/-- May a TRIP slug displace it? Audit and GAP slugs never (16 R406). -/
def displaceable (c : SlugClass) (sl : Slug) : Bool := decide (sl.cls = c) && !sl.audit && decide (sl.kind ≠ 0x1401)
/-- The place of the newest staged slug of the lowest class present that is not being programmed (16 R406). -/
def displaceAt (r : RecSt) : Option Nat :=
  let pick (c : SlugClass) : Option Nat :=
    ((List.range r.staging.length).filter fun i =>
      decide (r.inProg ≤ i) && (r.staging[i]?.any (displaceable c))).getLast?
  (pick .trace).or ((pick .info).or ((pick .warn).or (pick .fault)))
/-- Placed in staging: the first slug of a log unit starts the flush time (16 R402). -/
def placeSlug (r : RecSt) (sl : Slug) (now : Nat) : RecSt :=
  { r with staging := r.staging ++ [sl]
           hwm := max r.hwm (r.staging.length + 1)
           partMt := if (r.staging.length - r.inProg) % 64 = 0 then some now else r.partMt }
/-- A slug reaches staging: admitted, dropped, displacing, or in the TRIP queue (16 R406). -/
def stageSlug (r : RecSt) (sl : Slug) (now : Nat) : RecSt :=
  if sl.cls = .trip then
    if r.tripQ.isEmpty then
      if r.staging.length < 512 then placeSlug r sl now
      else match displaceAt r with
        | some i =>
          let r' := dropSlug r (r.staging.getD i sl)
          { r' with staging := r.staging.eraseIdx i ++ [sl] }
        | none => { r with tripQ := [sl] }
    else { r with tripQ := r.tripQ ++ [sl] }
  else if r.staging.length < slugLimit sl then placeSlug r sl now
  else dropSlug r sl
/-- A log unit's program starts as soon as 64 staged slugs wait and the flash is idle; not before stage 8 has
passed, nor on a read-only store (16 R402, R408, R421). -/
def startProgram (r : RecSt) : RecSt :=
  if r.mounted && !r.readOnly && !r.proofHeld && r.inProg = 0 && r.bufProg = 0 && decide (64 ≤ r.staging.length)
  then { r with inProg := 64 } else r

/-- The live copies of a slug: one to each EQ whose class mask selects it, and to the EQ it names (14 R360). -/
def liveCopies (qs : List Queue) (sl : Slug) (eq : Option Nat) (now : Nat) : List Queue :=
  qs.map fun q =>
    if 768 ≤ q.num ∧ q.num < 896 ∧ (bitOf q.cls (clsIdx sl.cls) ∨ eq = some q.num) then qPush q (.slug sl) now else q
/-- Stations 0x01 to 0x0A write no slug of their own in REPRINT (16 R416). -/
def slugSilent (src : Nat) : Bool := s.isSt .reprint && decide (1 ≤ src ∧ src ≤ 0x0A)
/-- TRACE slugs only of the stations that REC_TRACE enables (16 Table 16.9). -/
def traceOff (cls : SlugClass) (src : Nat) : Bool := decide (cls = .trace) && !bitOf (s.parN 0xB002) src

/-- A slug with its SEQ is delivered live and staged (16 R404, R406; 14 R360). -/
def State.putSlug (sl0 : Slug) (eq : Option Nat) : State :=
  let sl := { sl0 with seq := s.store.nextSeq }
  let st := startProgram (stageSlug { s.store with nextSeq := incW 32 s.store.nextSeq } sl s.now)
  { s with host := { s.host with queues := liveCopies s.host.queues sl eq s.now }
           store := st
           svc := if sl.cls = .fault then { s.svc with faultLed := true } else s.svc }
/-- A slug of a station (16 R403, R405); `bytes` are its detail, or the whole body for kinds of chapter 16. -/
def State.slug (src kind : Nat) (cls : SlugClass) (obj : Nat := 0) (after before : Nat := 0)
    (v1 v2 : Int := 0) (rel : Nat := 0) (bytes : List Nat := []) (eq : Option Nat := none)
    (audit : Bool := false) (at_ : Option Nat := none) (live : Bool := false) : State :=
  if (slugSilent s src && !live) || traceOff s cls src then s
  else s.putSlug { seq := 0, cls, audit, reprint := s.isSt .reprint, replay := false, source := src, kind
                   mt := (at_.getD s.now) % 2 ^ 48, epoch := s.epochOf src, obj, after, before, v1, v2
                   rel := rel % 2 ^ 48, bytes } eq
/-- The audit slug (14 R353, 16 R405). -/
def State.audit (sid role fp status op target : Nat) (items : List Nat) : State :=
  s.slug 0 0x0001 .info (audit := true)
    (bytes := le 2 sid ++ [role, status] ++ le 4 fp ++ [op, 0] ++ le 2 target ++ padTo 36 items)

/-- A slug's body (16 R405): bodies of chapter 16 and audit slugs stand in `bytes`. -/
def slugBody (sl : Slug) : List Nat :=
  if sl.kind / 256 = 0x14 ∨ sl.audit then padTo 48 sl.bytes
  else le 2 sl.obj ++ [sl.after, sl.before] ++ leI 4 sl.v1 ++ leI 4 sl.v2 ++ le 6 sl.rel ++ padTo 30 sl.bytes
/-- The 64 bytes of a slug (16 Table 16.3). -/
def slugBytes (sl : Slug) : List Nat :=
  le 4 sl.seq ++ [clsIdx sl.cls + 8 * b2n sl.audit + 16 * b2n sl.reprint + 32 * b2n sl.replay, sl.source] ++
    le 2 sl.kind ++ le 6 sl.mt ++ [sl.epoch, if sl.kind / 256 = 0x14 ∨ sl.audit then min 48 sl.bytes.length
      else if sl.bytes.isEmpty then 18 else min 48 (18 + sl.bytes.length)] ++ slugBody sl

-- The input recorder --------------------------------------------------------------------------------------

/-- The 16-byte lines of a record (16 Table 16.6). -/
def recLines (typ : Nat) : Nat := if [2, 3, 4, 7, 8, 9, 0x0F].contains typ then 2 else 1
def bufLines (b : List InRec) : Nat := (b.map fun r => recLines r.typ).foldl (· + ·) 0
/-- The recorder runs in STANDBY, RUN and UPDATE, with REC_INPUT on and a store that takes programs (16 R410, R421). -/
def State.recording : Bool :=
  (s.isSt .standby || s.isSt .run || s.isSt .update) && decide (s.parN 0xB003 = 1) && s.store.mounted && !s.store.readOnly
/-- One input record, stamped with the MT of delivery; lost while the 4 MiB buffer is full (16 R410, R412). -/
def State.record (typ index : Nat) (pay : List Int) (at_ : Option Nat := none) : State :=
  if s.recording then
    let r : InRec := { typ, index, mt := (at_.getD s.now) % 2 ^ 48, pay }
    if bufLines s.store.buf + recLines typ ≤ 262144 then s.onStore fun t => { t with buf := t.buf ++ [r], recIdx := t.recIdx + 1 }
    else s.onStore fun t => { t with lost := incW 32 t.lost, lostMt := if t.lost = 0 then s.now else t.lostMt }
  else s

end Sys2Proof.Machine
end

