-- ==== Sys2Proof/Machine/Operands.lean ====
section
/-! DEFINITION. Command entries: the catalogue (15 Table 15.2), which argument bytes each command lays out (00 R8),
the lowest role it needs (14 R352), and the completion of a command (14 R362, 15 R378) with its audit (14 R353). -/

namespace Sys2Proof.Machine

/-- Status codes (15 Table 15.1). -/
def sOK : Nat := 0
def sBADOP : Nat := 1
def sBAD : Nat := 2
def sDENIED : Nat := 3
def sBUSY : Nat := 4
def sTRESET : Nat := 5
def sSTALE : Nat := 6
def sTRIP : Nat := 7
def sHOLD : Nat := 8
def sTMO : Nat := 9
def sABORT : Nat := 0x0A
def sFORME : Nat := 0x0B
def sQFULL : Nat := 0x0C
def sNOTST : Nat := 0x0D

/-- Argument bytes of a command entry (14 Table 14.4). -/
def argB (e : CmdEntry) (i : Nat) : Nat := e.args.getD i 0
def argN (e : CmdEntry) (lo k : Nat) : Nat := numAt e.args lo k
def argI (e : CmdEntry) (lo k : Nat) : Int := intAt e.args lo k

/-- A row of the catalogue: lowest role, whether PROOF_HOLD, STANDBY, RUN and REPRINT accept it (15 Table 15.2). -/
structure CmdInfo where
  role : Nat
  h : Bool
  st : Bool
  r : Bool
  x : Bool
  deriving DecidableEq, Repr

def cmdI (role : Nat) (states : Nat) : Option CmdInfo :=
  some { role, h := bitOf states 3, st := bitOf states 2, r := bitOf states 1, x := bitOf states 0 }

/-- The catalogue by opcode; `states` is H S R X as four bits (15 Table 15.2). -/
def catalogue (op : Nat) : Option CmdInfo :=
  match op with
  | 0x01 => cmdI 0 0xF | 0x02 => cmdI 0 0xF | 0x03 => cmdI 0 0xF | 0x10 => cmdI 0 0xF | 0x11 => cmdI 0 0x7
  | 0x18 => cmdI 2 0x7 | 0x19 => cmdI 2 0x7 | 0x1A => cmdI 2 0x7 | 0x1B => cmdI 2 0x6 | 0x1C => cmdI 2 0x7
  | 0x20 => cmdI 2 0x7 | 0x21 => cmdI 0 0x7 | 0x22 => cmdI 1 0x6 | 0x28 => cmdI 0 0x7
  | 0x30 => cmdI 0 0x7 | 0x31 => cmdI 1 0x6 | 0x38 => cmdI 1 0x6 | 0x39 => cmdI 0 0x7 | 0x3A => cmdI 0 0x7
  | 0x40 => cmdI 0 0x7 | 0x41 => cmdI 1 0x6 | 0x48 => cmdI 1 0x6 | 0x49 => cmdI 1 0x6 | 0x4A => cmdI 2 0x7
  | 0x4B => cmdI 0 0x7 | 0x50 => cmdI 0 0x7 | 0x51 => cmdI 1 0x7 | 0x52 => cmdI 1 0x6 | 0x53 => cmdI 2 0x6
  | 0x58 => cmdI 0 0x7 | 0x59 => cmdI 2 0x4 | 0x60 => cmdI 0 0xF | 0x68 => cmdI 1 0x6 | 0x70 => cmdI 0 0x7
  | 0x78 => cmdI 0 0xF | 0x79 => cmdI 1 0x7 | 0x7A => cmdI 2 0x4 | 0x7B => cmdI 2 0x1 | 0x80 => cmdI 0 0xF
  | 0x81 => cmdI 2 0x6 | 0x88 => cmdI 3 0xF | 0x89 => cmdI 2 0x6 | 0x8A => cmdI 2 0xF
  | 0x90 => cmdI 3 0xE | 0x91 => cmdI 3 0xE | 0x92 => cmdI 3 0xE | 0x93 => cmdI 3 0xE
  | _ => none

/-- The number of a station or of a node station (01 R16, R17). -/
def isStation (t : Nat) : Bool := decide (t < 0x16 ∨ (0x20 ≤ t ∧ t ≤ 0x5B))
/-- Does the command's catalogue row admit the target (15 Table 15.2)? -/
def targetOk (op t : Nat) : Bool :=
  let node := decide (0x20 ≤ t ∧ t ≤ 0x5B)
  match op with
  | 0x01 => isStation t
  | 0x20 => t = 2 | 0x21 => t = 2 | 0x22 => t = 2 | 0x28 => t = 1 | 0x30 => t = 4 | 0x31 => t = 4
  | 0x38 => decide (5 ≤ t ∧ t ≤ 8) | 0x39 => decide (5 ≤ t ∧ t ≤ 8) | 0x3A => decide (5 ≤ t ∧ t ≤ 8)
  | 0x40 => t = 9 || node | 0x41 => t = 9 || node
  | 0x48 => t = 0x0A | 0x49 => t = 0x0A | 0x4A => t = 0x0A | 0x4B => t = 0x0A
  | 0x50 => decide (0x0B ≤ t ∧ t ≤ 0x10) | 0x51 => decide (0x0B ≤ t ∧ t ≤ 0x10)
  | 0x52 => decide (0x0B ≤ t ∧ t ≤ 0x10) | 0x53 => decide (0x0B ≤ t ∧ t ≤ 0x10)
  | 0x58 => t = 0x11 | 0x59 => t = 0x11 | 0x60 => t = 0x12 | 0x68 => t = 0x13
  | 0x78 => t = 0x14 | 0x79 => t = 0x14 | 0x7A => t = 0x14 | 0x7B => t = 0x14 | 0x80 => t = 0x15
  | 0x81 => node
  | 0x89 => decide ((1 ≤ t ∧ t ≤ 0x12) ∨ t = 0x14 ∨ t = 0x15)
  | 0x90 => t = 0 || node | 0x91 => t = 0 || node | 0x92 => t = 0 || node | 0x93 => t = 0 || node
  | _ => t = 0

/-- The bits of byte `j` of a slot entry that the entry uses, by its base, its MODE and its action; `a` gives the entry's
bytes (03 Tables 3.1 to 3.4; 00 R8). REPEAT of an EVENT slot, and bases and actions that no table lists, are left to
FORME_CHECK (03 R73, R76). -/
def slotUsed (a : Nat → Nat) (j : Nat) : Nat :=
  let all (b : Bool) : Nat := if b then 0xFF else 0
  let base := a 18
  let act := a 20
  if j < 8 then
    match base with
    | 0 => 0xFF
    | 1 => all (decide (j < if bitOf (a 19) 1 then 4 else 2))
    | 6 => if j = 2 then (match a 0 with | 0 => 0x37 | 1 => 0x03 | 2 => 0 | _ => 0xFF) else all (decide (j < 3))
    | _ => all (decide (6 < base ∨ j < 6))
  else if j < 16 then all (decide (base = 0 ∨ 6 ≤ base ∨ j < if base = 1 then 12 else 14))
  else if j < 22 then (if j = 19 then 0x0F else 0xFF)
  else if j < 24 then all (decide (act = 5 ∨ act = 9 ∨ 0x0A < act))
  else if j < 28 then all (decide (act = 9 ∨ 0x0A < act))
  else 0
/-- The bits of a record's byte that are reserved whatever the rest holds (03 Table 3.1, 05 Table 5.3). -/
def recReserved (kind i : Nat) : Nat :=
  if kind = 0x20 then (if i = 19 then 0xF0 else if 28 ≤ i then 0xFF else 0)
  else if kind = 0x30 then (if i = 1 then 0xF8 else if [6, 7, 11, 14, 15, 22, 23].contains i then 0xFF else 0)
  else 0

/-- The bits of argument byte `i` that the command's layout uses, for its operation; the rest are reserved (00 R8). -/
def usedBits (op : Nat) (a : Nat → Nat) (i : Nat) : Nat :=
  let r (lo hi : Nat) : Bool := decide (lo ≤ i ∧ i ≤ hi)
  let all (b : Bool) : Nat := if b then 0xFF else 0
  let len (lo : Nat) : Nat := a lo + 256 * a (lo + 1)
  match op with
  | 0x02 => all (i = 0)
  | 0x10 => all (r 0 2)
  | 0x11 => all (r 0 1 || r 4 7)
  | 0x18 => all (i = 0)
  | 0x19 =>
    if i < 8 then all (i = 0 || r 2 7)
    else if i < 8 + len 6 ∨ 48 < len 6 then 0xFF - recReserved (a 0) (len 4 + (i - 8)) else 0
  | 0x1B => all (i = 0 || (i = 1 && a 0 = 1) || r 2 7)
  | 0x20 => if r 4 35 then slotUsed (fun j => a (4 + j)) (i - 4) else all (r 0 1)
  | 0x21 => all (r 0 2)
  | 0x22 => if i = 5 then (if a 4 = 2 then 1 else 0) else all (r 0 4 || (r 8 15 && a 4 = 2))
  | 0x28 => if i = 1 then 1 else all (i = 0)
  | 0x30 => all (r 0 1 || (r 2 3 && a 1 ≠ 0) || (r 4 7 && a 1 = 3))
  | 0x31 => all (r 0 1 || (i = 2 && (a 1 = 0 || a 1 = 3)))
  | 0x39 => all (r 0 1)
  | 0x3A => all (r 0 5)
  | 0x40 => all (r 0 1 || (i = 2 && a 0 = 1))
  | 0x41 => all (r 0 1 || (i = 2 && a 1 = 1))
  | 0x48 => if i = 1 then 1 else all (i = 0 || (r 4 7 && a 1 = 1))
  | 0x49 => if i = 1 then 1 else all (i = 0)
  | 0x4A => all (r 0 1 || (r 2 9 && a 1 = 0))
  | 0x4B => all (i = 0 || r 2 7)
  | 0x50 => all (r 0 1 || (r 2 3 && (a 0 = 2 || a 0 = 4)))
  | 0x51 => all (i = 0)
  | 0x52 => all (i = 0)
  | 0x53 => all (i = 0)
  | 0x58 => all (i = 0 || (i = 1 && a 0 ≠ 6) || (r 2 3 && (a 0 = 1 || a 0 = 3)))
  | 0x59 => all (i = 0 || r 2 5)
  | 0x60 => all (i = 0)
  | 0x70 => all (i = 0 || (r 4 15 && a 0 = 1))
  | 0x78 => all (i = 0 || (i = 1 && a 0 = 1) || (r 2 3 && (a 0 = 1 || a 0 = 4)) ||
      (r 4 7 && (a 0 = 1 || a 0 = 2 || a 0 = 4)) || (r 8 11 && a 0 = 1))
  | 0x79 => if i = 0 then 1 else all (r 4 15)
  | 0x7A => if i = 2 then 3 else all (r 0 1 || r 4 19)
  | 0x80 => all (r 0 1 || (i = 2 && a 1 = 1))
  | 0x88 => all (r 0 1)
  | 0x8A => all (r 0 1)
  | 0x90 => all (r 0 5 || (decide (8 ≤ i) && (decide (i < 8 + len 4) || decide (48 < len 4))))
  | 0x92 => if i = 0 then 1 else all (r 8 15 && a 0 = 1)
  | _ => 0
/-- Every reserved bit of the entry is 0: the flags' high bits, byte 7, EXP_EPOCH without EPOCH, the arguments
(14 Table 14.4, 00 R8). -/
def reservedOk (e : CmdEntry) : Bool :=
  decide (e.flags < 16) && e.rsv = 0 && (bitOf e.flags 3 || e.expEpoch = 0) &&
    (List.range 56).all fun i => (argB e i) &&& (usedBits e.op (argB e) i) = argB e i

/-- The lowest role that the command needs, by its operation; none where it cannot be determined
(14 R353; 02 R68, 07 R183, 09 R243, 10 R266, 11 R293, 13 R345, 16 R424, 15 R385). -/
def requiredRole (e : CmdEntry) : Option Nat :=
  (catalogue e.op).bind fun c =>
    match e.op with
    | 0x11 => (paramInfo (argN e 0 2)).bind fun p => if p.role = 0xFF then none else some p.role
    | 0x28 => some (if bitOf (argB e 1) 0 then 1 else 0)
    | 0x40 => some (if argB e 0 = 0 then 1 else 0)
    | 0x50 => some (if argB e 0 ≤ 1 then 0 else if argB e 0 ≤ 3 then 1 else if argB e 0 ≤ 7 then 2 else 0)
    | 0x58 => some (match argB e 0 with | 1 => 1 | 2 => 1 | 5 => 1 | 3 => 2 | 4 => 2 | _ => 0)
    | 0x60 => some (if argB e 0 = 1 then 1 else 0)
    | 0x70 => some (if argB e 0 = 1 ∨ argB e 0 = 2 then 1 else 0)
    | 0x78 => some (if argB e 0 = 4 then 2 else 0)
    | _ => some c.role

/-- Is the command accepted in the unit state; if not, its status (15 R380, 01 R24). -/
def stateStatus (st : UState) (op : Nat) : Option Nat :=
  match catalogue op with
  | none => none
  | some c =>
    match st with
    | .proofHold => if c.h then none else some sHOLD
    | .standby => if c.st then none else some sNOTST
    | .run => if c.r then none else some sNOTST
    | .reprint => if c.x then none else some sNOTST
    | _ => some sNOTST

/-- Commands that wait or run at a station (14 R368): the station's inbox. -/
def State.inboxLen (s : State) (st : Nat) : Nat := (s.host.flights.filter fun x => x.e.target = st).length

/-- The audit of a command: every command of an Engineer or Service session but those an Observer may send, and
every one denied by its role (14 R352, R353, 00 R11). -/
def State.auditCmd (s : State) (fl : Flight) (status : Nat) : State :=
  if status = sDENIED ∨ (2 ≤ fl.role ∧ requiredRole fl.e ≠ some 0) then
    s.audit fl.sid fl.role fl.fp status fl.e.op fl.e.target fl.e.args
  else s

/-- The completion entry of a command (14 R362, 15 R378): result bytes 0 to 18 as given, byte 19 the target's
epoch unless the layout gives all 20. -/
def completionOf (s : State) (fl : Flight) (status : Nat) (res : List Nat) : Completion :=
  { tag := fl.e.tag, status, epoch := s.epochOf fl.e.target, sq := fl.sq
    result := if 20 ≤ res.length then res.take 20 else padTo 19 res ++ [s.epochOf fl.e.target]
    mt := s.now % 2 ^ 48 }
/-- A command completes: its one completion goes to the CQ bound to its SQ, it is in flight no more, and it is
audited. The completion is discarded where the queues are gone (14 R369, R373). -/
def State.complete (s : State) (f status : Nat) (res : List Nat := []) : State :=
  match s.flight? f with
  | none => s
  | some fl =>
    let c := completionOf s fl status res
    let s1 := s.onHost fun h => { h with flights := h.flights.filter fun x => x.f ≠ f }
    let s2 := match s1.queue? fl.sq with
      | some q => s1.onQueue q.cq fun x => qPush x (.comp c (bitOf fl.e.flags 1)) s.now
      | none => s1
    s2.auditCmd fl status

/-- What a command's body answers: a completion, or a flight that a later event completes. -/
inductive Ans where
  | done (s : State) (status : Nat) (res : List Nat)
  | later (s : State)

def Ans.bad (s : State) : Ans := .done s sBAD []
def Ans.err (s : State) (st : Nat) : Ans := .done s st []
def Ans.ok (s : State) (res : List Nat) : Ans := .done s sOK res

/-- A command's execution at its station: the flight must have been started for this opcode; its body runs and
completes it, or leaves it to a later event (log 4). -/
def runCmd (op f : Nat) (body : Flight → State → Ans) (s : State) : State :=
  match s.flight? f with
  | none => s
  | some fl =>
    if fl.started && !fl.deferred && decide (fl.e.op = op) then
      match body fl s with
      | .done s' st res => s'.complete f st res
      | .later s' => s'.onFlight f fun x => { x with deferred := true }
    else s

/-- A HOST input record (16 Table 16.6): session, opcode, ID or address, value, acceptance count, argument bytes. -/
def State.recHost (s : State) (sid op id : Nat) (v : Int) (accN : Nat) (args : List Nat) : State :=
  s.record 7 0 ([(sid : Int), op, id, v, accN] ++ (padTo 8 args).map Int.ofNat)

end Sys2Proof.Machine
end

