-- ==== Sys2Proof/Machine/Imposition.lean ====
section
/-! DEFINITION. Station 0x02, the imposition: slot entries, arming, crossings, windows, EVENT slots, the dispatch
queue and the slot commands (03). -/

namespace Sys2Proof.Machine

-- Base time in REPRINT (16 R413, R416) --------------------------------------------------------------------

/-- The MT that stations 0x01 to 0x0A run on: the recorded one in REPRINT (16 R416). -/
def State.bmt (s : State) : Nat := match s.store.reprint with | some r => r.lastMt | none => s.now
/-- Recorded MT may run up to the next record to deliver; a recorded step of MT has not come before its record. -/
def State.horizon (s : State) : Nat :=
  match s.store.reprint with
  | some r => match r.todo with
    | x :: _ => if x.typ = 0x0B ∧ x.index = 3 then x.mt - (x.pay.getD 0 0).toNat else x.mt
    | [] => r.endMt
  | none => s.now
/-- An instant that a time-driven event of stations 0x01 to 0x0A waits for has come; in REPRINT the recorded MT
runs on to it. -/
def State.reach (s : State) (t : Nat) : Option State :=
  match s.store.reprint with
  | none => if t ≤ s.now then some s else none
  | some r => if t ≤ s.horizon then
      some (s.onStore fun x => { x with reprint := some { r with lastMt := max r.lastMt t } }) else none

/-- A part of the state's work done as of an earlier instant: what it stamps carries that MT (02 R34). In REPRINT the
recorded MT stands for it. -/
def State.asOf (s : State) (t : Nat) (f : State → State) : State :=
  match s.store.reprint with
  | none =>
    let a := f { s with time := { s.time with mt := t } }
    { a with time := { a.time with mt := s.time.mt } }
  | some r =>
    let a := f (s.onStore fun x => { x with reprint := some { r with lastMt := t } })
    a.onStore fun x => { x with reprint := x.reprint.map fun y => { y with lastMt := max y.lastMt r.lastMt } }

/-- The full MT of a 48-bit stamp near this instant (00 R9, 02 R34). -/
def State.fullMt (s : State) (stamp : Nat) : Nat := (s.bmt + diff48 stamp (s.bmt % 2 ^ 48)).toNat

-- Slot entries --------------------------------------------------------------------------------------------

/-- A slot entry (03 Table 3.1). -/
structure SlotEntry where
  target : Nat
  rep : Nat
  count : Nat
  base : Nat
  mode : Nat
  action : Nat
  index : Nat
  argA : Nat
  argB : Nat
  rsv : Nat
  deriving DecidableEq, Repr

def slotOf (b : List Nat) : SlotEntry :=
  { target := numAt b 0 8, rep := numAt b 8 8, count := numAt b 16 2, base := b.getD 18 0, mode := b.getD 19 0
    action := b.getD 20 0, index := b.getD 21 0, argA := numAt b 22 2, argB := numAt b 24 4, rsv := numAt b 28 4 }
def SlotEntry.arm (e : SlotEntry) : Bool := bitOf e.mode 0
def SlotEntry.rel (e : SlotEntry) : Bool := bitOf e.mode 1
def SlotEntry.past (e : SlotEntry) : Bool := bitOf e.mode 2
def SlotEntry.catchup (e : SlotEntry) : Bool := bitOf e.mode 3

/-- The slot's entry in the forme that the imposition runs under (03 R69). -/
def State.slotEntry (s : State) (n : Nat) : SlotEntry := slotOf ((s.formeOf 2).rec_ 0x20 n)
def State.slotLive (s : State) (n : Nat) : SlotLive := spGetD {} s.imp.slots n
def State.setSlot (s : State) (n : Nat) (l : SlotLive) : State :=
  s.onImp fun i => { i with slots := spSet {} i.slots n l }
def State.impEvt (s : State) (bit : Nat) : State := s.onImp fun i => { i with evt := orBit i.evt bit }

-- The mains angle at an instant (02 R59 to R61) -----------------------------------------------------------

/-- The end of the tenth coast cycle, counted from the loss (02 R60). -/
def coastEndMt (t : TimeSt) : Nat := t.coastMt + cdiv (10 * 65536 * 100000000) (max 1 t.freq)
/-- The extended angle of a coasting MA: it runs on at the last locked frequency, in 1/65,536 cycle, and no further than
the last cycle before the tenth coast cycle ends (02 R60). -/
def coastAngle (t : TimeSt) (mt : Nat) : Nat :=
  (t.ext + t.freq * (min mt (coastEndMt t - 1) - t.extMt) / 100000000) % 2 ^ 48
/-- The least and the greatest advance of a steered angle since it was last known: 3 % of frequency either way (02
R61). -/
def steerLo (t : TimeSt) (mt : Nat) : Nat := t.freq * 97 * (mt - t.extMt) / 10000000000
def steerHi (t : TimeSt) (mt : Nat) : Nat := t.freq * 103 * (mt - t.extMt) / 10000000000
/-- The angle that a steered MA has reached, by what its row reports: inside the ±3 % of R61. -/
def steerTo (t : TimeSt) (mt ext : Nat) : Nat :=
  (t.ext + (clamp (steerLo t mt) (steerHi t mt) (diff48 ext t.ext)).toNat) % 2 ^ 48
/-- The angle at this instant: where the coast has it; where the mains have brought a locked or steered PLL since its
last row, a free value (log 11), inside the ±3 % of R61 while it is steered. -/
def State.maNow (s : State) : Nat :=
  let t := s.time
  match t.ma with
  | .coast =>
    if t.steer then
      (t.ext + steerLo t s.bmt + Config.maAdvance s.bmt t.ext t.freq % (steerHi t s.bmt - steerLo t s.bmt + 1)) % 2 ^ 48
    else coastAngle t s.bmt
  | .locked => if s.bmt = t.extMt then t.ext else (t.ext + Config.maAdvance s.bmt t.ext t.freq) % 2 ^ 48
  | _ => t.ext

-- Bases ---------------------------------------------------------------------------------------------------

/-- The value of a crossing base, as far as it is known: MT, the extended angle, P of TW0 to TW3 (03 R70, R71). -/
def State.baseVal (s : State) (b : Nat) : Nat :=
  if b = 0 then s.bmt
  else if b = 1 then (if s.time.ma = .coast ∧ !s.time.steer then coastAngle s.time s.bmt else s.time.ext)
  else (s.wheel (b - 2)).pos
/-- The value of a base at this instant, from which a slot is armed (03 R81). -/
def State.baseNow (s : State) (b : Nat) : Nat := if b = 1 then s.maNow else s.baseVal b
/-- Targets are taken modulo 2^64 on MT and 2^48 on MA and TW (03 R72). -/
def baseMod (b : Nat) : Nat := if b = 0 then 2 ^ 64 else 2 ^ 48
/-- The signed difference of two values of a base (03 Table 3.2). -/
def baseDiff (b x y : Nat) : Int := if b = 0 then diff64 x y else diff48 x y
/-- P is valid in LOCKED, RESYNC and STOPPED (02 R53). -/
def wheelValid (w : WState) : Bool := match w with | .locked => true | .resync => true | .stopped => true | _ => false
/-- The base is valid: MA while it is locked or coasting (03 Table 3.6, 02 R60). -/
def State.baseValid (s : State) (b : Nat) : Bool :=
  if b = 1 then s.time.ma = .locked || s.time.ma = .coast
  else if 2 ≤ b ∧ b ≤ 5 then wheelValid (s.wheel (b - 2)).st else true
/-- The unit's MT is in HOLDOVER; in REPRINT as the recorded unit's was at its last keyframe, since no input record tells
of a change (02 R39, 03 R80; log 84). -/
def State.inHoldover (s : State) : Bool :=
  match s.store.reprint with | some r => r.shown.sync = .holdover | none => s.time.sync = .holdover
/-- The marks that the base's state puts on a firing (03 Table 3.5). -/
def State.baseMarks (s : State) (b : Nat) : Nat :=
  if b = 0 then (if s.inHoldover then 8 else 0)
  else if b = 1 then (if s.time.ma = .coast then 2 else 0)
  else if b ≤ 5 then (if (s.wheel (b - 2)).synth then 4 else 0) else 0

-- Windows (03 R77) ----------------------------------------------------------------------------------------

def State.win (s : State) (b : Nat) : List Nat := s.imp.wins.getD b []
/-- Earlier target first, then the lower slot number (03 R78). -/
def State.winBefore (s : State) (b m n : Nat) : Bool :=
  let d := baseDiff b (s.slotLive m).next (s.slotLive n).next
  decide (d < 0 ∨ (d = 0 ∧ m < n))
def insertBy (lt : Nat → Nat → Bool) (n : Nat) : List Nat → List Nat
  | [] => [n]
  | m :: r => if lt n m then n :: m :: r else m :: insertBy lt n r
def State.winRemove (s : State) (b n : Nat) : State :=
  s.onImp fun i => { i with wins := i.wins.modify b fun w => w.filter (· ≠ n) }
/-- A newly armed target enters its base's window if it ranks among the next 32 (03 R77; DEDUCED, log 10). -/
def State.winInsert (s : State) (b n : Nat) : State :=
  let w := (insertBy (s.winBefore b) n ((s.win b).filter (· ≠ n))).take 32
  s.onImp fun i => { i with wins := i.wins.modify b fun _ => w }

-- Firings -------------------------------------------------------------------------------------------------

/-- Within one base the target goes first, then the lower slot number (03 R78). -/
def firingBefore (b : Nat) (x y : Firing) : Bool :=
  let d := baseDiff b x.target y.target
  decide (d < 0 ∨ (d = 0 ∧ x.slot < y.slot))
/-- The cycle of detection goes first, then the base, then the target and the slot number; EVENT firings stay in token
arrival order (03 R78). -/
def firesFirst (x y : Firing) : Bool :=
  decide (x.mt < y.mt ∨ (x.mt = y.mt ∧ x.base < y.base)) ||
    (decide (x.mt = y.mt ∧ x.base = y.base ∧ x.base < 6) && firingBefore x.base x y)
def queueFiring (x : Firing) : List Firing → List Firing
  | [] => [x]
  | y :: r => if firesFirst x y then x :: y :: r else y :: queueFiring x r
/-- A firing takes its place in the dispatch queue of 256; what the full queue has no room for is held back (03 R78,
R79). -/
def State.pushFiring (s : State) (x : Firing) : State :=
  let late := bitOf x.marks 0
  let s1 := s.onImp fun i =>
    let all := queueFiring x (i.queue ++ i.held)
    let i1 := { i with queue := all.take 256, held := all.drop 256, evt := if 256 < all.length then orBit i.evt 5 else i.evt }
    if late then { i1 with late := incW 32 i1.late, evt := orBit i1.evt 0 } else i1
  if late ∧ s.parN 0x2000 = 2 then s1.slug 2 0x0201 .warn (obj := x.slot) (v1 := 1) (rel := x.mt) else s1
/-- IMP_LATE_SLUG = 1: one slug for a forward step or an overrun, with the number of LATE firings (03 Table 3.7). -/
def State.lateSlug (s : State) (b n : Nat) : State :=
  if n ≠ 0 ∧ s.parN 0x2000 = 1 then s.slug 2 0x0201 .warn (obj := b) (v1 := n) (rel := s.bmt) else s

def mkFiring (n : Nat) (e : SlotEntry) (target mt occ marks : Nat) : Firing :=
  { slot := n, base := e.base, target, mt, occ, marks, action := e.action, index := e.index, argA := e.argA, argB := e.argB }
/-- The live state after `k` firings: counts, marks, COUNT, the next target, DONE (03 R72, R85). -/
def afterFire (e : SlotEntry) (l : SlotLive) (k next marks : Nat) : SlotLive :=
  let done := (e.base ≠ 6 && e.rep = 0) || (e.count ≠ 0 && l.remaining ≤ k)
  { l with st := if done then .done else .armed, next, firings := (l.firings + k) % 2 ^ 32, marks
           late := if bitOf marks 0 then (l.late + k) % 2 ^ 16 else l.late
           remaining := l.remaining - k }

/-- What one armed slot fires when its base stands at `cur`: its firings, and its state afterwards. In a forward
step with CATCHUP all its occurrences collapse into one (03 R85). -/
def State.slotCross (s : State) (b cur n : Nat) (late step : Bool) : List Firing × SlotLive :=
  let e := s.slotEntry n
  let l := s.slotLive n
  let d := (baseDiff b cur l.next).toNat
  let k0 := if e.rep = 0 then 1 else d / e.rep + 1
  let tgt (i : Nat) : Nat := (l.next + i * e.rep) % baseMod b
  let marks := s.baseMarks b + b2n late
  let mtOf (t : Nat) : Nat := if b = 0 ∧ !late then t else s.bmt
  if step && e.catchup && decide (2 ≤ k0) then
    ([mkFiring n e (tgt (k0 - 1)) (mtOf (tgt (k0 - 1))) k0 (marks + 16)], afterFire e l 1 (tgt k0) (marks + 16))
  else
    let k := if e.count = 0 then k0 else min k0 l.remaining
    ((List.range k).map fun i => mkFiring n e (tgt i) (mtOf (tgt i)) 1 marks,
     afterFire e l k (if e.rep = 0 then l.next else tgt k0) marks)
def insertFiring (b : Nat) (x : Firing) : List Firing → List Firing
  | [] => [x]
  | y :: r => if firingBefore b x y then x :: y :: r else y :: insertFiring b x r

/-- The slots that the base has reached fire, in the order of 03 R78 (03 R71, R85). -/
def State.crossSlots (s : State) (b : Nat) (hit : List Nat) (late step : Bool) : State :=
  let cur := s.baseVal b
  let res := hit.map fun n => (n, s.slotCross b cur n late step)
  let fs := (res.flatMap fun r => r.2.1).foldr (insertFiring b) []
  let s1 := res.foldl (fun t r => (t.setSlot r.1 r.2.2).winRemove b r.1) s
  let s2 := res.foldl (fun t r => if r.2.2.st = .armed then t.winInsert b r.1 else t) s1
  let s3 := fs.foldl State.pushFiring s2
  if late then s3.lateSlug b fs.length else s3
/-- The armed slots of a base, in the table's order. -/
def State.armedOn (s : State) (b : Nat) : List Nat :=
  (s.imp.slots.filter fun p => decide (p.2.st = .armed) && (s.slotEntry p.1).base = b).map (·.1)
/-- The base has moved. The targets of its window that it has reached fire; in a forward step every armed target inside
the step does, LATE, whether a window holds it or not (03 R71, R77, R85; 01 R21). -/
def State.crossBase (s : State) (b : Nat) (step : Bool) : State :=
  if s.baseValid b then
    s.crossSlots b ((if step then s.armedOn b else s.win b).filter fun n =>
      decide (0 ≤ baseDiff b (s.baseVal b) (s.slotLive n).next)) step step
  else s

/-- The refill scan has run: armed targets of the base that it passed outside the window fire LATE, and the window
takes the next 32 (03 R77). -/
def State.refill (s : State) (b : Nat) : State :=
  let mine := s.armedOn b
  let missed := mine.filter fun n =>
    !(s.win b).contains n && decide (0 ≤ baseDiff b (s.baseVal b) (s.slotLive n).next)
  let s1 := s.crossSlots b missed true false
  let s2 := if missed.isEmpty then s1
    else s1.onImp fun i => { i with winLate := (i.winLate + missed.length) % 2 ^ 32, evt := orBit i.evt 1 }
  let mine' := mine.filter fun n => (s2.slotLive n).st = .armed
  mine'.foldl (fun t n => t.winInsert b n) s2

-- Arming (03 R81) -----------------------------------------------------------------------------------------

/-- The first value TARGET + n × REPEAT that lies ahead of the base. -/
def firstAhead (b target rep cur : Nat) : Nat :=
  if rep = 0 then target else (target + (((baseDiff b cur target).toNat) / rep + 1) * rep) % baseMod b
/-- An extended angle with the low 16 bits of `a`, ahead of `ext` (03 R70, R86). -/
def nextAngle (ext a : Nat) : Nat := (ext + (if a % 65536 > ext % 65536 then 0 else 65536) + a % 65536 - ext % 65536) % 2 ^ 48
/-- A target not ahead of its base at arming. An absolute one fires once LATE, or is skipped; a REL one, which stands on
its base or beyond the reach of the signed difference, is never judged behind and fires once without a mark (03 R81;
DESIGN CHOICE, log 76). -/
def State.armBehind (s : State) (n : Nat) (e : SlotEntry) (l : SlotLive) (target : Nat) (rel : Bool := false) : State × Bool :=
  let cur := s.baseVal e.base
  let nx := firstAhead e.base target e.rep cur
  if e.past && !rel then
    let s1 := (s.onImp fun i => { i with skip := incW 32 i.skip, evt := orBit i.evt 3 })
    if e.rep = 0 then (s1.setSlot n { l with st := .done, next := target }, false)
    else ((s1.setSlot n { l with st := .armed, next := nx }).winInsert e.base n, false)
  else
    let marks := s.baseMarks e.base + b2n (!rel)
    let l' := afterFire e { l with next := target } 1 nx marks
    let s1 := s.setSlot n l'
    let s2 := if l'.st = .armed then s1.winInsert e.base n else s1
    (s2.pushFiring (mkFiring n e target s.bmt 1 marks), !rel)
/-- A slot is armed, by its entry or with an override of its target; the flag tells of a LATE firing under PAST. An
absolute target that equals the base's value counts as behind it: the base crosses a target only on its way from below
(03 R71, R81; DESIGN CHOICE, log 76). -/
def State.armSlot (s : State) (n : Nat) (ovr : Option (Nat × Bool)) : State × Bool :=
  let e := s.slotEntry n
  let tgt := match ovr with | some (t, _) => t | none => e.target
  let rel := match ovr with | some (_, r) => r | none => e.rel
  let b := e.base
  let l := { s.slotLive n with remaining := e.count, refRun := false }
  let s := if b < 6 then s.winRemove b n else s
  if b = 6 then (s.setSlot n { l with st := .armed, next := tgt }, false)
  else if 6 < b then (s, false)
  else
    let cur := s.baseNow b
    let t := if rel then (cur + tgt) % baseMod b else if b = 1 then nextAngle cur tgt else tgt % baseMod b
    if !s.baseValid b then (s.setSlot n { l with st := .held, next := t }, false)
    else if b ≠ 1 ∧ 0 ≤ baseDiff b cur t then s.armBehind n e l t rel
    else ((s.setSlot n { l with st := .armed, next := t }).winInsert b n, false)
/-- A slot is disarmed; firings already in the dispatch queue stand (03 Table 3.9). -/
def State.disarmSlot (s : State) (n : Nat) : State :=
  let s1 := s.setSlot n { s.slotLive n with st := .disabled }
  if (s.slotEntry n).base < 6 then s1.winRemove (s.slotEntry n).base n else s1

/-- The base becomes invalid: its armed slots are HELD and leave the window (03 R86, R87). -/
def State.holdBase (s : State) (b : Nat) : State :=
  (s.armedOn b).foldl (fun t n => (t.setSlot n { t.slotLive n with st := .held }).winRemove b n) s
/-- The base is valid again: MA slots take the first crossing of their angle, TW slots return to ARMED and their
targets behind P are judged as at arming (03 R86, R87; log 10). -/
def State.unholdBase (s : State) (b : Nat) : State :=
  let mine := (s.imp.slots.filter fun p => decide (p.2.st = .held) && (s.slotEntry p.1).base = b).map (·.1)
  mine.foldl (fun t n =>
    let l := t.slotLive n
    if b = 1 then (t.setSlot n { l with st := .armed, next := nextAngle t.time.ext l.next }).winInsert 1 n
    else if 0 ≤ baseDiff b (t.baseVal b) l.next then (t.armBehind n (t.slotEntry n) l l.next).1
    else (t.setSlot n { l with st := .armed }).winInsert b n) s

/-- Slots that the forme holds as something else than zero. -/
def formeSlots (fm : Forme) : List Nat :=
  (fm.recs.filter fun p => decide (p.1 / 65536 = 0x20)).map fun p => p.1 % 65536
def mergeKeys (a b : List Nat) : List Nat := a ++ b.filter fun x => !a.contains x
/-- The imposition takes a forme: slots whose 32 bytes are the same keep everything, every other slot is armed
afresh if ARM is set, else DISABLED (03 R83). `keep` is the forme it ran under, none to arm every slot (03 R91). -/
def State.applySlots (s : State) (keep : Option Forme) (fm : Forme) : State :=
  let all := mergeKeys (formeSlots fm) (s.imp.slots.map (·.1))
  let all := match keep with | some o => mergeKeys all (formeSlots o) | none => all
  let changed := all.filter fun n => match keep with | some o => o.rec_ 0x20 n ≠ fm.rec_ 0x20 n | none => true
  let s1 := changed.foldl (fun t n => { t with imp := { t.imp with
    slots := spSet {} t.imp.slots n { t.slotLive n with st := .disabled }
    wins := t.imp.wins.map fun w => w.filter (· ≠ n) } }) s
  (changed.foldr (fun x l => insertBy (fun a b => decide (a < b)) x l) []).foldl
    (fun t n => if (slotOf (fm.rec_ 0x20 n)).arm then (t.armSlot n none).1 else t) s1

-- EVENT slots (03 R76) ------------------------------------------------------------------------------------

/-- Does a token match an EVENT target: source 0 mains (phase bits, start or end), 1 DI (rising or not), 2 timer
(03 Table 3.4)? -/
def eventMatch (target src idx phase : Nat) (on : Bool) : Bool :=
  let q := target / 65536 % 256
  target % 256 = src && target / 256 % 256 = idx &&
    (match src with
     | 0 => (3 ≤ idx || q &&& 2 ^ phase ≠ 0) && (if on then bitOf q 4 else bitOf q 5)
     | 1 => if on then bitOf q 0 else bitOf q 1
     | _ => true)
/-- A token fires every armed EVENT slot that it matches, in slot order; the firing carries the token's MT (03 R76, R80). -/
def State.eventToken (s : State) (src idx phase : Nat) (on : Bool) (at_ : Option Nat := none) : State :=
  let mine := (s.imp.slots.filter fun p =>
    decide (p.2.st = .armed) && (s.slotEntry p.1).base = 6 && eventMatch p.2.next src idx phase on).map (·.1)
  mine.foldl (fun t n =>
    let e := t.slotEntry n
    let l := t.slotLive n
    (t.setSlot n (afterFire e l 1 l.next 0)).pushFiring (mkFiring n e l.next (at_.getD t.bmt) 1 0)) s

-- Dispatch (03 R79) ---------------------------------------------------------------------------------------

def accCode (a : Acc) : Nat := match a with | .accepted => 0 | .pended => 1 | .replaced => 2 | .dropped => 3 | .discarded => 4
/-- A station's acceptance code for an action; DROPPED and DISCARDED count as refusals, with one slug for the
first of a run (03 R89, Table 3.7). -/
def State.reportAcc (s : State) (slot : Nat) (a : Acc) : State :=
  let l := s.slotLive slot
  let refused := decide (a = .dropped ∨ a = .discarded)
  let s1 := s.setSlot slot { l with lastAcc := accCode a, refRun := refused
                                    refusals := if refused then incW 16 l.refusals else l.refusals }
  if refused then
    let s2 := s1.onImp fun i => { i with refused := incW 32 i.refused, evt := orBit i.evt 2 }
    if !l.refRun ∧ s.parN 0x2001 = 1 then s2.slug 2 0x0202 .warn (obj := slot) (after := accCode a) else s2
  else s1
/-- The target station of an action (03 Table 3.3). -/
def actionStation (action index : Nat) : Nat :=
  match action with
  | 1 => 5 + index | 2 => 0x0A | 3 => 0x12 | 4 => 0x12 | 5 => 0x12 | 6 => 3 | 7 => 3 | 8 => 4 | 0xA => 0x0A | _ => 0
/-- The slug of an EQ_POST firing (03 R75). -/
def State.eqPost (s : State) (x : Firing) : State :=
  s.slug 2 0x0203 .info (obj := x.slot) (after := x.base) (before := x.marks) (v1 := x.argA) (v2 := sx 32 x.argB)
    (rel := x.mt) (eq := some (768 + x.index)) (at_ := some x.mt)
/-- A trigger joins a loop's inputs, in its place among the values: 0 slot, 1 timer, 2 Y token. It carries its producer, that
station's epoch and its running count (08 R191, R193; 04 R100). -/
def State.trigTok (s : State) (l src mt : Nat) (station : Nat := 2) (index : Nat := 0) (n : Nat := 0) : State :=
  s.onToks fun t => t ++ [{ kind := 9, index, station, epoch := s.epochOf station, code := .ok
                            value := some (s.bmt : Int), stamp := mt, cons := 4, obj := l, role := src, n }]
/-- The next firing of the queue goes to its station's inbox; actions to the DIO station are recorded, and in
REPRINT not delivered (03 R79, R90, Table 3.8). The ledger acknowledges tokens beyond 64 as PENDED (05 R111). -/
def State.dispatch (s : State) : State :=
  match s.imp.queue with
  | [] => s
  | x :: rest =>
    let lat := s.bmt - x.mt
    let s1 := s.onImp fun i =>
      { i with queue := rest ++ i.held.take 1, held := i.held.drop 1, disp := incW 32 i.disp, latMax := max i.latMax lat }
    let st := actionStation x.action x.index
    let dio := decide (3 ≤ x.action ∧ x.action ≤ 5)
    let doact : InRec := { typ := 0x0E, index := x.index, mt := s.bmt % 2 ^ 48
                           pay := [(x.action : Int), x.marks, x.slot, x.argA] }
    if x.action = 0 then s1.reportAcc x.slot .accepted
    else if x.action = 9 then (s1.eqPost x).reportAcc x.slot .accepted
    else if dio && s.isSt .reprint then
      s1.onStore fun t => { t with reprint := t.reprint.map fun r => { r with made := r.made ++ [doact] } }
    else
      let s2 := if dio then s1.record 0x0E x.index doact.pay else s1
      if s2.isResetting st then s2.reportAcc x.slot .discarded
      else if x.action = 2 then (s2.onImp fun i => { i with inbox := i.inbox ++ [x] }).trigTok x.index 0 x.mt
      else if x.action = 8 ∧ 64 ≤ (s2.imp.inbox.filter fun y => y.action = 8).length then
        (s2.onImp fun i => { i with inbox := i.inbox ++ [{ x with pended := true }] }).reportAcc x.slot .pended
      else s2.onImp fun i => { i with inbox := i.inbox ++ [x] }
/-- The first action token of a kind and instance in a station's inbox. -/
def State.takeAction (s : State) (action index : Nat) : Option (Firing × State) :=
  match s.imp.inbox.find? fun x => x.action = action && x.index = index with
  | some x => some (x, s.onImp fun i => { i with inbox := i.inbox.erase x })
  | none => none

-- Meanings ------------------------------------------------------------------------------------------------

/-- MT_SLOT_CROSSING: MT has reached the first targets of its window (03 R71, R78). -/
def execMtSlotCrossing (dt : Nat) (s0 : State) : Out :=
  let s := s0.elapse dt
  match s.win 0 with
  | [] => .next s
  | n :: _ => match s.reach ((s.slotLive n).next) with
    | some s1 => .next (s1.crossBase 0 false)
    | none => .next s
/-- A frequency that the PLL follows (02 R59). -/
def freqOk (f : Nat) : Bool := decide (45 * 65536 ≤ f ∧ f ≤ 66 * 65536)
/-- The extended angle has advanced, and MA slots that it passes fire: while locked to `ext` at the frequency `freq`; while
steered to `ext` inside the bounds of R61; else in coast to where the coast has it (02 R60, R61; 03 R70, R71). -/
def State.maAdvance (s : State) (ext freq : Nat) : State :=
  match s.time.ma with
  | .locked =>
    let s1 := if freqOk freq then s.onTime fun t => { t with freq } else s
    if diff48 ext s.time.ext < 0 then s1
    else (s1.onTime fun t => { t with ext := ext % 2 ^ 48, extMt := s.bmt }).crossBase 1 false
  | .coast =>
    (if s.time.steer then s.onTime fun t => { t with ext := steerTo t s.bmt ext, extMt := s.bmt } else s).crossBase 1 false
  | _ => s
/-- MA_SLOT_CROSSING: the angle has advanced (02 R60, R61; 03 R71). -/
def execMaSlotCrossing (dt ext freq : Nat) (s0 : State) : Out :=
  let s := s0.elapse dt
  if s.isSt .reprint then .next s else .next ((s.record 2 0 [5, ext, freq]).maAdvance ext freq)
/-- WINDOW_REFILL (03 R77). -/
def execWindowRefill (dt b : Nat) (s0 : State) : Out :=
  let s := s0.elapse dt
  if b < 6 ∧ s.baseValid b then .next (s.refill b) else .next s
/-- ACTION_DISPATCH (03 R79, R75). -/
def execActionDispatch (dt : Nat) (s0 : State) : Out := .next ((s0.elapse dt).dispatch)

-- Slot commands (03 R92, Table 3.11) ----------------------------------------------------------------------

/-- A target inside its base's width (03 R70, Table 3.2). -/
def targetFits (base : Nat) (rel : Bool) (target : Nat) : Bool :=
  match base with
  | 0 => true
  | 1 => decide (target < if rel then 2 ^ 32 else 2 ^ 16)
  | 6 => decide (target < 2 ^ 24)
  | _ => decide (base < 6 ∧ target < 2 ^ 48)
/-- Bytes of a target outside the base's width, and the reserved bytes of an entry (03 Tables 3.1, 3.2; 00 R8). -/
def slotReservedOk (e : SlotEntry) : Bool :=
  e.rsv = 0 && decide (e.mode < 16) && targetFits e.base e.rel e.target &&
    decide (e.rep < match e.base with | 0 => 2 ^ 63 | 1 => 2 ^ 32 | 6 => 2 ^ 64 | _ => 2 ^ 47)
/-- Staged into the open forme: a record, or its default, which clears CHECKED (15 R388, R389). -/
def openPutRec (o : OpenForme) (kind idx : Nat) (bytes : List Nat) : OpenForme :=
  let zero := List.replicate (if kind = 0x51 then 384 else 32) 0
  let recs := spSet zero o.forme.recs (kind * 65536 + idx) bytes
  { o with forme := { o.forme with recs := recs }, checked := none }
/-- A write into the open forme: NOT_IN_STATE without one, BUSY while QUOIN has it locked (15 R388, R390). -/
def State.openWrite (s : State) (f : OpenForme → OpenForme) (res : List Nat) : Ans :=
  match s.sup.openF with
  | none => .err s sNOTST
  | some o => if s.sup.quoin.any (·.boundMt.isNone) then .err s sBUSY
    else .ok (s.onSup fun u => { u with openF := some (f o) }) res

def slotWriteBody (fl : Flight) (s : State) : Ans :=
  let n := argN fl.e 0 2
  let b := bytesAt fl.e.args 4 32
  if 4095 < n ∨ !slotReservedOk (slotOf b) then .bad s
  else s.openWrite (fun o => openPutRec o 0x20 n b) (le 2 n)
def slotReadBody (fl : Flight) (s : State) : Ans :=
  let n := argN fl.e 0 2
  let v := argB fl.e 2
  let l := s.slotLive n
  let part (fm : Forme) (k : Nat) : List Nat := bytesAt (fm.rec_ 0x20 n) k 16 ++ le 2 n
  if 4095 < n ∨ 4 < v then .bad s
  else match v with
    | 0 => .ok s (le 8 l.next ++ le 2 l.firings ++ le 2 l.refusals ++ le 2 l.late ++
        [match l.st with | .disabled => 0 | .armed => 1 | .held => 2 | .done => 3, l.marks] ++ le 2 l.remaining ++ [l.lastAcc])
    | 1 => .ok s (part (s.formeOf 2) 0)
    | 2 => .ok s (part (s.formeOf 2) 16)
    | _ => match s.sup.openF with
      | none => .err s sNOTST
      | some o => .ok s (part o.forme (if v = 3 then 0 else 16))
/-- SLOT_ENABLE on one slot: the state, slots changed, slots armed LATE (03 R82). -/
def slotEnableOne (op n : Nat) (ovr : Nat × Bool) (a : State × Nat × Nat) : State × Nat × Nat :=
  let st := (a.1.slotLive n).st
  match op with
  | 0 => if st = .disabled then a else (a.1.disarmSlot n, a.2.1 + 1, a.2.2)
  | 1 => if st = .armed ∨ st = .held then a
    else let r := a.1.armSlot n none; (r.1, a.2.1 + 1, a.2.2 + b2n r.2)
  | _ => let r := a.1.armSlot n (some ovr); (r.1, a.2.1 + 1, a.2.2 + b2n r.2)
def slotEnableBody (fl : Flight) (s : State) : Ans :=
  let n := argN fl.e 0 2
  let cnt := argN fl.e 2 2
  let op := argB fl.e 4
  if cnt = 0 ∨ 4096 < cnt ∨ 4096 < n + cnt ∨ 2 < op ∨ (op = 2 ∧ cnt ≠ 1) then .bad s
  else
    let ovr := (argN fl.e 8 8, bitOf (argB fl.e 5) 0)
    if op = 2 ∧ !targetFits (s.slotEntry n).base ovr.2 ovr.1 then .bad s else
    let r := (List.range cnt).foldl (fun a i => slotEnableOne op (n + i) ovr a) (s, 0, 0)
    .ok (r.1.recHost fl.sid 0x22 n (argN fl.e 8 8) 0 fl.e.args) (le 2 r.2.1 ++ le 2 r.2.2)

/-- SLOT_WRITE stages an entry into the open forme (03 R69). -/
def execSlotWrite (dt f : Nat) (s : State) : Out := .next (runCmd 0x20 f slotWriteBody (s.elapse dt))
/-- SLOT_READ (03 Table 3.11). -/
def execSlotRead (dt f : Nat) (s : State) : Out := .next (runCmd 0x21 f slotReadBody (s.elapse dt))
/-- SLOT_ENABLE arms or disarms slots live (03 R82). -/
def execSlotEnable (dt f : Nat) (s : State) : Out := .next (runCmd 0x22 f slotEnableBody (s.elapse dt))

end Sys2Proof.Machine
end

