-- ==== Sys2Proof/Machine/Tokens.lean ====
section
/-! DEFINITION. Value tokens: a sample, a Pica reading or a zone value goes to every consumer that names its source
(01 R18, Table 1.2; 07 Table 7.5; 05 Table 5.5; 08 Table 8.5), which takes or discards it by its epoch (01 R20). -/

namespace Sys2Proof.Machine

/-- A source as a consumer names it: 0 probe channel, 1 Pica point (64 × port + point of a station), 2 zone. -/
structure Source where
  kind : Nat
  index : Nat
  station : Nat
  deriving DecidableEq, Repr

/-- The source named by a ZN_SRC word (07 Table 7.5). -/
def zoneSrc (w : Nat) : Option Source :=
  match w / 0x10000000 with
  | 1 => some { kind := 0, index := w % 64, station := 5 + w % 64 / 16 }
  | 2 => some { kind := 1, index := w / 256 % 8 * 64 + w % 64, station := w / 65536 % 256 }
  | _ => none
/-- The source named by a ledger source word (05 Table 5.5), by L_IN and by L_FF_SRC (08 Table 8.5). -/
def ldgSrc (w : Nat) : Option Source :=
  match w / 4096 with
  | 1 => some { kind := 0, index := w % 64, station := 5 + w % 64 / 16 }
  | 2 => some { kind := 2, index := w % 64, station := 9 }
  | _ => none
def loopInSrc (w : Nat) : Option Source := ldgSrc w
def loopFfSrc (w : Nat) : Option Source := if w / 4096 = 2 then ldgSrc (4096 + w % 4096) else if w / 4096 = 3 then ldgSrc (8192 + w % 4096) else none

/-- Who takes a token of a source: consumer kind 0 zone, 1 ledger column, 2 loop Y, 3 loop F; object; role. -/
def State.consumers (s : State) (src : Source) : List (Nat × Nat × Nat) :=
  let zones := (List.range 16).flatMap fun z =>
    if s.pZn z 0 = 0 then [] else ((List.range (s.pZn z 1)).filter fun i =>
      zoneSrc (s.pZn z (0x20 + i)) = some src).map fun i => (0, z, i)
  let cols := (List.range 4).flatMap fun c =>
    ((List.range 4).filter fun i => ldgSrc (s.pLdg c (9 + i)) = some src).map fun i => (1, c, i)
  let loops := (List.range 48).flatMap fun l =>
    (if loopInSrc (s.pL l 0x11) = some src then [(2, l, 0)] else []) ++
    (if loopFfSrc (s.pL l 0x12) = some src then [(3, l, 0)] else [])
  zones ++ cols ++ loops
/-- The control engine evaluates in RUN, and in REPRINT while the recorded unit was in RUN (08 R211, 16 R416). -/
def State.evaluating (s : State) : Bool := s.isSt .run || s.store.reprint.any fun r => r.runs
/-- A token goes to each consumer (01 R18). -/
def State.fanOut (s : State) (src : Source) (epoch : Nat) (code : SCode) (value : Option Int) (stamp : Nat) : State :=
  let put (a : State) (c : Nat × Nat × Nat) : State :=
    let a1 := a.onToks fun t => t ++ [{ kind := src.kind, index := src.index, station := src.station, epoch, code
                                        value, stamp, cons := c.1, obj := c.2.1, role := c.2.2 }]
    if c.1 = 2 ∧ a.pL c.2.1 0x18 = 1 ∧ a.pL c.2.1 0x10 = 1 ∧ a.evaluating ∧ epoch = a.epochOf src.station then
      a1.trigTok c.2.1 2 a.bmt src.station src.index else a1
  (s.consumers src).foldl put s
/-- The first token waiting for a consumer; a loop takes Y, F and triggers in one order (08 R191). -/
def State.takeTok (s : State) (cons obj : Nat) : Option (VTok × State) :=
  let mine (t : VTok) : Bool := (t.cons = cons || (cons = 2 && decide (2 < t.cons))) && t.obj = obj
  match s.toks.find? mine with
  | some t => some (t, s.onToks fun l => l.erase t)
  | none => none
/-- A consumer discards a token whose epoch is not the one it holds for the producer (01 R20). -/
def State.freshTok (s : State) (t : VTok) : Bool := t.epoch = s.epochOf t.station

def scode (c : SCode) : Nat := match c with | .ok => 0 | .suspect => 1 | .broken => 2 | .overrange => 3 | .stale => 4
def scodeOf (n : Nat) : SCode := match n with | 0 => .ok | 1 => .suspect | 2 => .broken | 3 => .overrange | _ => .stale

/-- The 16 bytes of a sample (06 Table 6.3). -/
def sampleBytes (x : Sample) : List Nat :=
  [x.ch, scode x.code + 8 * b2n x.aborted + 16 * b2n x.empty + 32 * b2n x.tcomp + 64 * b2n x.avgShort,
   x.marks + 32 * x.src, x.epoch] ++ (match x.value with | some v => leI 4 v | none => le 4 0x80000000) ++
  le 6 x.stamp ++ le 2 x.pass
def sampleOf (b : List Nat) : Sample :=
  let st := b.getD 1 0
  { ch := b.getD 0 0, code := scodeOf (st % 8), aborted := bitOf st 3, empty := bitOf st 4, tcomp := bitOf st 5
    avgShort := bitOf st 6, marks := b.getD 2 0 % 32, src := b.getD 2 0 / 32, epoch := b.getD 3 0
    value := if numAt b 4 4 = 0x80000000 then none else some (intAt b 4 4), stamp := numAt b 8 6, pass := numAt b 14 2 }
/-- The 16 bytes of a Pica reading (07 Table 7.3). -/
def readingBytes (x : Reading) : List Nat :=
  [x.point, scode x.code + 8 * b2n x.rhP + 16 * b2n x.brown, x.port, x.epoch] ++
  (match x.temp with | some v => leI 2 v | none => le 2 0x8000) ++ le 2 (x.rh.getD 0xFFFF) ++ le 6 x.stamp ++ le 2 x.scan
def readingOf (b : List Nat) : Reading :=
  let st := b.getD 1 0
  { point := b.getD 0 0, code := scodeOf (st % 8), rhP := bitOf st 3, brown := bitOf st 4, port := b.getD 2 0 % 8
    epoch := b.getD 3 0, temp := if numAt b 4 2 = 0x8000 then none else some (intAt b 4 2)
    rh := if numAt b 6 2 = 0xFFFF then none else some (numAt b 6 2), stamp := numAt b 8 6, scan := numAt b 14 2 }
/-- A stamp of 48 bits against the present base time: its age in ticks (08 R199, 07 R176). -/
def State.age (s : State) (stamp : Nat) : Int := diff48 (s.bmt % 2 ^ 48) stamp

end Sys2Proof.Machine
end

