-- ==== Sys2Proof/Machine/Probes.lean ====
section
/-! DEFINITION. Stations 0x05 to 0x08, the probe groups: sequencers and triggers, conversions, the lead check,
averaging, samples and streams, and the probe commands (06). -/

namespace Sys2Proof.Machine

def State.chMode (s : State) (ch : Nat) : Nat := s.pCh ch 0
/-- The channel of the list entry that the group converts (06 R146). -/
def State.seqCh (s : State) (g : Nat) : Nat := s.pSq g (0x10 + (s.group g).idx)
/-- Groups convert in STANDBY, RUN and UPDATE (06 R163). -/
def State.converting (s : State) : Bool := s.isSt .standby || s.isSt .run || s.isSt .update
/-- Does the lead check apply (06 R151)? -/
def State.lic (s : State) (ch : Nat) : Bool := decide (s.pCh ch 5 = 1) && [1, 2, 3, 4, 6].contains (s.chMode ch)
/-- A 4-wire RTD, whose pair is the next channel (06 R138). -/
def State.fourWire (s : State) (ch : Nat) : Bool := decide ((s.chMode ch = 1 ∨ s.chMode ch = 2) ∧ s.pCh ch 1 = 4)
/-- A check fails when an apparent resistance, in kΩ, exceeds CH_LIC_R: the channel's own, `b` that of a 4-wire pair's
other terminals (06 R151). -/
def State.leadFails (s : State) (ch a b : Nat) : Bool :=
  s.lic ch && (decide (s.pCh ch 6 * 100 < a) || (s.fourWire ch && decide (s.pCh ch 6 * 100 < b)))
/-- The apparent resistances measured are kept for SAMPLE_READ (06 Table 6.13). -/
def State.seeLeads (s : State) (ch a b : Nat) : State :=
  if !s.lic ch then s.onChan ch fun c => { c with leadR := 0xFFFFFFFF }
  else
    let s1 := s.onChan ch fun c => { c with leadR := min a 0xFFFFFFFE }
    if s.fourWire ch then s1.onChan (ch + 1) fun c => { c with leadR := min b 0xFFFFFFFE } else s1

/-- The integration time of a channel, in 10 ns; in MOIST mode a whole number of excitation periods, which ends on the next
cycle where it is no whole number of them (06 R139, Table 6.2; DESIGN CHOICE, log 80). -/
def State.integration (s : State) (ch : Nat) : Nat :=
  let t := [10000000, 2000000, 1666700, 1000000, 250000, 100000, 40000, 10000].getD (s.pCh ch 2) 0
  let f := s.pCh ch 10
  if s.chMode ch = 6 ∧ f ≠ 0 then cdiv (cdiv (t * f) 100000 * 100000) f else t
def State.settleTime (s : State) (ch : Nat) : Nat := s.pCh ch 3 * 1000
/-- The slot of a list entry: CH_SETTLE, one integration, or two of a 3-wire RTD, and 40 µs (06 R139). -/
def State.slotTime (s : State) (ch : Nat) : Nat :=
  let k := if (s.chMode ch = 1 ∨ s.chMode ch = 2) ∧ s.pCh ch 1 = 3 then 2 else 1
  s.settleTime ch + k * s.integration ch + 4000
/-- The settling window, and the slot, of the entry in progress end at these instants (06 R139). -/
def State.settleEndMt (s : State) (g : Nat) : Nat := (s.group g).slotMt + s.settleTime (s.seqCh g)
def State.slotEndMt (s : State) (g : Nat) : Nat := (s.group g).slotMt + s.slotTime (s.seqCh g)

/-- A sample to the streams bound to its group: every decimation-th of each masked channel; an entry that finds the ring full
is not written (06 R164, 14 R363). -/
def streamSample (s : State) (g : Nat) (x : Sample) : State :=
  let i := x.ch % 16
  let hit (t : Stream) : Bool := t.group = g && bitOf t.mask i
  let due (t : Stream) : Bool := hit t && (t.cnts.getD i 0 + 1) % t.decim = 0
  let room (t : Stream) : Bool := (s.queue? t.xq).any fun q => decide (q.ring.length + 1 < q.depth)
  let s1 := (s.probe.streams.filter due).foldl (fun a t => a.stream t.xq (sampleBytes x) (5 + g) 0 x.epoch) s
  let upd (t : Stream) : Stream :=
    if hit t then { t with cnts := t.cnts.modify i fun c => (c + 1) % t.decim, written := t.written + b2n (due t && room t) } else t
  s1.onProbe fun p => { p with streams := p.streams.map upd }
/-- The slugs of a break and of its end (06 R152). -/
def breakSlug (s : State) (g ch : Nat) (old new : SCode) : State :=
  if new = .broken ∧ old ≠ .broken then s.slug (5 + g) 0x0501 .fault (obj := ch) (after := scode new) (before := scode old)
  else if old = .broken ∧ new ≠ .broken then s.slug (5 + g) 0x0502 .info (obj := ch) (after := scode new) (before := scode old)
  else s
/-- A sample leaves its group: it becomes the channel's last sample and goes to the recorder, the streams and
every consumer (06 R143, R164; 01 Table 1.2; 16 R410). -/
def State.deliver (s : State) (g : Nat) (x : Sample) : State :=
  let old := (s.chan x.ch).last.code
  let s1 := s.onChan x.ch fun c =>
   { c with
    last := x, lastMt := s.bmt
    okVal := if x.code = .ok then x.value.map fun v => (v, x.stamp) else c.okVal
    nSusp := if x.code = .suspect then incW 16 c.nSusp else c.nSusp
    nBrok := if x.code = .broken then incW 16 c.nBrok else c.nBrok }
  let s2 := breakSlug s1 g x.ch old x.code
  let s3 := s2.record 3 g ((sampleBytes x).map Int.ofNat)
  let s4 := streamSample s3 g x
  s4.fanOut { kind := 0, index := x.ch, station := 5 + g } x.epoch x.code x.value x.stamp

/-- A sample of the running pass (06 Table 6.3). -/
def State.mkSample (s : State) (g ch : Nat) (code : SCode) (value : Option Int) (stamp : Nat) : Sample :=
  { ch, code, value, marks := (s.group g).marks, src := (s.group g).src, epoch := s.epochOf (5 + g)
    stamp := stamp % 2 ^ 48, pass := (s.group g).pass }

-- Conversion (06 R137, R141, R142, R144, R153, R154, R500) ------------------------------------------------

/-- A status, a value, and the flags EMPTY and TCOMP. -/
structure Conv where
  code : SCode
  value : Option Int
  empty : Bool := false
  tcomp : Bool := false

/-- The highest temperature in 0.01 °C, from -200 °C up to 850 °C in steps that halve, whose resistance less half a unit a
platinum sensor of `r0` Ω has reached at `q`, in 0.01 Ω: the Callendar-Van Dusen temperature, rounded (06 R137, R144; 00
R497; log 6). -/
def cvdSeek (r0 : Nat) (q : Int) : Nat → Int → Int
  | 0, lo => lo
  | k + 1, lo =>
    let t := lo + 2 ^ k
    cvdSeek r0 q k (if t ≤ 85000 ∧ r0 * 100 * cvd16 (2 * t - 1) ≤ q * (16 * 10 ^ 23) then t else lo)
def rtdTemp (r0 : Nat) (q : Int) : Int := cvdSeek r0 q 17 (-20000)
/-- 2^96 times the natural logarithm of (1 + z) / (1 - z), with `z` in 2^-96 and at most 1/3. -/
def lnSeries (z : Int) : Int :=
  let z2 := z * z / 2 ^ 96
  2 * ((List.range 34).foldl (fun (a : Int × Int) k => (a.1 + a.2 / (2 * k + 1 : Nat), a.2 * z2 / 2 ^ 96)) (0, z)).1
/-- 2^96 times the natural logarithm of a / b. -/
def lnFix (a b : Nat) : Int :=
  let i := a.log2
  let j := b.log2
  let x := if j ≤ i then a else a * 2 ^ (j - i)
  let y := if j ≤ i then b * 2 ^ (i - j) else b
  lnSeries (((x : Int) - y) * 2 ^ 96 / (x + y)) + ((i : Int) - j) * lnSeries (2 ^ 96 / 3)
/-- The beta-model temperature in 0.01 °C of a positive resistance in 0.01 Ω, by R25 in Ω and beta: 298.15 K at R25, the
logarithm to 2^-88. A resistance so low that the model has no temperature stands at the high end (06 R137, R144; DEDUCED,
log 6). -/
def ntcTemp (r25 beta r : Nat) : Int :=
  let d := (beta : Int) * 100 * 2 ^ 96 + 29815 * lnFix r (100 * r25)
  if d ≤ 0 then 0x7FFFFFFF else sat32 (rdiv (29815 * (beta : Int) * 100 * 2 ^ 96) d - 27315)

def rangeConv (lo hi v : Int) : Conv := { code := if lo ≤ v ∧ v ≤ hi then .ok else .overrange, value := some (sat32 v) }
/-- The compensation temperature: the last OK sample of MST_TSRC no older than its CH_STALE_T (06 R142). -/
def State.compTemp (s : State) (ch : Nat) : Option Int :=
  let t := s.pCh ch 12
  if t = 0xFF then none
  else match (s.chan t).okVal with
    | some (v, st) => if s.age st ≤ s.pCh t 13 * 10000000 then some v else none
    | none => none
/-- Moisture of a capacitance by the channel's grain table (06 R141). -/
def State.moist (s : State) (ch : Nat) (c : Int) : Conv :=
  let tb := 0x4800 + 0x40 * s.pCh ch 11
  let fm := s.formeOf (5 + ch / 16)
  let n := fm.parN tb
  let gc (i : Nat) : Int := fm.par (tb + 0x10 + i)
  let gm (i : Nat) : Int := fm.par (tb + 0x20 + i)
  if c < fm.par (tb + 3) then { code := .overrange, value := none, empty := true }
  else match (List.range (n - 1)).find? fun i => decide (gc i ≤ c ∧ c ≤ gc (i + 1)) with
    | none => { code := .overrange, value := none }
    | some i =>
      let mTab := gm i + rdiv ((gm (i + 1) - gm i) * (c - gc i)) (gc (i + 1) - gc i)
      let t := s.compTemp ch
      let m := mTab - rdiv (fm.par (tb + 2) * (t.getD (fm.par (tb + 1)) - fm.par (tb + 1))) 1000
      { code := if m < 0 ∨ 10000 < m then .overrange else if t.isNone then .suspect else .ok
        value := some (sat32 m), tcomp := t.isNone }
/-- The measured quantity after CH_LEAD_R, which 2-wire resistive conversions subtract (06 R500). -/
def State.leadComp (s : State) (ch : Nat) (q : Int) : Int :=
  let m := s.chMode ch
  if m = 3 ∨ ((m = 1 ∨ m = 2) ∧ s.pCh ch 1 = 2) then q - s.pCh ch 7 else q
/-- What a quantity converts to by the channel's mode, before overload and the post-check (06 Table 6.1). -/
def State.convert (s : State) (ch : Nat) (q : Int) : Conv :=
  let r := s.leadComp ch q
  match s.chMode ch with
  | 1 => rangeConv (-5000) 40000 (rtdTemp 100 r)
  | 2 => rangeConv (-5000) 40000 (rtdTemp 1000 r)
  | 3 => if r ≤ 0 then { code := .overrange, value := some 0x7FFFFFFF }
         else rangeConv (-4000) 15000 (ntcTemp (s.pCh ch 8) (s.pCh ch 9) r.toNat)
  | 4 => rangeConv (-12500000) 12500000 q
  | 5 => if q < 5000 then { code := .broken, value := none }
         else { code := if q ≤ 36000 ∨ 210000 < q then .overrange else .ok, value := some (sat32 q) }
  | 6 => s.moist ch q
  | _ => { code := .stale, value := none }
/-- Overload and the post-check: either makes a sample SUSPECT, but an overload whose checks passed is OVERRANGE
(06 R153). -/
def checked (lic overload postFail : Bool) (c : Conv) : Conv :=
  if c.code = .broken then c
  else if postFail && lic then { c with code := .suspect }
  else if overload then { c with code := if lic then .overrange else .suspect }
  else c

def clearBlk (c : Chan) : Chan := { c with blkN := 0, blkOk := 0, blkSum := 0, blkOver := false, blkEmpty := false }
/-- The end of an averaging block of `n` conversions; the stamp is that of the integration's end (06 R140, R145). -/
def State.endBlock (s : State) (g ch n mt : Nat) : State :=
  let c := s.chan ch
  let s1 := s.onChan ch clearBlk
  if cdiv n 2 ≤ c.blkOk then
    let mean := rdiv c.blkSum c.blkOk
    let r : Conv := if s.chMode ch = 6 then s.moist ch mean else { code := .ok, value := some mean }
    s1.deliver g { s1.mkSample g ch r.code (if r.code = .ok then r.value else none) mt with
      empty := r.empty, tcomp := r.tcomp, avgShort := decide (c.blkOk < n) }
  else s1.deliver g { s1.mkSample g ch (if c.blkOver then .overrange else .suspect) none mt with
    empty := c.blkOver && c.blkEmpty }
/-- One conversion, whose integration ended at `mt`, ends its slot: a sample of its own, or one more of its averaging block
(06 R144, R145). -/
def State.converted (s : State) (g ch : Nat) (q : Int) (overload postFail : Bool) (mt : Nat) : State :=
  let n := s.pCh ch 4
  let c := checked (s.lic ch) overload postFail (s.convert ch q)
  if c.code = .broken then
    (s.onChan ch clearBlk).deliver g (s.mkSample g ch .broken none mt)
  else if n ≤ 1 then
    s.deliver g { s.mkSample g ch c.code c.value mt with empty := c.empty, tcomp := c.tcomp }
  else
    let ok := if s.chMode ch = 6 then c.value.isSome && !overload && !(postFail && s.lic ch) else decide (c.code = .ok)
    let s1 := s.onChan ch fun x => { x with
      blkN := x.blkN + 1, blkOk := x.blkOk + b2n ok
      blkSum := x.blkSum + (if ok then (if s.chMode ch = 6 then q else c.value.getD 0) else 0)
      blkOver := x.blkOver || (!ok && decide (c.code = .overrange)), blkEmpty := x.blkEmpty || (!ok && c.empty) }
    if (s1.chan ch).blkN < n then s1 else s1.endBlock g ch n mt

-- Sequencers (06 R146 to R150) ----------------------------------------------------------------------------

/-- A pass starts, its first slot at `mt` (06 R146). -/
def State.startPass (s : State) (g src marks mt : Nat) : State :=
  s.onGroup g fun x => { x with phase := .settling, slotMt := mt, idx := 0, preFail := false, pass := incW 16 x.pass, src, marks }
/-- The sequencer is idle, its last pass over at `mt`: a pended trigger runs on the next cycle, or a free-running sequencer's
next pass (06 R147, R149). -/
def State.endPass (s : State) (g mt : Nat) : State :=
  match (s.group g).pended with
  | some (src, marks) => (s.onGroup g fun x => { x with pended := none }).startPass g src marks (mt + 1)
  | none =>
    if s.pSq g 1 = 1 ∧ s.pSq g 3 ≠ 0 ∧ s.converting then s.startPass g 3 0 (mt + 1)
    else s.onGroup g fun x => { x with phase := .idle, idx := 0, preFail := false }
/-- A pass is aborted: the conversion in progress delivers a SUSPECT sample with ABORTED and no value (06 R148). -/
def State.abortPass (s : State) (g : Nat) : State :=
  if (s.group g).phase = .idle then s
  else
    let s1 := s.onGroup g fun x => { x with restart := incW 32 x.restart }
    let s2 := if (s.group g).preFail then s1
      else s1.deliver g { s1.mkSample g (s.seqCh g) .suspect none s.now with aborted := true }
    s2.onGroup g fun x => { x with phase := .idle, idx := 0, preFail := false }
def State.overrun (s : State) (g : Nat) : State := s.onGroup g fun x => { x with overrun := incW 32 x.overrun }
/-- A trigger reaches a sequencer: discarded by a station in reset, accepted, or handled by SQ_POLICY (06 R146, R147, R150,
R161, R163). -/
def State.trigger (s : State) (g src marks : Nat) : Acc × State :=
  let x := s.group g
  if s.isResetting (5 + g) then (.discarded, s)
  else if s.isSt .reprint then (.accepted, s)
  else if s.pSq g 3 = 0 ∨ !s.converting then (.dropped, s.overrun g)
  else if x.phase = .idle then (.accepted, s.startPass g src marks s.now)
  else match s.pSq g 0 with
    | 0 => if x.pended.isNone then (.pended, s.onGroup g fun y => { y with pended := some (src, marks) })
           else (.dropped, s.overrun g)
    | 1 => (.replaced, ((s.abortPass g).onGroup g fun y => { y with pended := none }).startPass g src marks s.now)
    | _ => (.dropped, s.overrun g)

/-- SEQ_TRIG: the imposition's trigger reaches the sequencer (06 R147; 03 Table 3.3). -/
def execSeqTrig (dt g : Nat) (s0 : State) : Out :=
  let s := s0.elapse dt
  match s.takeAction 1 g with
  | none => .next s
  | some (x, s1) =>
    let r := s1.trigger g 0 x.marks
    .next (r.2.reportAcc x.slot r.1)
/-- SETTLE_END: the settling window of the entry in progress has run; the pre-check measured the apparent resistances `a`
and, of a 4-wire pair's other channel, `b`, in kΩ. A failure sends BROKEN, stamped with the window's end (06 R139, R140,
R151, R152). -/
def execSettleEnd (dt g a b : Nat) (s0 : State) : Out :=
  let s := s0.elapse dt
  if (s.group g).phase ≠ .settling ∨ !s.converting ∨ s.now < s.settleEndMt g then .next s
  else
    let ch := s.seqCh g
    let fail := s.leadFails ch a b
    let s1 := s.onGroup g fun x => { x with phase := .integrating, preFail := fail }
    let s2 := (s1.seeLeads ch a b).onChan ch fun c => { c with preF := fail, broken := if s.lic ch then fail else c.broken }
    .next (if fail then (s2.onChan ch clearBlk).deliver g (s2.mkSample g ch .broken none (s.settleEndMt g)) else s2)
/-- CONVERSION_SLOT_END: the slot of the entry in progress has run; its conversion is judged and delivered, and the next
entry or pass begins (06 R139, R140, R146). -/
def execConversionSlotEnd (dt g : Nat) (m : Meas) (s0 : State) : Out :=
  let s := s0.elapse dt
  if (s.group g).phase ≠ .integrating ∨ !s.converting ∨ s.now < s.slotEndMt g then .next s
  else
    let ch := s.seqCh g
    let mt := s.slotEndMt g
    let post := s.leadFails ch m.leadA m.leadB
    let s1 := if (s.group g).preFail then s else
      ((s.seeLeads ch m.leadA m.leadB).onChan ch fun c => { c with
        raw := m.raw % 2 ^ 24, ovl := m.overload, postF := post, q := uw 32 m.q
        cond := if s.chMode ch = 6 then m.cond % 65536 else c.cond }).converted g ch m.q m.overload post (mt - 4000)
    if (s1.group g).idx + 1 < s1.pSq g 3 then
      .next (s1.onGroup g fun x => { x with phase := .settling, slotMt := mt, idx := x.idx + 1, preFail := false })
    else .next (s1.endPass g mt)
/-- CHANNEL_STALE: no sample for CH_STALE_T, so a STALE sample goes out; of every channel that is not OFF (06 R150, R160). -/
def execChannelStale (dt ch : Nat) (s0 : State) : Out :=
  let s := s0.elapse dt
  if 64 ≤ ch ∨ s.chMode ch = 0 ∨ !s.converting ∨ s.isResetting (5 + ch / 16) ∨
      s.now < (s.chan ch).lastMt + s.pCh ch 13 * 10000000 then .next s
  else .next (s.deliver (ch / 16) { s.mkSample (ch / 16) ch .stale none s.now with marks := 0, src := 0 })

-- Commands (06 R164, Table 6.13) --------------------------------------------------------------------------

def seqTriggerBody (fl : Flight) (s : State) : Ans :=
  let g := fl.e.target - 5
  if s.pSq g 3 = 0 then .err s sNOTST
  else if s.pSq g 1 = 1 then .err s sBUSY
  else
    let r := s.trigger g 1 0
    let x := r.2.group g
    .ok r.2 ([accCode r.1, 0] ++ le 2 (if r.1 = .pended then incW 16 x.pass else x.pass) ++ le 2 x.overrun ++ le 2 x.restart)
def sampleReadBody (fl : Flight) (s : State) : Ans :=
  let ch := argB fl.e 0
  let v := argB fl.e 1
  let c := s.chan ch
  if ch / 16 + 5 ≠ fl.e.target ∨ 1 < v then .bad s
  else if v = 0 then .ok s (sampleBytes { c.last with ch })
  else .ok s (le 3 c.raw ++ [b2n c.ovl + 2 * b2n c.preF + 4 * b2n c.postF] ++ le 4 c.leadR ++ le 4 c.q ++ le 2 c.cond ++
    le 2 c.nSusp ++ le 2 c.nBrok)
/-- A session's XQ; none where it does not exist, or another owns it (14 R360). -/
def State.ownXq (s : State) (sid xq : Nat) : Option Queue :=
  if 896 ≤ xq ∧ xq ≤ 1023 then (s.queue? xq).filter fun q => q.owner = sid && !q.orphan else none
def streamOpenBody (fl : Flight) (s : State) : Ans :=
  let g := fl.e.target - 5
  let xq := argN fl.e 0 2
  let mask := argN fl.e 2 2
  let dec := argB fl.e 4
  let op := argB fl.e 5
  let mine := s.probe.streams.find? fun t => t.xq = xq && t.group = g
  let n := (mine.map (·.written)).getD 0
  match s.ownXq fl.sid xq with
  | none => .bad s
  | some q =>
    if 1 < op ∨ (op = 0 ∧ dec = 0) then .bad s
    else if q.bound && mine.isNone then .err s sBUSY
    else
      let rest := s.probe.streams.filter fun t => t.xq ≠ xq
      if op = 1 then
        .ok ((s.onProbe fun p => { p with streams := rest }).onQueue xq fun x => { x with bound := false })
          (le 2 xq ++ le 2 0 ++ le 4 n)
      else
        let new : Stream := { xq, group := g, mask, decim := dec, cnts := List.replicate 16 0, written := n }
        .ok ((s.onProbe fun p => { p with streams := rest ++ [new] }).onQueue xq fun x => { x with bound := true })
          (le 2 xq ++ le 2 mask ++ le 4 n)

/-- SEQ_TRIGGER (06 R147, R149, R150). -/
def execSeqTrigger (dt f : Nat) (s : State) : Out := .next (runCmd 0x38 f seqTriggerBody (s.elapse dt))
/-- SAMPLE_READ (06 R164, R160). -/
def execSampleRead (dt f : Nat) (s : State) : Out := .next (runCmd 0x39 f sampleReadBody (s.elapse dt))
/-- STREAM_OPEN binds an XQ to the group's samples, or ends that (06 R164, 14 R360). -/
def execStreamOpen (dt f : Nat) (s : State) : Out := .next (runCmd 0x3A f streamOpenBody (s.elapse dt))

/-- The parameters of a channel, or of its grain table, differ between two formes. -/
def chanChanged (old new : Forme) (ch : Nat) : Bool :=
  let differ (base len : Nat) : Bool := (List.range len).any fun i => (paramInfo (base + i)).isSome && old.par (base + i) ≠ new.par (base + i)
  differ (0x4000 + 0x10 * ch) 0x10 || (new.parN (0x4000 + 0x10 * ch) = 6 && differ (0x4800 + 0x40 * new.parN (0x400B + 0x10 * ch)) 0x40)
/-- The list of a group's sequencer in a forme. -/
def seqList (fm : Forme) (g : Nat) : List Nat :=
  (List.range (fm.parN (0x4403 + 0x40 * g))).map fun i => fm.parN (0x4410 + 0x40 * g + i)
/-- At its turn in the QUOIN order a group whose list or whose channels' settings change ends its pass, and a pended
trigger runs on the new forme; the averaging blocks of changed channels start again (06 R162). `s` already runs
under the new forme. -/
def State.groupChange (s : State) (g : Nat) (old : Forme) : State :=
  let new := s.formeOf (5 + g)
  let ends := seqList old g ≠ seqList new g ∨
    (seqList old g).any fun ch => chanChanged old new ch || (old.parN (0x4001 + 0x10 * ch) = 4 && chanChanged old new (ch + 1))
  let s0 := s.onProbe fun p =>
    { p with chans := p.chans.mapIdx fun n c => if n / 16 = g && chanChanged old new n then clearBlk c else c }
  let s1 := if (s.group g).phase = .idle ∨ !ends then s0 else
    let a := s0.onGroup g fun x => { x with restart := incW 32 x.restart }
    let a := if (s.group g).preFail then a
      else a.deliver g { a.mkSample g (old.parN (0x4410 + 0x40 * g + (s.group g).idx)) .suspect none s.now with aborted := true }
    a.onGroup g fun x => { x with phase := .idle, idx := 0, preFail := false }
  if s1.pSq g 3 = 0 then s1.onGroup g fun x => { x with pended := none }
  else if (s1.group g).phase = .idle then s1.endPass g (s.now - 1)
  else s1

end Sys2Proof.Machine
end

