-- ==== Sys2Proof/Machine/Timers.lean ====
section
/-! DEFINITION. Station 0x03, the timers TM0 to TM31: sources, modes, expiries, chains, the 32.768 kHz clock (04). -/

namespace Sys2Proof.Machine

/-- TM_CFG (04 Table 4.3). -/
structure TmCfg where
  mode : Nat
  src : Nat
  idx : Nat
  edge : Nat
  auto : Bool
  rstSrc : Nat
  rstIdx : Nat
  rstEdge : Nat
  presc : Nat
  deriving DecidableEq, Repr

def tmCfgOf (w : Nat) : TmCfg :=
  { mode := fld w 0 2, src := fld w 2 2, idx := fld w 4 5, edge := fld w 9 2, auto := bitOf w 11, rstSrc := fld w 12 2
    rstIdx := fld w 14 5, rstEdge := fld w 19 2, presc := fld w 24 8 }
/-- TM_CFG and TM_RELOAD of a timer in a forme (04 R102, 20 R483). -/
def Forme.tmCfg (fm : Forme) (n : Nat) : Nat := spGetD 0 fm.ws (0x0500 + 4 * n)
def Forme.tmReload (fm : Forme) (n : Nat) : Nat := spGetD 0 fm.ws (0x0501 + 4 * n)
/-- TM_CFG and TM_RELOAD in force; timers hold reset values in PROOF and PROOF_HOLD (04 R108). -/
def State.tmWord (s : State) (n : Nat) : Nat := if s.inProof then 0 else (s.formeOf 3).tmCfg n
def State.tmCfg (s : State) (n : Nat) : TmCfg := tmCfgOf (s.tmWord n)
def State.tmReload (s : State) (n : Nat) : Nat := if s.inProof then 0 else (s.formeOf 3).tmReload n

/-- A start: the count is loaded and the prescaler cleared; a timer whose TM_RELOAD is 0 stays STOPPED, except in
COUNT (04 R96, R104). -/
def startTm (c : TmCfg) (reload mt : Nat) (t : Timer) : Timer :=
  if reload = 0 ∧ c.mode ≠ 2 then t
  else { t with st := .running, cnt := if c.mode = 2 then 0 else reload, anchor := mt, pres := 0, due := [] }

/-- The MT at which a running SRC 0 timer next expires or matches: exact, from its anchor. The value kept at the switch
of the clock is this one, with the prescaler's own phase in it (04 R96, R105; DESIGN CHOICE, log 77). -/
def tmExpiry (c : TmCfg) (reload : Nat) (t : Timer) : Option Nat :=
  if t.st ≠ .running ∨ c.src ≠ 0 then none
  else if c.mode = 2 then
    if reload = 0 then none
    else
      let d := (reload + (2 ^ 32 - t.cnt)) % 2 ^ 32
      some (t.anchor + (if d = 0 then 2 ^ 32 else d) * (c.presc + 1))
  else some (t.anchor + t.cnt * (c.presc + 1))
/-- The first 32.768 kHz tick at or after an instant; ticks of 390,625/128 of 10 ns count from the switch (04 R105). -/
def lfTick (lfMt t : Nat) : Nat :=
  if t ≤ lfMt then t else lfMt + cdiv (cdiv ((t - lfMt) * 128) 390625 * 390625) 128
/-- The MT at which the timer signals it. -/
def tmSignalMt (c : TmCfg) (reload : Nat) (t : Timer) : Option Nat :=
  (tmExpiry c reload t).map fun e => if t.lf then lfTick t.lfMt e else e
/-- LF of TM_STAT (04 R105, R106). -/
def tmLfBit (c : TmCfg) (t : Timer) : Bool := t.lf && c.src = 0
/-- The count that stands at `mt`: while LF is set the remaining count rounded up; a COUNT timer, which has no remaining
count, reads what it has counted (04 R96, R106; DESIGN CHOICE, log 77). -/
def tmCount (c : TmCfg) (t : Timer) (mt : Nat) : Nat :=
  if t.st = .running ∧ c.src = 0 then
    let k := (mt - t.anchor) / (c.presc + 1)
    if c.mode = 2 then (t.cnt + k) % 2 ^ 32
    else if t.lf then cdiv (t.anchor + t.cnt * (c.presc + 1) - mt) (c.presc + 1)
    else t.cnt - k
  else t.cnt
/-- A COUNT timer on SRC 0 has wrapped by `mt`, since the last clear of OVF (04 Table 4.2). -/
def tmWrapped (c : TmCfg) (t : Timer) (mt : Nat) : Bool :=
  decide (t.st = .running ∧ c.src = 0 ∧ c.mode = 2 ∧
    (t.cnt + (t.ovfMt - t.anchor) / (c.presc + 1)) / 2 ^ 32 < (t.cnt + (mt - t.anchor) / (c.presc + 1)) / 2 ^ 32)
/-- The count and OVF of a SRC 0 timer brought up to `mt`. -/
def tmSync (c : TmCfg) (mt : Nat) (t : Timer) : Timer :=
  if t.st = .running ∧ c.src = 0 ∧ c.mode = 2 then
    let k := (mt - t.anchor) / (c.presc + 1)
    { t with ovf := t.ovf || tmWrapped c t mt, cnt := (t.cnt + k) % 2 ^ 32, anchor := t.anchor + k * (c.presc + 1) }
  else t

/-- Units of its source reach a timer: the new count, and how many expiries or matches they make. A step past 0
gives PERIODIC and WATCH one expiry for each period completed and leaves the remainder to count; a step that ends on
0 exactly leaves a WATCH timer EXPIRED; a ONESHOT makes one expiry (04 R95, R101, Table 4.2; DEDUCED, log 77). -/
def tmUnits (c : TmCfg) (reload k : Nat) (t : Timer) : Timer × Nat :=
  match c.mode with
  | 2 =>
    let d := (reload + (2 ^ 32 - t.cnt)) % 2 ^ 32
    ({ t with cnt := (t.cnt + k) % 2 ^ 32, ovf := t.ovf || decide (2 ^ 32 ≤ t.cnt + k) },
     if reload ≠ 0 ∧ d ≠ 0 ∧ d ≤ k then 1 else 0)
  | 0 => if k < t.cnt then ({ t with cnt := t.cnt - k }, 0) else ({ t with cnt := 0, st := .expired }, 1)
  | 1 => if k < t.cnt then ({ t with cnt := t.cnt - k }, 0)
         else ({ t with cnt := reload - (k - t.cnt) % reload }, (k - t.cnt) / reload + 1)
  | _ => if k < t.cnt then ({ t with cnt := t.cnt - k }, 0)
         else if (k - t.cnt) % reload = 0 then ({ t with cnt := 0, st := .expired }, (k - t.cnt) / reload + 1)
         else ({ t with cnt := reload - (k - t.cnt) % reload }, (k - t.cnt) / reload + 1)
/-- `k` units at `mt` reach a timer; a timer that does not run counts none, and units of the start cycle are not counted (04
R96). Its expiries are due on consecutive cycles (04 R101). -/
def tmTake (c : TmCfg) (reload k mt : Nat) (t : Timer) : Timer :=
  if t.st = .running ∧ t.anchor < mt ∧ 0 < k then
    let r := tmUnits c reload k t
    { r.1 with due := r.1.due ++ (List.range r.2).map (mt + ·) }
  else t
/-- The timer as it stands at `mt`: a chained unit whose cycle has come is counted (04 R98). -/
def tmAt (c : TmCfg) (reload mt : Nat) (t : Timer) : Timer :=
  match t.unit_ with
  | some u => if u ≤ mt then tmTake c reload 1 u { t with unit_ := none } else t
  | none => t
def State.tmNow (s : State) (n : Nat) : Timer := tmAt (s.tmCfg n) (s.tmReload n) s.bmt (s.timer n)
def State.tmSettle (s : State) (n : Nat) : State := s.onTimer n (tmAt (s.tmCfg n) (s.tmReload n) s.bmt)
def State.tmCountUnits (s : State) (n k mt : Nat) : State := s.onTimer n (tmTake (s.tmCfg n) (s.tmReload n) k mt)

/-- A start at this instant. It clears the unit that an event of this same cycle, which the restart undoes, would have
given the timers chained to it (04 R96, Table 4.6). -/
def State.tmStart (s : State) (n : Nat) : State :=
  let s1 := (s.tmSettle n).onTimer n (startTm (s.tmCfg n) (s.tmReload n) s.bmt)
  (List.range 32).foldl (fun a m =>
    let c := a.tmCfg m
    if c.src = 3 ∧ c.idx = n ∧ (a.timer m).unit_ = some (a.bmt + 1) then a.onTimer m fun t => { t with unit_ := none }
    else a) s1

/-- One expiry or match: EXP, EXP_CNT and the token, with the timer's number, station epoch, MT and count, to EVENT slots,
loops, sequencers and, one cycle later, chained timers (04 R98, R100; 08 R193; 06 R146). -/
def State.tmSignal (s : State) (n mt : Nat) : State :=
  let s1 := s.onTimer n fun t => { t with exp := true, expCnt := incW 8 t.expCnt }
  let s2 := s1.eventToken 2 n 0 true (some mt)
  let loops := (List.range 48).filter fun l => decide (s2.live (0x6010 + 0x40 * l) = 1 ∧ s2.pL l 0x17 = n)
  let s3 := if s2.evaluating then loops.foldl (fun a l => a.trigTok l 1 mt 3 n (a.timer n).expCnt) s2 else s2
  let s4 := (List.range 4).foldl (fun a g => if a.pSq g 2 = n then (a.trigger g 2 0).2 else a) s3
  (List.range 32).foldl (fun a m =>
    let c := a.tmCfg m
    if n < m ∧ c.src = 3 ∧ c.idx = n then (a.tmSettle m).onTimer m fun t => { t with unit_ := some (mt + 1) } else a) s4
/-- The expiry of a SRC 0 timer changes its count and state; what follows is exact (04 R95, R105). -/
def State.tmExpire (s : State) (n e : Nat) : State :=
  let c := s.tmCfg n
  s.onTimer n fun t => match c.mode with
    | 1 => { t with anchor := e, cnt := s.tmReload n }
    | 2 => { tmSync c e t with st := t.st }
    | _ => { t with st := .expired, cnt := 0, anchor := e }
/-- A timer's next expiry or match is signalled if it has come. -/
def State.tmFire (s0 : State) (n : Nat) : State :=
  let s := s0.tmSettle n
  let t := s.timer n
  match t.due with
  | d :: rest => match s.reach d with
    | some s1 => (s1.onTimer n fun x => { x with due := rest }).tmSignal n d
    | none => s
  | [] => match tmExpiry (s.tmCfg n) (s.tmReload n) t, tmSignalMt (s.tmCfg n) (s.tmReload n) t with
    | some e, some m => match s.reach m with
      | some s1 => (s1.tmExpire n e).tmSignal n m
      | none => s
    | _, _ => s
/-- A stop at `mt` freezes the count and the prescaler (04 R96). -/
def tmHalt (c : TmCfg) (reload mt : Nat) (t0 : Timer) : Timer :=
  let t := tmAt c reload mt t0
  if t.st = .running then
    { t with st := .stopped, cnt := tmCount c t mt, ovf := t.ovf || tmWrapped c t mt
             pres := if c.src = 0 then (mt - t.anchor) % (c.presc + 1) else 0 }
  else { t with st := .stopped }
/-- A stop; an expiry signalled on that cycle comes first (04 R96, Table 4.6). -/
def State.tmStop (s : State) (n : Nat) : State :=
  let s1 := match tmSignalMt (s.tmCfg n) (s.tmReload n) (s.tmNow n) with
    | some m => if m ≤ s.bmt then s.tmFire n else s
    | none => s
  s1.onTimer n (tmHalt (s1.tmCfg n) (s1.tmReload n) s1.bmt)

/-- Whole teeth that P crosses reach the timers of that wheel (04 Table 4.1, R101). -/
def State.tmTeeth (s : State) (w old new : Nat) : State :=
  let k := (new / 256 + (2 ^ 40 - old / 256)) % 2 ^ 40
  if k = 0 then s else (List.range 32).foldl (fun a n =>
    let c := a.tmCfg n
    if c.src = 1 ∧ c.idx = w then a.tmCountUnits n k a.bmt else a) s
/-- A restart event of WATCH timers reloads them and runs them again (04 R97). -/
def State.tmRestart (s : State) (src idx : Nat) (rising : Bool) : State :=
  (List.range 32).foldl (fun a n =>
    let c := a.tmCfg n
    if c.mode = 3 ∧ c.rstSrc = src ∧ c.rstIdx = idx ∧ (src = 1 ∨ c.rstEdge = 2 ∨ c.rstEdge = (if rising then 0 else 1)) ∧
        (a.timer n).st ≠ .stopped then a.tmStart n else a) s
/-- A filtered DI transition reaches timers and WATCH timers (04 Table 4.1, R97). -/
def State.tmDi (s : State) (di : Nat) (rising : Bool) : State :=
  let s1 := (List.range 32).foldl (fun a n =>
    let c := a.tmCfg n
    if c.src = 2 ∧ c.idx = di ∧ (c.edge = 2 ∨ c.edge = (if rising then 0 else 1)) then a.tmCountUnits n 1 a.bmt else a) s
  s1.tmRestart 2 di rising

/-- The timers take a forme: unchanged ones keep state and count, every other is stopped, and started with AUTOSTART
(04 R102). `keep` is the forme before, none to take them all. -/
def State.applyTimers (s : State) (keep : Option Forme) (fm : Forme) : State :=
  let old := keep.getD fm
  let same (n : Nat) : Bool :=
    keep.isSome && decide (old.tmCfg n = fm.tmCfg n ∧ old.tmReload n = fm.tmReload n)
  let take (n : Nat) (t : Timer) : Timer :=
    let h := { tmHalt (tmCfgOf (old.tmCfg n)) (old.tmReload n) s.bmt t with due := [], unit_ := none }
    if (tmCfgOf (fm.tmCfg n)).auto then startTm (tmCfgOf (fm.tmCfg n)) (fm.tmReload n) s.bmt h else h
  (List.range 32).foldl (fun a n => if same n then a else a.onTimer n (take n)) s
/-- The switch of the clock of SRC 0 timers to 32.768 kHz and back (04 R105). -/
def State.tmLf (s : State) (on : Bool) : State :=
  { s with timers := s.timers.map fun t => if t.lf = on then t else { t with lf := on, lfMt := s.bmt } }
/-- A STATION_RESET stops every timer and clears EXP, OVF and EXP_CNT (04 R109). -/
def State.tmReset (s : State) : State :=
  (List.range 32).foldl (fun a n => a.onTimer n fun t =>
    { tmHalt (a.tmCfg n) (a.tmReload n) a.bmt t with due := [], unit_ := none, exp := false, ovf := false, expCnt := 0 }) s
/-- A write of TM_STAT clears what it holds as 1; a wrap that came before counts no more (04 Table 4.4). -/
def State.tmClear (s : State) (n : Nat) (exp ovf : Bool) : State :=
  s.onTimer n fun t => { t with exp := t.exp && !exp, ovf := t.ovf && !ovf, ovfMt := if ovf then s.bmt else t.ovfMt }

/-- A GSTART or GSTOP mask: every masked timer on one cycle (04 R99). -/
def State.gstart (s : State) (mask : Nat) : State :=
  (List.range 32).foldl (fun a n => if bitOf mask n then a.tmStart n else a) s
def State.gstop (s : State) (mask : Nat) : State :=
  (List.range 32).foldl (fun a n => if bitOf mask n then a.tmStop n else a) s

/-- TIMER_START action: accepted always (04 R96, R104; 03 Table 3.8). -/
def execTimerStart (dt n : Nat) (s0 : State) : Out :=
  let s := s0.elapse dt
  match s.takeAction 6 n with
  | none => .next s
  | some (x, s1) => .next ((s1.tmStart n).reportAcc x.slot .accepted)
/-- TIMER_STOP action (04 R96). -/
def execTimerStop (dt n : Nat) (s0 : State) : Out :=
  let s := s0.elapse dt
  match s.takeAction 7 n with
  | none => .next s
  | some (x, s1) => .next ((s1.tmStop n).reportAcc x.slot .accepted)
/-- TIMER_EXPIRY: a down-counting timer has reached 0 (04 R95, R100). -/
def execTimerExpiry (dt n : Nat) (s0 : State) : Out :=
  let s := s0.elapse dt
  .next (if (s.tmCfg n).mode = 2 then s else s.tmFire n)
/-- TIMER_MATCH: a COUNT timer equals its TM_RELOAD (04 R95, R100). -/
def execTimerMatch (dt n : Nat) (s0 : State) : Out :=
  let s := s0.elapse dt
  .next (if (s.tmCfg n).mode = 2 then s.tmFire n else s)

end Sys2Proof.Machine
end

