-- ==== Sys2Proof/Machine/TimeBases.lean ====
section
/-! DEFINITION. Station 0x01, the time bases: the tooth wheels TW0 to TW3, mains angle and mains events (02). -/

namespace Sys2Proof.Machine

-- Tooth wheels --------------------------------------------------------------------------------------------

/-- The estimate E of a wheel, modulo 2^48 (02 R40, R57). -/
def wheelE (x : Wheel) : Nat := uw 48 (x.count + x.interp)
/-- P becomes the greater of P and E; HOLD while P is greater (02 R40). -/
def wheelP (x : Wheel) : Wheel :=
  let d := diff48 (wheelE x) x.pos
  { x with pos := if 0 < d then wheelE x else x.pos, hold := decide (d < 0) }
def wEvt (x : Wheel) (b : Nat) : Wheel := { x with evt := orBit x.evt b }
/-- After an update of E: P follows, the teeth it crosses reach the timers, and slots fire; LATE in a forward step
(02 R40, R50, R54). -/
def State.follow (s : State) (w : Nat) (step : Bool) : State :=
  let old := (s.wheel w).pos
  let s1 := s.onWheel w wheelP
  (s1.tmTeeth w old (s1.wheel w).pos).crossBase (2 + w) step

/-- Tp after a real accepted or absorbed edge: `iv` ticks over `m` pitches (02 R42). -/
def tpUpdate (tp : Nat) (iv m k : Nat) : Nat := ((tp : Int) + rdiv ((iv : Int) - tp * m) (m * 2 ^ k)).toNat
/-- The counted pitch index lies in the gap zone (02 R49). -/
def inZone (pitches gap tol pitch : Nat) : Bool :=
  decide (0 < gap ∧ (pitches ≤ pitch + gap + tol ∨ pitch ≤ tol))
/-- `n` pitches are counted at an edge or a synthesis. -/
def countPitches (pitches n : Nat) (x : Wheel) : Wheel :=
  { x with count := x.count + 256 * n, interp := 0, pitch := (x.pitch + n) % pitches, sinceRef := x.sinceRef + n }
/-- A real edge re-anchors everything that runs from real edges (02 R41, R44, R55). -/
def realEdge (t : Nat) (x : Wheel) : Wheel :=
  { x with anchor := t, tReal := t, sinceReal := 0, tLast := t, synth := false, synthRow := 0, absorb := false }

def wslug (s : State) (w kind : Nat) (v1 : Int) : State := s.slug 1 kind .warn (obj := w) (v1 := v1)

/-- The parameters that act between edges: those of the forme, or after a QUOIN until the next edge those before it:
0 TW_WIN_HI, 1 TW_SYNTH_MAX, 2 TW_GAP_TOL, 3 TW_STOP_T (02 R63). -/
def State.wheelPars (s : State) (w : Nat) : List Nat := [7, 9, 0x0B, 0x0D].map (s.pTw w)
def State.wheelPar (s : State) (w i : Nat) : Nat := ((s.wheel w).kept.getD (s.wheelPars w)).getD i 0

/-- The zone has passed without a gap signature: GAP_MISS, and RESYNC at the second in a row; the revolution counts
as one for the next check (02 R51; log 12). -/
def State.gapMissed (s : State) (w : Nat) : State :=
  s.onWheel w fun x =>
    let x1 := { x with gapMiss := incW 8 x.gapMiss, missRun := x.missRun + 1, sinceRef := x.sinceRef - s.pTw w 4
                       evt := orBit x.evt 6 }
    if 2 ≤ x1.missRun then
      { x1 with st := .resync, resyncRun := 0, missRun := 0, evt := if x.st = .resync then x1.evt else orBit x1.evt 2 }
    else x1
/-- A pitch has been counted without a revolution check; where it left the gap zone behind since the reference edge, the
revolution passed without a gap signature (02 R49, R51). -/
def State.zoneLeft (s : State) (w : Nat) : State :=
  let x := s.wheel w
  let tol := s.pTw w 11
  if 0 < s.pTw w 5 ∧ x.pitch = tol + 1 ∧ tol + 1 < x.sinceRef then s.gapMissed w else s

/-- The edge is counted as the TW_NOISE_N-th rejection: a pitch, a new Tp, RESYNC (02 R48). -/
def State.twResync (s : State) (w t prevRej : Nat) : State :=
  let s1 := s.onWheel w fun x => { (realEdge t (countPitches (s.pTw w 4) 1 x)) with
    tBound := t, tp := t - prevRej, rejRun := 0, resyncRun := 0, st := .resync, evt := orBit x.evt 2 }
  ((wslug s1 w 0x0103 0).follow w false).zoneLeft w
/-- An edge earlier than TW_WIN_LO × Tp after t_bound: noise (02 R44, R48). -/
def State.twReject (s : State) (w t : Nat) : State :=
  let prev := (s.wheel w).tRej
  let s1 := s.onWheel w fun x => { x with
    noiseRej := incW 16 x.noiseRej, rejRun := x.rejRun + 1, tRej := t, resyncRun := 0, absorb := false
    evt := orBit x.evt 1 }
  if s.pTw w 10 ≤ (s1.wheel w).rejRun then s1.twResync w t prev else s1
/-- An absorbed edge re-anchors the interpolation and updates Tp over the pitches since the last real edge (02 R46). -/
def State.twAbsorb (s : State) (w t : Nat) : State :=
  (s.onWheel w fun x => { (realEdge t x) with
    interp := 0, tp := tpUpdate x.tp (t - x.tReal) (max 1 x.sinceReal) (s.pTw w 12) }).follow w false

/-- d of the revolution check, wrapped in RESYNC into the half-open range of half a revolution (02 R50). -/
def gapError (pitches since : Nat) (resync : Bool) : Int :=
  let d : Int := (pitches : Int) - since
  if resync then
    let r := d % pitches
    if 2 * r ≤ pitches then r else r - pitches
  else d
/-- The revolution check at a gap signature (02 R50). -/
def State.gapCheck (s : State) (w : Nat) : State :=
  let x := s.wheel w
  let d := gapError (s.pTw w 4) x.sinceRef (x.st = .resync)
  let s1 := s.onWheel w fun y => { y with pitch := 0, sinceRef := 0, missRun := 0, st := .locked }
  if d = 0 then s1
  else
    let s2 := s1.onWheel w fun y => { y with
      corr := incW 16 y.corr, count := y.count + 256 * d, evt := orBit y.evt (if d < 0 then 3 else 4) }
    (wslug s2 w (if d < 0 then 0x0104 else 0x0105) d).follow w (decide (0 < d))
/-- An accepted edge (02 R42, R44, R49 to R52, R65). In RESYNC a gap signature outside the zone counts TW_GAP + 1 pitches
too, since it is processed as one inside (DESIGN CHOICE, log 74); OVERSPEED is judged at each accepted edge of LOCKED
and RESYNC, by the interval since the last real edge, and stands as it was in between (DESIGN CHOICE, log 75). -/
def State.twAccept (s : State) (w t : Nat) : State :=
  let x := s.wheel w
  let pitches := s.pTw w 4
  let gap := s.pTw w 5
  let tol := s.pTw w 11
  let sig := decide (0 < gap ∧ (2 * gap + 1) * x.tp ≤ 2 * (t - x.tBound))
  let zone := inZone pitches gap tol x.pitch
  let chk := sig && (zone || x.st = .resync)
  let n := if chk then gap + 1 else 1
  let fast := decide (t - x.tReal < 5000 ∧ 0 < x.tReal)
  let s1 := s.onWheel w fun y =>
    let y1 := realEdge t (countPitches pitches n y)
    { y1 with
      tBound := t, rejRun := 0, resyncRun := y.resyncRun + 1, overSpd := fast
      tp := tpUpdate y.tp (t - y.tReal) (y.sinceReal + n) (s.pTw w 12)
      gapUnexp := if sig && !chk then incW 8 y.gapUnexp else y.gapUnexp
      evt := let e := if sig && !chk then orBit y.evt 5 else y.evt
             if fast then orBit e 7 else e }
  let s2 := s1.follow w false
  if chk then s2.gapCheck w
  else if x.st = .resync ∧ gap = 0 ∧ 8 ≤ (s2.wheel w).resyncRun then s2.onWheel w fun y => { y with st := .locked }
  else s2.zoneLeft w

/-- Leaving ACQUIRE: E takes the pitches counted, and the step fires the slots inside it LATE (02 R54; 03 R87). -/
def State.twLock (s : State) (w t : Nat) (extra : Nat) : State :=
  let p0 := (s.wheel w).pos
  let s1 := (s.onWheel w fun x => { x with st := .locked, tBound := t, rejRun := 0, synthRow := 0, absorb := false
                                           resyncRun := 0, missRun := 0, restart := 0, sinceRef := 0 }).unholdBase (2 + w)
  (s1.onWheel w fun x => { x with count := (p0 : Int) + 256 * (x.acq + extra), interp := 0, acq := 0
                                  pitch := if extra = 0 then x.pitch else 0 }).follow w true
/-- A filtered edge in ACQUIRE counts one pitch; a gap wheel leaves at the first gap signature after at least 4
edges, a gapless one after 4 edges each within the window of the interval before (02 Table 2.2; log 12). -/
def State.twAcquire (s : State) (w t : Nat) : State :=
  let x := s.wheel w
  let gap := s.pTw w 5
  let iv := t - x.tReal
  let first := decide (x.acq = 0)
  let sig := decide (0 < gap ∧ 4 ≤ x.acq ∧ 0 < x.tp ∧ (2 * gap + 1) * x.tp ≤ 2 * iv)
  let inWin := decide (x.lastIv = 0) || decide (s.pTw w 6 * x.lastIv ≤ 1000 * iv ∧ 1000 * iv ≤ s.pTw w 7 * x.lastIv)
  let run := if first then 1 else if inWin then x.resyncRun + 1 else 1
  let s1 := s.onWheel w fun y => { (realEdge t y) with
    acq := y.acq + 1, tBound := t, resyncRun := run, pitch := (y.pitch + 1) % s.pTw w 4
    lastIv := if first then 0 else iv
    tp := if first then y.tp else if y.acq = 1 then iv else tpUpdate y.tp iv (if sig then gap + 1 else 1) (s.pTw w 12) }
  if sig then s1.twLock w t gap
  else if gap = 0 ∧ 4 ≤ run then s1.twLock w t 0
  else s1
/-- The first two edges after STOPPED: a pitch without interpolation, then Tp without filtering (02 R55). A wheel that
returns to RESYNC starts its run of 8 edges at 0 with the first of them, and counts the second (02 R52; DESIGN CHOICE,
log 74). -/
def State.twRestart (s : State) (w t : Nat) : State :=
  let x := s.wheel w
  let pitches := s.pTw w 4
  if x.st = .stopped then
    (s.onWheel w fun y => { (realEdge t (countPitches pitches 1 y)) with
      tBound := t, rejRun := 0, resyncRun := 0, restart := 1, st := if y.fromLocked then .locked else .resync }).follow w false
      |>.zoneLeft w
  else
    (s.onWheel w fun y => { (realEdge t (countPitches pitches 1 y)) with
      tBound := t, rejRun := 0, resyncRun := y.resyncRun + 1, restart := 0, tp := t - y.tReal }).follow w false
      |>.zoneLeft w

/-- One filtered edge of an enabled wheel (02 R44 to R55, R58); real edges that count or are absorbed restart the
WATCH timers of the wheel (04 R97). -/
def State.toothOp (s0 : State) (w : Nat) : State :=
  let s := s0.onWheel w fun x => { x with edges := incW 32 x.edges, kept := none }
  let x := s.wheel w
  let t := s.bmt
  match x.st with
  | .off => s0
  | .acquire => (s.twAcquire w t).tmRestart 1 w true
  | .stopped => (s.twRestart w t).tmRestart 1 w true
  | _ =>
    if x.restart = 1 then (s.twRestart w t).tmRestart 1 w true
    else if x.absorb && decide (1000 * (t - x.tSynth) ≤ s.pTw w 8 * x.tp) then (s.twAbsorb w t).tmRestart 1 w true
    else if 1000 * (t - x.tBound) < s.pTw w 6 * x.tp then
      let s1 := s.twReject w t
      if (s1.wheel w).rejRun = 0 then s1.tmRestart 1 w true else s1
    else (s.twAccept w t).tmRestart 1 w true

/-- TOOTH_EDGE: a filtered edge on the sensor of a wheel; live edges are ignored in REPRINT (02 R44, R67). -/
def execToothEdge (dt w : Nat) (s0 : State) : Out :=
  let s := s0.elapse dt
  if s.isSt .reprint ∨ (s.wheel w).st = .off ∨ 4 ≤ w then .next s
  else .next ((s.record 1 w [((s.wheel w).edges + 1 : Nat)]).toothOp w)
/-- One tooth is synthesized at the instant `t` (02 R45). -/
def State.synthOp (s : State) (w t : Nat) : State :=
  (s.onWheel w fun y => { (countPitches (s.pTw w 4) 1 y) with
    tBound := y.tBound + y.tp, anchor := t, tSynth := t, absorb := true, synth := true, synthRow := y.synthRow + 1
    synthCnt := incW 16 y.synthCnt, sinceReal := y.sinceReal + 1, evt := orBit y.evt 0 }).follow w false
/-- TOOTH_SYNTH: no edge by TW_WIN_HI × Tp after t_bound, outside the gap zone (02 R45, R47, R49). An edge of the cycle
on which the bound expires has arrived by it, so the row has its effect once that cycle is over, and as of that cycle. -/
def execToothSynth (dt w : Nat) (s0 : State) : Out :=
  let s := s0.elapse dt
  let x := s.wheel w
  let due := x.tBound + cdiv (s.wheelPar w 0 * x.tp) 1000
  if (x.st = .locked ∨ x.st = .resync) ∧ x.restart = 0 ∧ x.synthRow < s.wheelPar w 1 ∧ 0 < x.tp ∧
      !inZone (s.pTw w 4) (s.pTw w 5) (s.wheelPar w 2) x.pitch then
    match s.reach (due + 1) with
    | none => .next s
    | some s1 => .next (s1.asOf due fun a => a.synthOp w due)
  else .next s
/-- TW_INTERP_ADVANCE: the interpolation has increased (02 R41). -/
def execTwInterpAdvance (dt w : Nat) (s0 : State) : Out :=
  let s := s0.elapse dt
  let x := s.wheel w
  let next := x.anchor + cdiv ((x.interp + 1) * x.tp) 256
  if (x.st = .locked ∨ x.st = .resync) ∧ x.restart = 0 ∧ 0 < x.tp ∧ x.interp < 255 then
    match s.reach next with
    | none => .next s
    | some s1 =>
      let i := min 255 (256 * (s1.bmt - x.anchor) / x.tp)
      .next ((s1.onWheel w fun y => { y with interp := i }).follow w false)
  else .next s
/-- TW_STOP_TIMEOUT: no edge accepted or absorbed for TW_STOP_T; synthesized teeth are withdrawn (02 R55). -/
def execTwStopTimeout (dt w : Nat) (s0 : State) : Out :=
  let s := s0.elapse dt
  let x := s.wheel w
  if x.st = .locked ∨ x.st = .resync then
    match s.reach (x.tLast + s.wheelPar w 3 * 10000000) with
    | none => .next s
    | some s1 =>
      let p := s1.pTw w 4
      .next ((s1.onWheel w fun y => { y with
        st := .stopped, fromLocked := decide (y.st = .locked), count := y.count - 256 * y.sinceReal, interp := 255
        sinceRef := y.sinceRef - y.sinceReal, pitch := (y.pitch + p * 8 - y.sinceReal) % p, sinceReal := 0
        absorb := false, synthRow := 0, synth := false, rejRun := 0, restart := 0, evt := orBit y.evt 8 }).follow w false)
  else .next s

/-- A wheel enters ACQUIRE with P retained, or OFF when it is not enabled (02 Table 2.2, R54, R63, R66). -/
def State.wheelAcquire (s : State) (w : Nat) : State :=
  let en := decide (s.pTw w 0 = 1)
  (s.holdBase (2 + w)).onWheel w fun x => { x with
    st := if en then .acquire else .off, acq := 0, resyncRun := 0, lastIv := 0, tp := 0, absorb := false, synth := false
    synthRow := 0, rejRun := 0, restart := 0, hold := false, pitch := 0, sinceReal := 0, kept := none }

-- Mains angle and mains events (02 R59 to R62) ------------------------------------------------------------

/-- The rms against which thresholds are taken: Udin, in 0.1 V (02 R62). -/
def State.udin (s : State) : Nat :=
  let u := s.parN 0x1003
  if s.parN 0x1001 = 0 then u else (isqrt (4 * u * u / 3) + 1) / 2
/-- The phase under which the reference's events stand: the first, L1–N or L1–L2. With 4-wire sensing and MA_REF = 1 no
measured phase is L1–L2 itself, and L1 stands for it (02 R62, Table 2.4; DESIGN CHOICE, log 75). -/
def refPhase : Nat := 0
/-- The reference is lost with the angle at `ext`: MA coasts for 10 cycles at the last locked frequency; a steered coast
goes on as a coast from there (02 R60). -/
def State.maLost (s0 : State) (ext freq : Nat) : State :=
  let s := s0.maAdvance ext freq
  match s.time.ma with
  | .locked => s.onTime fun t => { t with
      ma := .coast, extMt := s.bmt, coastLeft := 10, coastMt := s.bmt, steer := false, maEvt := orBit t.maEvt 5 }
  | .acquire => s.onTime fun t => { t with ma := .invalid }
  | .coast => s.onTime fun t => { t with steer := false }
  | _ => s
/-- A reference that returns after invalidation is acquired; in coast the angle rate is steered to it from where the coast
has the angle, still coasting (02 R61). -/
def State.maReturn (s : State) : State :=
  match s.time.ma with
  | .invalid => s.onTime fun t => { t with ma := .acquire }
  | .coast => if s.time.steer then s else s.onTime fun t => { t with ext := coastAngle t s.bmt, extMt := s.bmt, steer := true }
  | _ => s
/-- Lock: five consecutive cycles within 91 units, from 45.0 to 66.0 Hz and above the phase-loss threshold. A reference
re-acquired in coast has been steered to, and locks where the steering has brought the angle (02 R59, R61; 03 R86). -/
def State.maLockOp (s : State) (errs : List Nat) (ext freq : Nat) : State :=
  if errs.length = 5 ∧ errs.all (· < 91) ∧ freqOk freq ∧ !bitOf (s.time.active.getD 2 0) refPhase then
    match s.time.ma with
    | .acquire =>
      let e := if 0 ≤ diff48 ext s.time.ext then ext % 2 ^ 48 else nextAngle s.time.ext ext
      (s.onTime fun t => { t with ma := .locked, ext := e, extMt := s.bmt, freq, coastLeft := 0, steer := false }).unholdBase 1
    | .coast =>
      if s.time.steer then
        (s.onTime fun t => { t with
          ma := .locked, ext := steerTo t s.bmt ext, extMt := s.bmt, freq, coastLeft := 0, steer := false }).crossBase 1 false
      else s
    | _ => s
  else s
/-- At the end of the tenth coast cycle MA becomes invalid and its slots are held; those that the coast passed before the
end fire first (02 R60; 03 R86). -/
def State.maCoastOver (s : State) : State :=
  if s.time.ma = .coast then
    match s.reach (coastEndMt s.time) with
    | none => s
    | some s1 =>
      let s2 := s1.crossBase 1 false
      (s2.onTime fun t => { t with ma := .invalid, coastLeft := 0, steer := false, maEvt := orBit t.maEvt 6
                                   ext := if t.steer then t.ext else coastAngle t s2.bmt, extMt := s2.bmt }).holdBase 1
  else s

/-- A mains event's threshold is passed: SAG, SWELL, PHASE_LOSS on the rms in 0.1 V, UNBALANCE in 0.01 %, FREQ in
1/65,536 Hz; `hyst` of Table 2.3 moves it for the end (02 R62). -/
def State.mainsPast (s : State) (ev val : Nat) (ending : Bool) : Bool :=
  let thr : Int := s.par (0x1004 + ev)
  let v : Int := val
  let u : Int := s.udin
  let nom : Int := 65536 * s.parN 0x1000
  let h : Int := if ending then [200, 200, 500, 50, 10].getD ev 0 else 0
  match ev with
  | 0 => decide (v * 10000 < (thr + h) * u)
  | 1 => decide ((thr - h) * u < v * 10000)
  | 2 => decide (v * 10000 < (thr + h) * u)
  | 3 => decide (thr - h < v)
  | _ => decide ((thr - h) * nom < 10000 * (v - nom) ∨ (thr - h) * nom < 10000 * (nom - v))
def mainsCls (ev : Nat) : SlugClass := if ev = 2 then .fault else .warn
/-- The phase under which an event without a phase stands. -/
def evPhase (ev ph : Nat) : Nat := if 3 ≤ ev then 0 else ph
/-- The measured quantity is kept for TB_STATUS (02 Table 2.7). -/
def State.mainsMeas (s : State) (ev ph val : Nat) : State :=
  s.onTime fun t => if ev < 3 then { t with rms := t.rms.set ph (val % 65536) } else if ev = 3 then { t with unbal := val % 65536 } else t
/-- A mains event starts: ACTIVE, MA_EVT, a slug and a token; on the reference, phase loss or a frequency out of
45.0 to 66.0 Hz also starts the coast, from the angle `ext` at the frequency `freq` (02 R62). -/
def State.mainsStart (s : State) (ev ph val ext freq : Nat) : State :=
  let p := evPhase ev ph
  let s := s.mainsMeas ev ph val
  if !bitOf (s.time.active.getD ev 0) p && s.mainsPast ev val false then
    let s1 := s.onTime fun t => { t with active := t.active.modify ev (setBit · p), maEvt := orBit t.maEvt ev }
    let s2 := (s1.slug 1 0x0106 (mainsCls ev) (obj := ev) (after := p) (v1 := val)).eventToken 0 ev p true
    if (ev = 2 ∧ ph = refPhase) ∨ (ev = 4 ∧ !freqOk val) then s2.maLost ext freq else s2
  else s
/-- A mains event ends past its hysteresis; the end latches the event's bit of MA_EVT as its start does (02 R62, Table 2.3). -/
def State.mainsEnd (s : State) (ev ph val : Nat) : State :=
  let p := evPhase ev ph
  let s := s.mainsMeas ev ph val
  if bitOf (s.time.active.getD ev 0) p && !s.mainsPast ev val true then
    let s1 := s.onTime fun t => { t with active := t.active.modify ev (clrBit · p), maEvt := orBit t.maEvt ev }
    (s1.slug 1 0x0107 (mainsCls ev) (obj := ev) (after := p) (v1 := val)).eventToken 0 ev p false
  else s

/-- The mains inputs act unless the unit reprints (02 R67); the recorder keeps what they brought (log 13). -/
def State.mainsIn (s : State) (pay : List Int) (op : State → State) : State :=
  if s.isSt .reprint then s else op (s.record 2 0 pay)

/-- MA_LOCK (02 R59). -/
def execMaLock (dt : Nat) (errs : List Nat) (ext freq : Nat) (s : State) : Out :=
  .next ((s.elapse dt).mainsIn ([0, (ext : Int), freq] ++ errs.map Int.ofNat) fun t => t.maLockOp errs ext freq)
/-- MA_REF_LOST: the reference is lost with the PLL at `ext`, last locked at `freq` (02 R60). -/
def execMaRefLost (dt ext freq : Nat) (s : State) : Out :=
  .next ((s.elapse dt).mainsIn [1, ext, freq] fun t => t.maLost ext freq)
/-- MA_COAST_END (02 R60). -/
def execMaCoastEnd (dt : Nat) (s : State) : Out := .next ((s.elapse dt).maCoastOver)
/-- MA_REF_RETURN (02 R61). -/
def execMaRefReturn (dt : Nat) (s : State) : Out := .next ((s.elapse dt).mainsIn [2] State.maReturn)
/-- MAINS_EVENT_START (02 R62). -/
def execMainsEventStart (dt ev ph val ext freq : Nat) (s : State) : Out :=
  .next ((s.elapse dt).mainsIn [3, ev, ph, val, ext, freq] fun t => t.mainsStart ev ph val ext freq)
/-- MAINS_EVENT_END (02 R62). -/
def execMainsEventEnd (dt ev ph val : Nat) (s : State) : Out :=
  .next ((s.elapse dt).mainsIn [4, ev, ph, val] fun t => t.mainsEnd ev ph val)

/-- Coast cycles remaining (02 R60, 20 Table 20.3). -/
def State.coastLeft (s : State) : Nat :=
  if s.time.ma = .coast then 10 - min 10 ((s.bmt - s.time.coastMt) * s.time.freq / (65536 * 100000000)) else 0
/-- Tooth rate in 1/1,024 Hz, rounded down (no rule states the rounding: DESIGN CHOICE, log 75); 0 in STOPPED and while
no period is known (02 Table 2.7, 08 R199). -/
def wheelRate (x : Wheel) : Nat :=
  if x.tp = 0 ∨ x.st = .stopped ∨ x.st = .off then 0 else 1024 * 100000000 / x.tp

-- QUOIN and reset of the time bases -----------------------------------------------------------------------

/-- The time bases take a forme: a wheel whose enable, sensor, edge, pitches or gap change enters ACQUIRE with P
retained; another that it changes keeps the parameters before until its next edge (02 R63). `keep` is the forme before,
none to start every wheel. -/
def State.applyTime (s : State) (keep : Option Forme) : State :=
  (List.range 4).foldl (fun a w =>
    let chg := match keep with
      | some o => [0, 1, 2, 4, 5].any fun i => o.par (0x1100 + 0x20 * w + i) ≠ (a.formeOf 1).par (0x1100 + 0x20 * w + i)
      | none => true
    if chg then a.wheelAcquire w
    else match keep with
      | some o => a.onWheel w fun x => { x with
          kept := x.kept.or (some ([7, 9, 0x0B, 0x0D].map fun i => o.parN (0x1100 + 0x20 * w + i))) }
      | none => a) s

-- TB_STATUS (02 R68, Table 2.7) ---------------------------------------------------------------------------

def wCode (w : WState) : Nat := match w with | .off => 0 | .acquire => 1 | .locked => 2 | .resync => 3 | .stopped => 4
def maCode (m : MState) : Nat := match m with | .invalid => 0 | .acquire => 1 | .locked => 2 | .coast => 3
def syncCode (m : SyncState) : Nat := match m with | .master => 0 | .locked => 1 | .slewing => 2 | .holdover => 3
/-- VALID, HOLD, SYNTH, OVERSPEED of a wheel (02 Table 2.7). -/
def wheelFlags (x : Wheel) : Nat := b2n (wheelValid x.st) + 2 * b2n x.hold + 4 * b2n x.synth + 8 * b2n x.overSpd
/-- The active mains events: SAG, SWELL, PHASE_LOSS, UNBALANCE, FREQ. -/
def activeBits (t : TimeSt) : Nat := ofBits (t.active.map fun p => decide (p ≠ 0))
def tbWheel (x : Wheel) : List Nat :=
  le 6 x.pos ++ [wCode x.st, wheelFlags x] ++ le 4 (wheelRate x) ++ le 2 x.noiseRej ++ le 2 x.synthCnt ++ le 2 x.corr ++
    [x.pitch]
def State.tbMains (s : State) : List Nat :=
  le 2 (s.maNow % 65536) ++ le 4 s.time.freq ++ [maCode s.time.ma, activeBits s.time] ++
    s.time.rms.flatMap (le 2) ++ le 2 s.time.unbal ++ [s.coastLeft]
/-- Byte 6 is Sync and byte 7 reserved, so bytes 0 to 5 hold the low 48 bits of MT (02 Table 2.7; DEDUCED, log 24). -/
def State.tbMt (s : State) : List Nat :=
  le 6 s.now ++ [syncCode s.time.sync, 0] ++ leI 4 s.time.offset ++ leI 2 s.time.trim
/-- TW_CNT and TW_CORR of a wheel are cleared (20 R488). -/
def clearWheel (x : Wheel) : Wheel := { x with noiseRej := 0, synthCnt := 0, corr := 0, gapUnexp := 0, gapMiss := 0 }
def tbStatusBody (fl : Flight) (s : State) : Ans :=
  let b := argB fl.e 0
  if 5 < b then .bad s
  else if b = 5 then .ok s s.tbMt
  else if b = 4 then .ok s s.tbMains
  else
    let s1 := if bitOf (argB fl.e 1) 0 then s.onWheel b clearWheel else s
    .ok s1 (tbWheel (s.wheel b))
/-- TB_STATUS (02 R68). -/
def execTbStatus (dt f : Nat) (s : State) : Out := .next (runCmd 0x28 f tbStatusBody (s.elapse dt))

end Sys2Proof.Machine
end

