-- ==== Sys2Proof/Machine/Dest.lean ====
section
/-! DEFINITION. Loop destinations (08 R202, R203): which loop drives a destination, the inputs of a fan group's
demand (09 R220, 17 R444), group members and failures (09 R226), and when a destination reports BLOCKED (09 R234,
10 R257, 11 R290). -/

namespace Sys2Proof.Machine

def State.loopEn (s : State) (l : Nat) : Bool := s.pL l 0x10 = 1
/-- The enabled loop whose L_DST names a destination (08 Table 8.2). -/
def State.loopTo (s : State) (kind idx : Nat) : Option Nat :=
  (List.range 48).find? fun l => s.loopEn l && s.pL l 0x13 = kind * 4096 + idx
/-- U_LAST of that loop; loops drive their destinations in RUN (08 R211). -/
def State.loopU (s : State) (kind idx : Nat) : Option Int :=
  if s.isSt .run then (s.loopTo kind idx).map fun l => (s.loop l).out else none

-- Fan groups ----------------------------------------------------------------------------------------------

/-- A zone's demand on its groups: that of its last token, and before the first one by its state (09 R220, 07 R178, Table
7.4). -/
def State.zoneDemand (s : State) (z : Nat) : Nat :=
  match (s.zone z).st, (s.zone z).tok with
  | .off, _ => 0
  | .init, _ => s.pZn z 4
  | _, some t => t.demand
  | _, none => (s.zone z).demand
/-- The demand of an imported peer zone: its newest token's, or PEER_FAIL_DEM when none has come for PEER_TMO
(17 R444). -/
def State.peerDemand (s : State) (g i : Nat) : Nat :=
  let w := s.parN (0xC020 + 4 * g + i)
  if bitOf w 15 then
    match s.lane.peerZones.find? fun t => t.nodeId = w % 16 && t.index = w / 16 % 16 with
    | some t => if s.now < t.mt + s.parN 0xC005 * 100000 then t.demand else s.parN (0xC008 + g)
    | none => s.parN (0xC008 + g)
  else 0
def listMax (l : List Nat) : Nat := l.foldl max 0
/-- The greatest zone demand of a group, its own zones' and its imports' (09 R220, 17 R444). -/
def State.fgZone (s : State) (g : Nat) : Nat :=
  max (listMax ((List.range 16).map fun z => if bitOf (s.pFg g 1) z then s.zoneDemand z else 0))
    (listMax ((List.range 4).map (s.peerDemand g)))
def State.fgLoop (s : State) (g : Nat) : Option Nat := (s.loopU 2 g).map fun u => u.toNat
def State.fgHost (s : State) (g : Nat) : Option Nat := (s.fg g).host.map (·.1)
/-- The group demand D and its source: 0 zone, 1 loop, 2 host, 3 FORCE (09 R220, Table 9.12). -/
def State.fgDemand (s : State) (g : Nat) : Nat × Nat :=
  match (s.fg g).force with
  | some (v, _) => (v, 3)
  | none =>
    let z := s.fgZone g
    let l := (s.fgLoop g).getD 0
    let h := (s.fgHost g).getD 0
    if h ≤ z ∧ l ≤ z then (z, 0) else if h ≤ l then (l, 1) else (h, 2)

def State.fgMembers (s : State) (g : Nat) : List Nat :=
  (List.range 6).filter fun n => decide (s.pFd n 0 = 1 ∧ s.pFd n 1 = g)
/-- A member that counts as failed for its group's policy (09 R226); a retry kick counts as well (09 Tables 9.13,
20.12; DEDUCED, log 30). -/
def driveFailed (d : Drive) : Bool :=
  (match d.st with | .wait => true | .lockout => true | .tripped => true | .kick => d.retry | _ => false) || d.recov
/-- A peer's boost is being received (17 R445). -/
def State.peerBoost (s : State) (g : Nat) : Bool :=
  bitOf (s.pFg g 7) 1 &&
    s.lane.peerBoosts.any fun t => t.index = g && t.on && decide (s.now < t.mt + s.parN 0xC005 * 100000)
/-- Failed members, a received boost counted as one (09 R226, 17 R445). -/
def State.fgFailed (s : State) (g : Nat) : Nat :=
  ((s.fgMembers g).filter fun n => driveFailed (s.drive n)).length + b2n (s.peerBoost g)

/-- A FANGROUP destination reports BLOCKED (09 R234). -/
def State.fgBlocked (s : State) (g : Nat) : Bool :=
  match s.fgLoop g with
  | none => false
  | some u =>
    decide (u < s.fgZone g) || decide (u < (s.fgHost g).getD 0) || (s.fg g).force.isSome ||
    (s.fg g).stopped || decide ((s.fgDemand g).1 < s.pFg g 2) || decide (s.pFg g 3 < (s.fgDemand g).1) ||
    (s.fg g).boost || (s.fgMembers g).any (fun n => (s.drive n).pwrLim) ||
    !(s.fgMembers g).any (fun n => (s.drive n).st = .run)

-- Valves and outputs --------------------------------------------------------------------------------------

/-- A VALVE destination reports BLOCKED (10 R257). -/
def State.svBlocked (s : State) (n : Nat) : Bool :=
  let v := s.sv n
  decide (v.st = .tripped) || v.opened || v.govCap || v.classCap || v.permitOff || v.force.isSome || s.pSv n 0 ≠ 1
/-- A DODUTY or DOFREQ destination reports BLOCKED (11 R290). -/
def State.doBlocked (s : State) (n : Nat) : Bool :=
  (s.dout n).expired || bitOf s.dio.forceEn.toNat n || bitOf s.dio.last.ovl n || bitOf s.dio.last.therm n ||
    s.dio.last.supply || !s.isSt .run
/-- Does the destination of L_DST code `d` report BLOCKED (08 R203)? -/
def State.dstBlocked (s : State) (d : Nat) : Bool :=
  match d / 4096 with
  | 1 => s.svBlocked (d % 64)
  | 2 => s.fgBlocked (d % 64)
  | 3 => s.doBlocked (d % 64)
  | 4 => s.doBlocked (d % 64)
  | _ => false
/-- The station of a destination, for STATUS records; a fan group stands there as object 256 + g (16 Table 16.6). -/
def dstStation (d : Nat) : Nat := match d / 4096 with | 1 => 0x11 | 2 => 0x0B | _ => 0x12
/-- What the destination reports to the loop: live, and recorded when it changes; in REPRINT as STATUS records
have it (16 R416). -/
def State.seeBlocked (s : State) (d : Nat) : Bool × State :=
  if s.isSt .reprint then (s.cle.blocked.contains d, s)
  else
    let b := s.dstBlocked d
    if b = s.cle.blocked.contains d then (b, s)
    else (b, (s.onCle fun c => { c with blocked := if b then d :: c.blocked else c.blocked.filter (· ≠ d) }).record
      0x0A (dstStation d) [(if d / 4096 = 2 then 256 + d % 64 else d % 64 : Nat), 0, b2n b])

end Sys2Proof.Machine
end

