-- ==== Sys2Proof/Machine/Cle.lean ====
section
/-! DEFINITION. Station 0x0A, the control engine: galleys, snapshots and triggers, the arithmetic of an evaluation,
its commit or miss, handing U over, register writes, and the CLE's commands (08). -/

namespace Sys2Proof.Machine

-- Galleys (08 R204 to R206) -------------------------------------------------------------------------------

/-- The newest entry overwrites the oldest of 4,096 (08 R204). -/
def galWrite (g : Galley) (x : GalEntry) : Galley :=
  { g with entries := (x :: g.entries).take 4096, total := g.total + 1, sinceStart := g.sinceStart + 1 }
def galSel (g : Galley) (code : Nat) : Bool := bitOf g.nodes code
def evtEntry (g : Galley) (kind mt : Nat) : GalEntry :=
  { stamp := mt % 2 ^ 48, loop := g.loop, code := 14, v1 := kind, v2 := 0 }
/-- An EVENT marker, where GAL_NODES selects code 14 (08 Table 8.4; DEDUCED, log 20). -/
def galMark (g : Galley) (kind mt : Nat) : Galley := if galSel g 14 then galWrite g (evtEntry g kind mt) else g
/-- WAIT to REC with a START marker; REC to POST, or to FROZEN, with a STOP marker (08 R205). -/
def galStart (mt : Nat) (g : Galley) : Galley := { galMark { g with st := .recording } 4 mt with sinceStart := 0 }
def galStop (mt : Nat) (g : Galley) : Galley :=
  let g1 := galMark g 5 mt
  { g1 with mark := (g1.total + 4095) % 4096, postLeft := g.post, st := if g.post = 0 then .frozen else .post }
/-- An entry of a recording galley; in POST the last of GAL_POST entries freezes it (08 R205). -/
def galPut (mt : Nat) (g : Galley) (x : GalEntry) : Galley :=
  match g.st with
  | .recording =>
    let g1 := galWrite g x
    if g.stop = 2 ∧ 4096 ≤ g1.sinceStart then galStop mt g1 else g1
  | .post => { galWrite g x with postLeft := g.postLeft - 1, st := if g.postLeft ≤ 1 then .frozen else .post }
  | _ => g
/-- Entries reach a galley, with a start or a stop condition that they meet: START precedes the entries that meet
it, STOP follows them (08 R205; DEDUCED, log 20). -/
def galEvent (mt : Nat) (starts stops : Bool) (xs : List GalEntry) (g : Galley) : Galley :=
  let g1 := if starts && decide (g.st = .wait) then galStart mt g else g
  let g2 := xs.foldl (galPut mt) g1
  if stops && decide (g.st = .recording) && decide (g2.st = .recording) then galStop mt g2 else g2
/-- Every galley that follows a loop. -/
def State.onGals (s : State) (l : Nat) (f : Galley → Galley) : State :=
  let f' (g : Galley) : Galley := if g.loop = l ∧ g.st ≠ .idle ∧ g.st ≠ .frozen then f g else g
  s.onCle fun c => { c with galleys := c.galleys.map f' }
/-- An EVENT marker to the galleys of a loop: 1 LOOP_HOLD, 2 LOOP_RELEASE (08 Table 8.3). -/
def State.galNote (s : State) (l kind : Nat) : State :=
  s.onGals l fun g => if galSel g 14 then galPut s.bmt g (evtEntry g kind s.bmt) else g
/-- A selected trip freezes a galley in WAIT, REC or POST with a TRIP marker, and it is copied to a folio, but not
in REPRINT: bit 0 high limit, 1 FTRIP0, 2 FTRIP1, 3 a drive (08 R206, 16 R416). -/
def State.galTrip (s : State) (bit : Nat) : State :=
  let f (g : Galley) : Galley :=
    if bitOf g.trip bit ∧ g.st ≠ .idle ∧ g.st ≠ .frozen then
      let g1 := galMark g 3 s.bmt
      { g1 with st := .frozen, byTrip := true, mark := (g1.total + 4095) % 4096, copying := !s.isSt .reprint }
    else g
  s.onCle fun c => { c with galleys := c.galleys.map f }
def galCode (st : GalState) : Nat := match st with | .idle => 0 | .wait => 1 | .recording => 2 | .post => 3 | .frozen => 4
/-- The 16 bytes of a galley entry (08 Table 8.3). -/
def galBytes (x : GalEntry) : List Nat :=
  le 6 x.stamp ++ [x.loop, x.code] ++
    (if x.code % 16 = 12 then [uw 8 x.v1, 0, 0, 0] ++ leI 4 x.v2
     else if x.code % 16 = 14 then uw 8 x.v1 :: List.replicate 7 0 else leI 8 x.v1)

-- Inputs and snapshots (08 R190, R199, R200) --------------------------------------------------------------

/-- An input is usable at the trigger MT: a sample that is OK, of the current epoch and no older than L_MAXAGE, or a
zone `z` in OK or HOLD (08 R199). -/
def State.linOk (s : State) (l kind z trigMt : Nat) (x : LIn) : Bool :=
  x.usable && x.value.isSome &&
    (if kind = 1 then decide (x.epoch = s.epochOf x.station) && decide (diff48 (trigMt % 2 ^ 48) x.stamp ≤ s.pL l 0x1B * 10000000)
     else decide ((s.zone z).st = .ok ∨ (s.zone z).st = .hold))
/-- Y as the snapshot takes it: value, validity, stamp (08 R199). -/
def State.snapY (s : State) (l trigMt : Nat) (y : LIn) : Int × Bool × Nat :=
  let w := s.pL l 0x11
  match w / 4096 with
  | 1 => (y.value.getD 0, s.linOk l 1 0 trigMt y, y.stamp)
  | 2 => (y.value.getD 0, s.linOk l 2 (w % 64) trigMt y, y.stamp)
  | 3 => (sat32 (wheelRate (s.wheel (w % 64))), wheelValid (s.wheel (w % 64)).st, 0)
  | 4 => (s.live (0x601C + 0x40 * l), true, 0)
  | _ => (0, false, 0)
/-- F: a ledger's FFV from the column whose LDG_FF_LOOP names the loop, as the engine has applied it, whatever its status; a
source that is not valid gives 0 (08 R191, R200, Table 8.5). -/
def State.snapF (s : State) (l trigMt : Nat) (f : LIn) : Int × Bool × Nat :=
  let w := s.pL l 0x12
  let ok (k : Nat) : Int × Bool × Nat := if s.linOk l k (w % 64) trigMt f then (f.value.getD 0, true, f.stamp) else (0, false, f.stamp)
  match w / 4096 with
  | 0 => (0, true, 0)
  | 1 => match (List.range 4).find? fun c => s.pLdg c 8 = l with
    | some c => ((s.col c).ffvCle, true, 0)
    | none => (0, false, 0)
  | 2 => ok 1
  | 3 => ok 2
  | _ => (s.live (0x601D + 0x40 * l), true, 0)

/-- The snapshot of an accepted trigger; the first one after a LOOP_HOLD or a BUMPLESS release takes the hold value
or the release with it (08 R190, R210). -/
def State.mkSnap (s : State) (l trigMt inMt : Nat) (acc : Acc) (yi fi : LIn) : Snap × State :=
  let lp := s.loop l
  let y := s.snapY l trigMt yi
  let f := s.snapF l trigMt fi
  let sn : Snap := {
    trigMt, inMt, y := y.1, yOk := y.2.1, yStamp := y.2.2, f := f.1, fOk := f.2.1, fStamp := f.2.2
    sp := lp.sp, kp := lp.kp, ki := lp.ki, kd := lp.kd, kff := lp.kff, shift := lp.shift, umin := lp.umin, umax := lp.umax
    held := lp.hold, holdVal := if lp.hold then lp.holdVal else none, bump := lp.bump && !lp.hold
    acc, accN := (lp.accN + 1) % 2 ^ 32, n := s.cle.accepted
    dl := if s.pL l 0x14 = 1 then some (trigMt + s.pL l 0x15 * 100) else none }
  (sn, (s.onLoop l fun x => { x with accN := incW 32 x.accN, bump := x.bump && x.hold
                                     holdVal := if x.hold then none else x.holdVal }).onCle
    fun c => { c with accepted := c.accepted + 1 })

-- One evaluation (08 R186 to R189, R210) ------------------------------------------------------------------

/-- Every value that an evaluation computes, and the I_ACC it would commit. -/
structure EvalRes where
  e : Int
  p : Int
  i : Int
  d : Int
  ff : Int
  raw : Int
  u : Int
  iacc : Int
  deriving DecidableEq, Repr

def Snap.shp (sn : Snap) : Nat := fld sn.shift 0 5
def Snap.shi (sn : Snap) : Nat := fld sn.shift 5 5
def Snap.shd (sn : Snap) : Nat := fld sn.shift 10 5
def Snap.shf (sn : Snap) : Nat := fld sn.shift 15 5
/-- I_ACC rescaled to the snapshot's SHI (08 R189). -/
def rescale (iacc : Int) (old new : Nat) : Int :=
  if old < new then sat64 (iacc * 2 ^ (new - old)) else rnd iacc (old - new)
/-- The arithmetic of R187, with the rescale of R189 and the BUMPLESS preset of R210. -/
def evaluate (lp : Loop) (sn : Snap) (blocked : Bool) : EvalRes :=
  let e := sat32 (sn.sp - sn.y)
  let p := rnd (sn.kp * e) sn.shp
  let d := if lp.first then 0 else rnd (sn.kd * (lp.yprev - sn.y)) sn.shd
  let ff := rnd (sn.kff * sn.f) sn.shf
  let acc := if sn.bump then sat64 (sat64 (sat64 (sat64 (lp.out - p) - d) - ff) * 2 ^ sn.shi) else rescale lp.iacc lp.shiLast sn.shi
  let i := rnd acc sn.shi
  let raw := sat64 (sat64 (sat64 (p + i) + d) + ff)
  let u := min (max raw sn.umin) sn.umax
  { e, p, i, d, ff, raw, u
    iacc := if sn.umin ≤ raw ∧ raw ≤ sn.umax ∧ !sn.held ∧ !blocked then sat64 (acc + sn.ki * e) else acc }
def evalSat (sn : Snap) (r : EvalRes) : Bool := decide (r.raw < sn.umin ∨ sn.umax < r.raw)

/-- The galley entries of an evaluation: the selected nodes in code order, with its flags (08 R204, Tables 8.3,
8.4). An evaluation that computes nothing has free values in the nodes it would have computed (log 21). -/
def nodeEntries (l : Nat) (sn : Snap) (iacc : Int) (r : EvalRes) (disc sat first : Bool) : List GalEntry :=
  let v : List Int := [sn.sp, sn.y, r.e, r.p, r.i, r.d, sn.f, r.ff, r.raw, r.u, iacc]
  (List.range 11).map fun c =>
    { stamp := sn.trigMt % 2 ^ 48, loop := l
      code := c + 16 * b2n disc + 32 * b2n (sn.held || !sn.yOk) + 64 * b2n sat + 128 * b2n first
      v1 := v.getD c 0, v2 := 0 }
def State.galEval (s : State) (l : Nat) (xs : List GalEntry) (sat : Bool) : State :=
  s.onGals l fun g => galEvent s.bmt (sat && g.start = 3) (sat && g.stop = 4) (xs.filter fun x => galSel g (x.code % 16)) g
/-- The DL_MISS marker, after the discarded nodes where it was computed, which may show SAT (08 R198, R205). -/
def State.galMiss (s : State) (l : Nat) (xs : List GalEntry) : State :=
  let m : GalEntry := { stamp := s.bmt % 2 ^ 48, loop := l, code := 13, v1 := 0, v2 := 0 }
  let sat := xs.any fun x => bitOf x.code 6
  s.onGals l fun g => galEvent s.bmt (g.start = 2 || (sat && g.start = 3)) (g.stop = 3 || (sat && g.stop = 4)) ((xs ++ [m]).filter fun x => galSel g (x.code % 16)) g

/-- The LOOP record of an evaluation, under its trigger MT; in REPRINT it is kept for comparison (16 Table 16.6,
R417; log 22). Outcome 0 committed, 1 held, 2 DL_MISS, 3 abandoned. -/
def State.loopRec (s : State) (l : Nat) (sn : Snap) (outcome : Nat) (u : Int) : State :=
  let pay : List Int := [(sn.accN : Int), accCode sn.acc, outcome, (sn.yStamp % 2 ^ 32 : Nat), (sn.fStamp % 2 ^ 32 : Nat), u]
  if s.isSt .reprint then
    s.onStore fun t => { t with reprint := t.reprint.map fun r =>
      { r with made := r.made ++ [{ typ := 8, index := l, mt := sn.trigMt % 2 ^ 48, pay }] } }
  else s.record 8 l pay (some sn.trigMt)

/-- U is handed to the destination: U_LAST, for a SETPOINT destination a copy that the supervisor owes, and for a valve
an output of its station's present epoch. In REPRINT it goes nowhere else (08 R185, R196, R212; 10 R265). -/
def State.handU (s : State) (l : Nat) (u : Int) (inMt : Option Nat) : State :=
  let copy := decide (s.pL l 0x13 / 4096 = 5) && !s.isSt .reprint
  let s0 := if s.pL l 0x13 / 4096 = 1 ∧ !s.isResetting 0x11 then s.onSv (s.pL l 0x13 % 64) fun v => { v with oldU := false } else s
  let s1 := s0.onLoop l fun x => { x with out := u, copyU := if copy then x.copyU ++ [(u, s.now)] else x.copyU }
  match inMt with
  | some t => s1.onCle fun c => { c with latMax := max c.latMax (s.bmt - t) }
  | none => s1
/-- At the evaluation's completion, or at its deadline (08 R196, R197). -/
def State.giveU (s : State) (l : Nat) (sn : Snap) (u : Option Int) : State :=
  match u, sn.dl with
  | none, _ => s
  | some v, none => s.handU l v (some sn.inMt)
  | some v, some d => s.onLoop l fun x => { x with outs := x.outs ++ [(d, v)] }
/-- A hold value or a release that a discarded evaluation carried goes to the next one (08 R210; log 23). -/
def rearm (sn : Snap) (x : Loop) : Loop :=
  { x with holdVal := if x.hold && x.holdVal.isNone then sn.holdVal else x.holdVal, bump := x.bump || (sn.bump && !x.hold) }
/-- An evaluation misses its deadline: nothing is handed over or changed but DL_MISS and its count; the first miss
after a commit writes a slug (08 R198). -/
def State.missEval (s : State) (l : Nat) (sn : Snap) (outcome : Nat) (xs : List GalEntry) : State :=
  let was := (s.loop l).missed
  let s1 := s.onLoop l fun x => { rearm sn x with dlMiss := true, nMiss := incW 32 x.nMiss, missed := true }
  let s2 := (s1.galMiss l xs).loopRec l sn outcome (s.loop l).out
  if was then s2 else s2.slug 0x0A 0x0A01 .warn (obj := l) (rel := sn.trigMt)

/-- An invalid Y: nothing is computed; L_LOSS decides what is handed over (08 R201). -/
def State.badEval (s : State) (l : Nat) (sn : Snap) : State :=
  let lp := s.loop l
  let u := if sn.held then sn.holdVal else if s.pL l 0x19 = 1 then some (s.live (0x601A + 0x40 * l)) else none
  let fr (k : Nat) : Int := Config.freeValue (s.free + k)
  let r : EvalRes := { e := fr 0, p := fr 1, i := fr 2, d := fr 3, ff := fr 4, raw := fr 5, u := u.getD lp.out, iacc := lp.iacc }
  let s1 := ({ s with free := s.free + 6 }).onLoop l fun x => { x with
    inBad := true, ffBad := !sn.fOk, first := true, nHeld := incW 32 x.nHeld, bump := x.bump || (sn.bump && !x.hold) }
  let s2 := if lp.inBad then s1 else s1.slug 0x0A 0x0A02 .fault (obj := l) (rel := sn.trigMt)
  ((s2.galEval l (nodeEntries l sn lp.iacc r false false lp.first) false).loopRec l sn 1 (u.getD lp.out)).giveU l sn u
/-- A committed evaluation; a held one leaves I_ACC as it is (08 R187, R192, R210). -/
def State.goodEval (s : State) (l : Nat) (sn : Snap) (r : EvalRes) : State :=
  let lp := s.loop l
  let sat := evalSat sn r
  let u := if sn.held then sn.holdVal else some r.u
  let s1 := s.onLoop l fun x => { x with
    iacc := if sn.held then x.iacc else r.iacc, shiLast := if sn.held then x.shiLast else sn.shi
    yprev := sn.y, first := false, sat, inBad := false, ffBad := !sn.fOk, missed := false, active := true }
  ((s1.galEval l (nodeEntries l sn (s1.loop l).iacc r false sat lp.first) sat).loopRec l sn (b2n sn.held)
    (u.getD lp.out)).giveU l sn u
/-- An evaluation ends: it misses, has no valid Y, or is committed. In REPRINT the recorded outcome decides whether
it missed (08 R196 to R201, R212). -/
def State.finish (s : State) (l : Nat) (sn : Snap) (forced : Option Nat) : State :=
  let s0 := s.onLoop l fun x => { x with nEval := incW 32 x.nEval }
  let b := s0.seeBlocked (s.pL l 0x13)
  let missed := match forced with | some o => decide (o = 2) | none => sn.dl.any fun d => decide (d < s.bmt)
  let lp := b.2.loop l
  let r := evaluate lp sn b.1
  if missed then
    b.2.missEval l sn 2 (nodeEntries l sn lp.iacc r true (evalSat sn r) lp.first)
  else if !sn.yOk then b.2.badEval l sn
  else b.2.goodEval l sn r

-- Triggers (08 R193, R194) --------------------------------------------------------------------------------

def State.overLoop (s : State) (l : Nat) : State :=
  s.onLoop l fun x => { x with nOver := incW 32 x.nOver, overrun := true }
/-- A trigger that is not run: counted; its LOOP record says so (08 R194; log 22). -/
def State.dropTrig (s : State) (l trigMt : Nat) : State :=
  let lp := s.loop l
  let sn := (s.mkSnap l trigMt s.bmt .dropped lp.y lp.f).1
  (s.overLoop l).loopRec l { sn with accN := lp.accN } 3 lp.out
/-- The recorded LOOP record of a trigger that a reprint meets. -/
def State.recordedEval (s : State) (l trigMt : Nat) : Option InRec :=
  s.store.reprint.bind fun r => r.todo.find? fun x => x.typ = 8 && x.index = l && x.mt % 2 ^ 48 = trigMt % 2 ^ 48
/-- The input whose stamp the LOOP record names (16 R416). -/
def bindStamp (cands : List LIn) (stamp : Int) (cur : LIn) : LIn :=
  (cands.find? fun x => (x.stamp % 2 ^ 32 : Nat) = stamp).getD cur
def tokIn (t : VTok) : LIn :=
  { value := t.value, code := t.code, epoch := t.epoch, station := t.station, stamp := t.stamp, usable := decide (t.code = .ok) || (decide (t.kind = 2) && decide (t.code = .suspect)) }
/-- The recorded evaluation `r` never ran and missed nothing: the next trigger replaced it, or it was flushed when the unit
left RUN or the CLE was reset (08 R194, R211, R213; log 22). -/
def State.neverRan (s : State) (l : Nat) (r : InRec) : Bool :=
  let todo := (s.store.reprint.map (·.todo)).getD []
  let ahead := todo.takeWhile (· ≠ r)
  let next := ((todo.drop (ahead.length + 1)).find? fun x => x.typ = 8 && x.index = l)
  next.any (fun x => x.pay.getD 1 0 = 2) || decide (s.pL l 0x14 = 0) || ahead.any fun x => x.typ = 0x0B && x.index = 0
/-- The loop that a HOST record writes to: its parameters, its registers, LOOP_HOLD and LOOP_RELEASE (08 R209, R210). -/
def hostLoop (x : InRec) : Option Nat :=
  let id := (x.pay.getD 2 0).toNat
  if x.typ ≠ 7 then none
  else match (x.pay.getD 1 0).toNat with
    | 0x11 => if 0x6000 ≤ id ∧ id < 0x6C00 then some ((id - 0x6000) / 0x40) else none
    | 0xFF => if 0x600 ≤ id ∧ id < 0x7E0 then some ((id - 0x600) / 10) else none
    | 0x48 => some id
    | 0x49 => some id
    | _ => none
/-- The acceptance count of a recorded write has been reached (08 R212). -/
def State.writeDue (s : State) (x : InRec) : Bool :=
  (hostLoop x).any fun l => decide (0 ≤ sx 32 (uw 32 ((s.loop l).accN - x.pay.getD 4 0)))
/-- In REPRINT a recorded write is to be applied before the loop's next trigger (08 R212). -/
def State.owesWrite (s : State) (l : Nat) : Bool :=
  s.store.reprint.any fun r => (r.held ++ r.todo).any fun x => hostLoop x = some l && s.writeDue x
/-- In REPRINT an accepted trigger is evaluated at once, in acceptance order, with the code and the outcome of its
record (08 R212, 16 R416; log 22). -/
def State.reprintTrigger (s : State) (l trigMt : Nat) : Acc × State :=
  let lp := s.loop l
  let waiting (c : Nat) : List LIn := (s.toks.filter fun t => t.cons = c && t.obj = l && t.kind ≠ 3).map tokIn
  match s.recordedEval l trigMt with
  | some r =>
    if r.pay.getD 1 0 = 3 then (.dropped, s.dropTrig l trigMt)
    else
      let acc : Acc := if r.pay.getD 1 0 = 1 then .pended else if r.pay.getD 1 0 = 2 then .replaced else .accepted
      let yi := bindStamp (lp.y :: lp.yOld :: waiting 2) (r.pay.getD 3 0) lp.y
      let fi := bindStamp (lp.f :: lp.fOld :: waiting 3) (r.pay.getD 4 0) lp.f
      let m := (if acc = .replaced then s.overLoop l else s).mkSnap l trigMt s.bmt acc yi fi
      let o := (r.pay.getD 2 0).toNat
      (acc, if o ≠ 3 then m.2.finish l m.1 (some o)
        else if s.neverRan l r then (m.2.onLoop l (rearm m.1)).loopRec l m.1 3 lp.out
        else m.2.missEval l m.1 3 [])
  | none =>
    let m := s.mkSnap l trigMt s.bmt .accepted lp.y lp.f
    (.accepted, m.2.finish l m.1 (some 0))
/-- A trigger reaches a loop: discarded outside RUN or while the loop is disabled, else accepted, pended, replaced
or dropped under L_POLICY (08 R194, R211, Table 8.1). -/
def State.loopTrigger (s : State) (l trigMt inMt : Nat) : Acc × State :=
  let lp := s.loop l
  if !s.evaluating || !s.loopEn l || s.isResetting 0x0A then (.discarded, s)
  else if s.isSt .reprint then s.reprintTrigger l trigMt
  else match lp.queued with
    | none =>
      let m := s.mkSnap l trigMt inMt .accepted lp.y lp.f
      (.accepted, m.2.onLoop l fun x => { x with queued := some m.1 })
    | some old => match s.pL l 0x16 with
      | 0 =>
        if lp.pend.isNone then
          let m := s.mkSnap l trigMt inMt .pended lp.y lp.f
          (.pended, m.2.onLoop l fun x => { x with pend := some m.1 })
        else (.dropped, s.dropTrig l trigMt)
      | 1 =>
        let s1 := ((s.onLoop l (rearm old)).overLoop l).loopRec l old 3 lp.out
        let m := s1.mkSnap l trigMt inMt .replaced lp.y lp.f
        (.replaced, m.2.onLoop l fun x => { x with queued := some m.1 })
      | _ => (.dropped, s.dropTrig l trigMt)

/-- The first input that waits for a loop is applied: a value, an FFV or a trigger. What a station sent before its last reset
is discarded (08 R191, 01 R20, 04 R109). -/
def State.cleTake (s : State) (l : Nat) (t : VTok) (s1 : State) : State :=
  if t.cons = 4 then
    if t.role = 0 then
      match s1.takeAction 2 l with
      | none => s1
      | some (x, s2) =>
        let r := s2.loopTrigger l t.stamp (t.value.getD 0).toNat
        r.2.reportAcc x.slot r.1
    else if !s.freshTok t then s1
    else (s1.loopTrigger l t.stamp (t.value.getD 0).toNat).2
  else if !s.freshTok t then s1
  else if t.kind = 3 then s1.onCol t.index fun c => { c with ffvCle := t.value.getD 0 }
  else if t.cons = 2 then s1.onLoop l fun x => { x with yOld := x.y, y := tokIn t }
  else s1.onLoop l fun x => { x with fOld := x.f, f := tokIn t }
/-- Inputs are applied in arrival order, up to and with the first trigger when `trig`, else all of them. -/
def State.cleDrain (trig : Bool) (l : Nat) : Nat → State → State
  | 0, s => s
  | k + 1, s => match s.takeTok 2 l with
    | none => s
    | some (t, s1) =>
      let s2 := s.cleTake l t s1
      if trig && t.cons = 4 then s2 else State.cleDrain trig l k s2

/-- A shift of the column that feeds the loop was dispatched before its next slot trigger and is not done: the evaluation
is to use its FFV (05 R120). -/
def State.awaitsShift (s : State) (l : Nat) : Bool :=
  let ahead := s.imp.inbox.takeWhile fun x => !(decide (x.action = 2) && x.index = l)
  ahead.any fun x => x.action = 8 && s.pLdg x.index 0 = 1 && s.pLdg x.index 8 = l
/-- LOOP_EVAL: the next trigger of the loop is taken, after the values that reached the CLE before it (08 R190,
R191, R193, R194); in REPRINT after the recorded writes that stand before it (08 R212). -/
def execLoopEval (dt l : Nat) (s0 : State) : Out :=
  let s := s0.elapse dt
  match s.toks.find? fun t => t.cons = 4 && t.obj = l with
  | none => .next s
  | some t => .next (if (t.role = 0 && s.awaitsShift l) || s.owesWrite l then s else State.cleDrain true l s.toks.length s)
/-- CLE_VALUE_TOKEN: the next value token of the loop is applied, unless a trigger came before it (08 R191). -/
def execCleValueToken (dt l : Nat) (s0 : State) : Out :=
  let s := s0.elapse dt
  match s.takeTok 2 l with
  | some (t, s1) => .next (if t.cons = 4 then s else s.cleTake l t s1)
  | none => .next s

-- The engine (08 R194 to R198) ----------------------------------------------------------------------------

/-- The loop whose queued evaluation was accepted first. -/
def State.nextLoop (s : State) : Option Nat :=
  (List.range 48).foldl (fun b l => match (s.loop l).queued, b with
    | none, b => b
    | some _, none => some l
    | some q, some m => if ((s.loop m).queued.map (·.n)).getD 0 ≤ q.n then some m else some l) none
/-- The queued evaluation leaves the queue, and a pended one is queued, behind those that stand there (08 R194, R195). -/
def State.unqueue (s : State) (l : Nat) : State :=
  (s.onLoop l fun x => { x with queued := x.pend.map fun q => { q with n := s.cle.accepted }, pend := none }).onCle
    fun c => { c with accepted := c.accepted + 1 }
/-- LOOP_EVAL_START: one start every 500 ns, in acceptance order; an evaluation past its deadline is abandoned (08
R195, R198). -/
def execLoopEvalStart (dt : Nat) (s0 : State) : Out :=
  let s := s0.elapse dt
  if s.cle.loops.any (fun x => x.busy.isSome) ∨ !s.evaluating then .next s
  else match s.nextLoop with
    | none => .next s
    | some l => match (s.loop l).queued with
      | none => .next s
      | some q =>
        if q.dl.any fun d => decide (d < s.now) then .next ((s.unqueue l).missEval l q 3 [])
        else if s.cle.accepted ≠ 0 ∧ s.now < s.cle.busyMt + 50 then .next s
        else .next (((s.unqueue l).onLoop l fun x => { x with busy := some q }).onCle fun c => { c with busyMt := s.now })
/-- LOOP_EVAL_COMPLETE: 500 ns after its start the computation ends (08 R194, R196). -/
def execLoopEvalComplete (dt l : Nat) (s0 : State) : Out :=
  let s := s0.elapse dt
  match (s.loop l).busy with
  | none => .next s
  | some q =>
    if s.now < s.cle.busyMt + 50 then .next s
    else .next ((s.onLoop l fun x => { x with busy := none }).finish l q none)
/-- LOOP_DEADLINE: U is handed over on the cycle of the deadline; a queued evaluation past its deadline is abandoned
(08 R197, R198). -/
def execLoopDeadline (dt l : Nat) (s0 : State) : Out :=
  let s := s0.elapse dt
  let lp := s.loop l
  match lp.outs with
  | (d, u) :: rest => match s.reach d with
    | some s1 => .next ((s1.onLoop l fun x => { x with outs := rest }).handU l u none)
    | none => .next s
  | [] => match lp.queued with
    | some q => if q.dl.any fun d => decide (d < s.now) then .next ((s.unqueue l).missEval l q 3 []) else .next s
    | none => .next s

-- Register writes (08 R191, R209) -------------------------------------------------------------------------

/-- One of the eight registers. -/
def setReg (off : Nat) (v : Int) (x : Loop) : Loop :=
  match off with
  | 0 => { x with kp := v } | 1 => { x with ki := v } | 2 => { x with kd := v } | 3 => { x with kff := v }
  | 4 => { x with shift := uw 20 v } | 5 => { x with sp := v } | 6 => { x with umin := v } | _ => { x with umax := v }
def getReg (off : Nat) (x : Loop) : Int :=
  match off with
  | 0 => x.kp | 1 => x.ki | 2 => x.kd | 3 => x.kff | 4 => x.shift | 5 => x.sp | 6 => x.umin | _ => x.umax
/-- What reached the CLE before a write is applied before it; in REPRINT the acceptance count orders the two (08 R191,
R212). -/
def State.cleAhead (s : State) (l : Nat) : State := if s.isSt .reprint then s else State.cleDrain false l s.toks.length s
/-- One of the eight registers is written, between triggers, and kept; the galleys get a COEF marker (08 R191, R207,
R209). -/
def State.loopWrite (s0 : State) (l off : Nat) (v : Int) : State :=
  let s := s0.cleAhead l
  let m : GalEntry := { stamp := s.bmt % 2 ^ 48, loop := l, code := 12, v1 := off, v2 := v }
  let s1 := if s.isSt .reprint then s
    else s.onSup fun u => { u with live := spSet 0 u.live (0x6000 + 0x40 * l + off) v }
  (s1.onLoop l (setReg off v)).onGals l fun g =>
    galEvent s.bmt (g.start = 1) (g.stop = 5) (if galSel g 12 then [m] else []) g
/-- The range of a destination (08 Table 8.2). -/
def dstRange (d : Nat) : Int × Int :=
  match d / 4096 with
  | 1 => (0, 25000) | 2 => (0, 10000) | 3 => (0, 100000) | 4 => (0, 10000) | _ => (-2147483648, 2147483647)
def inDst (d : Nat) (v : Int) : Bool := decide ((dstRange d).1 ≤ v ∧ v ≤ (dstRange d).2)
/-- May a register take a value: L_UMIN at most L_UMAX, and an enabled loop's limits inside its destination's range
(08 R202, R209). -/
def State.loopWriteOk (s : State) (l off : Nat) (v : Int) : Bool :=
  let x := s.loop l
  (off ≠ 4 || decide (0 ≤ v ∧ v < 2 ^ 20)) && (off ≠ 6 || decide (v ≤ x.umax)) && (off ≠ 7 || decide (x.umin ≤ v)) &&
    (!(s.loopEn l && (off = 6 || off = 7)) || inDst (s.pL l 0x13) v)
/-- SETPOINT_COPY: an outer loop's output into L_SP of the inner loop, an ordinary setpoint write that is recorded
(08 R185). -/
def execSetpointCopy (dt l : Nat) (s0 : State) : Out :=
  let s := s0.elapse dt
  match (s.loop l).copyU with
  | [] => .next s
  | (u, _) :: rest =>
    let m := s.pL l 0x13 % 64
    let s1 := (s.onLoop l fun x => { x with copyU := rest }).loopWrite m 5 u
    .next (s1.recHost 0xFFFF 0xFF (0x0600 + 10 * m + 5) u (s1.loop m).accN [])

-- Enabling, unit states, reset ----------------------------------------------------------------------------

/-- A chain of SETPOINT destinations through enabled loops from `m` leads to `l` (08 R208). -/
def State.chainTo (s : State) (l : Nat) : Nat → Nat → Bool
  | 0, _ => false
  | k + 1, m => m = l || (s.loopEn m && decide (s.pL m 0x13 / 4096 = 5) && State.chainTo s l k (s.pL m 0x13 % 64))
/-- A write of L_ENABLE = 1 is accepted (08 R208, R202). -/
def State.enableOk (s : State) (l : Nat) : Bool :=
  let d := s.pL l 0x13
  let x := s.loop l
  let busy := decide (d / 4096 ≠ 0) && (List.range 48).any fun m => m ≠ l && s.loopEn m && s.pL m 0x13 = d
  let func := s.parN (0x9100 + 8 * (d % 64))
  !busy && inDst d x.umin && inDst d x.umax && inDst d (s.live (0x601A + 0x40 * l)) &&
    (match d / 4096 with
     | 3 => func = 4
     | 4 => func = 3
     | 5 => !State.chainTo s l 49 (d % 64)
     | _ => true)
/-- What waits in a loop is discarded: queued and pended evaluations, counted as triggers not run when `count`; the
computation in progress; outputs not yet handed over. An output that was handed over is still copied (08 R185). -/
def flushLoop (count : Bool) (x : Loop) : Loop :=
  let k := b2n x.queued.isSome + b2n x.pend.isSome
  { x with queued := none, pend := none, busy := none, outs := []
           nOver := if count then (x.nOver + k) % 2 ^ 32 else x.nOver
           overrun := x.overrun || (count && decide (0 < k)) }
/-- LOOP records of the evaluations that a flush discards: they are abandoned (16 Table 16.6; log 22). -/
def State.flushRecs (s : State) : State :=
  (List.range 48).foldl (fun a l =>
    let x := s.loop l
    ([x.busy, x.queued, x.pend].filterMap id).foldl (fun b q => b.loopRec l q 3 x.out) a) s
/-- The unit leaves RUN: queued and pended evaluations are discarded (08 R211). -/
def State.cleLeaveRun (s : State) : State :=
  s.flushRecs.onCle fun c => { c with loops := c.loops.map (flushLoop false) }
/-- The CLE's registers take the values kept, on entry to STANDBY from PROOF (08 R207). -/
def State.cleRestore (s : State) : State :=
  let kept (l : Nat) (x : Loop) : Loop :=
    (List.range 8).foldl (fun y o => setReg o (spGetD 0 s.sup.live (0x6000 + 0x40 * l + o)) y) x
  s.onCle fun c => { c with loops := c.loops.mapIdx kept }
/-- The unit enters RUN: I_ACC, Y_PREV and U_LAST 0, and a first evaluation (08 R207, R211). -/
def State.cleEnterRun (s : State) : State :=
  s.onCle fun c => { c with loops := c.loops.map fun x =>
    { x with iacc := 0, yprev := 0, out := 0, first := true, active := false } }
/-- STATION_RESET of the CLE (08 R213): what waits is discarded and counted, galleys freeze, first evaluations; outputs
under the old epoch go no further. -/
def State.cleReset (s : State) : State :=
  (s.flushRecs.onCle fun c => { c with
    loops := c.loops.map fun x => { flushLoop true x with first := true, copyU := [] }
    galleys := c.galleys.map fun g => if g.st = .idle then g else { g with st := .frozen } }).onToks
      fun t => t.filter fun x => x.cons < 2

-- Galley actions and copies -------------------------------------------------------------------------------

/-- GALLEY_SNAP: it starts or stops recording, or writes a SNAP marker; discarded on a galley in IDLE or FROZEN and
outside RUN (08 R205, R211). -/
def execGalleySnap (dt g : Nat) (s0 : State) : Out :=
  let s := s0.elapse dt
  match s.takeAction 0xA g with
  | none => .next s
  | some (x, s1) =>
    let y := s1.gal g
    if !s1.evaluating ∨ y.st = .idle ∨ y.st = .frozen then .next (s1.reportAcc x.slot .discarded)
    else
      let starts := decide (y.start = 4 ∧ y.st = .wait)
      let stops := decide (y.stop = 1 ∧ y.st = .recording)
      let snap := if starts || stops || !galSel y 14 then [] else [evtEntry y 0 s1.bmt]
      let f := if y.st = .wait ∧ !starts then fun z => snap.foldl galWrite z else galEvent s1.bmt starts stops snap
      .next ((s1.onGal g f).reportAcc x.slot .accepted)
/-- GALLEY_COPY: a trip-frozen galley is copied to the next folio of the galley ring, with an INFO slug (08 R206, 16
Tables 16.1, 16.2). -/
def execGalleyCopy (dt g : Nat) (s0 : State) : Out :=
  let s := s0.elapse dt
  let y := s.gal g
  if !y.copying ∨ g ≥ 8 then .next s
  else
    let s1 := s.onGal g fun x => { x with copying := false }
    if !s.store.mounted ∨ s.store.readOnly then .next s1
    else
      let num := 88 + s.store.galFolio % 936
      let fo : Folio := {
        num, typ := 5, st := 2, boot := s.power.boot, serial := s.store.serials.getD 0 0
        mt0 := (y.entries.getLast?.map (·.stamp)).getD 0, first := 0, count := y.entries.length
        extra := y.loop + 65536 * y.mark }
      let s2 := s1.onStore fun r => { r with
        galFolio := r.galFolio + 1, serials := r.serials.modify 0 (incW 32)
        galCopies := spPut r.galCopies num y.entries.reverse
        folios := fo :: r.folios.filter fun z => z.num ≠ num }
      .next (s2.slug 0x0A 0x0A03 .info (obj := g) (v1 := num))

-- Commands (08 R210, R215, Table 8.11) --------------------------------------------------------------------

/-- L_STAT STATE: OFF, IDLE, ACTIVE, IN_HOLD, LHOLD (08 Table 8.7). -/
def State.loopState (s : State) (l : Nat) : Nat :=
  let x := s.loop l
  if !s.loopEn l then 0 else if x.hold then 4
  else if !s.evaluating || !(x.active || x.inBad) then 1 else if x.inBad then 3 else 2
def State.loopResult (s : State) (l : Nat) : List Nat :=
  [l, s.loopState l, 0, 0] ++ leI 4 (s.loop l).out ++ le 4 (s.loop l).nEval
def loopHoldBody (fl : Flight) (s0 : State) : Ans :=
  let l := argB fl.e 0
  let give := bitOf (argB fl.e 1) 0
  let v := argI fl.e 4 4
  let s := s0.cleAhead l
  if 47 < l then .bad s0
  else if give ∧ (v < (s.loop l).umin ∨ (s.loop l).umax < v) then .bad s0
  else if !s0.loopEn l then .err s0 sNOTST
  else
    let s1 := (s.onLoop l fun x => { x with hold := true, holdVal := if give then some v else none, bump := false }).galNote l 1
    .ok (s1.recHost fl.sid 0x48 l v (s.loop l).accN fl.e.args) (s1.loopResult l)
def loopReleaseBody (fl : Flight) (s0 : State) : Ans :=
  let l := argB fl.e 0
  let b := bitOf (argB fl.e 1) 0
  let s := s0.cleAhead l
  if 47 < l then .bad s0
  else if !s0.loopEn l then .err s0 sNOTST
  else
    let s1 := (s.onLoop l fun x => { x with hold := false, holdVal := none, bump := if x.hold then b else x.bump }).galNote l 2
    .ok (s1.recHost fl.sid 0x49 l (b2n b) (s.loop l).accN fl.e.args) (s1.loopResult l)
def galleyArmBody (fl : Flight) (s : State) : Ans :=
  let g := argB fl.e 0
  let op := argB fl.e 1
  let y := s.gal g
  if 7 < g ∨ 1 < op then .bad s
  else if op = 1 then
    let s1 := s.onGal g fun x => { x with st := .idle, copying := false }
    .ok s1 [g, 0]
  else if 47 < argB fl.e 2 ∨ 4 < argB fl.e 3 ∨ 5 < argB fl.e 4 ∨ 15 < argB fl.e 5 ∨ 4095 < argN fl.e 8 2 ∨
      bitOf (argN fl.e 6 2) 11 ∨ bitOf (argN fl.e 6 2) 15 then .bad s
  else if y.st ≠ .idle ∧ y.st ≠ .frozen then .err s sNOTST
  else
    let new : Galley := { loop := argB fl.e 2, start := argB fl.e 3, stop := argB fl.e 4, trip := argB fl.e 5
                          nodes := argN fl.e 6 2, post := argN fl.e 8 2, st := .wait }
    let s1 := s.onGal g fun _ => if new.start = 0 then galStart s.bmt new else new
    .ok s1 [g, galCode (s1.gal g).st]
/-- Stream entries written in a row, and how many the ring took. -/
def State.streamAll (s : State) (q src kind : Nat) (recs : List (List Nat)) : State × Nat :=
  recs.foldl (fun a b =>
    let free := (a.1.queue? q).any fun x => decide (x.ring.length + 1 < x.depth)
    (a.1.stream q b src kind (a.1.epochOf src), a.2 + b2n free)) (s, 0)
def galleyDumpBody (fl : Flight) (s : State) : Ans :=
  let g := argB fl.e 0
  let xq := argN fl.e 2 2
  let first := argN fl.e 4 2
  let cnt := argN fl.e 6 2
  let y := s.gal g
  if 7 < g then .bad s
  else match s.ownXq fl.sid xq with
    | none => .bad s
    | some q =>
      if q.bound ∨ y.st ≠ .frozen then .err s sBUSY
      else
        let all := y.entries.reverse.drop first
        let r := s.streamAll xq 0x0A 2 ((if cnt = 0 then all else all.take cnt).map galBytes)
        .ok r.1 (le 2 r.2 ++ [4, b2n (decide (4096 < y.total)) + 2 * b2n y.byTrip] ++ le 2 y.mark ++
          le 6 ((y.entries.getLast?.map (·.stamp)).getD 0))

/-- LOOP_HOLD (08 R210). -/
def execLoopHold (dt f : Nat) (s : State) : Out := .next (runCmd 0x48 f loopHoldBody (s.elapse dt))
/-- LOOP_RELEASE (08 R210). -/
def execLoopRelease (dt f : Nat) (s : State) : Out := .next (runCmd 0x49 f loopReleaseBody (s.elapse dt))
/-- GALLEY_ARM (08 R205). -/
def execGalleyArm (dt f : Nat) (s : State) : Out := .next (runCmd 0x4A f galleyArmBody (s.elapse dt))
/-- GALLEY_DUMP (08 R215). -/
def execGalleyDump (dt f : Nat) (s : State) : Out := .next (runCmd 0x4B f galleyDumpBody (s.elapse dt))

end Sys2Proof.Machine
end

