-- ==== Sys2Proof/Machine/Ledger.lean ====
section
/-! DEFINITION. Station 0x04: the parcel ledger in continuous mode, the heat integral, and batch programs (05). -/

namespace Sys2Proof.Machine

-- Parcels -------------------------------------------------------------------------------------------------

/-- A column's geometry: depth, heat section, outlet index, feedforward index (05 Table 5.5). -/
structure LdgGeo where
  mode : Nat
  depth : Nat
  hs : Nat
  he : Nat
  out : Nat
  ff : Nat
  deriving DecidableEq, Repr

def geoOf (fm : Forme) (c : Nat) : LdgGeo :=
  let p (o : Nat) : Nat := fm.parN (0x3000 + 0x40 * c + o)
  { mode := p 0, depth := p 2, hs := p 4, he := p 5, out := p 6, ff := p 6 - p 7 }
def State.geo (s : State) (c : Nat) : LdgGeo := geoOf (s.formeOf 4) c
/-- An unknown parcel that stands in the ledger while S is `sNow` (05 R129). -/
def unknownParcel (sNow : Nat) : Parcel := { sEntry := sNow % 2 ^ 48 }
def padParcels (depth : Nat) (ps : List Parcel) : List Parcel := ps ++ List.replicate (depth - ps.length) ({} : Parcel)
/-- The parcel at an index: a ledger never filled holds unknown parcels (05 R130). -/
def Column.at_ (x : Column) (i : Nat) : Parcel := x.parcels.getD i ({} : Parcel)
def Column.modAt (x : Column) (i : Nat) (f : Parcel → Parcel) : Column :=
  { x with parcels := (padParcels (i + 1) x.parcels).modify i f }

/-- DOSE of a parcel in the heat section, and whether it saturates: the 48-bit difference is signed, since a dose
is (05 R117, Table 5.1; DEDUCED, log 25). -/
def liveDose (sNow : Nat) (p : Parcel) : Int × Bool :=
  let d := diff48 (sNow % 2 ^ 48) p.sEntry / 1000
  (clamp (-2147483647) 2147483647 d, decide (d < -2147483647 ∨ 2147483647 < d))
/-- A parcel leaves the heat section: DOSE is frozen. -/
def freezeDose (sNow : Nat) (p : Parcel) : Parcel :=
  let d := liveDose sNow p
  { p with dose := d.1, flags := if d.2 then p.flags ||| 8 else p.flags }
/-- A parcel enters the heat section (05 R117). -/
def enterHeat (sNow : Nat) (p : Parcel) : Parcel := { p with sEntry := sNow % 2 ^ 48 }
/-- S_ENTRY such that the parcel has the dose it had (05 R130). -/
def keepDose (sNow : Nat) (p : Parcel) : Parcel := { p with sEntry := uw 48 ((sNow : Int) - 1000 * p.dose) }
/-- In the heat section: by its index, or in batch mode while a DOSE step runs (05 R117, R123). -/
def inHeat (g : LdgGeo) (i : Nat) : Bool := decide (g.hs ≤ i ∧ i < g.he)

/-- A batch step record (05 Table 5.3). -/
structure BStep where
  typ : Nat
  flags : Nat
  nextA : Nat
  nextB : Nat
  sp : Int
  doOn : Nat
  a : List Nat
  b : List Nat
  tmax : Nat
  rpt : Nat
  jmp : Nat
  deriving DecidableEq, Repr

def bstepOf (r : List Nat) : BStep :=
  { typ := r.getD 0 0, flags := r.getD 1 0, nextA := r.getD 2 0, nextB := r.getD 3 0, sp := intAt r 4 2
    doOn := numAt r 8 4, a := bytesAt r 12 8, b := bytesAt r 20 8, tmax := numAt r 28 2, rpt := r.getD 30 0, jmp := r.getD 31 0 }
def State.bstep (s : State) (c i : Nat) : BStep := bstepOf ((s.formeOf 4).rec_ 0x30 (16 * c + i))
/-- The step in which a batch program stands has the flag: 0 DOSE, 1 SMP_IN, 2 SMP_OUT (05 Table 5.3). -/
def State.bflag (s : State) (c k : Nat) : Bool :=
  decide ((s.col c).bst = .running) && bitOf (s.bstep c (s.col c).step).flags k
/-- The parcel's dose keeps growing. -/
def State.heating (s : State) (c i : Nat) : Bool :=
  if (s.geo c).mode = 2 then i = 0 && s.bflag c 0 else inHeat (s.geo c) i
/-- DOSE in force (05 R117). -/
def State.doseAt (s : State) (c i : Nat) : Int :=
  let p := (s.col c).at_ i
  if s.heating c i then (liveDose (s.col c).s p).1 else p.dose
/-- The 32 bytes of a record; an unknown value reads as 0xFFFF or 0x8000, and a known one never does (05 Table 5.1;
DEDUCED, log 25). -/
def parcelBytes (p : Parcel) (dose : Int) (sat : Bool) : List Nat :=
  let m (v : Option Int) : List Nat := match v with | some x => leI 2 (clamp 0 0xFFFE x) | none => le 2 0xFFFF
  le 6 p.entryPos ++ m p.mIn ++ (match p.tIn with | some x => leI 2 (clamp (-32767) 32767 x) | none => le 2 0x8000) ++
    m p.mPred ++ leI 4 dose ++ m p.mOut ++ [p.nIn, p.nOut] ++ le 2 (if sat then p.flags ||| 8 else p.flags) ++
    le 2 p.seq ++ le 6 p.sEntry ++ [0, 0]
def State.recordAt (s : State) (c i : Nat) : List Nat :=
  let p := (s.col c).at_ i
  let d := liveDose (s.col c).s p
  if s.heating c i then parcelBytes p d.1 d.2 else parcelBytes p p.dose false

/-- The PARCEL slug: the record's 30 bytes that are not reserved are its detail (05 R122; 16 R405; log 26). -/
def State.parcelSlug (s : State) (c : Nat) (p : Parcel) : State :=
  if s.pLdg c 0x15 = 1 then
    s.slug 4 0x0401 .info (obj := c) (rel := s.bmt) (bytes := (parcelBytes p p.dose false).take 30)
  else s
/-- Parcels that have left and wait for no mean any more are gone, each with its slug, the oldest first; `keep i`
says that a mean of the parcel at index i is still open. One that stands below such a parcel keeps its place until that
one goes (05 R122, Table 5.10; DEDUCED, log 26). -/
def State.flushGone (s : State) (c depth : Nat) (keep : Nat → Bool) : State :=
  let ps := (s.col c).parcels
  let left (k : Nat) : Bool := decide (depth ≤ k) && !keep k
  let gone := ((List.range ps.length).filter fun k => left k && !(ps.getD k {}).sent).reverse.map fun k => ps.getD k {}
  let len := ((List.range ps.length).filter fun k => !left k).foldl (fun m k => max m (k + 1)) 0
  gone.foldl (fun a p => a.parcelSlug c p) (s.onCol c fun x => { x with
    parcels := (x.parcels.mapIdx fun k p => if left k then { p with sent := true } else p).take len })
/-- Indices at which the closing parcels stand: the shift `j` shifts before the newest moved its parcels to j + 1
and out + j + 1. -/
def closingIdx (cl : List Closing) : List Nat :=
  let m := cl.length
  (List.range m).flatMap fun k => [m - k, (cl.getD k { at_ := 0, cross := 0, out := 0 }).out + (m - k)]
def State.keepGone (s : State) (c : Nat) : Nat → Bool := fun i => (closingIdx (s.col c).closing).contains i

-- Heat integral (05 R116) ---------------------------------------------------------------------------------

/-- Column c's S over the boundaries in ms after `m0` up to `m1`; DOSE_GAP where no valid plenum value stood. -/
def heatCol (plenHold : Nat) (m0 m1 : Nat) (inH : Nat → Bool) (depth : Nat) (x : Column) : Column :=
  let n := m1 - m0
  let k := match x.plen with
    | none => 0
    | some (_, st) => min m1 ((st + plenHold * 10000000) / 100000) - m0
  let v := match x.plen with | some (v, _) => v | none => 0
  { x with
    s := uw 64 ((x.s : Int) + k * v)
    parcels := if k < n then
        (padParcels depth x.parcels).mapIdx fun i p => if inH i then { p with flags := p.flags ||| 4 } else p
      else x.parcels }
/-- Every millisecond boundary up to now is served (05 R116). -/
def State.heat (s : State) : State :=
  let m1 := s.bmt / 100000
  if s.power.heatMs < m1 then
    let s1 := (List.range 4).foldl (fun a c =>
      a.onCol c (heatCol (a.pLdg c 0x0D) s.power.heatMs m1 (a.heating c) (a.geo c).depth)) s
    s1.onPower fun p => { p with heatMs := m1 }
  else s
/-- HEAT_INTEGRAL_TICK (05 R116). -/
def execHeatIntegralTick (dt : Nat) (s : State) : Out := .next (s.elapse dt).heat

-- Samples (05 R114) ---------------------------------------------------------------------------------------

/-- One sample counted in a parcel: role 0 M_IN, 1 T_IN, 2 M_OUT; a sample excluded by status sets EXCLUDED in the
moisture roles (05 R114, Table 5.2). -/
def takeSample (role : Nat) (ok : Bool) (v : Int) (p : Parcel) : Parcel :=
  match role with
  | 0 => if p.voidIn then p else if ok then
      { p with sumIn := p.sumIn + v, cntIn := p.cntIn + 1, nIn := min 255 (p.cntIn + 1) } else { p with flags := p.flags ||| 128 }
  | 1 => if p.voidIn ∨ !ok then p else { p with sumT := p.sumT + v, cntT := p.cntT + 1 }
  | _ => if p.voidOut then p else if ok then
      { p with sumOut := p.sumOut + v, cntOut := p.cntOut + 1, nOut := min 255 (p.cntOut + 1) } else { p with flags := p.flags ||| 128 }
/-- The index now of the parcel that held index 0 or the outlet at a stamp; none when it has closed (05 R114, R115). -/
def sampleIdx (x : Column) (out : Nat) (role stamp : Nat) : Option Nat :=
  let m := x.closing.length
  if stamp < x.closedMt then none
  else match (List.range m).find? fun k => decide (stamp < (x.closing.getD k { at_ := 0, cross := 0, out := 0 }).cross) with
    | some k => some (if role = 2 then (x.closing.getD k { at_ := 0, cross := 0, out := 0 }).out + (m - k) else m - k)
    | none => some (if role = 2 then out else 0)
/-- The flags of the step that ran at a stamp, in the record at index 0 (05 R114, R123). -/
def Column.flagsAt (x : Column) (stamp : Nat) : Nat := ((x.phases.find? fun p => decide (p.1 ≤ stamp)).map (·.2)).getD 0
/-- A phase of the program begins. -/
def Column.phase (mt flags : Nat) (x : Column) : Column := { x with phases := ((mt, flags) :: x.phases).take 16 }
def Column.late (x : Column) : Column := { x with lateSmp := incW 16 x.lateSmp }
/-- A sample for a column: the plenum's last valid value, or a sample of the parcel that its stamp names; in batch mode
the record takes those stamped in its SMP_IN and SMP_OUT steps (05 R114 to R116, R123). -/
def State.ledgerTok (s : State) (c : Nat) (t : VTok) : State :=
  let ok := decide (t.code = .ok) && t.value.isSome
  let v := t.value.getD 0
  let g := s.geo c
  let mt := s.fullMt t.stamp
  let x := s.col c
  if t.role = 3 then
    if ok then s.heat.onCol c fun x => { x with plen := some (v, mt) } else s
  else if g.mode = 2 then
    if mt < x.recMt then s.onCol c Column.late
    else if bitOf (x.flagsAt mt) (if t.role = 2 then 2 else 1) then s.onCol c fun x => x.modAt 0 (takeSample t.role ok v)
    else s
  else if g.mode = 1 then
    match sampleIdx x g.out t.role mt with
    | some i => s.onCol c fun x => x.modAt i (takeSample t.role ok v)
    | none => s.onCol c Column.late
  else s
/-- LEDGER_SAMPLE: the next sample that reached the column; one of an old epoch is discarded (05 R114; 01 R20). -/
def execLedgerSample (dt c : Nat) (s0 : State) : Out :=
  let s := s0.elapse dt
  match s.takeTok 1 c with
  | none => .next s
  | some (t, s1) => .next (if s1.freshTok t then s1.ledgerTok c t else s1)

-- Prediction and shifts (05 R118 to R122) -----------------------------------------------------------------

/-- The predicted outlet moisture (05 R118). -/
def mPred (floor : Int) (kd : Int) (bias : Int) (mIn dose : Int) : Int :=
  max floor (mIn - (dose * kd + 8388608) / 16777216 + bias)
def State.predict (s : State) (c : Nat) (dose : Int) (p : Parcel) : Parcel :=
  { p with mPred := p.mIn.map fun m => mPred (s.pLdg c 0x0F) (s.pLdg c 0x0E) (s.col c).bias m dose }
def State.predictAt (s : State) (c i : Nat) : State :=
  let d := s.doseAt c i
  s.onCol c fun x => x.modAt i (s.predict c d)
/-- A value takes its place in a loop's inbox: behind the first `k` slot triggers and before the next one. -/
def putToken (l : Nat) (t : VTok) : Nat → List VTok → List VTok
  | _, [] => [t]
  | k, y :: r =>
    let trig := decide (y.cons = 4) && y.obj = l && y.role = 0
    if trig && k = 0 then t :: y :: r else y :: putToken l t (if trig then k - 1 else k) r
/-- FFV of the new feedforward parcel, to LDG_FF_LOOP with the ledger's epoch and the parcel's SEQ; unknown publishes 0
or the last known one. `before` evaluations of that loop were dispatched before the shift (05 R120, R121). -/
def State.publish (s : State) (c before : Nat) : State :=
  let p := (s.col c).at_ (s.geo c).ff
  let tgt : Int := s.pLdg c 0x10
  let keep := s.pLdg c 0x13 = 1
  let s1 := s.onCol c fun x => match p.mPred with
    | some m => { x with ffv := sat16 (m - tgt), ffOk := true, ffSeq := p.seq, lastFf := sat16 (m - tgt) }
    | none => { x with ffv := if keep then x.lastFf else 0, ffOk := false, ffSeq := p.seq }
  let y := s1.col c
  let l := s.pLdg c 8
  if l < 48 then
    s1.onToks (putToken l { kind := 3, index := c, station := 4, epoch := s.epochOf 4, code := if y.ffOk then .ok else .suspect
                            value := some y.ffv, stamp := s.bmt, cons := 3, obj := l, role := 0, n := p.seq } before)
  else s1.onCol c fun x => { x with ffvCle := x.ffv }
/-- One shift of a continuous column, on the firing's crossing MT (05 R122). -/
def State.shift1 (s0 : State) (c target marks cross before : Nat) : State :=
  let s := s0.heat
  let g := s.geo c
  let sN := (s.col c).s
  -- a heat section that ends at the discharge: the leaving parcel leaves it too
  let s1 := if g.hs < g.he ∧ g.he = g.depth then
      (s.onCol c fun x => x.modAt (g.depth - 1) (freezeDose sN)) |> fun a =>
        a.onCol c fun x => x.modAt (g.depth - 1) fun p => a.predict c p.dose p
    else s
  let new : Parcel := {
    entryPos := target % 2 ^ 48, seq := (s.col c).nextSeq
    flags := 16 * b2n (bitOf marks 0) + 32 * b2n (bitOf marks 2), sEntry := sN % 2 ^ 48 }
  let s2 := s1.onCol c fun x => { x with
    parcels := new :: padParcels g.depth x.parcels, nextSeq := incW 16 x.nextSeq, shifts := incW 16 x.shifts
    closing := x.closing ++ [{ at_ := cross + 10000, cross, out := g.out }] }
  -- a parcel that moves into the heat section, and one that moves out of it
  let s3 := if 0 < g.hs ∧ g.hs < g.he ∧ g.hs < g.depth then s2.onCol c fun x => x.modAt g.hs (enterHeat sN) else s2
  let s4 := if g.hs < g.he ∧ g.he < g.depth then
      (s3.onCol c fun x => x.modAt g.he (freezeDose sN)).predictAt c g.he else s3
  let s5 := (s4.predictAt c g.ff).publish c before
  s5.flushGone c g.depth (s5.keepGone c)
/-- LEDGER_SHIFT: as many shifts as the token's occurrence count, the earlier ones with targets a repeat apart;
discarded unless the column is in continuous mode (05 R111, R122; 03 Table 3.8). -/
def execLedgerShift (dt c : Nat) (s0 : State) : Out :=
  let s := s0.elapse dt
  match s.takeAction 8 c with
  | none => .next s
  | some (x, s1) =>
    if (s1.geo c).mode ≠ 1 then .next (s1.reportAcc x.slot .discarded)
    else
      let rep := (s1.slotEntry x.slot).rep
      let tgt (k : Nat) : Nat := uw 48 ((x.target : Int) - ((x.occ - 1 - k) * rep : Nat))
      let before := ((s.imp.inbox.takeWhile fun y => decide (y ≠ x)).filter fun y =>
        decide (y.action = 2 ∧ y.index = s.pLdg c 8)).length
      let s2 := (List.range x.occ).foldl (fun a k => a.shift1 c (tgt k) x.marks x.mt before) s1
      .next (if x.pended then s2 else s2.reportAcc x.slot .accepted)
/-- LEDGER_SHIFT tokens of a column beyond the 64-entry inbox, in shifts (05 R111). -/
def State.pendShifts (s : State) (c : Nat) : Nat :=
  (((s.imp.inbox.filter fun x => x.action = 8).drop 64).filter fun x => x.index = c).foldl (fun n x => n + x.occ) 0

/-- A mean, rounded half toward plus infinity; none of no samples (05 R115). -/
def meanOf (sum : Int) (n : Nat) (void_ : Bool) : Option Int := if n = 0 ∨ void_ then none else some (rdiv sum n)
/-- The inlet means of a parcel close (05 R115, Table 5.2). -/
def closeIn (p : Parcel) : Parcel :=
  let m := meanOf p.sumIn p.cntIn p.voidIn
  let t := meanOf p.sumT p.cntT p.voidIn
  { p with mIn := m, tIn := t, flags := (p.flags &&& 0xFFFC) + b2n m.isNone + 2 * b2n t.isNone
           nIn := if p.voidIn then 0 else p.nIn }
def closeOut (p : Parcel) : Parcel :=
  { p with mOut := meanOf p.sumOut p.cntOut p.voidOut, nOut := if p.voidOut then 0 else p.nOut }
/-- The bias after an outlet mean has closed (05 R119). -/
def biasNext (k max_ : Nat) (b mOut mPred : Int) : Int := clamp (-(max_ : Int)) max_ (b + rdiv (mOut - mPred) (2 ^ k))
/-- PARCEL_CLOSE: 100 µs after a shift's crossing MT the means of the parcels it moved close (05 R115, R119). -/
def execParcelClose (dt c : Nat) (s0 : State) : Out :=
  let s := s0.elapse dt
  match (s.col c).closing with
  | [] => .next s
  | cl :: rest => match s.reach cl.at_ with
    | none => .next s
    | some s1 =>
      let m := (s1.col c).closing.length
      let s2 := s1.onCol c fun x => { (x.modAt m closeIn).modAt (cl.out + m) closeOut with closing := rest, closedMt := cl.cross }
      let p := (s2.col c).at_ (cl.out + m)
      let s3 := match p.mOut, p.mPred with
        | some mo, some mp => s2.onCol c fun x => { x with bias := biasNext (s2.pLdg c 0x11) (s2.pLdg c 0x12) x.bias mo mp }
        | _, _ => s2
      .next (s3.flushGone c (s3.geo c).depth (s3.keepGone c))

-- Batch programs (05 R123 to R127, R135) ------------------------------------------------------------------

/-- A setpoint write of the batch program to LDG_BATCH_LOOP (05 R125, R127). -/
def State.batchSp (s : State) (c : Nat) (v : Int) : State :=
  let l := s.pLdg c 0x16
  if l < 48 then s.loopWrite l 5 v else s
/-- No step runs: in IDLE, PAUSED and DONE the outputs are off and the safe setpoint is written (05 R127). -/
def State.batchSafe (s : State) (c : Nat) : State :=
  (s.onCol c fun x => { x.phase s.bmt 0 with doOut := 0 }).batchSp c (s.par (0x3000 + 0x40 * c + 0x18))
/-- The program leaves the step it runs: a DOSE step's dose is frozen, with M_PRED of that instant (05 R123). -/
def State.batchExit (s : State) (c : Nat) : State :=
  if s.bflag c 0 then
    let s1 := s.heat
    let s2 := s1.onCol c fun x => { x.modAt 0 (fun p => freezeDose x.s (closeIn p)) with doseS := x.s }
    s2.onCol c fun x => x.modAt 0 fun p => s2.predict c p.dose p
  else s
/-- The batch ends: the record closes, moves to index 1 with its slug, and a fresh one opens (05 R123). -/
def State.batchClose (s : State) (c : Nat) (aborted : Bool) : State :=
  let close (p : Parcel) : Parcel :=
    let q := closeOut (closeIn p)
    { q with mPred := p.mPred, flags := if aborted then q.flags ||| 256 else q.flags }
  let s1 := s.onCol c fun x => x.modAt 0 close
  let p := (s1.col c).at_ 0
  let s2 := s1.onCol c fun x => { x with
    parcels := ({ flags := 0, seq := x.nextSeq } :: padParcels (s1.geo c).depth x.parcels).take (s1.geo c).depth
    nextSeq := incW 16 x.nextSeq, dosed := false, discharged := false, recMt := s.bmt, phases := [] }
  s2.parcelSlug c p
/-- The record's dose goes on: S_ENTRY is taken at the first DOSE step, and leaves out what S grew by between two such
steps (05 R123). -/
def Column.doseOn (x : Column) : Column :=
  if x.dosed then x.modAt 0 fun p => { p with sEntry := (p.sEntry + (x.s - x.doseS)) % 2 ^ 48 }
  else { x.modAt 0 (enterHeat x.s) with dosed := true }
/-- A fresh entry to a step that takes time (05 R125). -/
def State.batchEnter (s0 : State) (c i : Nat) : State :=
  let s := s0.heat
  let st := s.bstep c i
  let p := (s.wheel (s.pLdg c 1)).pos
  let s1 := s.onCol c fun x => { x.phase s.bmt st.flags with
    bst := .running, step := i, entryMt := s.bmt, entryP := s.time.wheels.map (·.pos), hostC := false
    doOut := st.doOn &&& s.pLdg c 0x17 }
  let s2 := if bitOf st.flags 0 then s1.onCol c Column.doseOn else s1
  let s3 := if st.typ = 5 ∧ !(s2.col c).discharged then
      s2.onCol c fun x => { x.modAt 0 (fun q => { q with entryPos := p }) with discharged := true } else s2
  if st.sp = 0x7FFF then s3 else s3.batchSp c st.sp
/-- The program enters a step: END and 0xFF end it, REPEAT takes no time (05 R126). -/
def State.batchGo (c : Nat) : Nat → Nat → State → State
  | 0, _, s => s
  | k + 1, i, s =>
    let st := s.bstep c i
    if 15 < i ∨ st.typ = 0 then ((s.batchClose c false).onCol c fun x => { x with bst := .done }).batchSafe c
    else if st.typ = 6 then
      if 0 < (s.col c).ctrs.getD i 0 then
        State.batchGo c k st.jmp (s.onCol c fun x => { x with ctrs := x.ctrs.modify i (· - 1) })
      else State.batchGo c k st.nextA (s.onCol c fun x => { x with ctrs := x.ctrs.set i st.rpt })
    else s.batchEnter c i
/-- A step is left for another; 300 visits suffice, as every visit to a REPEAT uses up a count (log 27). -/
def State.batchTo (s : State) (c i : Nat) : State := State.batchGo c 300 i (s.batchExit c)
def State.batchPause (s : State) (c : Nat) : State :=
  if (s.col c).bst = .running then ((s.batchExit c).onCol c fun x => { x with bst := .paused }).batchSafe c else s

/-- A batch condition: kind, operand and value (05 Table 5.4). -/
def State.batchCond (s : State) (c : Nat) (b : List Nat) : Bool :=
  let x := s.col c
  let o := b.getD 1 0
  let v := numAt b 4 4
  let z := s.zone o
  let zok := decide (z.st = .ok)
  match b.getD 0 0 with
  | 1 => decide (v * 10000000 ≤ s.bmt - x.entryMt)
  | 2 => zok && z.value.any fun t => decide (sx 32 v ≤ t)
  | 3 => zok && z.value.any fun t => decide (t ≤ sx 32 v)
  | 4 => decide ((v : Int) ≤ diff48 (s.wheel o).pos (x.entryP.getD o 0) * s.pTw o 14 / 16777216)
  | 5 => (s.din o).tok
  | 6 => !(s.din o).tok
  | 7 => x.hostC
  | _ => false
/-- The conditions of one column, A before B: at most one transition of a non-REPEAT step (05 R125). -/
def State.batchCol (s : State) (c : Nat) : State :=
  let x := s.col c
  if x.bst = .running ∧ (s.geo c).mode = 2 ∧ s.evaluating then
    let st := s.bstep c x.step
    if s.batchCond c st.a then s.batchTo c st.nextA
    else if s.batchCond c st.b then s.batchTo c st.nextB
    else s
  else s
/-- Every millisecond boundary that has come is served once. -/
def State.batchTick (s : State) : State :=
  let m1 := s.bmt / 100000
  if s.power.batchMs < m1 then
    ((List.range 4).foldl State.batchCol s).onPower fun p => { p with batchMs := m1 }
  else s
/-- BATCH_CONDITION_TICK (05 R125). -/
def execBatchConditionTick (dt : Nat) (s : State) : Out := .next (s.elapse dt).batchTick
/-- BATCH_TMAX: the time limit of the step, tested after the conditions of the millisecond (05 R127, Table 5.6). -/
def execBatchTmax (dt c : Nat) (s0 : State) : Out :=
  let s := (s0.elapse dt).batchTick
  let x := s.col c
  let st := s.bstep c x.step
  if x.bst = .running ∧ st.tmax ≠ 0 ∧ x.entryMt + st.tmax * 100000000 ≤ s.bmt then
    .next ((s.batchPause c).slug 4 0x0403 .fault (obj := c) (after := 2) (before := 1) (v1 := x.step))
  else .next s

def bCode (b : BState) : Nat := match b with | .idle => 0 | .running => 1 | .paused => 2 | .done => 3
/-- The counter of the current step, where it is a REPEAT's; else of the first REPEAT after it (05 Table 5.8;
DEDUCED, log 28). -/
def State.rptCounter (s : State) (c : Nat) : Nat :=
  let x := s.col c
  match (List.range 16).find? fun i => decide (x.step ≤ i) && decide ((s.bstep c i).typ = 6) with
  | some i => x.ctrs.getD i 0
  | none => 0
def State.batchResult (s : State) (c : Nat) : List Nat :=
  let x := s.col c
  [c, bCode x.bst, x.step, s.rptCounter c] ++ le 4 ((s.bmt - x.entryMt) / 100000)
/-- BATCH_STEP: arguments, then the unit state, then the batch state (05 R134, R135, Table 5.9). -/
def batchStepBody (fl : Flight) (s : State) : Ans :=
  let c := argB fl.e 0
  let op := argB fl.e 1
  let i := argB fl.e 2
  let b := (s.col c).bst
  let ok (t : State) : Ans := .ok (t.recHost fl.sid 0x31 c op 0 fl.e.args) (t.batchResult c)
  if 3 < c ∨ 5 < op ∨ (s.geo c).mode ≠ 2 ∨ ((op = 0 ∨ op = 3) ∧ 15 < i) then .bad s
  else if (op = 0 ∨ op = 2 ∨ op = 3) ∧ !s.evaluating then .err s (if op = 0 ∧ b = .running then sBUSY else sNOTST)
  else match op, b with
    | 0, .running => .err s sBUSY
    | 0, .paused => .err s sBUSY
    | 0, _ =>
      let ctrs := (List.range 16).map fun k => (s.bstep c k).rpt
      ok (State.batchGo c 300 i (s.onCol c fun x => { x with ctrs, step := i, bst := .idle }))
    | 1, .running => ok (s.batchPause c)
    | 1, .paused => ok s
    | 2, .running => ok s
    | 2, .paused => ok (State.batchGo c 300 (s.col c).step s)
    | 3, .running => ok (s.batchTo c i)
    | 3, .paused => ok (s.onCol c fun x => { x with step := i })
    | 4, .running => ok ((((s.batchExit c).batchClose c true).onCol c fun x => { x with bst := .idle }).batchSafe c)
    | 4, .paused => ok (((s.batchClose c true).onCol c fun x => { x with bst := .idle }).batchSafe c)
    | 4, _ => ok s
    | 5, .running => ok (s.onCol c fun x => { x with hostC := true })
    | _, _ => .err s sNOTST

-- Commands, QUOIN, reset, power (05 R129 to R134) ---------------------------------------------------------

/-- LEDGER_READ: status, a record's halves, or records to an XQ (05 Table 5.8). -/
def ledgerReadBody (fl : Flight) (s0 : State) : Ans :=
  let c := argB fl.e 0
  let v := argB fl.e 1
  let i := argN fl.e 2 2
  let s := s0.heat
  let x := s.col c
  let g := s.geo c
  if 3 < c ∨ 3 < v ∨ (v ≠ 0 ∧ g.depth ≤ i) then .bad s0
  else match v with
    | 0 => .ok s (le 2 g.depth ++ [g.mode, bCode x.bst, x.step, s.rptCounter c] ++ le 2 x.shifts ++ leI 2 x.ffv ++
        [b2n !x.ffOk, min 255 (s.pendShifts c)] ++ leI 2 x.bias ++ le 2 x.lateSmp)
    | 1 => .ok s ((s.recordAt c i).take 16 ++ le 2 i)
    | 2 => .ok s ((s.recordAt c i).drop 16 ++ le 2 i)
    | _ =>
      let cnt := argN fl.e 4 2
      let xq := argN fl.e 6 2
      match s.ownXq fl.sid xq with
      | none => .bad s0
      | some q =>
        if cnt = 0 then .bad s0 else if q.bound then .err s0 sBUSY
        else
          let r := (List.range (min cnt (g.depth - i))).foldl (fun a k =>
            let b := s.recordAt c (i + k)
            let room := (a.1.queue? xq).any fun y => decide (y.ring.length + 2 < y.depth)
            ((a.1.stream xq (b.take 16) 4 3 (s.epochOf 4)).stream xq (b.drop 16) 4 4 (s.epochOf 4), a.2 + b2n room)) (s, 0)
          .ok r.1 (le 2 r.2)

/-- LEDGER_READ (05 R134). -/
def execLedgerRead (dt f : Nat) (s : State) : Out := .next (runCmd 0x30 f ledgerReadBody (s.elapse dt))
/-- BATCH_STEP (05 R134, R135). -/
def execBatchStep (dt f : Nat) (s : State) : Out := .next (runCmd 0x31 f batchStepBody ((s.elapse dt).batchTick))

/-- The ledger of a column is filled with unknown parcels; no program has a record there (05 R129, R130). -/
def Column.clear (x : Column) (depth mt : Nat) : Column :=
  { x with parcels := List.replicate depth (unknownParcel x.s), closing := [], closedMt := mt, bst := .idle, dosed := false
           discharged := false, recMt := mt, phases := [] }
/-- A column in batch mode stands in IDLE: its outputs are off and the safe setpoint is written (05 R127). -/
def State.batchIdle (s : State) (c : Nat) : State := if (s.geo c).mode = 2 then s.batchSafe c else s
/-- The ledger takes a forme at its turn in the QUOIN order (05 R129). `s` already has the new forme in force. -/
def State.ledgerChange (s0 : State) (old : Forme) : State :=
  (List.range 4).foldl (fun a0 c =>
    let a := a0
    let o := geoOf old c
    let n := geoOf (a.formeOf 4) c
    let id (k : Nat) : Nat := 0x3000 + 0x40 * c + k
    if [0, 1, 3].any fun k => old.par (id k) ≠ (a.formeOf 4).par (id k) then
      let a1 := a.onCol c fun x => { x.clear n.depth a.bmt with doOut := 0 }
      (a1.slug 4 0x0402 .warn (obj := c) (after := n.mode) (before := o.mode)).batchIdle c
    else
      let sN := (a.col c).s
      let home (i : Nat) (p : Parcel) : Parcel :=
        if i < n.depth && inHeat n i && !inHeat o i then enterHeat sN p
        else if inHeat o i && !(i < n.depth && inHeat n i) then freezeDose sN p else p
      -- what had left before a deeper ledger takes its places goes for good
      let a1 := if o.depth < n.depth then a.flushGone c o.depth (fun _ => false) else a
      let a2 := a1.onCol c fun x =>
        let ps := padParcels o.depth x.parcels
        let ps1 := if n.mode = 2 then ps else ps.mapIdx home
        { x with parcels := ps1 ++ List.replicate (n.depth - ps1.length) (unknownParcel sN) }
      if n.depth < o.depth then a2.flushGone c n.depth (a2.keepGone c) else a2) s0
/-- A station reset of the ledger: open means are discarded, running programs pause; a batch's are all of its record (05
R131). -/
def State.ledgerReset (s : State) : State :=
  let v (c : Nat) (a : State) : State :=
    match (a.geo c).mode with
    | 1 => a.onCol c fun x =>
        (x.modAt 0 fun p => { p with voidIn := true }).modAt (a.geo c).out fun p => { p with voidOut := true }
    | 2 => a.onCol c fun x => x.modAt 0 fun p => { p with voidIn := true, voidOut := true }
    | _ => a
  ((List.range 4).foldl (fun a c => (v c a).batchPause c) s).onToks fun t => t.filter fun x => x.cons ≠ 1
/-- Leaving RUN pauses the programs (05 R127). -/
def State.batchLeaveRun (s : State) : State := (List.range 4).foldl (fun a c => a.batchPause c) s
/-- The ledger's snapshot during hold-up, into a store that takes programs: every column with its doses frozen (05 R130; 16
R421). -/
def State.ledgerSave (s0 : State) : State :=
  let s := s0.heat
  if !s.store.mounted || s.store.readOnly then s0 else
  let freeze (c : Nat) (x : Column) : Column :=
    { x with parcels := (padParcels (s.geo c).depth x.parcels).mapIdx fun i p => if s.heating c i then freezeDose x.s p else p }
  let fo (r : RecSt) (c : Nat) : Folio :=
    { num := (if r.snapSet then 80 else 84) + c, typ := 4, st := 2, boot := s.power.boot
      serial := (r.serials.getD 0 0 + c) % 2 ^ 32, mt0 := s.now, first := 0, count := (s.geo c).depth, extra := (s.col c).s }
  s.onStore fun r => { r with
    snap := some ((List.range 4).map fun c => freeze c (s.col c)), snapPrev := r.snap, snapSet := !r.snapSet
    serials := r.serials.modify 0 fun x => (x + 4) % 2 ^ 32
    folios := (List.range 4).map (fo r) ++ r.folios.filter fun f => !(List.range 4).any fun c => (fo r c).num = f.num }
/-- A column's snapshot can be read: the store is mounted and its folio stands closed (05 R130, 16 R400). -/
def State.snapValid (s : State) (c : Nat) : Bool :=
  s.store.mounted && s.store.folios.any fun f => f.num = (if s.store.snapSet then 84 else 80) + c && f.typ = 4 && f.st = 2
/-- On entry to STANDBY from PROOF: the snapshot's records with RESTORED, S 0 and the doses kept with DOSE_GAP, or unknown
parcels; batch programs restart in IDLE (05 R127, R130). -/
def State.ledgerRestore (s : State) : State :=
  (List.range 4).foldl (fun a c =>
    let g := a.geo c
    let base (x : Column) : Column := { ({ x with s := 0, plen := none } : Column).clear g.depth a.bmt with step := 0, doOut := 0 }
    let put (i : Nat) (p : Parcel) : Parcel :=
      let q := { p with flags := p.flags ||| 64, voidIn := false, voidOut := false, sumIn := 0, cntIn := 0, sumT := 0
                        cntT := 0, sumOut := 0, cntOut := 0, sent := false }
      if inHeat g i ∧ g.mode = 1 then { keepDose 0 q with flags := q.flags ||| 4 } else q
    let b : State := match (if s.snapValid c ∧ a.pLdg c 0x14 = 1 then a.store.snap else none) with
      | some cols =>
        let old : List Parcel := (cols.getD c {}).parcels.take g.depth
        let ps : List Parcel := old.mapIdx put
        a.onCol c fun x => { base x with
          parcels := ps ++ List.replicate (g.depth - ps.length) {}
          nextSeq := ((old.head?.map fun p => (p.seq + 1) % 65536)).getD 0 }
      | none => a.onCol c base
    b.batchIdle c) s
/-- Back from REPRINT: the saved ledger with DOSE_GAP in its heat section (05 R132). -/
def State.ledgerBack (s : State) : State :=
  (List.range 4).foldl (fun a c =>
    let g := a.geo c
    a.onCol c fun x => { x with
      parcels := (padParcels g.depth x.parcels).mapIdx fun i p => if inHeat g i then { p with flags := p.flags ||| 4 } else p }) s

end Sys2Proof.Machine
end

