-- ==== Sys2Proof/Machine/Pica.lean ====
section
/-! DEFINITION. Station 0x09: Pica ports with their scans, enumeration and faults, and the temperature zones (07). -/

namespace Sys2Proof.Machine

def tenth : Nat := 10000000

-- Readings ------------------------------------------------------------------------------------------------

/-- The station of a port slot and its port there (07 R179). -/
def slotStation (sl : Nat) : Nat := if sl < 8 then 9 else 0x20 + (sl - 8) / 8
def slotPort (sl : Nat) : Nat := if sl < 8 then sl else (sl - 8) % 8
def State.nmap (s : State) (sl : Nat) : Nat := s.pPc sl 3 / 256
def State.missN (s : State) (sl : Nat) : Nat := s.pPc sl 3 % 256
/-- The IDs of a port slot's map in a forme, in map order (07 R179). -/
def Forme.picaMap (fm : Forme) (sl : Nat) : List Nat :=
  (List.range (fm.parN (0x5003 + 4 * sl) / 256)).map fun i => numAt (fm.rec_ 0x51 sl) (6 * i) 6
/-- The point of a slot: local ports keep tables, node ports the readings that arrived. -/
def State.point (s : State) (sl i : Nat) : Point :=
  if sl < 8 then (s.port sl).table.getD i {} else spGetD {} s.pica.nodePts (64 * sl + i)
def State.onPoint (s : State) (sl i : Nat) (f : Point → Point) : State :=
  if sl < 8 then s.onPort sl fun p => { p with table := p.table.modify i f }
  else s.onPica fun t => { t with nodePts := spPut t.nodePts (64 * sl + i) (f (spGetD {} t.nodePts (64 * sl + i))) }
/-- A reading is delivered: to the recorder and to every consumer (07 R171; 16 R410). -/
def State.deliverReading (s : State) (sl i : Nat) (x : Reading) : State :=
  ((s.onPoint sl i fun p => { p with rd := x, lastMt := s.bmt }).record 4 sl ((readingBytes x).map Int.ofNat)).fanOut
    { kind := 1, index := 64 * slotPort sl + i, station := slotStation sl } x.epoch x.code x.temp x.stamp
/-- A reading of a slot without a value. -/
def State.emptyReading (s : State) (sl i : Nat) (code : SCode) : Reading :=
  { point := i, code, port := slotPort sl, epoch := s.epochOf (slotStation sl), stamp := s.bmt % 2 ^ 48
    scan := if sl < 8 then (s.port sl).scan else (s.point sl i).rd.scan }

-- Frames (07 R167, Table 7.2) ------------------------------------------------------------------------------

/-- One byte into the CRC-8 with polynomial 0x31. -/
def crc8Bits : Nat → Nat → Nat
  | 0, c => c
  | k + 1, c => crc8Bits k (if 128 ≤ c then (2 * c % 256) ^^^ 0x31 else 2 * c)
def crc8 (b : List Nat) : Nat := b.foldl (fun c x => crc8Bits 8 (c ^^^ x % 256)) 0
/-- A request: SYNC, command, ID and payload, CRC over what follows SYNC. -/
def picaFrame (cmd : Nat) (pay : List Nat) : List Nat := 0x55 :: cmd :: pay ++ [crc8 (cmd :: pay)]
def State.picaSend (s : State) (p cmd : Nat) (pay : List Nat) : State := s.onPort p fun x => { x with sent := picaFrame cmd pay }
/-- The five payload bytes of a READ reply that came in time and whole: SYNC, a right CRC, no parity error, and a start
from 0.5 ms to 1.0 ms after the request; one that starts early is no reply either (07 R167, R170; log 81). -/
def picaPayload (r : PicaReply) : Option (List Nat) :=
  let pay := (r.frame.drop 1).take 5
  if r.frame.length = 7 ∧ r.frame.head? = some 0x55 ∧ r.frame.getD 6 0 = crc8 pay ∧ !r.parity ∧
      50000 ≤ r.start ∧ r.start ≤ 100000 then some pay else none

-- Scans and enumeration (07 R169, R173) -------------------------------------------------------------------

def State.portOn (s : State) (p : Nat) : Bool := bitOf (s.pPc p 0) 0
/-- A scan starts with a CONVERT frame (07 R169). -/
def State.startScan (s : State) (p : Nat) : State :=
  (s.picaSend p 0x10 []).onPort p fun x =>
    { x with scanning := true, converting := true, idx := 0, scan := incW 16 x.scan, startMt := s.now, pendScan := false }
def State.startEnum (s : State) (p : Nat) : State :=
  s.onPort p fun x => { x with enumg := true, pendEnum := false, startMt := s.now }
/-- The next PC_PERIOD expiry after now; expiries are not accumulated (07 Table 7.8). -/
def nextExpiry (next period now : Nat) : Nat :=
  if period = 0 ∨ now < next then next else next + ((now - next) / period + 1) * period
/-- An idle port starts what waits: an enumeration, a pended scan, a scan that is due, or a back-to-back scan. -/
def State.portIdle (s : State) (p : Nat) : State :=
  let x := s.port p
  let period := s.pPc p 1 * tenth
  if x.scanning || x.enumg || x.opened || x.short || !s.converting || s.isResetting 9 then s
  else if x.pendEnum then s.startEnum p
  else if x.pendScan then s.startScan p
  else if s.portOn p && (period = 0 || decide (x.nextMt ≤ s.now)) then
    (s.onPort p fun y => { y with nextMt := nextExpiry y.nextMt period s.now }).startScan p
  else s
/-- A scan or an enumeration of a port ends without delivering (07 R181, R182). -/
def State.portStop (s : State) (p : Nat) : State :=
  s.onPort p fun x => { x with scanning := false, converting := false, enumg := false
                               pendEnum := x.pendEnum || (x.enumg && x.enumF.isSome) }

/-- PICA_SCAN_PERIOD: a due scan starts, or waits for the end of a scan or enumeration (07 R169, Table 7.8). -/
def execPicaScanPeriod (dt p : Nat) (s0 : State) : Out :=
  let s := s0.elapse dt
  .next (if p < 8 then s.portIdle p else s)
/-- PICA_CONVERT_WAIT_END: 500 ms after its start a scan reads its first point, or ends with an empty table (07
R169). -/
def execPicaConvertWaitEnd (dt p : Nat) (s0 : State) : Out :=
  let s := s0.elapse dt
  let x := s.port p
  if p < 8 ∧ x.scanning ∧ x.converting ∧ x.startMt + 500 * Config.ms ≤ s.now then
    if x.table.isEmpty then .next ((s.portStop p).portIdle p)
    else .next ((s.onPort p fun y => { y with converting := false }).picaSend p 0x20 (le 6 (s.point p 0).id))
  else .next s

/-- A temperature in 1/16 °C as 0.01 °C (07 R168). -/
def picaTemp (raw : Int) : Int := rdiv (raw * 25) 4
/-- The reading that a read slot brings: stamped with the end of its reply, or with the slot's end where none came (07 R168,
R170). -/
def State.slotReading (s : State) (p i : Nat) (r : PicaReply) : Point × Reading :=
  let pt := s.point p i
  let e := { s.emptyReading p i .suspect with stamp := (s.now - if r.frame.isEmpty then 0 else r.back) % 2 ^ 48 }
  match picaPayload r with
  | some b =>
    let st := b.getD 0 0
    let rh := numAt b 3 2
    let rhP := bitOf st 2
    let e := { e with rhP, brown := bitOf st 4, rh := if rhP ∧ !bitOf st 3 ∧ rh < 0xFFFF then some rh else none }
    ({ pt with misses := 0 },
     if bitOf st 0 then { e with code := .broken }
     else { e with code := if bitOf st 1 then .overrange else .ok, temp := some (picaTemp (intAt b 1 2)) })
  | none =>
    let m := min 15 (pt.misses + 1)
    ({ pt with misses := m }, { e with code := if s.missN p ≤ m then .broken else .suspect })
/-- PICA_READ_SLOT_END: the slot's reading is delivered, and the next slot or the scan's end follows (07 R169, R170). -/
def execPicaReadSlotEnd (dt p : Nat) (r : PicaReply) (s0 : State) : Out :=
  let s := s0.elapse dt
  let x := s.port p
  if p < 8 ∧ x.scanning ∧ !x.converting ∧ s.converting ∧ x.startMt + 50000000 + 1562500 * (x.idx + 1) ≤ s.now then
    let y := s.slotReading p x.idx r
    let good := (picaPayload r).isSome
    let s1 := (s.onPoint p x.idx fun _ => y.1).deliverReading p x.idx y.2
    -- the miss that makes a point BROKEN writes a FAULT slug (07 Table 7.11; log 44)
    let s1 := if !good ∧ (s.point p x.idx).misses + 1 = s.missN p then
      s1.slug 9 0x0501 .fault (obj := 64 * p + x.idx) (after := scode .broken) (before := scode (s.point p x.idx).rd.code) else s1
    let s2 := s1.onPort p fun z => { z with idx := z.idx + 1, missTot := if good then z.missTot else incW 16 z.missTot }
    if x.idx + 1 < x.table.length then .next (s2.picaSend p 0x20 (le 6 (s2.point p (x.idx + 1)).id)) else .next ((s2.portStop p).portIdle p)
  else .next s

def insertPoint (q : Point) : List Point → List Point
  | [] => [q]
  | r :: t => if q.id < r.id then q :: r :: t else r :: insertPoint q t
/-- The points of a map, as they are known, and behind them, in ascending order, those that enumeration found beside it (07
R172). -/
def mapTable (m : List Nat) (old : List Point) : List Point :=
  let mapped := m.map fun id => { ((old.find? fun q => q.id = id).getD { id }) with mapped := true }
  let extra := (old.filter fun q => q.found && !m.contains q.id).map fun q => { q with mapped := false }
  (mapped ++ extra.foldr insertPoint []).take 64
/-- The point table after an enumeration: the map first, a point not found counting as missed, then the others found
in ascending order, 64 in all; the second part is what did not fit (07 R172). -/
def enumTable (m : List Nat) (missN : Nat) (found : List PicaFound) (old : List Point) : List Point × List Point :=
  let keep (id : Nat) : Point := (old.find? fun q => q.id = id).getD { id }
  let mapped := m.map fun id => match found.find? fun g => g.id = id with
    | some g => { keep id with mapped := true, found := true, rh := g.rh, fw := g.fw }
    | none => { keep id with mapped := true, found := false, misses := max (keep id).misses missN }
  let extra := (found.filter fun g => !m.contains g.id).map fun g =>
    { keep g.id with mapped := false, found := true, rh := g.rh, fw := g.fw }
  let all := mapped ++ extra.foldr insertPoint []
  (all.take 64, all.drop 64)
/-- The grouped form of a point ID, as text (00 R9): the middle dot is U+00B7 in UTF-8. -/
def hexChar (n : Nat) : Nat := if n < 10 then 48 + n else 55 + n
def groupHex (n : Nat) : List Nat := [n / 4096 % 16, n / 256 % 16, n / 16 % 16, n % 16].map hexChar
def groupedId (id : Nat) : List Nat :=
  groupHex (id / 2 ^ 32) ++ [0xC2, 0xB7] ++ groupHex (id / 2 ^ 16) ++ [0xC2, 0xB7] ++ groupHex id
/-- A slug for a point that differs from the map: 1 missing, 2 duplicate, 3 extra (07 R173; log 29). -/
def State.enumSlug (s : State) (p what id : Nat) : State :=
  s.slug 9 0x0903 .warn (obj := p) (after := what) (bytes := groupedId id)
/-- PICA_ENUM_END: the bus gets RESET, and mapped points that were not found read BROKEN (07 R172, R173, Table 7.10). -/
def execPicaEnumEnd (dt p : Nat) (found : List PicaFound) (s0 : State) : Out :=
  let s := s0.elapse dt
  let x := s.port p
  if 8 ≤ p ∨ !x.enumg then .next s
  else
    let m := (s.formeOf 9).picaMap p
    let t := enumTable m (s.missN p) found x.table
    let missing := m.filter fun id => !found.any fun g => g.id = id
    let dups := (found.filter (·.dup)).map (·.id)
    let extra := (found.filter fun g => !m.contains g.id).map (·.id)
    let n (l : List Nat) : Nat := min 255 l.length
    let s1 := s.onPort p fun y => { y with enumg := false, table := t.1, overpop := !t.2.isEmpty
                                           nFound := min 255 found.length, nMissing := n missing, nExtra := n extra
                                           nDup := n dups, enumF := none }
    let s2 := missing.foldl (fun a id => a.enumSlug p 1 id) s1
    let s3 := dups.foldl (fun a id => a.enumSlug p 2 id) s2
    let s4 := extra.foldl (fun a id => a.enumSlug p 3 id) s3
    let s5 := if t.2.isEmpty then s4 else s4.slug 9 0x0902 .fault (obj := p) (v1 := t.2.length)
    let s6 := match x.enumF with
      | some f => s5.complete f sOK [min 255 found.length, n missing, n extra, n dups]
      | none => s5
    let s7 := ((List.range t.1.length).filter fun i => !(t.1.getD i {}).found).foldl
      (fun a i => a.deliverReading p i (a.emptyReading p i .broken)) (s6.picaSend p 0x60 [])
    .next (s7.portIdle p)

-- Port faults and ageing points (07 R174, R175) -----------------------------------------------------------

/-- A port's fault ends its scan, and every point reads BROKEN. -/
def State.portFault (s : State) (p : Nat) : State :=
  let s1 := (s.onPort p fun x => { x with pendEnum := x.pendEnum || x.enumg }).onPort p fun x =>
    { x with scanning := false, converting := false, enumg := false }
  (List.range (s.port p).table.length).foldl (fun a i => a.deliverReading p i (a.emptyReading p i .broken)) s1
/-- PORT_OPEN (07 R174): cause 1. -/
def execPortOpen (dt p : Nat) (s0 : State) : Out :=
  let s := s0.elapse dt
  let x := s.port p
  if 8 ≤ p ∨ x.opened ∨ x.short ∨ !s.converting ∨ !s.portOn p then .next s
  else .next (((s.onPort p fun y => { y with opened := true }).portFault p).slug 9 0x0901 .fault (obj := p) (after := 1))
/-- PORT_SHORT: cause 2; the port is off for 5 s; one slug a minute (07 R174). -/
def execPortShort (dt p : Nat) (s0 : State) : Out :=
  let s := s0.elapse dt
  let x := s.port p
  if 8 ≤ p ∨ x.short ∨ !s.converting ∨ !s.portOn p then .next s
  else
    let due := match x.slugMt with | some m => decide (m + 60 * Config.sec ≤ s.now) | none => true
    let s1 := (s.onPort p fun y => { y with short := true, opened := false, offMt := s.now
                                            slugMt := if due then some s.now else y.slugMt }).portFault p
    .next (if due then s1.slug 9 0x0901 .fault (obj := p) (after := 2) else s1)
/-- PORT_SHORT_RETRY: after 5 s the port is on again and starts with a fresh CONVERT (07 R174). -/
def execPortShortRetry (dt p : Nat) (s0 : State) : Out :=
  let s := s0.elapse dt
  if p < 8 ∧ (s.port p).short ∧ (s.port p).offMt + 5 * Config.sec ≤ s.now ∧ s.converting then
    .next ((s.onPort p fun y => { y with short := false, pendScan := y.pendScan || s.portOn p }).portIdle p)
  else .next s
/-- PORT_FAULT_CLEAR: an OPEN port's current is back (07 R174). -/
def execPortFaultClear (dt p : Nat) (s0 : State) : Out :=
  let s := s0.elapse dt
  if p < 8 ∧ (s.port p).opened then
    .next ((s.onPort p fun y => { y with opened := false, pendScan := y.pendScan || s.portOn p }).portIdle p)
  else .next s
/-- Is there such a point: in a local port's table; at a node, in the map or among those that have delivered (07 R171, R172)? -/
def State.hasPoint (s : State) (sl i : Nat) : Bool :=
  if sl < 8 then decide (i < (s.port sl).table.length)
  else decide (sl < 488 ∧ i < 64) && (decide (i < s.nmap sl) || (spGet s.pica.nodePts (64 * sl + i)).isSome)
/-- PICA_POINT_STALE: no reading for PC_STALE_T, so a STALE reading goes out (07 R175; 06 R160). -/
def execPicaPointStale (dt p i : Nat) (s0 : State) : Out :=
  let s := s0.elapse dt
  if s.hasPoint p i ∧ s.converting ∧ (s.point p i).lastMt + s.pPc p 2 * tenth ≤ s.now ∧ s.portOn p then
    .next (s.deliverReading p i (s.emptyReading p i .stale))
  else .next s

-- Zones (07 R176 to R178) ---------------------------------------------------------------------------------

def insertInt (x : Int) : List Int → List Int
  | [] => [x]
  | y :: r => if x ≤ y then x :: y :: r else y :: insertInt x r
/-- MAX, MEAN or MEDIAN of at least one value (07 R176). -/
def zoneFunc (func : Nat) (vs : List Int) : Int :=
  match func with
  | 1 => vs.foldl max (vs.headD 0)
  | 2 => rdiv (vs.foldl (· + ·) 0) vs.length
  | _ =>
    let o := vs.foldr insertInt []
    let h := o.length / 2
    if o.length % 2 = 1 then o.getD h 0 else rdiv (o.getD (h - 1) 0 + o.getD h 0) 2
/-- The demand curve (07 R177). -/
def State.zoneCurve (s : State) (z : Nat) (v : Int) : Nat :=
  let n := s.pZn z 5
  let t (i : Nat) : Int := s.par (0x5808 + 0x40 * z + i)
  let d (i : Nat) : Int := s.par (0x5810 + 0x40 * z + i)
  if v ≤ t 0 then (d 0).toNat
  else match (List.range (n - 1)).find? fun i => decide (v ≤ t (i + 1)) with
    | some i => (d i + rdiv ((d (i + 1) - d i) * (v - t i)) (t (i + 1) - t i)).toNat
    | none => (d (n - 1)).toNat
/-- A source is valid: its latest token is OK, of its producer's current epoch, and no older than ZN_MAXAGE (07
R176). -/
def State.srcValid (s : State) (z : Nat) (x : SrcTok) : Option Int :=
  if x.code = .ok ∧ x.epoch = s.epochOf x.station ∧ s.age x.stamp ≤ s.pZn z 3 * tenth then x.value else none
def State.zoneVals (s : State) (z : Nat) : List Int :=
  (List.range (s.pZn z 1)).filterMap fun i => (spGet (s.zone z).srcs i).bind (s.srcValid z)
/-- The zone token: fan groups and peers take its demand; to the ledger only OK is a valid value, and a loop takes HOLD too
(07 R178, Table 7.8; 05 R116; 08 R199; 17 R444). -/
def State.zoneToken (s : State) (z : Nat) : State :=
  let x := s.zone z
  let t : ZoneTok := { zone := z, st := x.st, value := x.value, demand := x.demand, valid := x.valid, epoch := s.epochOf 9, mt := s.bmt }
  (s.onZone z fun y => { y with tok := some t }).fanOut { kind := 2, index := z, station := 9 } t.epoch
    (match x.st with | .ok => .ok | .hold => .suspect | _ => .stale)
    (if x.st = .ok ∨ x.st = .hold then x.value else none) (s.bmt % 2 ^ 48)
def zoneCode (z : ZState) : Nat := match z with | .off => 0 | .init => 1 | .ok => 2 | .failed => 3 | .hold => 4
/-- One evaluation: OK at quorum, else FAILED, but HOLD stays unless its time is over (07 R177, R181). -/
def State.zoneEval (s : State) (z : Nat) (force : Bool) : State :=
  if s.pZn z 0 = 0 then s
  else
    let x := s.zone z
    let vs := s.zoneVals z
    let k := vs.length
    let v := zoneFunc (s.pZn z 0) vs
    if 0 < k ∧ s.pZn z 2 ≤ k then
      let s1 := s.onZone z fun y => { y with st := .ok, value := some v, demand := s.zoneCurve z v, valid := k
                                             evalMt := s.bmt, failed := false }
      let s2 := if x.failed then s1.slug 9 0x0905 .info (obj := z) (after := 2) (before := zoneCode x.st) (v1 := k)
        (v2 := s.pZn z 2) else s1
      s2.zoneToken z
    else if x.st = .hold ∧ !force then
      (s.onZone z fun y => { y with valid := k, evalMt := s.bmt }).zoneToken z
    else
      let s1 := s.onZone z fun y => { y with st := .failed, value := none, demand := s.pZn z 4, valid := k
                                             evalMt := s.bmt, failed := true }
      let s2 := if x.failed then s1 else s1.slug 9 0x0904 .fault (obj := z) (after := 3) (before := zoneCode x.st) (v1 := k)
        (v2 := s.pZn z 2)
      s2.zoneToken z
/-- Zones evaluate in every state but PROOF and PROOF_HOLD, not while their station resets (07 R180, R181). -/
def State.zonesRun (s : State) : Bool := !s.isSt .proof && !s.isSt .proofHold && !s.isResetting 9
/-- ZONE_EVALUATE: the next source token that reached the zone; one of an old epoch is discarded (07 R177; 01 R20). -/
def execZoneEvaluate (dt z : Nat) (s0 : State) : Out :=
  let s := s0.elapse dt
  match s.takeTok 0 z with
  | none => .next s
  | some (t, s1) =>
    if s1.freshTok t && s1.zonesRun then
      let x : SrcTok := { code := t.code, epoch := t.epoch, station := t.station, value := t.value, stamp := t.stamp }
      .next ((s1.onZone z fun y => { y with srcs := spPut y.srcs t.role x }).zoneEval z false)
    else .next s1
/-- ZONE_AGEING_TICK: on a 100 ms MT boundary every zone is evaluated (07 R177). -/
def execZoneAgeingTick (dt : Nat) (s0 : State) : Out :=
  let s := s0.elapse dt
  match s.reach ((s.pica.ageMt / tenth + 1) * tenth) with
  | none => .next s
  | some s1 =>
    let s2 := s1.onPica fun t => { t with ageMt := s1.bmt / tenth * tenth }
    .next (if s2.zonesRun then (List.range 16).foldl (fun a z => a.zoneEval z false) s2 else s2)
/-- ZONE_HOLD_TIMEOUT: ZN_MAXAGE after the reset the zone evaluates normally again (07 R181). -/
def execZoneHoldTimeout (dt z : Nat) (s0 : State) : Out :=
  let s := s0.elapse dt
  if (s.zone z).st = .hold ∧ s.zonesRun then
    match s.reach ((s.zone z).holdMt + s.pZn z 3 * tenth) with
    | some s1 => .next (s1.zoneEval z true)
    | none => .next s
  else .next s

-- Commands (07 R183, Table 7.10) --------------------------------------------------------------------------

def scanNow (s : State) (p : Nat) : Ans :=
  let x := s.port p
  let res (a : Acc) (t : State) : Ans := .ok t (accCode a :: le 2 (t.port p).scan)
  if !s.portOn p || !s.converting then res .dropped s
  else if x.scanning || x.enumg || x.opened || x.short then
    if x.pendScan then res .dropped s else res .pended (s.onPort p fun y => { y with pendScan := true })
  else res .accepted (s.startScan p)
def portStatus (s : State) (p : Nat) : List Nat :=
  let x := s.port p
  let missing := (List.range x.table.length).filter fun i => decide (0 < (s.point p i).misses)
  [ofBits [x.opened, x.short, x.overpop, x.enumg, x.scanning], x.table.length, missing.headD 0xFF, missing.length] ++
    le 2 x.scan ++ le 2 x.missTot
def picaScanBody (fl : Flight) (s : State) : Ans :=
  let p := argB fl.e 1
  let i := argB fl.e 2
  match argB fl.e 0 with
  | 0 => if 8 ≤ p then .bad s else scanNow s p
  | 1 => if 8 ≤ p ∨ (s.port p).table.length ≤ i then .bad s
    else .ok s (readingBytes { (s.point p i).rd with point := i, port := p })
  | 2 => if 16 ≤ p then .bad s
    else
      let z := s.zone p
      let v := match z.value with | some v => leI 2 (clamp (-32767) 32767 v) | none => le 2 0x8000
      .ok s ([zoneCode z.st, z.valid] ++ v ++ le 2 (s.zoneDemand p) ++ le 6 z.evalMt)
  | 3 => if 8 ≤ p then .bad s else .ok s (portStatus s p)
  | _ => .bad s
def picaEnumBody (fl : Flight) (s : State) : Ans :=
  let p := argB fl.e 0
  let i := argB fl.e 2
  if 8 ≤ p ∨ 1 < argB fl.e 1 then .bad s
  else
    let x := s.port p
    if argB fl.e 1 = 1 then
      if x.table.length ≤ i then .bad s
      else
        let q := s.point p i
        .ok s (le 6 q.id ++ [ofBits [q.mapped, q.found, q.rh]] ++ le 2 q.fw)
    else if x.enumF.isSome then .err s sBUSY
    else .later ((s.onPort p fun y => { y with enumF := some fl.f, pendEnum := y.pendEnum || !y.enumg }).portIdle p)
/-- PICA_SCAN of local ports; a node's commands travel in CONTROL cells (07 R183, 17 R440). -/
def execPicaScan (dt f : Nat) (s : State) : Out := .next (runCmd 0x40 f picaScanBody (s.elapse dt))
/-- PICA_ENUM of local ports (07 R173, R183). -/
def execPicaEnum (dt f : Nat) (s : State) : Out := .next (runCmd 0x41 f picaEnumBody (s.elapse dt))

-- Changes of state, forme and epoch -----------------------------------------------------------------------

/-- A port starts afresh: with its map's table, an enumeration with AUTOENUM, and a scan after it. -/
def State.portFresh (s : State) (p : Nat) (enum : Bool) : State :=
  let m := (s.formeOf 9).picaMap p
  let s1 := (s.portStop p).onPort p fun x =>
    { x with table := mapTable m x.table, nextMt := s.now
             pendEnum := x.pendEnum || (enum && bitOf (s.pPc p 0) 1 && s.portOn p) }
  s1.portIdle p
/-- Entry to a state in which ports scan, from one in which they are idle (07 R180, R173). `enum` at the first entry
to STANDBY after power-on. -/
def State.portsStart (s : State) (enum : Bool) : State := (List.range 8).foldl (fun a p => a.portFresh p enum) s
def State.portsStop (s : State) : State := (List.range 8).foldl (fun a p => a.portStop p) s
/-- Zones take a forme that is applied: INIT, or OFF (07 Table 7.4). -/
def State.zoneInit (s : State) (z : Nat) : State :=
  s.onZone z fun x => if s.pZn z 0 = 0 then { x with st := .off, value := none, demand := 0, valid := 0, tok := none }
    else { x with st := .init, value := none, demand := s.pZn z 4, valid := 0, tok := none }
def State.zonesInit (s : State) : State := (List.range 16).foldl State.zoneInit s

def zoneIds (z : Nat) : List Nat := (List.range 0x40).map fun i => 0x5800 + 0x40 * z + i
def portChanged (o n : Forme) (p : Nat) : Bool :=
  o.picaMap p ≠ n.picaMap p
/-- A changed zone enters INIT and keeps the latest tokens of the sources that the station had already (07 R182). -/
def State.zoneChange (s : State) (old : Forme) (olds : List Zone) (z : Nat) : State :=
  let word (fm : Forme) (y i : Nat) : Nat := fm.parN (0x5820 + 0x40 * y + i)
  if (zoneIds z).any fun id => old.par id ≠ (s.formeOf 9).par id then
    let find (w : Nat) : Option SrcTok := (List.range 16).findSome? fun y =>
      ((List.range (old.parN (0x5801 + 0x40 * y))).find? fun j => w ≠ 0 && word old y j = w).bind
        fun j => spGet ((olds.getD y {}).srcs) j
    let srcs := (List.range (s.pZn z 1)).foldr (fun i l =>
      match find (word (s.formeOf 9) z i) with | some t => (i, t) :: l | none => l) []
    let pos (t : VTok) : Option Nat := (List.range (s.pZn z 1)).find? fun i =>
      zoneSrc (word (s.formeOf 9) z i) = some { kind := t.kind, index := t.index, station := t.station }
    let retag (t : VTok) : List VTok :=
      if t.cons = 0 ∧ t.obj = z then (match pos t with | some i => [{ t with role := i }] | none => []) else [t]
    ((s.onToks fun l => l.flatMap retag).onZone z fun x => { x with srcs }).zoneInit z
  else s
/-- Station 0x09 takes a forme at its turn in the QUOIN order (07 R182, R173). `s` already has the new forme. -/
def State.picaChange (s : State) (old : Forme) : State :=
  let inFlight (sl : Nat) (t : VTok) : Bool := t.kind = 1 && t.station = slotStation sl && t.index / 64 = slotPort sl
  let port (a : State) (p : Nat) : State :=
    if portChanged old (a.formeOf 9) p then (a.onToks fun l => l.filter fun t => !inFlight p t).portFresh p true
    else if old.par (0x5000 + 4 * p) ≠ (a.formeOf 9).par (0x5000 + 4 * p) ∨
        old.par (0x5001 + 4 * p) ≠ (a.formeOf 9).par (0x5001 + 4 * p) then
      let a1 := if a.portOn p then a else a.portStop p
      (a1.onPort p fun x => { x with nextMt := a.now }).portIdle p
    else a
  let node (a : State) (sl : Nat) : State :=
    if portChanged old (a.formeOf 9) sl then
      (a.onToks fun l => l.filter fun t => !inFlight sl t).onPica fun t =>
        { t with nodePts := t.nodePts.filter fun q => decide (q.1 / 64 ≠ sl) }
    else a
  let s1 := (List.range 480).foldl (fun a k => node a (8 + k)) ((List.range 8).foldl port s)
  (List.range 16).foldl (fun a z => a.zoneChange old s.pica.zones z) s1
/-- A station reset begins: scans and enumerations end, and every zone that is not OFF holds (07 R181). -/
def State.picaReset (s : State) : State :=
  let s0 := (List.range 8).foldl (fun a p => a.onPort p fun x => { x with enumF := none, pendEnum := false }) s.portsStop
  let s1 := s0.onToks fun l => l.filter fun t => t.cons ≠ 0
  (List.range 16).foldl (fun a z => a.onZone z fun x =>
    if x.st = .off then x else { x with st := .hold, holdMt := s.bmt }) s1
/-- The station is back: a new scan on each enabled port (07 R181). -/
def State.picaBack (s : State) : State :=
  let s1 := (List.range 16).foldl (fun a z => a.onZone z fun x => { x with holdMt := s.bmt }) s
  (List.range 8).foldl (fun a p => if a.portOn p then (a.onPort p fun x => { x with nextMt := a.now }).portIdle p else a) s1

end Sys2Proof.Machine
end

