-- ==== Sys2Proof/Machine/Fans.lean ====
section
/-! DEFINITION. The fan drives FD0 to FD5 and fan groups FG0 to FG3: speed selection, skip bands, kicks, stalls and
retries, trips, the power limit, autonomy, and the fan commands (09). -/

namespace Sys2Proof.Machine

def dCode (d : DState) : Nat :=
  match d with
  | .off => 0 | .kick => 1 | .run => 2 | .wait => 3 | .lockout => 4 | .tripped => 5 | .disabled => 6 | .uv => 7 | .stopping => 8

-- Own trip bits on the lanes (17 R436, R437) --------------------------------------------------------------

/-- The unit's own trip bits: high-limit latch, FTRIP0 and FTRIP1 inputs, a drive trip that a local source latched. -/
def State.tripBits (s : State) : Nat :=
  ofBits [s.hl.latch, s.fan.ftrip.getD 0 false, s.fan.ftrip.getD 1 false, s.fan.drives.any fun d => d.tripLoc ≠ 0]
/-- A change of the bits sends a TRIP block and a TRIP cell (17 R437). -/
def State.tripSync (s : State) : State :=
  if s.lane.tripSent = s.tripBits then s
  else s.onLane fun l => { l with tripSent := s.tripBits, tripSeq := (l.tripSeq + 1) % 16, tripMt := s.now
                                  tripCell := true, tripAcks := [], tripCellMt := s.now }
/-- A mapped remote source holds FTRIP `i` (17 R438, R439). -/
def State.remoteTrip (s : State) (i : Nat) : Bool :=
  (List.range 8).any fun k =>
    let w := s.parN (0xC010 + k)
    bitOf w 15 && w / 4096 % 2 = i &&
      s.lane.rtrips.any fun r => r.station = w % 256 && decide (r.bits &&& fld w 8 4 ≠ 0)
/-- FTRIP `i` in effect: its input open, or held by a remote source (20 Table 20.7). -/
def State.ftripOn (s : State) (i : Nat) : Bool := s.fan.ftrip.getD i false || s.remoteTrip i

-- Group targets (09 R220, R221, R227, R236, Table 9.8) ----------------------------------------------------

/-- Kicks, stalls, retries and boosts are active (09 Table 9.8). -/
def State.fansActive (s : State) : Bool :=
  s.isSt .standby || s.isSt .run || (s.isSt .update && !s.unit.updHold)
/-- AUTON: the targets of the start of UPDATE are kept (09 R236). -/
def State.autonomous (s : State) : Bool := s.isSt .update && !s.unit.updHold && !s.fan.autonEnd
/-- T of a running group from D (09 R221). -/
def groupTarget (lo hi d : Nat) : Nat := min (max d lo) hi
def groupStopped (stop d : Nat) (was : Bool) : Bool := if was then decide (d < stop + 200) else decide (d < stop)
/-- A group's D, T, source, stop state and BOOST as the present inputs give them. -/
def State.fgView (s : State) (g : Nat) : FanGroup :=
  let x := s.fg g
  let set (d t src : Nat) (stopped : Bool) : FanGroup := { x with d, t, src, stopped }
  let y : FanGroup :=
    if s.isSt .run then
      let d := s.fgDemand g
      let st := groupStopped (s.pFg g 4) d.1 x.stopped
      set d.1 (if st then 0 else groupTarget (s.pFg g 2) (s.pFg g 3) d.1) d.2 st
    else if s.isSt .standby then
      match x.force with
      | some (v, _) => set v v 3 (v = 0)
      | none => set (s.pFg g 6) (s.pFg g 6) 4 (s.pFg g 6 = 0)
    else if s.fansActive then
      if s.autonomous then set x.auton x.auton 5 (x.auton = 0) else set (s.pFg g 6) (s.pFg g 6) 4 (s.pFg g 6 = 0)
    -- before a forme is applied the registers keep their reset values (00 R12, 20 Table 20.7)
    else if s.inProof || s.isSt .update then set 0 0 0 false
    else set 0 0 4 true
  { y with boost := s.fansActive && s.pFg g 0 ≠ 1 && decide (0 < y.t) && decide (0 < s.fgFailed g) }
def State.fgRefresh (s : State) : State :=
  (List.range 4).foldl (fun a g => let v := a.fgView g; a.onFg g fun _ => v) s

-- Drives --------------------------------------------------------------------------------------------------

/-- A drive changes; a change of its state is recorded (16 Table 16.6 STATUS). -/
def State.setDrive (s : State) (n : Nat) (f : Drive → Drive) : State :=
  let s1 := s.onDrive n f
  if (s1.drive n).st = (s.drive n).st then s1
  else s1.record 0x0A (0x0B + n) [(n : Int), dCode (s1.drive n).st, 0]
def State.driveOn (s : State) (n : Nat) : Bool := s.pFd n 0 = 1 && !(s.drive n).cmdOff
/-- The state of a drive whose gates are off and that does not move. Every drive in use enters UV below 20.0 V, and after
that, as after a station reset, OFF, with what it keeps (09 R226, R229, R232, R237, R240, R242; DEDUCED, log 82). -/
def State.restState (s : State) (n : Nat) (d : Drive) : DState :=
  if !s.driveOn n then .disabled
  else if s.power.uv then .uv
  else if d.parked then .off
  else if d.trip ≠ 0 then .tripped
  else if d.lockout then .lockout
  else if d.waiting then .wait
  else .off
/-- Gates off: the fan coasts, and the drive rests. -/
def State.haltDrive (s : State) (n : Nat) : State :=
  s.setDrive n fun d =>
    let d1 := { d with gates := false, ref := 0, frac := 0, skip := false, pwrLim := false, recov := false
                       kickDrive := false, retry := false, slowMt := none, runMt := none }
    { d1 with st := s.restState n d1 }
def moving (st : DState) : Bool := match st with | .kick => true | .run => true | .stopping => true | _ => false
/-- A drive that does not move shows the state that it rests in. -/
def State.settleDrive (s : State) (n : Nat) : State :=
  if moving (s.drive n).st then s else s.setDrive n fun d => { d with st := s.restState n d }

/-- A kick begins with its CATCH phase, gates off (09 R224). -/
def State.kickDrive (s : State) (n : Nat) (retry : Bool) : State :=
  s.setDrive n fun d => { d with st := .kick, kickDrive := false, kickMt := s.now, retry, pulses := 0, waiting := false, parked := false,
                                 nextMt := none, kicks := incW 16 d.kicks, ref := 0, frac := 0, gates := false
                                 attempts := if retry then incSat 8 d.attempts else d.attempts }
/-- RUN with the reference at the measured speed; a successful retry makes the member RECOVERING (09 R224, R226). -/
def State.driveRun (s : State) (n pct : Nat) : State :=
  s.setDrive n fun d => { d with st := .run, ref := min 65535 pct, frac := 0, gates := true, runMt := some s.now
                                 slowMt := none, recov := d.retry, retry := false, kickDrive := false }
/-- The wait before attempt `k + 1`, in seconds (09 R228). -/
def retryWait (k : Nat) : Nat := min (15 * 2 ^ k) 240
/-- A stall, or a kick that ends in one: gates off, FD_EVT, a slug, and the group's policy (09 R225, R228, Table 9.2). -/
def State.stallDrive (s : State) (n : Nat) (kick : Bool) : State :=
  let d := s.drive n
  let pol := s.pFg (s.pFd n 1) 0
  let lock := decide (pol = 0 ∨ s.parN 0x7305 ≤ d.attempts)
  let s1 := (s.onDrive n fun x => { x with
    stalls := incW 16 x.stalls, evt := (if lock then orBit (orBit x.evt (b2n kick)) 2 else orBit x.evt (b2n kick))
    lockout := x.lockout || lock, waiting := !lock, parked := false
    nextMt := if lock then none else some (s.now + retryWait d.attempts * Config.sec) }).haltDrive n
  let s2 := s1.slug (0x0B + n) 0x0B01 .fault (obj := n) (after := dCode (s1.drive n).st) (before := dCode d.st)
    (v1 := d.attempts)
  if lock ∧ pol ≠ 0 then s2.slug (0x0B + n) 0x0B02 .fault (obj := n) (after := 4) (v1 := d.attempts) else s2

/-- Skip band `i` of a drive; 0 and 0 is unused (09 R223). -/
def State.skipBands (s : State) (n : Nat) : List (Nat × Nat) :=
  ((List.range 4).map fun i => (s.pFd n (0x10 + 2 * i), s.pFd n (0x11 + 2 * i))).filter fun b => b.1 ≠ 0 || b.2 ≠ 0
/-- A target inside a band goes to one of its edges (09 R223). -/
def resolveSkip (bands : List (Nat × Nat)) (ref x : Nat) : Nat :=
  match bands.find? fun b => decide (b.1 < x ∧ x < b.2) with
  | none => x
  | some (lo, hi) => if ref ≤ lo then lo else if hi ≤ ref then hi else if ref - lo ≤ hi - ref then lo else hi
/-- One millisecond of the reference in 1/1,000 of 0.01 %: at the skip rate inside a band that it crosses, else at
the ramp; `upFrozen` and `downPaused` hold the ramps (09 R222, R223, R233, R241). -/
def moveRef (bands : List (Nat × Nat)) (up dn skipRate goal ref : Nat) (upFrozen downPaused : Bool) : Nat × Bool :=
  let g := goal * 1000
  let inside := bands.any fun b => decide (b.1 * 1000 < ref ∧ ref < b.2 * 1000)
  if g = ref then (ref, inside)
  else if ref < g then
    let band := bands.any fun b => decide (b.1 * 1000 ≤ ref ∧ ref < b.2 * 1000)
    if upFrozen && !inside then (ref, false) else (min g (ref + if band then skipRate else up), band)
  else
    let band := bands.any fun b => decide (b.1 * 1000 < ref ∧ ref ≤ b.2 * 1000)
    if downPaused && !inside then (ref, false) else (max g (ref - if band then skipRate else dn), band)

/-- The overload budget after one millisecond at a current, in 10^-11 A²s (09 R218). -/
def budgetNext (budget irms : Nat) : Nat :=
  min 280000000000000 (budget + 62500000000 - irms * irms)
/-- The current limit in force, 0.1 mA: the forme's limit or the kick's, the overload cap, the heatsink's derating,
and the power limiter's reduction for a drive in RUN (09 R218, R230, R233). -/
def State.driveLimit (s : State) (n : Nat) : Nat :=
  let d := s.drive n
  let own := if d.st = .kick then s.pFd n 8 else s.pFd n 7
  let cap := if d.i2tLim then 250000 else 450000
  let heat := if 10000 < d.heat then (25 * (11000 - d.heat)).toNat * 10 else 450000
  let lim := min (min own cap) heat
  if d.st = .run then lim * s.fan.redu / 10000 else lim

/-- The drive's target: its group's, 10,000 while the group boosts and the drive has not failed, resolved against the
skip bands (09 R222, R227). -/
def State.driveTarget (s : State) (n : Nat) : Nat :=
  let d := s.drive n
  let g := s.fg (s.pFd n 1)
  let t := if !s.driveOn n then 0 else if g.boost && !driveFailed d then 10000 else g.t
  if 0 < t then resolveSkip (s.skipBands n) d.ref t else 0
/-- The speed in rpm by FD_FB: the observer's, the tachometer's with its pulses per revolution, or that of the Hall edges,
six in each electrical cycle (09 R217; the six are PRESUMED, log 82). -/
def State.driveRpm (s : State) (n : Nat) (m : DriveMeas) : Nat :=
  match s.pFd n 3 with
  | 0 => m.obs
  | 1 => (rdiv m.tach (max 1 (s.pFd n 4))).toNat
  | _ => (rdiv m.hall (6 * max 1 (s.pFd n 2))).toNat
/-- The feedback pulses of a kick by FD_FB (09 R217, R224). -/
def State.drivePulses (s : State) (n : Nat) (m : DriveMeas) : Nat :=
  match s.pFd n 3 with | 0 => m.cycN | 1 => m.tachN | _ => m.hallN
/-- What a drive measures (20 Table 20.6); with FD_FB 2 Hall edges supply the angle below 10 % of FG_RPM_MAX (09 R217). -/
def State.measureDrive (s : State) (n : Nat) (m : DriveMeas) : State :=
  let rpm := s.driveRpm n m
  let pct := (rdiv (rpm * 10000) (max 1 (s.pFg (s.pFd n 1) 5))).toNat
  s.onDrive n fun d =>
    let b := budgetNext d.budget m.irms
    { d with rpm := rpm % 65536, pct := min 65535 pct, irms := m.irms, pwr := m.pwr % 65536, vbus := m.vbus % 65536
             heat := m.heat, pulses := s.drivePulses n m, budget := b, i2tLim := d.i2tLim && decide (b = 0)
             hallAngle := decide (s.pFd n 3 = 2 ∧ pct < 1000) }
/-- The millisecond of a drive in RUN or STOPPING (09 R222, R225, R226, R233). -/
def State.moveDrive (s : State) (n : Nat) : State :=
  let d := s.drive n
  let st : DState := if d.target = 0 then .stopping else .run
  let p := fun o => s.pFd n o
  if st = .run ∧ s.fan.redu < 10000 then
    -- the reference that tracks the speed reaches its target when it meets or passes it
    let met := decide ((d.ref ≤ d.target ∧ d.target ≤ d.pct) ∨ (d.pct ≤ d.target ∧ d.target ≤ d.ref))
    s.setDrive n fun x => { x with st, ref := d.pct, frac := 0, skip := false, slowMt := none, recov := x.recov && !met }
  else
    let safe := s.isSt .update && !s.autonomous
    let r := moveRef (s.skipBands n) (if safe then p 0x0C else p 0x0B) (p 0x0C) (p 0x0D) d.target (d.ref * 1000 + d.frac)
      (d.pwrLim && st = .run) (decide (8600 < d.vbus))
    let ref := r.1 / 1000
    let slow := decide (1000 ≤ ref ∧ d.pct * 100 < p 0x18 * ref) && decide (st = .run)
    let s1 := s.setDrive n fun x => { x with
      st, ref, frac := r.1 % 1000, skip := r.2, recov := x.recov && decide (r.1 ≠ d.target * 1000) && decide (st = .run)
      pwrLim := x.pwrLim && decide (st = .run)
      runMt := if st = .run then x.runMt.or (some s.now) else none
      slowMt := if slow then x.slowMt.or (some s.now) else none }
    if st = .stopping ∧ r.1 ≤ 500000 then s1.haltDrive n else s1
/-- One drive's millisecond (09 R222, R224, R228). -/
def State.tickDrive (s : State) (n : Nat) : State :=
  let s1 := s.onDrive n fun d => { d with target := s.driveTarget n }
  let d := s1.drive n
  if s1.isResetting (0x0B + n) then s1
  else match d.st with
  | .run => s1.moveDrive n
  | .stopping => s1.moveDrive n
  | .kick => if s1.driveOn n then s1 else s1.haltDrive n
  | _ =>
    let s2 := s1.settleDrive n
    match (s2.drive n).st with
    | .off => if 0 < d.target ∧ d.trip = 0 ∧ !d.lockout then s2.kickDrive n false else s2
    | .wait => if d.nextMt = none ∧ 0 < (s2.fg (s2.pFd n 1)).t then s2.kickDrive n true else s2
    | _ => s2
/-- DRIVE_REF_TICK: at a millisecond boundary the measurements arrive, the groups' targets follow their inputs, and
every reference moves (09 R222). -/
def execDriveRefTick (dt : Nat) (m : List DriveMeas) (s0 : State) : Out :=
  let s := s0.elapse dt
  if s.now / 100000 ≤ s.fan.tickMs then .next s
  else
    let meas (a : State) (n : Nat) : State := match m[n]? with | some x => a.measureDrive n x | none => a
    let s1 := (List.range 6).foldl meas (s.onFan fun f => { f with tickMs := s.now / 100000 })
    let s2 := s1.fgRefresh
    .next (if s2.fansActive then (List.range 6).foldl State.tickDrive s2
      else (List.range 6).foldl (fun a n => a.onDrive n fun d => { d with target := 0 }) s2)

/-- KICK_CATCH_END: a fan that turns forward at 10 % or more runs; else the drive drives it (09 R224). -/
def execKickCatchEnd (dt n fwd : Nat) (s0 : State) : Out :=
  let s := s0.elapse dt
  let d := s.drive n
  if d.st = .kick ∧ !d.kickDrive ∧ d.kickMt + 100 * Config.ms ≤ s.now then
    if 1000 ≤ fwd then .next (s.driveRun n fwd)
    else .next (s.onDrive n fun x => { x with kickDrive := true, kickMt := s.now, gates := true, pulses := 0 })
  else .next s
/-- KICK_PULSES_COUNTED (09 R224). -/
def execKickPulsesCounted (dt n pct : Nat) (s0 : State) : Out :=
  let s := s0.elapse dt
  let d := s.drive n
  if d.st = .kick ∧ d.kickDrive then
    .next ((s.onDrive n fun x => { x with pulses := max x.pulses (s.pFd n 9) }).driveRun n pct)
  else .next s
/-- KICK_TIMEOUT: FD_KICK_T after the start of DRIVE without FD_KICK_N pulses (09 R224). -/
def execKickTimeout (dt n : Nat) (s0 : State) : Out :=
  let s := s0.elapse dt
  let d := s.drive n
  if d.st = .kick ∧ d.kickDrive ∧ d.kickMt + s.pFd n 0x0A * tenth ≤ s.now ∧ d.pulses < s.pFd n 9 then
    .next (s.stallDrive n true)
  else .next s
/-- STALL: the speed has been low for FD_STALL_T, or a sensorless observer has lost lock for 500 ms (09 R225). -/
def execStall (dt n : Nat) (lockLost : Bool) (s0 : State) : Out :=
  let s := s0.elapse dt
  let d := s.drive n
  let slow : Bool := match d.slowMt with | some m => decide (m + s.pFd n 0x19 * tenth ≤ s.now) | none => false
  if d.st = .run ∧ ((lockLost ∧ s.pFd n 3 = 0) ∨ slow) then .next (s.stallDrive n false) else .next s
/-- RETRY_ATTEMPT: the wait is over; while T = 0 the attempt is deferred (09 R228). -/
def execRetryAttempt (dt n : Nat) (s0 : State) : Out :=
  let s := s0.elapse dt
  let d := s.drive n
  match d.nextMt with
  | some m =>
    if d.st = .wait ∧ m ≤ s.now ∧ s.fansActive then
      if 0 < (s.fgView (s.pFd n 1)).t then .next (s.kickDrive n true)
      else .next (s.onDrive n fun x => { x with nextMt := none })
    else .next s
  | none => .next s
/-- RETRY_COUNT_RESET: FD_RETRY_RESET of continuous RUN (09 R228). -/
def execRetryCountReset (dt n : Nat) (s0 : State) : Out :=
  let s := s0.elapse dt
  let d := s.drive n
  match d.runMt with
  | some m =>
    if d.st = .run ∧ m + s.parN 0x7304 * Config.sec ≤ s.now then .next (s.onDrive n fun x => { x with attempts := 0 })
    else .next s
  | none => .next s
/-- I2T_EXHAUSTED: the 25 A cap applies (09 R218; 20 Table 20.6). -/
def execI2tExhausted (dt n : Nat) (s0 : State) : Out :=
  let s := s0.elapse dt
  if n < 6 ∧ (s.drive n).budget = 0 ∧ !(s.drive n).i2tLim then
    .next (s.onDrive n fun x => { x with i2tLim := true, evt := orBit x.evt 5 })
  else .next s

-- Trips (09 R230, R232) -----------------------------------------------------------------------------------

/-- A live trip reaches the galleys; in REPRINT the recorded ones stand in for it (08 R206; 12 R314, 16 R416). -/
def State.liveTrip (s : State) (bit : Nat) : State := if s.isSt .reprint then s else s.galTrip bit
/-- A trip source acts on a drive: its gates are off, and a newly set latch bit writes a slug, a record and the
galleys' trip (09 R230, R232; 16 R406; 08 R206). -/
def State.tripDrive (s : State) (n bit : Nat) (loc : Bool) : State :=
  let d := s.drive n
  let s1 := s.onDrive n fun x => { x with active := setBit x.active bit
                                          tripLoc := if loc then setBit x.tripLoc bit else x.tripLoc }
  if bitOf d.trip bit then s1
  else
    let s2 := (s1.onDrive n fun x => { x with trip := setBit x.trip bit, evt := orBit x.evt 3, parked := false }).haltDrive n
    let s3 := s2.slug (0x0B + n) 0x0B03 .trip (obj := n) (after := bit) (before := dCode d.st) (v1 := (s2.drive n).trip)
      (v2 := (s2.drive n).active)
    (s3.record 6 (4 + n) [1, (s3.drive n).trip]).liveTrip 3
/-- DRIVE_TRIP: OC, OV, GDF or OT, in every unit state (09 R230). -/
def execDriveTrip (dt n src : Nat) (s0 : State) : Out :=
  let s := s0.elapse dt
  if n < 6 ∧ src < 4 then .next ((s.tripDrive n src true).tripSync) else .next s

-- The power limit (09 R233, R240) -------------------------------------------------------------------------

/-- The limit in force: FD_PWR_LIM, and below 36.0 V what the supply allows, in whole watts rounded down (09 R240, 13 Table
13.1; the rounding is a DESIGN CHOICE, log 75). -/
def supplyLimit (vin : Nat) : Nat := min 5500 (5500 * (vin - 2000) / 1600)
def State.powerLimit (s : State) : Nat :=
  if s.power.vinLow then min (s.parN 0x7300) (supplyLimit s.power.vin) else s.parN 0x7300
/-- POWER_LIMIT_TICK: P against PL freezes the ramps, times the reduction, and withdraws it (09 R233). -/
def execPowerLimitTick (dt : Nat) (s0 : State) : Out :=
  let s := s0.elapse dt
  let p := (s.fan.drives.map (·.pwr)).foldl (· + ·) 0
  let pl := s.powerLimit
  let overT := decide (105 * pl < 100 * p)
  let below := decide (100 * p < 95 * pl)
  let step := below && decide (s.fan.redu < 10000) && decide (s.fan.wdMt + 200 * Config.ms ≤ s.now)
  let redu := if step then min 10000 (s.fan.redu + 500) else s.fan.redu
  let was := s.fan.drives.any (·.pwrLim)
  let frozen := decide (pl < p) || (was && !(below && decide (redu = 10000))) || decide (redu < 10000)
  let lim (d : Drive) : Drive :=
    let on := frozen && decide (d.st = .run)
    { d with pwrLim := on, evt := if on && !d.pwrLim then orBit d.evt 6 else d.evt }
  .next (s.onFan fun f =>
   { f with
    ptot := p, pl, redu, overMt := if overT then f.overMt.or (some s.now) else none
    wdMt := if !below || step then s.now else f.wdMt, drives := f.drives.map lim })
/-- POWER_LIMIT_REDUCE: after 20 ms above 1.05 × PL the limit falls by 5 % of its value, and again every 20 ms (09
R233). -/
def execPowerLimitReduce (dt : Nat) (s0 : State) : Out :=
  let s := s0.elapse dt
  match s.fan.overMt with
  | some m =>
    if m + 20 * Config.ms ≤ s.now then
      .next (s.onFan fun f => { f with redu := f.redu * 95 / 100, overMt := some s.now })
    else .next s
  | none => .next s
/-- AUTONOMY_EXPIRY (09 R236). -/
def execAutonomyExpiry (dt : Nat) (s0 : State) : Out :=
  let s := s0.elapse dt
  if s.isSt .update ∧ s.power.updMt + s.parN 0x7301 * Config.sec ≤ s.now then
    .next (s.onFan fun f => { f with autonEnd := true })
  else .next s

-- The internal cooling fans (09 R235) ---------------------------------------------------------------------

/-- The internal group runs in every unit state but after a power fail; one failed fan boosts the others (09 R235, 13
R318; log 8). -/
def State.coolRefresh (s : State) : State :=
  s.onFan fun f => { f with coolRun := if s.power.pfail then 0 else 7 - f.coolFail, coolBoost := decide (f.coolFail ≠ 0)
                            coolSpd := if f.coolFail ≠ 0 then 100 else Config.coolSpeed s.power.tInt % 256 }
/-- INTERNAL_FAN_FAIL: WARN for one failed fan, FAULT for two or more (09 R235; 16 Table 16.14). -/
def execInternalFanFail (dt fan : Nat) (s0 : State) : Out :=
  let s := s0.elapse dt
  if 3 ≤ fan ∨ bitOf s.fan.coolFail fan then .next s
  else
    let s1 := (s.onFan fun f => { f with coolFail := setBit f.coolFail fan }).coolRefresh
    let n := ((List.range 3).filter fun i => bitOf s1.fan.coolFail i).length
    .next (s1.slug 0 0x000C (if n = 1 then .warn else .fault) (obj := fan) (v1 := s1.fan.coolFail))

-- Commands (09 R243, Table 9.12) --------------------------------------------------------------------------

/-- Seconds to the next attempt, 0xFFFF none or deferred. -/
def State.nextSec (s : State) (d : Drive) : Nat :=
  match d.nextMt with
  | some m => if d.st = .wait ∧ s.now < m then min 0xFFFE (cdiv (m - s.now) Config.sec) else 0xFFFF
  | none => 0xFFFF
def State.driveStatus (s : State) (n : Nat) : List Nat :=
  let d := s.drive n
  [dCode d.st, d.trip] ++ le 2 d.ref ++ le 2 d.target ++ le 2 d.rpm ++ le 4 d.irms ++ le 2 d.pwr ++ [d.attempts] ++
    le 2 (s.nextSec d)
def State.groupFlags (s : State) (g : Nat) (x : FanGroup) : Nat :=
  ofBits [x.boost, x.force.isSome && x.src = 3, x.stopped, s.fgBlocked g]
def State.groupStatus (s : State) (g : Nat) : List Nat :=
  let x := s.fgView g
  [g, x.src] ++ le 2 x.d ++ le 2 x.t ++ [s.groupFlags g x, s.fgFailed g] ++
    le 2 ((s.fgHost g).getD 0xFFFF) ++ le 2 ((s.fgLoop g).getD 0xFFFF)
def fanCmdBody (fl : Flight) (s : State) : Ans :=
  let n := fl.e.target - 0x0B
  let op := argB fl.e 0
  let g := argB fl.e 1
  let v := argN fl.e 2 2
  let grp (f : FanGroup → FanGroup) : Ans :=
    let s1 := (s.onFg g f).recHost fl.sid 0x50 g v 0 fl.e.args
    .ok s1 (s1.groupStatus g)
  if 7 < op ∨ ((op = 2 ∨ op = 4) ∧ 10000 < v) then .bad s
  else if op = 0 ∨ op = 6 ∨ op = 7 then
    if g ≠ n then .bad s
    else if op = 0 then .ok s (s.driveStatus n)
    else
      let s1 := (s.onDrive n fun d => { d with cmdOff := decide (op = 6) }).recHost fl.sid 0x50 n 0 0 fl.e.args
      let s2 := if (s1.drive n).st = .kick ∧ op = 6 then s1.haltDrive n else s1.settleDrive n
      .ok s2 (s2.driveStatus n)
  else if 3 < g then .bad s
  else match op with
    | 1 => .ok s (s.groupStatus g)
    | 2 => grp fun x => { x with host := some (v, fl.sid) }
    | 3 => grp fun x => { x with host := none }
    | 4 => if s.isSt .standby ∨ s.isSt .run then grp fun x => { x with force := some (v, fl.sid) } else .err s sNOTST
    | _ => grp fun x => { x with force := none }
def fanClearTripBody (fl : Flight) (s : State) : Ans :=
  let n := fl.e.target - 0x0B
  let d := s.drive n
  let res (t : State) : List Nat := [n, (t.drive n).trip, (t.drive n).active, dCode (t.drive n).st]
  if argB fl.e 0 ≠ n then .bad s
  else if d.trip &&& d.active ≠ 0 then
    let s1 := (s.onDrive n fun x => { x with evt := orBit x.evt 7 }).slug (0x0B + n) 0x0B04 .fault (obj := n)
      (after := dCode d.st) (v1 := d.trip) (v2 := d.active)
    .done s1 sTRIP (res s1)
  else if d.trip = 0 then .ok s (res s)
  else
    let s1 := ((s.onDrive n fun x => { x with trip := 0, tripLoc := 0, waiting := false, nextMt := none }).settleDrive n).tripSync
    let s2 := s1.record 6 (4 + n) [0, 0]
    .ok s2 (res s2)
def fanRetryNowBody (fl : Flight) (s : State) : Ans :=
  let n := fl.e.target - 0x0B
  if argB fl.e 0 ≠ n then .bad s
  else if (s.drive n).st ≠ .wait then .err s sNOTST
  else
    let s1 := s.kickDrive n true
    .ok s1 [n, dCode (s1.drive n).st, (s1.drive n).attempts]
def fanUnlockBody (fl : Flight) (s : State) : Ans :=
  let n := fl.e.target - 0x0B
  if argB fl.e 0 ≠ n then .bad s
  else if !((s.drive n).lockout && ((s.drive n).st = .lockout || (s.drive n).parked)) then .err s sNOTST
  else
    let s1 := (s.onDrive n fun x => { x with lockout := false, waiting := false, nextMt := none, attempts := 0 }).settleDrive n
    .ok s1 [n, dCode (s1.drive n).st]
/-- FAN_CMD (09 R243). -/
def execFanCmd (dt f : Nat) (s : State) : Out := .next (runCmd 0x50 f fanCmdBody (s.elapse dt))
/-- FAN_CLEAR_TRIP (09 R232). -/
def execFanClearTrip (dt f : Nat) (s : State) : Out := .next (runCmd 0x51 f fanClearTripBody (s.elapse dt))
/-- FAN_RETRY_NOW (09 R243). -/
def execFanRetryNow (dt f : Nat) (s : State) : Out := .next (runCmd 0x52 f fanRetryNowBody (s.elapse dt))
/-- FAN_UNLOCK (09 R229). -/
def execFanUnlock (dt f : Nat) (s : State) : Out := .next (runCmd 0x53 f fanUnlockBody (s.elapse dt))

-- Changes of state and session ----------------------------------------------------------------------------

/-- A change of unit state: FORCE ends; gates go off in a state without fans; UPDATE keeps the targets it meets (09
R239, R236). -/
def State.fansEnter (s : State) (old : UState) : State :=
  let s1 := s.onFan fun f => { f with groups := f.groups.map fun g =>
    { g with force := none, auton := if s.isSt .update ∧ old ≠ .update then g.t else g.auton } }
  let s2 := if s.isSt .update then s1.onFan fun f => { f with autonEnd := false } else s1
  if s2.fansActive then s2
  else ((List.range 6).foldl (fun a n => if moving (a.drive n).st then a.haltDrive n else a) s2).fgRefresh
/-- The host demand and FORCE of a session end with it (09 R239). -/
def State.fansSession (s : State) (sid : Nat) : State :=
  let keep (o : Option (Nat × Nat)) : Option (Nat × Nat) := o.filter fun p => p.2 ≠ sid
  s.onFan fun f => { f with groups := f.groups.map fun g => { g with host := keep g.host, force := keep g.force } }
/-- A station reset of a drive: gates off and OFF, and what holds it is kept (09 R242). -/
def State.driveReset (s : State) (n : Nat) : State := (s.onDrive n fun d => { d with parked := true }).haltDrive n
/-- VIN below 20.0 V: every drive's gates are off, and it goes to UV and from there to OFF (09 R240). -/
def State.drivesUv (s : State) : State :=
  (List.range 6).foldl (fun a n => (a.onDrive n fun d => { d with evt := orBit d.evt 4, parked := true }).haltDrive n) s
def State.drivesSettle (s : State) : State := (List.range 6).foldl State.settleDrive s

end Sys2Proof.Machine
end

