-- ==== Sys2Proof/Machine/Valves.lean ====
section
/-! DEFINITION. Station 0x11: the valve channels SV0 to SV7, dither, peak and hold, the boost rail and the energy
governor (10); the FTRIP inputs, the supply's UV and BURNER_PERMIT, which act on drives and valves alike. -/

namespace Sys2Proof.Machine

def vCode (v : VState) : Nat :=
  match v with
  | .off => 0 | .on => 1 | .pull => 2 | .pullWait => 3 | .hold => 4 | .tripped => 5 | .safe => 6 | .uv => 7

-- Energies in µJ, currents in 0.1 mA, inductances in 0.1 mH, C in 0.1 µF, voltages in 0.1 V (10 R251) -----

def coilE (l i : Nat) : Nat := l * i * i / 2000000
/-- The greatest current that stores no more than an energy. -/
def coilI (l e : Nat) : Nat := isqrt (2000000 * e / l)
def railE (c v : Nat) : Nat := c * v * v / 2000
/-- The bound of R252: E_CEIL - 40,000 µJ. -/
def railBound (c : Nat) : Nat := railE c 1200 - 40000
/-- What pull-ins may bring the coils to (10 R252). -/
def admitLimit (c : Nat) : Nat := railBound c - railE c 900
/-- VB_TGT for a coil energy (10 R252). -/
def railTarget (c es : Nat) : Nat := min 1100 (max 900 (isqrt (2000 * (railBound c - es) / c)))
/-- The energy class of the EPC strap; none is unrestricted (10 R253). -/
def epcClass (epc : Nat) : Option Nat :=
  match epc % 4 with | 0 => some 50000 | 1 => some 250000 | 2 => some 1000000 | _ => none

def State.svL (s : State) (n : Nat) : Nat := max (s.pSv n 3) ((s.sv n).learned.getD 0)
def State.svMode (s : State) (n : Nat) : Nat := s.pSv n 0
def State.coilSum (s : State) : Nat := (s.valve.svs.map (·.e)).foldl (· + ·) 0

/-- A channel changes; a change of its state is recorded (16 Table 16.6 STATUS). -/
def State.setSv (s : State) (n : Nat) (f : Valve → Valve) : State :=
  let s1 := s.onSv n f
  if (s1.sv n).st = (s.sv n).st then s1
  else s1.record 0x0A 0x11 [(n : Int), vCode (s1.sv n).st, b2n (s1.svBlocked n)]

-- Dither (10 R246, R247) ----------------------------------------------------------------------------------

/-- The Taylor series of the sine at `x` of 2^64, from the term `t` of order 2k - 1 on. -/
def sinTerms : Nat → Nat → Int → Int → Int → Int
  | 0, _, _, _, r => r
  | m + 1, k, x2, t, r =>
    let t' := -(t * x2 / 2 ^ 64) / ((2 * k : Nat) * (2 * k + 1 : Nat) : Int)
    sinTerms m (k + 1) x2 t' (r + t')
/-- round(32768 sin(2π q / 65536)) of the first quarter, q up to 16,384. -/
def sinQuarter (q : Nat) : Int :=
  let x : Int := ((57952155664616982739 * q / 32768 : Nat) : Int)
  (sinTerms 13 1 (x * x / 2 ^ 64) x x * 32768 + 2 ^ 63) / 2 ^ 64
def sineWave (p : Nat) : Int :=
  if p ≤ 16384 then sinQuarter p
  else if p ≤ 32768 then sinQuarter (32768 - p)
  else if p ≤ 49152 then -sinQuarter (p - 32768)
  else -sinQuarter (65536 - p)
def triWave (p : Nat) : Int :=
  if p < 16384 then 2 * p else if p < 49152 then 32768 - 2 * ((p : Int) - 16384) else 2 * ((p : Int) - 65536)
/-- The dither of amplitude `a` at phase `p` (10 R246). -/
def ditherOf (wave a p : Nat) : Int :=
  match wave with
  | 1 => (a * triWave p + 16384) / 32768
  | 2 => (a * sineWave p + 16384) / 32768
  | _ => 0
def State.ditherAmp (s : State) (n : Nat) : Nat :=
  if s.pSv n 4 = 0 then 0 else (rdiv (s.pSv n 1 * s.pSv n 5) 10000).toNat
/-- The dither phase on a tick of a PROP channel with dither, whatever its state: the accumulator, or the mains angle,
free while MA is invalid and steered back after lock (10 R246, R247). -/
def State.ditherStep (s : State) (n : Nat) (v : Valve) : Valve :=
  let mul := s.pSv n 8
  let div := max 1 (s.pSv n 9)
  if s.svMode n ≠ 1 ∨ s.pSv n 4 = 0 then { v with dithFree := false }
  else if s.pSv n 7 = 0 then
    { v with dacc := (v.dacc + (rdiv (s.pSv n 6 * 2 ^ 32) 200000).toNat) % 2 ^ 32, dithFree := false }
  else if s.baseValid 1 then
    let p := s.maNow * mul / div % 65536
    let cur := v.dacc / 65536
    let d := sx 16 (uw 16 ((p : Int) - cur))
    if v.dithFree && decide (64 < d ∨ d < -64) then
      { v with dacc := uw 16 ((cur : Int) + clamp (-64) 64 d) * 65536 }
    else { v with dacc := p * 65536, dithFree := false }
  else { v with dacc := (v.dacc + s.time.freq * mul * 65536 / (div * 20000)) % 2 ^ 32, dithFree := true }

-- Commands of a channel (10 R245, R262) -------------------------------------------------------------------

def State.ownVal (s : State) (o : Option (Nat × Nat)) : Option Nat := if s.isSt .standby || s.isSt .run then o.map (·.1) else none
/-- No forme has been applied: every channel is at 0 mA (12 R308, Table 12.2). -/
def State.svDark (s : State) : Bool := s.isSt .proof || s.isSt .proofHold || (s.isSt .update && s.unit.updHold)
/-- The command of a PROP channel and its source: 3 FORCE, 2 loop, 1 host, 0 safe; while the station resets, the safe
value; a loop output that carries the epoch before the last reset is discarded (10 R245, R262, R265; 12 Table 12.2). -/
def State.propCmd (s : State) (n : Nat) : Nat × Nat :=
  let v := s.sv n
  if s.svDark then (0, 0)
  else if s.isResetting 0x11 then (s.pSv n 2, 0)
  else match s.ownVal v.force with
  | some x => (x, 3)
  | none => match (if v.oldU then none else s.loopU 1 n) with
    | some u => (u.toNat, 2)
    | none => match s.ownVal v.host with
      | some x => (x, 1)
      | none => (s.pSv n 2, 0)
/-- A PH channel is on, and by which source; `none` takes the safe value (10 R245, R262, R265). -/
def State.phCmd (s : State) (n : Nat) : Option (Bool × Nat) :=
  let v := s.sv n
  let fol := s.pSv n 0x0D
  let doOn := s.isSt .run && decide (fol < 24) && (s.dout fol).out
  if s.isResetting 0x11 then none
  else match s.ownVal v.force with
  | some x => some (x ≠ 0, 3)
  | none =>
    if s.isSt .run then some (if (s.ownVal v.host).any (· ≠ 0) then (true, 1) else if doOn then (true, 4) else (false, 0))
    else (s.ownVal v.host).map fun x => (x ≠ 0, 1)
def State.permitGone (s : State) (n : Nat) : Bool := s.pSv n 0x0E = 1 && !s.hl.permit
/-- PERMIT_OFF follows the permit in every state of the channel (10 R258, 13 Table 13.15). -/
def State.seePermit (s : State) (n : Nat) (v : Valve) : Valve :=
  let off := s.permitGone n
  { v with permitOff := off, evt := if off && !v.permitOff then orBit v.evt 6 else v.evt }

-- One channel's tick (10 R246 to R253, R258, R263) --------------------------------------------------------

/-- The channel energy from the greatest current of R251: the measured one, `i` with its dither, or the peak of an
admitted pull-in. -/
def State.svEnergy (s : State) (n i : Nat) (v : Valve) : Nat :=
  coilE (s.svL n) (max (max v.imeas i) (if v.st = .pull then v.phI else 0))
/-- A reduction of more than 5 % of SV_IMAX in a tick returns through the fast path, and so does every switch-off, trip,
fall from peak and change to a safe value (`must`), until the current has fallen (10 R249, R262). -/
def State.fastPath (s : State) (n old new : Nat) (must : Bool) (v : Valve) : Bool :=
  decide (new * 20 + s.pSv n 1 < old * 20) || (must && decide (new < old ∨ new < v.imeas)) ||
    (v.fast && decide (new < v.imeas))
/-- A channel takes a reference and a state, with the energy that the current `i` and its other currents give. -/
def State.putRefE (s : State) (n ref i : Nat) (must : Bool) (v : Valve) : State :=
  let old := s.sv n
  let e := s.svEnergy n i v
  s.setSv n fun _ => { v with ref, e, eMt := if e = old.e then old.eMt else s.now, fast := s.fastPath n old.ref ref must v }
def State.putRef (s : State) (n ref : Nat) (must : Bool) (v : Valve) : State := s.putRefE n ref ref must v
/-- The class cap: what the strap's energy class leaves (10 R253). -/
def State.classCap (s : State) (n : Nat) : Nat :=
  match epcClass s.unit.straps.epc with
  | some e => min 0xFFFF (coilI (s.svL n) e)
  | none => 0xFFFF
/-- The rise cap: the current at which the bound would be reached with the present E_R; the present reference stands
(10 R252). -/
def State.riseCap (s : State) (n : Nat) : Nat :=
  let v := s.sv n
  let others := s.coilSum - v.e
  let room := railBound s.valve.c - railE s.valve.c s.valve.vb - others
  min 0xFFFF (max v.ref (coilI (s.svL n) room))
/-- A channel's command and the caps on it; GOV_CAP and CLASS_CAP are set while a cap lies below the command (10 R252,
R253). -/
def capped (cmd gov cls : Nat) (v : Valve) : Valve :=
  let evt (b : Bool) (i : Nat) (w : Word) : Word := if b then orBit w i else w
  { v with cmd, capGov := gov, capCls := cls, govCap := decide (gov < cmd), classCap := decide (cls < cmd)
           evt := evt (decide (gov < cmd) && !v.govCap) 2 (evt (decide (cls < cmd) && !v.classCap) 3 v.evt) }
/-- A PROP channel: command, caps, dither (10 R246, R252, R253, R258). -/
def State.tickProp (s : State) (n : Nat) : State :=
  let v := s.sv n
  let c := s.propCmd n
  let cmd := min c.1 (s.pSv n 1)
  let gov := s.riseCap n
  let cls := s.classCap n
  let cap := min gov cls
  let off := s.permitGone n
  let amp := s.ditherAmp n
  let d := ditherOf (s.pSv n 4) amp (v.dacc / 65536)
  let ref := if cmd = 0 ∨ off then 0 else (min (max ((cmd : Int) + d) 0) (cap : Int)).toNat
  let base := if cmd = 0 ∨ off then 0 else min cmd cap
  let safe := decide (c.2 = 0)
  let toSafe := safe && (decide (v.src ≠ 0 ∨ v.cmd ≠ cmd) || decide (v.st ≠ .safe))
  s.putRefE n ref (min cap (if base = 0 then 0 else base + amp)) (off || toSafe)
    { capped cmd gov cls v with st := if safe then .safe else .on, src := c.2 }
/-- May a waiting pull-in be admitted: its class, the rail, and the headroom (10 R252, R253, R264). -/
def State.admits (s : State) (n : Nat) : Bool :=
  let pk := coilE (s.svL n) (s.sv n).phI
  !s.valve.vbFault && decide (s.coilSum + pk ≤ admitLimit s.valve.c) &&
    (match epcClass s.unit.straps.epc with | some e => decide (pk ≤ e) | none => true)
/-- A PH channel: off or on by its command, a request for pull-in, the pull-in, or hold. A request carries the peak
current of the forme in force; a phase begun keeps its own (10 R248, R253, R260). -/
def State.tickPh (s : State) (n : Nat) : State :=
  let v := s.sv n
  let off := s.permitGone n
  let cls := s.classCap n
  let gov := s.riseCap n
  let rest (w : Valve) : Valve := { w with reqMt := none, admMt := none }
  let pk := s.pSv n 0x0A
  match s.phCmd n with
  | none =>
    let i := if s.pSv n 0x0F = 1 ∧ !s.svDark then s.pSv n 0x0C else 0
    s.putRef n (if off then 0 else min i (min gov cls)) true { capped i gov cls (rest v) with st := .safe, src := 0 }
  | some (on, src) =>
    if !on ∨ off then
      s.putRef n 0 true { capped (if on then s.pSv n 0x0C else 0) 0xFFFF cls (rest v) with st := .off, src }
    else match v.st with
      | .pull => s.putRef n (min v.phI cls) false { capped v.phI 0xFFFF cls v with src }
      | .hold => s.putRef n (min v.phI (min gov cls)) false { capped v.phI gov cls v with src }
      | .pullWait => s.putRef n 0 true { capped pk 0xFFFF cls v with src, phI := pk }
      | _ => s.putRef n 0 true { capped pk 0xFFFF cls v with st := .pullWait, src, reqMt := some s.now, admMt := none, phI := pk }
/-- The step test that VALVE_LEARN_L runs on a channel, with its I1 and I2 (10 R254, R266). -/
def State.stepTest (s : State) (n : Nat) : Option (Nat × Nat) :=
  if s.isSt .standby && !s.isResetting 0x11 && (s.sv n).force.isNone && (s.loopTo 1 n).isNone then
    (s.host.flights.find? fun fl => fl.started && decide (fl.e.op = 0x59 ∧ argB fl.e 0 = n ∧
      argN fl.e 2 2 < argN fl.e 4 2 ∧ argN fl.e 4 2 ≤ s.pSv n 1)).map fun fl => (argN fl.e 2 2, argN fl.e 4 2)
  else none
/-- The measured current has settled at a reference: it lies within the accuracy of 10 Table 10.2 (log 83). -/
def settledAt (i imeas : Nat) : Bool := decide (1000 * (if i < imeas then imeas - i else i - imeas) ≤ 3 * i + 10000)
/-- The current of a step test: I1 until it has settled, then I2, under the governor's caps (10 R253, R254). -/
def State.tickTest (s : State) (n i1 i2 : Nat) : State :=
  let v := s.sv n
  let stepped := v.stepped || (decide (v.ref = i1) && settledAt i1 v.imeas)
  let cmd := if stepped then i2 else i1
  let gov := s.riseCap n
  let cls := s.classCap n
  let off := s.permitGone n
  s.putRef n (if off then 0 else min cmd (min gov cls)) off
    { capped cmd gov cls v with st := .on, src := 1, stepped := stepped && !off, reqMt := none, admMt := none }
/-- One channel on a tick: tripped, in UV, still returning the current of the mode it left, under a step test, or by its
mode (10 R255, R258, R260, R263). -/
def State.tickSv (s0 : State) (n : Nat) : State :=
  let test := s0.stepTest n
  let s := s0.onSv n fun v =>
    { s0.seePermit n v with leaving := v.leaving && decide (10 < v.imeas), stepped := v.stepped && test.isSome }
  let v := s.sv n
  let none_ (st : VState) (w : Valve) : State := s.putRef n 0 true { w with st, reqMt := none, admMt := none }
  if v.trip ≠ 0 then none_ .tripped v
  else if s.power.uv then none_ .uv v
  else if v.leaving then none_ .off v
  else match test with
    | some t => s.tickTest n t.1 t.2
    | none => match s.svMode n with
      | 1 => s.tickProp n
      | 2 => s.tickPh n
      | _ => none_ .off { v with cmd := 0, src := 0, govCap := false, classCap := false }
/-- The first of the waiting channels: in request order, lower channel first on one tick (10 R252). -/
def insertReq (key : Nat → Nat) (n : Nat) : List Nat → List Nat
  | [] => [n]
  | m :: r => if key n ≤ key m then n :: m :: r else m :: insertReq key n r
def State.waiting (s : State) : List Nat :=
  (((List.range 8).filter fun n => (s.sv n).st = .pullWait).foldr (insertReq fun n => ((s.sv n).reqMt).getD 0) [])
/-- Waiting pull-ins are tested in request order; each admitted one counts at once (10 R252). -/
def State.admitAll (s : State) : State :=
  s.waiting.foldl (fun a n =>
    if a.admits n then
      a.putRef n (min (a.sv n).phI (a.classCap n)) false { a.sv n with st := .pull, admMt := some a.now, reqMt := none, phT := a.pSv n 0x0B }
    else a) s

/-- Measured currents, and what they show: at full duty, a coil current below 25 % of a reference of 100.0 mA or more
(10 R256). -/
def State.svMeasure (s : State) (n i : Nat) (full : Bool) : State :=
  s.onSv n fun v =>
    let low := decide (1000 ≤ v.ref ∧ 4 * i < v.ref)
    { v with imeas := i % 65536, lowMt := if low ∧ full then v.lowMt.or (some s.now) else none, opened := v.opened && low }
/-- GOVERNOR_TICK: every 50 µs the energies, the dither, the rail target, the references and the admissions. The
measured currents, VBST and the drivers at full duty (a bit each) come with it (10 R250 to R252, R256). -/
def execGovernorTick (dt : Nat) (imeas : List Nat) (vbst full : Nat) (s0 : State) : Out :=
  let s := s0.elapse dt
  let s1 := (List.range 8).foldl (fun a n => (a.svMeasure n (imeas.getD n 0) (bitOf full n)).onSv n (a.ditherStep n)) s
  let s2 := s1.onValve fun v => { v with vb := vbst % 65536 }
  let s3 := ((List.range 8).foldl State.tickSv s2).admitAll
  let es := s3.coilSum
  .next (s3.onValve fun v =>
    let tgt := if v.c = 0 then v.tgt else railTarget v.c es
    let chg := decide (vbst < tgt) && !s.power.vinUv
    { v with tgt, charge := chg, ret := decide (tgt + 10 < vbst) && !s.power.vinUv
             lowMt := if chg ∧ vbst < 800 then v.lowMt.or (some s.now) else none
             vbFault := v.vbFault && decide (vbst < 800) })

-- Events of a channel -------------------------------------------------------------------------------------

/-- A channel has learned an inductance; a change above 25 % writes a slug (10 R254). -/
def State.learn (s : State) (n l : Nat) : State × Bool :=
  let big := match (s.sv n).learned with
    | some o => decide (o < 4 * (if l < o then o - l else l - o))
    | none => false
  let s1 := s.onSv n fun v => { v with learned := some l, learnReq := false, evt := if big then orBit v.evt 4 else v.evt }
  (if big then s1.slug 0x11 0x1105 .warn (obj := n) (v1 := l) (v2 := ((s.sv n).learned.getD 0 : Nat)) else s1, big)
/-- L of a pull-in, 0.1 mH: the averaged VBST and the time of the rise from 20 % to 80 % of SV_PEAK_I (10 R254). -/
def pullL (vavg us peak : Nat) : Nat := (rdiv (vavg * us * 100) (6 * peak)).toNat
/-- PULLIN_PEAK: the current has reached SV_PEAK_I, and with SV_LEARN_AUTO the rise gives the inductance (10 R248,
R254). -/
def execPullinPeak (dt n vavg riseUs : Nat) (s0 : State) : Out :=
  let s := s0.elapse dt
  let l := pullL vavg riseUs (s.sv n).phI
  if (s.sv n).st = .pull ∧ s.parN 0x8100 = 1 ∧ (s.sv n).phI ≠ 0 ∧ l < 65536 then .next (s.learn n l).1 else .next s
/-- PEAK_TIME_END: SV_PEAK_T after admission the coil falls to SV_HOLD_I through the fast path (10 R248). -/
def execPeakTimeEnd (dt n : Nat) (s0 : State) : Out :=
  let s := s0.elapse dt
  let v := s.sv n
  match v.admMt with
  | some m =>
    if v.st = .pull ∧ m + v.phT * Config.ms ≤ s.now then
      let h := s.pSv n 0x0C
      .next (s.putRef n (min h (s.classCap n)) true { v with st := .hold, phI := h, cmd := h, admMt := none })
    else .next s
  | none => .next s
/-- COIL_OPEN: the current has stayed low for SV_OPEN_T (10 R256). -/
def execCoilOpen (dt n : Nat) (s0 : State) : Out :=
  let s := s0.elapse dt
  let v := s.sv n
  match v.lowMt with
  | some m =>
    if m + s.pSv n 0x10 * Config.ms ≤ s.now ∧ !v.opened then
      .next ((s.onSv n fun x => { x with opened := true, evt := orBit x.evt 1 }).slug 0x11 0x1103 .fault (obj := n)
        (after := vCode v.st) (v1 := v.imeas) (v2 := v.ref))
    else .next s
  | none => .next s
/-- CLAMP: the clamp burns the excess; channels whose E_i changed within 10 ms are to be learned again (10 R252). -/
def execClamp (dt burned : Nat) (s0 : State) : Out :=
  let s := s0.elapse dt
  let s1 := s.onValve fun v => { v with
    clampCnt := incW 32 v.clampCnt, clampJ := min (2 ^ 32 - 1) (v.clampJ + burned), govClamp := true, clampMt := s.now
    svs := v.svs.map fun x => if s.now < x.eMt + 10 * Config.ms then { x with learnReq := true } else x }
  .next (s1.slug 0x11 0x1104 .warn (v1 := burned) (v2 := s1.valve.clampCnt))
/-- GOV_CLAMP_CLEAR: no clamp event for 10 s (20 R491). -/
def execGovClampClear (dt : Nat) (s0 : State) : Out :=
  let s := s0.elapse dt
  if s.valve.clampMt + 10 * Config.sec ≤ s.now then .next (s.onValve fun v => { v with govClamp := false }) else .next s
/-- VB_FAULT: VBST below 80.0 V for 100 ms while charging (10 R264). -/
def execVbFault (dt : Nat) (s0 : State) : Out :=
  let s := s0.elapse dt
  match s.valve.lowMt with
  | some m =>
    if m + 100 * Config.ms ≤ s.now ∧ !s.valve.vbFault then
      .next ((s.onValve fun v => { v with vbFault := true }).slug 0x11 0x1106 .fault (v1 := s.valve.vb) (v2 := s.valve.tgt))
    else .next s
  | none => .next s

-- Trips (10 R255) -----------------------------------------------------------------------------------------

/-- A trip source acts on a channel: its current returns through the fast path, and a newly set latch bit writes a
slug (10 R255; 16 R406). -/
def State.tripSv (s : State) (n bit : Nat) : State :=
  let v := s.sv n
  let s1 := s.onSv n fun x => { x with active := setBit x.active bit }
  if bitOf v.trip bit then s1
  else
    let w := { s1.sv n with trip := setBit v.trip bit, evt := orBit v.evt 0, st := .tripped, reqMt := none, admMt := none }
    (s1.putRef n 0 true w).slug 0x11 0x1101 .trip (obj := n) (after := bit) (before := vCode v.st) (v1 := w.trip) (v2 := w.active)
/-- VALVE_TRIP: OC on its channel, OT on all (10 Table 10.4). -/
def execValveTrip (dt n src : Nat) (s0 : State) : Out :=
  let s := s0.elapse dt
  if src = 0 ∧ n < 8 then .next (s.tripSv n 0)
  else if src = 1 then .next ((List.range 8).foldl (fun a i => a.tripSv i 1) s)
  else .next s
def State.ftripMask (s : State) (i : Nat) : Nat := s.parN (0x7302 + i)
/-- FTRIP `i` in effect stops the masked drives and valves; else their sources are inactive again (09 R230, 10 R255,
17 R438). -/
def State.ftripApply (s : State) (i : Nat) : State :=
  let m := s.ftripMask i
  if s.ftripOn i then
    let s1 := (List.range 6).foldl (fun a n => if bitOf m n then a.tripDrive n (4 + i) (s.fan.ftrip.getD i false) else a) s
    (List.range 8).foldl (fun a n => if bitOf m (8 + n) then a.tripSv n (2 + i) else a) s1
  else
    let s1 := s.onFan fun f => { f with drives := f.drives.map fun d => { d with active := clrBit d.active (4 + i) } }
    s1.onValve fun v => { v with svs := v.svs.map fun x => { x with active := clrBit x.active (2 + i) } }
/-- FTRIP_INPUT: an FTRIP input opens or closes (09 R230; 16 Table 16.6 SAFETY; 08 R206; 17 R437). -/
def execFtripInput (dt i : Nat) (opened : Bool) (s0 : State) : Out :=
  let s := s0.elapse dt
  if 2 ≤ i ∨ s.fan.ftrip.getD i false = opened then .next s
  else
    let was := s.ftripOn i
    let s1 := (s.onFan fun f => { f with ftrip := f.ftrip.set i opened }).record 6 (1 + i) [b2n opened, b2n opened]
    let s2 := s1.ftripApply i
    .next ((if opened ∧ !was then s2.liveTrip (1 + i) else s2).tripSync)
/-- TRIP_SOURCE_CLEAR: a trip source is no longer detected; the latch stays (09 R232, 10 R255). -/
def execTripSourceClear (dt : Nat) (valve : Bool) (n src : Nat) (s0 : State) : Out :=
  let s := s0.elapse dt
  if valve then
    if src = 0 then .next (s.onSv n fun v => { v with active := clrBit v.active 0 })
    else if src = 1 then .next (s.onValve fun t => { t with svs := t.svs.map fun v => { v with active := clrBit v.active 1 } })
    else .next s
  else if src < 4 then .next (s.onDrive n fun d => { d with active := clrBit d.active src })
  else .next s

-- Supply and permit ---------------------------------------------------------------------------------------

/-- VIN is seen at a value: its flags with their hysteresis, and a WARN slug when VIN_UV or VIN_HIGH sets; VIN_UV
clears at 20.0 V (13 R316, Tables 13.1, 13.2; DEDUCED, log 36). -/
def State.seeVin (s : State) (vin : Nat) : State :=
  let low := decide (vin < 3600) || (s.power.vinLow && decide (vin < 3650))
  let high := decide (8050 ≤ vin) || (s.power.vinHigh && decide (8000 < vin))
  let uv := decide (vin < 2000)
  let f (p : PowerSt) : Nat := ofBits [p.vinUv, p.vinLow, p.vinHigh]
  let s1 := s.onPower fun p => { p with vin, vinLow := low, vinHigh := high, vinUv := uv }
  if (uv && !s.power.vinUv) || (high && !s.power.vinHigh) then
    s1.slug 0 0x0006 .warn (after := f s1.power) (before := f s.power) (v1 := vin)
  else s1
/-- VIN_UNDERVOLT: below 20.0 V drives and valves enter UV (09 R240, 10 R263; 13 R316). -/
def execVinUndervolt (dt vin : Nat) (s0 : State) : Out :=
  let sv := s0.elapse dt
  if 2000 ≤ vin then .next sv
  else if sv.power.uv then .next (sv.seeVin vin)
  else
    let s := sv.seeVin vin
    let s1 := (s.onPower fun p => { p with uv := true }).drivesUv
    .next ((List.range 8).foldl (fun a n => (a.onSv n fun v => { v with evt := orBit v.evt 5 }).tickSv n) s1)
/-- VIN_RECOVER: VIN has been above 22.0 V for 100 ms (09 R240, 10 R263). -/
def execVinRecover (dt vin : Nat) (s0 : State) : Out :=
  let s := s0.elapse dt
  if 10000 < vin then .fault .outsideOperatingConditions
  else if !s.power.uv ∨ vin ≤ 2200 then .next s
  else
    let s1 := ((s.seeVin vin).onPower fun p => { p with uv := false }).drivesSettle
    .next (s1.onValve fun t => { t with svs := t.svs.map fun v => if v.st = .uv then { v with st := .off } else v })
/-- Both relays are energised only while the latch is clear and HL_FWP is set, and VIN is there (12 R298, R311). -/
def HlSt.drive (h : HlSt) : Bool := !h.latch && h.fwp && !h.vinLost
/-- The high limit changes: the contacts and their readbacks follow the relays, and PCHAIN's 2 s start and end with its
condition (12 R298, R300, R307). -/
def State.setHl (s : State) (f : HlSt → HlSt) : State :=
  s.onHl fun h =>
    let h' := f h
    let h2 := if h'.drive = h.drive then h'
      else { h' with rb := [h'.drive, h'.drive], deMt := if h'.drive then h'.deMt else s.now }
    let cond := h2.permit && h2.rb.any (! ·)
    { h2 with pchain := h2.pchain && cond, pchainMt := if cond then h2.pchainMt.or (some s.now) else none }
/-- BURNER_PERMIT_CHANGE: the filtered input changes; SV_PERMIT channels follow at once (12 R306, 10 R258). -/
def execBurnerPermitChange (dt : Nat) (on : Bool) (s0 : State) : Out :=
  let s := s0.elapse dt
  if s.hl.permit = on then .next s
  else
    let s1 := (s.setHl fun h => { h with permit := on }).record 6 0 [b2n on, 0]
    let s2 := s1.slug 0x13 0x1306 .info (after := b2n on) (before := b2n (!on))
    .next ((List.range 8).foldl (fun a n => if a.pSv n 0x0E = 1 then a.tickSv n else a) s2)

-- Commands (10 R266, Table 10.9) --------------------------------------------------------------------------

/-- SV_STATE bits 15 to 0 (10 Table 10.8). -/
def State.svState (s : State) (n : Nat) : Nat :=
  let v := s.sv n
  vCode v.st + 256 * ofBits [v.govCap, v.classCap, v.opened, v.permitOff, v.dithFree, v.force.isSome, s.svBlocked n, v.learnReq]
def State.svStatus (s : State) (n : Nat) : List Nat :=
  let v := s.sv n
  le 2 (s.svState n) ++ [v.trip, v.active] ++ le 2 v.ref ++ le 2 v.imeas ++ le 2 (min v.capGov v.capCls) ++ le 4 v.e ++
    le 2 (s.svL n) ++ [v.src]
def State.govFlags (s : State) : Nat := ofBits [s.valve.govClamp, s.valve.vbFault, s.valve.charge, s.valve.ret]
def State.pullWaitMask (s : State) : Nat := ofBits ((List.range 8).map fun n => decide ((s.sv n).st = .pullWait))
def State.railStatus (s : State) : List Nat :=
  let er := railE s.valve.c s.valve.vb
  let es := s.coilSum
  le 2 s.valve.vb ++ le 2 s.valve.tgt ++ le 4 er ++ le 4 es ++ leI 4 ((railBound s.valve.c : Int) - er - es) ++
    [s.pullWaitMask, s.govFlags]
def valveCmdBody (fl : Flight) (s : State) : Ans :=
  let op := argB fl.e 0
  let n := argB fl.e 1
  let v := argN fl.e 2 2
  let set (f : Valve → Valve) : Ans :=
    let s1 := (s.onSv n f).recHost fl.sid 0x58 n v 0 fl.e.args
    .ok s1 (s1.svStatus n)
  let badV := if s.svMode n = 2 then decide (1 < v) else decide (s.pSv n 1 < v)
  if op = 6 then .ok s s.railStatus
  else if 6 < op ∨ 7 < n ∨ ((op = 1 ∨ op = 3) ∧ badV) then .bad s
  else match op with
    | 0 => .ok s (s.svStatus n)
    | 1 => set fun x => { x with host := some (v, fl.sid) }
    | 2 => set fun x => { x with host := none }
    | 3 => if s.isSt .standby ∨ s.isSt .run then set fun x => { x with force := some (v, fl.sid) } else .err s sNOTST
    | 4 => set fun x => { x with force := none }
    | _ =>
      let x := s.sv n
      if x.trip &&& x.active ≠ 0 then
        let s1 := s.slug 0x11 0x1102 .fault (obj := n) (after := vCode x.st) (v1 := x.trip) (v2 := x.active)
        .done s1 sTRIP (s1.svStatus n)
      else
        let s1 := (s.onSv n fun y => { y with trip := 0 }).setSv n fun y => if y.st = .tripped then { y with st := .off } else y
        .ok s1 (s1.svStatus n)
/-- L of a step test, 0.1 mH, from the voltage at I1, VIN, the currents and the step time (10 R254). -/
def stepL (vin vHold i1 i2 us : Nat) : Int := rdiv ((2 * (vin * i1 : Nat) - (vHold * (i1 + i2) : Nat)) * us) (2 * i1 * (i2 - i1) : Nat)
/-- R of a step test, 0.01 Ω. -/
def stepR (vHold i1 : Nat) : Int := rdiv (vHold * 10000 : Nat) i1
/-- The end of VALVE_LEARN_L's step test, with the voltage at I1 and the step time. A test that the channel could not
run (tripped, in UV, without its permit) gives no value for the store. With I1 = 0 the rule divides by zero, and L and R
are free values, as L is while VIN is not known (10 R254, logs 31, 83). -/
def valveLearnBody (vHold us : Nat) (fl : Flight) (s : State) : Ans :=
  let n := argB fl.e 0
  let i1 := argN fl.e 2 2
  let i2 := argN fl.e 4 2
  if 7 < n ∨ i2 ≤ i1 ∨ s.pSv n 1 < i2 then .bad s
  else if !s.isSt .standby ∨ (s.sv n).force.isSome ∨ (s.loopTo 1 n).isSome then .err s sNOTST
  else
    let a := s.fresh
    let b := a.2.fresh
    let l := if i1 = 0 ∨ s.power.vin = 0 then a.1 else stepL s.power.vin vHold i1 i2 us
    let r := if i1 = 0 then b.1 else stepR vHold i1
    let s1 := if i1 = 0 ∨ s.power.vin = 0 then b.2 else s
    if (s1.sv n).stepped ∧ 0 < l ∧ l < 65536 then
      let t := s1.learn n l.toNat
      .ok t.1 ([n, 1 + 2 * b2n t.2] ++ leI 2 l ++ leI 2 (clamp 0 65535 r) ++ le 2 us)
    else .ok s1 ([n, 0] ++ leI 2 (clamp 0 65535 l) ++ leI 2 (clamp 0 65535 r) ++ le 2 us)
/-- VALVE_CMD (10 R266). -/
def execValveCmd (dt f : Nat) (s : State) : Out := .next (runCmd 0x58 f valveCmdBody (s.elapse dt))
/-- VALVE_LEARN_L (10 R254). -/
def execValveLearnL (dt f vHold stepUs : Nat) (s : State) : Out :=
  .next (runCmd 0x59 f (valveLearnBody vHold stepUs) (s.elapse dt))

-- Changes of state, session and epoch ---------------------------------------------------------------------

/-- A change of unit state ends FORCE, and each channel takes the value of the state (10 R245, R262). -/
def State.valvesEnter (s : State) : State :=
  (List.range 8).foldl State.tickSv (s.onValve fun t => { t with svs := t.svs.map fun v => { v with force := none } })
def State.valvesSession (s : State) (sid : Nat) : State :=
  let keep (o : Option (Nat × Nat)) : Option (Nat × Nat) := o.filter fun p => p.2 ≠ sid
  s.onValve fun t => { t with svs := t.svs.map fun v => { v with host := keep v.host, force := keep v.force } }
/-- A station reset begins: requests are withdrawn, and every channel goes to its safe value through the fast path
(10 R265). -/
def State.valveReset (s : State) : State :=
  (List.range 8).foldl (fun a n =>
    (a.onSv n fun v => { v with reqMt := none, admMt := none, leaving := false }).tickSv n) s
/-- The station is back under its new epoch: loop outputs handed over before carry the old one and are discarded (10
R265, 01 R20). -/
def State.valveBack (s : State) : State :=
  (List.range 8).foldl State.tickSv (s.onValve fun t => { t with svs := t.svs.map fun v => { v with oldU := true } })
/-- The valves take a forme: a channel whose mode changes first returns its current (10 R260). -/
def State.valveChange (s : State) (old : Forme) : State :=
  (List.range 8).foldl (fun a n =>
    if old.parN (0x8000 + 0x20 * n) ≠ a.svMode n then
      (a.onSv n fun v => { v with leaving := true, reqMt := none, admMt := none }).tickSv n
    else a) s

end Sys2Proof.Machine
end

