-- ==== Sys2Proof/Machine/Dio.lean ====
section
/-! DEFINITION. Station 0x12, the isolated inputs and outputs: filters, output functions, update frames and the
watchdog, field faults and the fault scan (11). -/

namespace Sys2Proof.Machine

-- Inputs (11 R269 to R271) --------------------------------------------------------------------------------

/-- One step of the up/down counter and the filtered state (11 R269). -/
def diStep (on off cmax : Nat) (raw : Bool) (d : Din) : Din :=
  let c := if raw then min cmax (d.c + 1) else min cmax d.c - 1
  { d with raw, c, st := if raw then d.st || decide (on ≤ c) else d.st && decide (off < c) }
/-- A transition token reaches its consumers: timers, EVENT slots, batch conditions (11 R271). -/
def State.diToken (s : State) (n : Nat) (on : Bool) : State :=
  ((s.onDin n fun d => { d with tok := on }).tmDi n on).eventToken 1 n 0 on
/-- DI_FILTER_STEP: a preset without a token, or DI_TICK × 10 µs after the last one a step; a transition is counted,
recorded and delivered; an input with a coupler fault holds (11 R269 to R271, R286, R292). -/
def execDiFilterStep (dt n : Nat) (raw : Bool) (s0 : State) : Out :=
  let s := s0.elapse dt
  if 32 ≤ n ∨ s.isSt .proof ∨ s.dio.diCpl.getLsbD n ∨ s.isResetting 0x12 then .next s
  else
    let b := 0x9000 + 4 * n
    let d := s.din n
    if d.preset then
      .next (s.onDin n fun x => { x with raw, c := if raw then s.parN (b + 3) else 0, st := raw, preset := false
                                         stepMt := s.now, tok := if s.isSt .reprint then x.tok else raw })
    else if s.now < d.stepMt + s.parN b * 1000 then .next s
    else
      let d' := diStep (s.parN (b + 1)) (s.parN (b + 2)) (s.parN (b + 3)) raw { d with stepMt := s.now }
      if d'.st = d.st then .next (s.onDin n fun _ => d')
      else
        let s1 := (s.onDin n fun _ => { d' with cnt := if d'.st then incW 16 d'.cnt else d'.cnt }).onDio fun t =>
          { t with diEvt := orBit t.diEvt n }
        if s.isSt .reprint then .next s1
        else .next ((s1.record 5 n [b2n d'.st]).diToken n d'.st)

-- Groups and functions (11 R272, R277, R289) --------------------------------------------------------------

/-- The lowest channel of the parallel group of a channel under DO_PAR of its quad (11 R277). -/
def leadOf (par n : Nat) : Nat :=
  match par with
  | 1 => if n % 4 < 2 then n - n % 2 else n
  | 2 => if n % 4 < 2 then n else n - n % 2
  | 3 => n - n % 2
  | 4 => n - n % 4
  | _ => n
def State.doLead (s : State) (n : Nat) : Nat := leadOf (s.parN (0x9200 + n / 4)) n
def State.pDo (s : State) (n o : Nat) : Nat := s.parN (0x9100 + 8 * n + o)
/-- A running batch program drives the output (05 R125). -/
def State.batchDo (s : State) (n : Nat) : Bool :=
  (List.range 4).any fun c => bitOf (s.pLdg c 0x17) n && bitOf (s.col c).doOut n
/-- The state that an output's source gives it, none while it takes its safe value (11 R272, R289; 12 Table 12.2). -/
def State.doSource (s : State) (l : Nat) : Option Bool :=
  let d := s.dout l
  let force := s.dio.forceEn.getLsbD l
  let func := s.pDo l 0
  if s.isSt .run then
    some (if force then s.dio.forceVal.getLsbD l
      else match func with
        | 0 => s.dio.doHost.getLsbD l
        | 1 => d.slot
        | 2 => s.batchDo l
        | 3 => d.tpOn
        | _ => d.fHigh && d.freq ≠ 0)
  else if s.isSt .standby then
    if force then some (s.dio.forceVal.getLsbD l) else if func = 0 then some (s.dio.doHost.getLsbD l) else none
  else none
/-- A safe value: off, on, or the state kept (11 R280). -/
def safeVal (mode : Nat) (kept : Bool) : Bool := match mode with | 0 => false | 1 => true | _ => kept
/-- The state that the terminal is driven to: the safe value of an expired channel, else what the last frame carried,
off before the first one (11 R280). -/
def driven (d : Dout) : Bool := if d.expired then d.safeSt else d.del
/-- The switch itself is on: driven on, and neither overloaded between retries, nor hot, nor without L+ (11 Table 11.4). -/
def switchOn (supply : Bool) (d : Dout) : Bool := driven d && !supply && !d.therm && (!d.ovl || d.trying)
/-- Commanded off, a channel no longer reports OVL or OPEN (11 Table 11.4). -/
def dropFaults (d : Dout) : Dout := { d with ovl := d.ovl && driven d, opn := d.opn && driven d, trying := d.trying && driven d }
/-- A frame reaches a channel: it carries the state, FEED restarts its watchdog, RELEASE ends its safe value (11 R279 to
R281). -/
def frameDo (now : Nat) (feed release : Bool) (d : Dout) : Dout :=
  if d.cpl then d
  else dropFaults { d with
    del := d.out, framed := true, fed := if feed then now else d.fed, expired := d.expired && !release }
/-- One output follows its group's source; a change is sent in a frame at once (11 R276, R279, R282). -/
def State.doFollow (s : State) (n : Nat) : State :=
  let l := s.doLead n
  let d := s.dout n
  let kept := if d.inSafe then d.kept else d.out
  let out : Bool := match s.doSource l with
    | some b => b
    | none => if s.svDark then false else safeVal (s.pDo l 1) kept
  let isSafe := (s.doSource l).isNone
  s.onDout n fun x =>
    let y := { x with out, inSafe := isSafe, kept := if isSafe then kept else x.kept }
    if out = x.out then y else frameDo s.now s.feeds false y
/-- Every output follows; in UPDATE outputs keep their last state until they expire (11 R289). -/
def State.doRefresh (s : State) : State := if s.isSt .update then s else (List.range 24).foldl State.doFollow s

-- SLOT actions (11 R273, R289; 03 Table 3.8) --------------------------------------------------------------

/-- A DO action acts in RUN, on a SLOT output that has not expired; else it is DISCARDED. -/
def State.doAction (s0 : State) (action n : Nat) (f : Firing → State → Dout → Dout) : State :=
  match s0.takeAction action n with
  | none => s0
  | some (x, s) =>
    if s.isSt .run ∧ s.pDo n 0 = 1 ∧ s.doLead n = n ∧ !(s.dout n).expired then
      ((s.onDout n (f x s)).doRefresh).reportAcc x.slot .accepted
    else s.reportAcc x.slot .discarded
/-- DO_SET switches on and cancels a scheduled switch-off. -/
def execDoSet (dt n : Nat) (s : State) : Out :=
  .next ((s.elapse dt).doAction 3 n fun _ _ d => { d with slot := true, pulse := none })
/-- DO_CLEAR switches off at once. -/
def execDoClear (dt n : Nat) (s : State) : Out :=
  .next ((s.elapse dt).doAction 4 n fun _ _ d => { d with slot := false, pulse := none })
/-- DO_PULSE switches on and schedules the switch-off after ARG_A × 10 µs. -/
def execDoPulse (dt n : Nat) (s : State) : Out :=
  .next ((s.elapse dt).doAction 5 n fun x t d => { d with slot := true, pulse := some (t.now + x.argA * 1000) })
/-- DO_PULSE_END (11 R273). -/
def execDoPulseEnd (dt n : Nat) (s0 : State) : Out :=
  let s := s0.elapse dt
  match (s.dout n).pulse with
  | some m => if m ≤ s.now then .next ((s.onDout n fun d => { d with slot := false, pulse := none }).doRefresh) else .next s
  | none => .next s

-- TPROP and FREQ (11 R274, R275) --------------------------------------------------------------------------

/-- The on-time of a period, in ms (11 R274). -/
def tpOnTime (duty period tmin : Nat) : Nat :=
  let on := (rdiv (duty * period) 10000).toNat
  if on < tmin then 0 else if period - on < tmin then period else on
def State.tpStart (s : State) (n at_ : Nat) : State :=
  let on := tpOnTime (min 10000 ((s.loopU 4 n).getD 0).toNat) (s.pDo n 3) (s.pDo n 4)
  s.onDout n fun d => { d with tpMt := at_, tpMs := on, tpOn := decide (0 < on) }
/-- A FREQ output starts a period with the frequency handed over, at most 10.000 kHz. -/
def State.freqStart (s : State) (n at_ : Nat) : State :=
  let f := min 100000 ((s.loopU 3 n).getD 0).toNat
  s.onDout n fun d => { d with fMt := at_, freq := f, fHigh := decide (0 < f) }
/-- TPROP_PERIOD_START: a new period takes the new duty. -/
def execTpropPeriodStart (dt n : Nat) (s0 : State) : Out :=
  let s := s0.elapse dt
  let t := (s.dout n).tpMt + s.pDo n 3 * Config.ms
  if n < 24 ∧ s.pDo n 0 = 3 ∧ s.isSt .run ∧ t ≤ s.now then .next ((s.tpStart n t).doRefresh) else .next s
/-- TPROP_ON_END: the on-time is over; an on-time of the whole period runs into the next. -/
def execTpropOnEnd (dt n : Nat) (s0 : State) : Out :=
  let s := s0.elapse dt
  let d := s.dout n
  if n < 24 ∧ s.pDo n 0 = 3 ∧ d.tpOn ∧ d.tpMs < s.pDo n 3 ∧ d.tpMt + d.tpMs * Config.ms ≤ s.now then
    .next ((s.onDout n fun x => { x with tpOn := false }).doRefresh)
  else .next s
/-- FREQ_HALF_PERIOD: the output toggles; a period's end takes the new frequency. -/
def execFreqHalfPeriod (dt n : Nat) (s0 : State) : Out :=
  let s := s0.elapse dt
  let d := s.dout n
  if 24 ≤ n ∨ s.pDo n 0 ≠ 4 ∨ !s.isSt .run then .next s
  else if d.freq = 0 then .next ((s.freqStart n s.now).doRefresh)
  else if d.fHigh then
    if d.fMt + 500000000 / d.freq ≤ s.now then .next ((s.onDout n fun x => { x with fHigh := false }).doRefresh) else .next s
  else
    let t := d.fMt + 1000000000 / d.freq
    if t ≤ s.now then .next ((s.freqStart n t).doRefresh) else .next s
/-- TPROP and FREQ outputs start a new period now. -/
def State.periodsStart (s : State) : State :=
  (List.range 24).foldl (fun a n => if a.pDo n 0 = 3 then a.tpStart n a.now else if a.pDo n 0 = 4 then a.freqStart n a.now else a) s

-- Update frames and the watchdog (11 R279 to R281) --------------------------------------------------------

/-- DIO_UPDATE_FRAME. -/
def execDioUpdateFrame (dt : Nat) (s0 : State) : Out :=
  let s := (s0.elapse dt).doRefresh
  let s1 := s.onDio fun t => { t with outs := t.outs.map (frameDo s.now s.feeds t.release), release := false }
  .next (s1.onDio fun t => { t with expRun := t.expRun && t.outs.any (·.expired) })
/-- DIO_WD_T, ms; with no forme applied its default (11 Table 11.5; 12 R308). -/
def State.doWdT (s : State) : Nat := if s.svDark then 100 else s.parN 0x9210
/-- DO_WATCHDOG_EXPIRY: no FEED frame for DIO_WD_T, of a channel that a frame has reached; hold keeps the state in force
there, and with no forme applied the safe value is off (11 R280; 12 R308, Table 12.2). -/
def execDoWatchdogExpiry (dt n : Nat) (s0 : State) : Out :=
  let s := s0.elapse dt
  let d := s.dout n
  if n < 24 ∧ d.framed ∧ !d.expired ∧ d.fed + s.doWdT * Config.ms ≤ s.now then
    let safe := if s.svDark then false else safeVal (s.pDo (s.doLead n) 1) d.del
    let s1 := (s.onDout n fun x => dropFaults { x with expired := true, safeSt := safe }).onDio fun t =>
      { t with wdExp := orBit t.wdExp n, expRun := true }
    .next (if s.dio.expRun then s1 else s1.slug 0x12 0x1204 .fault (obj := n))
  else .next s

-- Field faults and FIO_FAULT (11 R282 to R284, R286) ------------------------------------------------------

/-- What the common fault bit shows under the queries set (11 R283). -/
def State.fioNow (s : State) : Bool :=
  (s.dio.supply && !s.dio.supMask) || s.dio.outs.any fun d =>
    match d.fq with | 1 => d.ovl | 2 => d.therm | 3 => d.opn | 4 => d.ovl || d.therm || d.opn | _ => false
/-- Overload on a channel: it is switched off until its next retry; a limit during a retry ends it (11 Table 11.4). -/
def ovlOn (now : Nat) (d : Dout) : Dout :=
  if !driven d then d
  else if d.ovl then { d with trying := false }
  else { d with ovl := true, trying := false, retryMt := now + 100 * Config.ms }
/-- The overload ends when a retry has been on for 10 ms without limiting (11 Table 11.4). -/
def ovlOff (now : Nat) (d : Dout) : Dout :=
  if d.trying ∧ d.retryMt ≤ now + 90 * Config.ms then { d with ovl := false, trying := false } else d
/-- FIELD_FAULT: class 0 SUPPLY, 1 OVL, 2 THERM, 3 OPEN, detected or cleared on the field side; what it does to the
switches is `switchOn` (11 Table 11.4). -/
def execFieldFault (dt n cls : Nat) (on : Bool) (s0 : State) : Out :=
  let s := s0.elapse dt
  match cls with
  | 0 => .next (s.onDio fun t => { t with supply := on })
  | 1 => .next (s.onDout n fun d => if on then ovlOn s.now d else ovlOff s.now d)
  | 2 => .next (s.onDout n fun d => { d with therm := on })
  | 3 => .next (s.onDout n fun d => if on && (!driven d || s.pDo (s.doLead n) 2 = 0) then d else { d with opn := on })
  | _ => .next s
/-- OVL_RETRY: an overloaded output that is commanded on is switched on again every 100 ms (11 Table 11.4). -/
def execOvlRetry (dt n : Nat) (s0 : State) : Out :=
  let s := s0.elapse dt
  let d := s.dout n
  if n < 24 ∧ d.ovl ∧ driven d ∧ d.retryMt ≤ s.now then
    .next (s.onDout n fun x => { x with retryMt := s.now + 100 * Config.ms, trying := true })
  else .next s

/-- The queries of a scan step: step 0 none, step k class and channel (11 R285). -/
def scanFq (k n : Nat) : Nat := if k = 0 then 0 else if (k - 1) % 24 = n then (k - 1) / 24 + 1 else 0
def State.setQueries (s : State) (f : Nat → Nat) (mask : Bool) : State :=
  s.onDio fun t => { t with supMask := mask, outs := t.outs.mapIdx fun n d => { d with fq := f n } }
def State.startScanDio (s : State) (auto : Bool) (flight : Option Nat) : State :=
  (s.onDio fun t => { t with scan := some { before := s.dio.fio, auto, flight, endMt := s.now } }).setQueries (scanFq 0) false
/-- A rising edge of FIO_FAULT: FIO_SEEN, a FAULT slug, and with DIO_AUTOSCAN a scan (11 R284). -/
def State.fioRise (s : State) : State :=
  let s1 := (s.onDio fun t => { t with fio := true, fioSeen := true, scanned := false, scanEnd := none }).slug 0x12 0x1201 .fault
  if s.parN 0x9211 = 1 then s1.startScanDio true none else s1
/-- A falling edge of FIO_FAULT (11 R284). -/
def State.fioFall (s : State) : State := (s.onDio fun t => { t with fio := false }).slug 0x12 0x1202 .info
/-- FIO_FAULT_RISE: the bit follows its reports, queries and mask; while a scan sets the queries its changes are samples
and no edges (11 R283, R284, Table 11.9; log 61). -/
def execFioFaultRise (dt : Nat) (s0 : State) : Out :=
  let s := s0.elapse dt
  if s.dio.fio ∨ !s.fioNow then .next s
  else if s.dio.scan.isSome then .next (s.onDio fun t => { t with fio := true })
  else .next s.fioRise
/-- FIO_FAULT_FALL (11 R283, R284). -/
def execFioFaultFall (dt : Nat) (s0 : State) : Out :=
  let s := s0.elapse dt
  if !s.dio.fio ∨ s.fioNow then .next s
  else if s.dio.scan.isSome then .next (s.onDio fun t => { t with fio := false })
  else .next s.fioFall
/-- FAULT_SCAN_REPEAT: 10 s after the last scan's end, FIO_FAULT still set (11 R284). -/
def execFaultScanRepeat (dt : Nat) (s0 : State) : Out :=
  let s := s0.elapse dt
  if s.dio.fio ∧ s.dio.scan.isNone ∧ s.parN 0x9211 = 1 ∧ s.dio.scanEnd.any fun m => decide (m + 10 * Config.sec ≤ s.now) then
    .next (s.startScanDio true none)
  else .next s
def cplMask (outs : List Dout) : Nat := ofBits (outs.map (·.cpl))
/-- A scan's result (11 Table 11.8). -/
def State.scanResult (s : State) (x : Scan) : List Nat :=
  [ofBits [x.before, x.supply, x.after, x.auto]] ++ le 3 x.ovl ++ le 3 x.therm ++ le 3 x.opn ++
    le 3 (cplMask s.dio.outs) ++ le 6 x.endMt
def sameScan (a b : Scan) : Bool := a.supply = b.supply && a.ovl = b.ovl && a.therm = b.therm && a.opn = b.opn
/-- The scan ends with its queries restored: the result is kept, and written when it is the first of this fault or
differs; a FIO_FAULT that is no longer what it was before the scan is an edge (11 R284, R285). -/
def State.endScan (s : State) (x : Scan) : State :=
  let s1 := s.setQueries (fun _ => 4) false
  let y := { x with after := s1.fioNow, endMt := s.now, flight := none }
  let news := (y.before && !s.dio.scanned) || !sameScan y s.dio.last
  let s2 := s1.onDio fun t => { t with scan := none, last := y, scanned := true, scanEnd := some s.now, fio := y.after }
  let s3 := if news then s2.slug 0x12 0x1203 .fault (bytes := s2.scanResult y) else s2
  let s4 := match x.flight with
    | some f => s3.complete f sOK (s3.scanResult y)
    | none => s3
  if y.after = y.before then s4 else if y.after then s4.fioRise else s4.fioFall
/-- FAULT_SCAN_STEP: 300 µs after its queries a step samples FIO_FAULT and sets the next queries (11 R285). -/
def execFaultScanStep (dt : Nat) (s0 : State) : Out :=
  let s := s0.elapse dt
  match s.dio.scan with
  | none => .next s
  | some x =>
    if s.now < x.endMt + 30000 then .next s
    else if 73 ≤ x.step then .next (s.endScan x)
    else
      let f := s.fioNow
      let bit := if f then 2 ^ ((x.step - 1) % 24) else 0
      let q := (x.step - 1) / 24
      let x1 := { x with
        step := x.step + 1, endMt := s.now, supply := if x.step = 0 then f else x.supply
        ovl := if x.step ≠ 0 ∧ q = 0 then x.ovl + bit else x.ovl
        therm := if x.step ≠ 0 ∧ q = 1 then x.therm + bit else x.therm
        opn := if x.step ≠ 0 ∧ q = 2 then x.opn + bit else x.opn }
      let s1 := s.onDio fun t => { t with scan := some x1, fio := f }
      .next (if x.step < 72 then s1.setQueries (scanFq (x.step + 1)) true else s1.setQueries (fun _ => 4) false)
/-- COUPLER_FAULT: ten acknowledgements or samples missing in a row (11 R286). -/
def execCouplerFault (dt n : Nat) (out : Bool) (s0 : State) : Out :=
  let s := s0.elapse dt
  if out then
    if 24 ≤ n ∨ (s.dout n).cpl then .next s
    else .next ((s.onDout n fun d => { d with cpl := true }).slug 0x12 0x1205 .fault (obj := n) (after := 1))
  else if 32 ≤ n ∨ s.dio.diCpl.getLsbD n then .next s
  else .next ((s.onDio fun t => { t with diCpl := orBit t.diCpl n }).slug 0x12 0x1205 .fault (obj := n) (after := 0))

def dioFaultScanBody (fl : Flight) (s : State) : Ans :=
  match argB fl.e 0 with
  | 0 => .ok s (s.scanResult s.dio.last)
  | 1 => if s.dio.scan.isSome then .err s sBUSY else .later (s.startScanDio false (some fl.f))
  | _ => .bad s
/-- DIO_FAULT_SCAN (11 R293). -/
def execDioFaultScan (dt f : Nat) (s : State) : Out := .next (runCmd 0x60 f dioFaultScanBody (s.elapse dt))

-- Changes of state, forme and epoch -----------------------------------------------------------------------

/-- A change of unit state: RELEASE at every entry to STANDBY or RUN; new periods in RUN (11 R281, R289). -/
def State.dioEnter (s : State) : State :=
  let s1 := if s.isSt .standby || s.isSt .run then s.onDio fun t => { t with release := true } else s
  (if s.isSt .run then s1.periodsStart else s1).doRefresh
/-- The DIO station takes a forme, last in the QUOIN order (11 R287). `s` already has the new forme. -/
def State.dioChange (s : State) (old : Forme) : State :=
  let clampC (a : State) (n : Nat) : State := a.onDin n fun d => { d with c := min d.c (a.parN (0x9003 + 4 * n)) }
  let s1 := (List.range 32).foldl clampC s
  let keepOut (a : State) (n : Nat) : State :=
    let was := old.parN (0x9100 + 8 * n)
    let chg := decide (was ≠ a.pDo n 0) || decide (leadOf (old.parN (0x9200 + n / 4)) n ≠ a.doLead n)
    if chg && decide (a.pDo n 0 = 0) then
      a.onDio fun t => { t with doHost := BitVec.ofNat 32 (if (a.dout n).out then setBit t.doHost.toNat n else clrBit t.doHost.toNat n) }
    else if chg && decide (a.pDo n 0 = 2) then
      (List.range 4).foldl (fun b c => if bitOf (b.pLdg c 0x17) n then
        b.onCol c fun x => { x with doOut := if (a.dout n).out then setBit x.doOut n else clrBit x.doOut n } else b) a
    else a
  (((List.range 24).foldl keepOut s1).periodsStart).doRefresh
/-- The next step of every input presets its filter: after proof and after a station reset (11 R270). -/
def State.presetIns (s : State) : State := s.onDio fun t => { t with ins := t.ins.map fun d => { d with preset := true } }
/-- A station reset: filters preset, pulses ended, periods restarted, a scan aborted with its queries restored (11
R291). -/
def State.dioReset (s : State) : State :=
  let s1 := s.presetIns.onDio fun t => { t with
    scan := none, scanEnd := if t.scan.isSome then some s.now else t.scanEnd, fio := (t.scan.map (·.before)).getD t.fio
    outs := t.outs.map fun d => if d.pulse.isSome then { d with pulse := none, slot := false } else d }
  ((if s.dio.scan.isSome then s1.setQueries (fun _ => 4) false else s1).periodsStart).doRefresh

end Sys2Proof.Machine
end

