-- ==== Sys2Proof/Machine/HighLimit.lean ====
section
/-! DEFINITION. Station 0x13, the high limit: trips, the latch, the shutdown relays and the firmware permit, resets,
and the supervisor's heartbeat that the permit depends on (12). -/

namespace Sys2Proof.Machine

-- Relays and the firmware permit (12 R298, R299) ----------------------------------------------------------

/-- A condition selected in HL_FWP_COND holds (12 Table 12.4). -/
def State.fwpBlocked (s : State) : Bool :=
  let c := s.parN 0x0040
  (bitOf c 0 && s.ftripOn 0) || (bitOf c 1 && s.ftripOn 1) ||
    (List.range 4).any fun g =>
      bitOf c (2 + g) && decide (0 < (s.fg g).t) && !(s.fgMembers g).any fun n => (s.drive n).st = .run
/-- The heartbeat is at most 5 ms old, as the hardware asks for HL_FWP (12 R299). -/
def State.fresh5 (s : State) : Bool := decide (s.now ≤ s.power.beat + 5 * Config.ms)
/-- HL_FWP as the firmware and the heartbeat allow it (12 R299). -/
def State.hlRefresh (s : State) : State := s.setHl fun h => { h with fwp := s.isSt .run && !s.fwpBlocked && s.fresh5 }
/-- SUPERVISOR_HEARTBEAT: the supervisor writes none while it restarts, is halted, or stands still in P2 and P3 (11 R279,
04 R107, 12 R299, 13 Table 13.8). -/
def execSupervisorHeartbeat (dt : Nat) (s0 : State) : Out :=
  let s := s0.elapse dt
  if s.isSt .update ∨ s.power.debug ∨ 2 ≤ s.power.cur then .next s
  else .next ((s.onPower fun p => { p with beat := s.now }).hlRefresh)
/-- HEARTBEAT_STALE: the heartbeat is more than 5 ms old, and the hardware clears HL_FWP (12 R299). -/
def execHeartbeatStale (dt : Nat) (s0 : State) : Out :=
  let s := s0.elapse dt
  if s.fresh5 then .next s else .next (s.setHl fun h => { h with fwp := false })

-- Trips (12 R296, R300, R304) -----------------------------------------------------------------------------

def hlChBits (c : HlCh) : Nat := ofBits [c.overT, c.opn, c.short, c.resetOk]
def HlSt.chBits (h : HlSt) : Nat := hlChBits (h.chs.getD 0 {}) + 16 * hlChBits (h.chs.getD 1 {})
def hlTemp (h : HlSt) (i : Nat) : Int := (h.temps.getD i none).getD (-32768)
/-- What the TRIP slug of a latch setting tells: the causes, FIRST, the channel states, the temperatures and the MT. -/
def HlSt.tripNote (h : HlSt) : HlSlug :=
  { cause := h.cause, first := h.first, chBits := h.chBits, t0 := hlTemp h 0, t1 := hlTemp h 1, tmt := h.tmt }
def State.hlSlug (s : State) (x : HlSlug) : State :=
  s.slug 0x13 0x1301 .trip (after := x.cause) (before := x.first) (v1 := x.t0) (v2 := x.t1) (rel := x.tmt) (bytes := [x.chBits])
/-- A cause sets the latch: 0 HL0, 1 HL1, 2 PROOF, 3 WELD. While the supervisor restarts, the slug waits for its
return (12 R297, R304). -/
def State.hlLatch (s : State) (cause : Nat) : State :=
  if s.hl.latch then s.onHl fun h => { h with cause := setBit h.cause cause }
  else
    let s1 := s.setHl fun h => { h with latch := true, cause := setBit h.cause cause, first := cause
                                        tmt := s.now % 2 ^ 48, trips := incW 16 h.trips }
    let s2 := if s.isSt .update then s1.onHl fun h => { h with slugs := h.slugs ++ [h.tripNote] } else s1.hlSlug s1.hl.tripNote
    ((s2.record 6 3 [1, s2.hl.cause]).liveTrip 0).tripSync
/-- The supervisor is back: the slugs that waited are written, each as it stood at its setting (12 R304). -/
def State.hlBack (s : State) : State := s.hl.slugs.foldl State.hlSlug (s.onHl fun h => { h with slugs := [] })
def HlCh.isOver (c : HlCh) : Bool := c.overT || c.opn || c.short
/-- The trip threshold of a channel, °C (12 R294). -/
def State.hlThreshold (s : State) (ch : Nat) : Nat := 50 + 5 * ((if ch = 0 then s.unit.straps.hl0 else s.unit.straps.hl1) % 16)
/-- Is a resistance of 0.01 Ω at or above, or at or below, that of a Pt1000 at whole °C (IEC 60751; 12 R294)? -/
def rtdAtLeast (r t : Nat) : Bool := decide (cvd16 (200 * t) ≤ r * (16 * 10 ^ 18))
def rtdAtMost (r t : Nat) : Bool := decide ((r : Int) * (16 * 10 ^ 18) ≤ cvd16 (200 * t))
/-- What a channel's comparators and converter report: OVER, OPEN above 3,000 Ω, SHORT below 800 Ω start or cancel the
40 ms filter; RESET_OK 5 °C below the threshold; the temperature is 0x8000 while OPEN or SHORT (12 R295, R301, R305). -/
def State.seeHl (s : State) (ch : Nat) (m : HlMeas) : State :=
  let th := s.hlThreshold ch
  let c : HlCh := { overT := rtdAtLeast m.r th, opn := decide (300000 < m.r), short := decide (m.r < 80000)
                    resetOk := rtdAtMost m.r (th - 5) }
  s.onHl fun h => { h with
    chs := h.chs.modify ch fun o => { c with since := if c.isOver then o.since.or (some (s.now : Int)) else none }
    temps := h.temps.set ch (if c.opn || c.short then none else some (clamp (-32767) 32767 m.temp)) }
/-- HL_THRESHOLD_CROSSING: a channel's resistance and temperature, which come with it (12 R295, R301, R305; log 32). -/
def execHlThresholdCrossing (dt ch : Nat) (m : HlMeas) (s0 : State) : Out :=
  let s := s0.elapse dt
  if 2 ≤ ch then .next s else .next (s.seeHl ch m)
/-- HL_TRIP: over-threshold without interruption for 40 ms (12 R295, R296). -/
def execHlTrip (dt ch : Nat) (s0 : State) : Out :=
  let s := s0.elapse dt
  match (s.hl.chs.getD ch {}).since with
  | some m => if m + (40 * Config.ms : Nat) ≤ s.now then .next (s.hlLatch ch) else .next s
  | none => .next s
/-- CONTACT_WELD: a contact reads closed 100 ms after its relay was de-energised (12 R300). -/
def execContactWeld (dt relay : Nat) (s0 : State) : Out :=
  let s := s0.elapse dt
  if 2 ≤ relay ∨ s.hl.drive ∨ s.now < s.hl.deMt + 100 * Config.ms then .next s
  else
    let s1 := s.setHl fun h => { h with rb := h.rb.set relay true }
    .next ((s1.hlLatch 3).slug 0x13 0x1305 .fault (obj := relay))

-- Resets (12 R301, R302, R315) ----------------------------------------------------------------------------

/-- The hardware admits a reset. -/
def HlSt.admits (h : HlSt) : Bool :=
  h.chs.all (fun c => !c.isOver && c.resetOk) && h.rb.all (· = h.drive) && !bitOf h.cause 2
/-- A reset from the key (source 0) or a session (source 1): OK, or refused (12 R301). -/
def State.hlReset (s : State) (src sid role : Nat) : Bool × State :=
  if s.hl.admits then
    let s1 := s.setHl fun h => { h with latch := false, cause := 0 }
    let s2 := if s.hl.latch then s1.record 6 3 [0, 0] else s1
    (true, (s2.slug 0x13 0x1302 .info (after := src) (before := s.hl.cause) (v1 := sid) (v2 := role)).tripSync)
  else if !s.hl.latch then (true, s)
  else
    let s1 := s.onHl fun h => { h with refused := incW 8 h.refused }
    (false, s1.slug 0x13 0x1303 .warn (after := src) (before := s.hl.cause) (v1 := sid) (v2 := role))
/-- LIMIT_RESET_KEY: a press held for 200 ms; a stuck key is ignored until it was released for 1 s before. Whether
the key is still down after it is the operator's, a free value (12 R301, R302; log 33). -/
def execLimitResetKey (dt released : Nat) (s0 : State) : Out :=
  let s := s0.elapse dt
  if s.hl.keyStuck ∧ released < Config.sec then .next s
  else
    .next ((s.onHl fun h => { h with
      key := true, keyStuck := false, keyMt := some ((s.now : Int) - (200 * Config.ms : Nat)) }).hlReset 0 0 0).2
/-- KEY_STUCK: the press has been held for more than 10 s (12 R302). -/
def execKeyStuck (dt : Nat) (s0 : State) : Out :=
  let s := s0.elapse dt
  if !s.hl.keyStuck ∧ s.hl.keyMt.any fun (m : Int) => decide (m + (10 * Config.sec : Nat) < (s.now : Int)) then
    .next ((s.onHl fun h => { h with key := true, keyStuck := true }).slug 0x13 0x1304 .fault)
  else .next s
/-- PCHAIN: the permit has met an open contact for 2 s (12 R307). -/
def execPchain (dt : Nat) (s0 : State) : Out :=
  let s := s0.elapse dt
  if !s.hl.pchain ∧ s.hl.pchainMt.any fun m => decide (m + 2 * Config.sec ≤ s.now) then
    .next ((s.onHl fun h => { h with pchain := true }).slug 0x13 0x1307 .fault)
  else .next s
def hlResetBody (fl : Flight) (s : State) : Ans :=
  let r := s.hlReset 1 fl.sid fl.role
  let t (i : Nat) : List Nat := leI 2 (hlTemp r.2.hl i)
  .done r.2 (if r.1 then sOK else sTRIP)
    ([b2n s.hl.latch + 2 * b2n r.2.hl.latch, s.hl.cause, r.2.hl.chBits,
      ofBits [r.2.hl.rb.getD 0 false, r.2.hl.rb.getD 1 false, r.2.hl.fwp, r.2.hl.permit]] ++ t 0 ++ t 1)
/-- HL_RESET (12 R301, R315). -/
def execHlReset (dt f : Nat) (s : State) : Out := .next (runCmd 0x68 f hlResetBody (s.elapse dt))

end Sys2Proof.Machine
end

