-- ==== Sys2Proof/Machine/Store.lean ====
section
/-! DEFINITION. Station 0x14, the record store: unit programs, folios, the GAP and RECGAP slugs, keyframes, and the
commands LOG_READ and RECORD_MARK (16). -/

namespace Sys2Proof.Machine

-- Folios (16 R399 to R402) --------------------------------------------------------------------------------

/-- Folios of the store; the first of the log region is 1,024 (16 Table 16.1). -/
def folioCount : Nat := 7812500
def logFolioAt (r : RecSt) (k : Nat) : Nat := 1024 + k % r.logSize
def inFolioAt (r : RecSt) (k : Nat) : Nat := 1024 + r.logSize + k % (folioCount - 1024 - r.logSize)
/-- A folio is erased for reuse: what it held is gone, and a keyframe with it (16 R399). -/
def eraseFolio (r : RecSt) (n : Nat) : RecSt :=
  { r with folios := r.folios.filter fun f => f.num ≠ n, log := r.log.filter fun u => u.folio ≠ n
           input := r.input.filter fun u => u.folio ≠ n, keys := r.keys.filter fun k => !k.folios.contains n }
def putFolio (r : RecSt) (f : Folio) : RecSt := let r1 := eraseFolio r f.num; { r1 with folios := f :: r1.folios }
def setFolio (r : RecSt) (n : Nat) (f : Folio → Folio) : RecSt :=
  { r with folios := r.folios.map fun x => if x.num = n then f x else x }
/-- The 64-bit MT that 48 low bits of it, not later than now, stand for. -/
def mtOf (now low : Nat) : Nat := now - uw 48 ((now : Int) - low)
/-- The open log folio, opened if none is (16 R402). -/
def openLog (r : RecSt) (boot now : Nat) (sl : Slug) : RecSt :=
  match r.logOpen with
  | some _ => r
  | none =>
    let n := logFolioAt r r.logNext
    let r1 := putFolio r { num := n, typ := 1, st := 1, boot, serial := r.serials.getD 1 0
                           mt0 := mtOf now sl.mt, first := sl.seq, count := 0, extra := 0 }
    { r1 with logOpen := some n, logNext := r.logNext + 1, logUnits := 0, serials := r1.serials.modify 1 (incW 32) }
def openIn (r : RecSt) (boot now first : Nat) (x : InRec) : RecSt :=
  match r.inOpen with
  | some _ => r
  | none =>
    let n := inFolioAt r r.inNext
    let r1 := putFolio r { num := n, typ := 2, st := 1, boot, serial := r.serials.getD 2 0
                           mt0 := mtOf now x.mt, first, count := 0, extra := 0 }
    { r1 with inOpen := some n, inNext := r.inNext + 1, inUnits := 0, serials := r1.serials.modify 2 (incW 32) }
/-- A folio is closed: in STATE 2, or in another (16 Table 16.2). -/
def shutLog (r : RecSt) (st : Nat) : RecSt :=
  match r.logOpen with
  | some n => { setFolio r n fun f => { f with st } with logOpen := none, logUnits := 0 }
  | none => r
def shutIn (r : RecSt) (st : Nat) : RecSt :=
  match r.inOpen with
  | some n => { setFolio r n fun f => { f with st } with inOpen := none, inUnits := 0 }
  | none => r
/-- One unit is programmed into the log folio from staged slugs (16 R402). -/
def logUnit (r0 : RecSt) (boot now : Nat) (slugs : List Slug) : RecSt :=
  match slugs with
  | [] => r0
  | sl :: _ =>
    let r := openLog r0 boot now sl
    let n := r.logOpen.getD 0
    let r1 : RecSt := { setFolio r n fun f => { f with count := f.count + slugs.length } with
      log := { folio := n, unit := r.logUnits, slugs } :: r.log, logUnits := r.logUnits + 1 }
    if r1.logUnits = 16 then shutLog r1 2 else r1
/-- One unit of input records; `first` is the index of its first since the boot. -/
def inUnit (r0 : RecSt) (boot now first : Nat) (recs : List InRec) : RecSt :=
  match recs with
  | [] => r0
  | x :: _ =>
    let r := openIn r0 boot now first x
    let n := r.inOpen.getD 0
    let r1 : RecSt := { setFolio r n fun f => { f with count := f.count + recs.length } with
      input := { folio := n, unit := r.inUnits, boot, first, recs } :: r.input, inUnits := r.inUnits + 1 }
    if r1.inUnits = 16 then shutIn r1 2 else r1

-- Programs (16 R402, R406, R407) --------------------------------------------------------------------------

/-- How many records fill one unit of 256 lines without straddling its end (16 R410). -/
def unitFill : Nat → List InRec → Nat
  | _, [] => 0
  | room, x :: r => if recLines x.typ ≤ room then unitFill (room - recLines x.typ) r + 1 else 0
/-- The next program of an idle flash: a full log unit, a partial one whose REC_FLUSH_T has run, then the same for
input units (16 R402). -/
def State.nextProgram (s : State) : State :=
  let r := s.store
  let t := s.parN 0xB001 * Config.ms
  if !r.mounted || r.readOnly || decide (r.inProg ≠ 0) || decide (r.bufProg ≠ 0) then s
  else if !r.proofHeld && decide (64 ≤ r.staging.length) then s.onStore fun x => { x with inProg := 64 }
  else if !r.proofHeld && decide (r.staging ≠ []) && (r.partMt.any fun m => decide (m + t ≤ s.now)) then
    s.onStore fun x => { x with inProg := r.staging.length, partMt := none }
  else
    let k := unitFill 256 r.buf
    let due : Bool := match r.buf with | x :: _ => decide (t ≤ uw 48 ((s.now : Int) - x.mt)) | [] => false
    if k < r.buf.length ∨ (0 < k ∧ bufLines (r.buf.take k) = 256) ∨ due then s.onStore fun x => { x with bufProg := k } else s
/-- TRIP slugs that wait enter staging ahead of any other as entries are freed (16 R406). -/
def admitTrips (now : Nat) : Nat → RecSt → RecSt
  | 0, r => r
  | k + 1, r =>
    match r.tripQ with
    | [] => r
    | sl :: q => if r.staging.length < 512 then admitTrips now k (placeSlug { r with tripQ := q } sl now) else r
/-- The GAP slug, once occupancy is below the limit of the highest class dropped (16 R407). -/
def State.gapSlug (s : State) : State :=
  let r := s.store
  match (List.range 4).find? fun i => r.drops.getD i 0 ≠ 0 with
  | none => s
  | some i =>
    if clsLimit (i + 1) ≤ r.staging.length ∨ r.tripQ ≠ [] then s
    else
      let sl : Slug := { seq := r.nextSeq, cls := .warn, audit := false, reprint := s.isSt .reprint, replay := false
                         source := 0x14, kind := 0x1401, mt := s.now % 2 ^ 48, epoch := s.epochOf 0x14, obj := 0, after := 0
                         before := 0, v1 := 0, v2 := 0, rel := 0
                         bytes := le 4 r.dropFirst ++ le 4 r.dropLast ++ r.drops.flatMap (le 4) }
      let r1 := placeSlug { r with nextSeq := incW 32 r.nextSeq, drops := [0, 0, 0, 0] } sl s.now
      { s with store := r1, host := { s.host with queues := liveCopies s.host.queues sl none s.now } }
/-- What a failed program does to the store: BAD folios or failures at a rate above 1 in 1,000 make it read-only (16
R421). -/
def State.readOnlyCheck (s : State) : State :=
  let r := s.store
  let rate := decide (10 < r.failAt.length)
  if r.readOnly ∨ !(rate || decide (Config.spareBlocks < r.badFolios)) then s
  else (s.onStore fun x => { x with readOnly := true, inProg := 0, bufProg := 0 }).slug 0x14 0x140B .fault
    (bytes := [b2n rate])
/-- A failed program: its folio is BAD, and the unit is written again at the start of the next (16 R409). -/
def State.programFails (s : State) (region : Nat) (openIt : RecSt → RecSt) (shut : RecSt → RecSt) (num : RecSt → Nat) : State :=
  let r1 := openIt s.store
  let r2 := shut r1
  let s1 := (s.onStore fun _ => { r2 with
    progs := incW 32 r2.progs, badFolios := r2.badFolios + 1
    failAt := r2.progs :: r2.failAt.filter fun k => r2.progs < k + 10000 }).slug 0x14 0x1408 .fault
      (bytes := le 4 (num r1) ++ [region])
  s1.readOnlyCheck
def programOk (r : RecSt) : RecSt :=
  { r with progs := incW 32 r.progs, failAt := r.failAt.filter fun k => r.progs < k + 10000 }

-- Keyframes (16 R411) -------------------------------------------------------------------------------------

/-- The state of stations 0x01 to 0x0A and 0x12, FORME_GEN and CONTROL_REV. -/
def State.image (s : State) : Image :=
  { time := s.time, imp := s.imp, timers := s.timers, cols := s.cols, probe := s.probe, pica := s.pica, toks := s.toks
    cle := s.cle, dio := s.dio, epochs := s.unit.epochs, live := s.sup.live, forme := s.sup.forme, gen := s.sup.gen
    controlRev := s.unit.controlRev }
/-- A keyframe while the recorder runs, with its KEYREF record and its KEY folios (16 R411). -/
def State.takeKey (s : State) : State :=
  if s.recording then
    let r := s.store
    let c := 1 + Config.keyFolios r.keyNum % 10
    let nums := (List.range c).map fun i => inFolioAt r (r.inNext + i)
    let fo (i : Nat) : Folio := { num := nums.getD i 0, typ := 3, st := 2, boot := s.power.boot
                                  serial := (r.serials.getD 2 0 + i) % 2 ^ 32, mt0 := s.now, first := r.keyNum, count := 0, extra := 0 }
    let r1 := (List.range c).foldl (fun a i => putFolio a (fo i)) r
    let s1 := (s.onStore fun _ => { r1 with
      inNext := r.inNext + c, serials := r1.serials.modify 2 fun x => (x + c) % 2 ^ 32
      keyNum := incW 32 r.keyNum, keyMt := s.now }).record 0x0C 0 [(r.keyNum : Int), (nums.headD 0 : Nat), (c : Nat)]
    s1.onStore fun x => { x with
      keys := { num := r.keyNum, boot := s.power.boot, mt := s.now, pos := x.recIdx, folios := nums
                runs := s.isSt .run, img := s.image } :: x.keys }
  else s
/-- Buffer space has returned after a loss: RECGAP record and slug, and a keyframe at once (16 R412). -/
def State.recGap (s : State) : State :=
  if s.store.lost = 0 then s
  else
    let s1 := (s.onStore fun r => { r with lost := 0 }).record 0x0D 0 [(s.store.lost : Nat)]
    (s1.slug 0x14 0x140A .warn (bytes := le 4 s.store.lost ++ le 6 s.store.lostMt)).takeKey
/-- UNIT_PROGRAM_DONE: a program ends; the log unit's slugs leave staging, or the input unit's records the buffer; or
it has failed (16 R402, R406, R407, R409, R412). -/
def execUnitProgramDone (dt : Nat) (ok : Bool) (s0 : State) : Out :=
  let s := s0.elapse dt
  let r := s.store
  if r.inProg ≠ 0 then
    let us := r.staging.take r.inProg
    if ok then
      let r1 := logUnit (programOk r) s.power.boot s.now us
      let r2 := admitTrips s.now 256 { r1 with staging := r.staging.drop r.inProg, inProg := 0 }
      .next ((s.onStore fun _ => r2).gapSlug.nextProgram)
    else match us with
      | [] => .next s
      | sl :: _ => .next (s.programFails 1 (fun x => openLog x s.power.boot s.now sl) (shutLog · 4) fun x => x.logOpen.getD 0)
  else if r.bufProg ≠ 0 then
    let us := r.buf.take r.bufProg
    let first := r.recIdx - r.buf.length
    if ok then
      let r1 := inUnit (programOk r) s.power.boot s.now first us
      .next ((s.onStore fun _ => { r1 with buf := r.buf.drop r.bufProg, bufProg := 0 }).recGap.nextProgram)
    else match us with
      | [] => .next s
      | x :: _ => .next (s.programFails 2 (fun y => openIn y s.power.boot s.now first x) (shutIn · 4) fun y => y.inOpen.getD 0)
  else .next s
/-- FLUSH_TIMER: a unit only partly filled is programmed once REC_FLUSH_T has passed (16 R402). -/
def execFlushTimer (dt : Nat) (s0 : State) : Out := .next (s0.elapse dt).nextProgram
/-- KEYFRAME_TIMER: every REC_KEY_T (16 R411). -/
def execKeyframeTimer (dt : Nat) (s0 : State) : Out :=
  let s := s0.elapse dt
  if s.store.keyMt + s.parN 0xB004 * Config.sec ≤ s.now then .next s.takeKey else .next s

/-- Slugs in units of 64, the last one padded. -/
def inUnits64 : Nat → List Slug → List (List Slug)
  | 0, _ => []
  | _, [] => []
  | k + 1, l => l.take 64 :: inUnits64 k (l.drop 64)
/-- Before a unit-level reset and at a commit: every admitted slug is programmed and the open folios are closed, with
no supervisor; `front` goes ahead of all (16 R402, R320). -/
def State.flushStore (s : State) : State :=
  let r := s.store
  if !r.mounted || r.readOnly then s
  else
    let r1 := if r.proofHeld then r
      else
        let all := r.staging ++ r.tripQ
        let r2 := (inUnits64 16 all).foldl (fun a u => logUnit a s.power.boot s.now u) r
        { r2 with staging := [], tripQ := [], inProg := 0, partMt := none }
    let s1 := (s.onStore fun _ => r1).gapSlug
    let r3 := if r.proofHeld then s1.store
      else { logUnit s1.store s.power.boot s.now s1.store.staging with staging := [], partMt := none }
    s1.onStore fun _ => shutIn (shutLog r3 2) 2
/-- Proof stage 8 mounts the store: a folio still open was not closed by a commit, and is closed as TORN; the units
it holds read back whole, the next one does not (16 R409). -/
def State.mountStore (s : State) : State :=
  if s.store.mounted then s else
  let r := s.store
  let torn (n : Nat) (units : Nat) (a : State) : State :=
    (a.onStore fun x => { setFolio x n fun f => { f with st := 3 } with torn := true }).slug 0x14 0x1409 .fault
      (bytes := le 4 n ++ le 2 (0xFFFF - (2 ^ units - 1)))
  let s1 := s.onStore fun x => { x with mounted := true, torn := false }
  let s2 := match r.logOpen with | some n => torn n r.logUnits s1 | none => s1
  let s3 := match r.inOpen with | some n => torn n r.inUnits s2 | none => s2
  s3.onStore fun x => { x with logOpen := none, inOpen := none, logUnits := 0, inUnits := 0 }

-- Commands (16 R424, Table 16.12) -------------------------------------------------------------------------

/-- A station resets its copies: they end with ABORTED and what they had queued (16 R422, R424). -/
def State.abortCopies (s : State) (which : Copy → Bool) : State :=
  (s.store.copies.filter which).foldl (fun a c => a.complete c.flight sABORT (le 4 c.queued))
    (s.onStore fun r => { r with copies := r.copies.filter fun c => !which c })
/-- Entries of a copy go into the EQ while there is room (16 Table 16.10). -/
def copyInto (now : Nat) : List Slug → Queue → Nat → List Slug × Queue × Nat
  | [], q, n => ([], q, n)
  | sl :: r, q, n =>
    if q.ring.length + 1 < q.depth then copyInto now r (qPush q (.slug sl) now) (n + 1) else (sl :: r, q, n)
def copyResult (c : Copy) : List Nat :=
  if c.fol then le 4 c.queued
  else le 4 c.queued ++ le 4 c.first ++ le 4 c.last ++ le 4 c.holes
/-- A copy goes on as far as its EQ has room, and completes with its last entry. -/
def State.runCopy (s : State) (c : Copy) : State :=
  match s.queue? c.eq with
  | none => s
  | some q =>
    let r := copyInto s.now c.todo q 0
    let c1 := { c with todo := r.1, queued := c.queued + r.2.2 }
    let s1 := s.onQueue c.eq fun _ => r.2.1
    if r.1.isEmpty then
      (s1.onStore fun x => { x with copies := x.copies.filter fun y => y.flight ≠ c.flight }).complete c.flight sOK (copyResult c1)
    else s1.onStore fun x => { x with copies := x.copies.map fun y => if y.flight = c.flight then c1 else y }
/-- The stored slugs, oldest first. -/
def stored (r : RecSt) : List Slug := r.log.reverse.flatMap (·.slugs)
def oldestSeq (r : RecSt) : Nat := match stored r with | x :: _ => x.seq | [] => r.nextSeq
/-- Spare bytes 0 to 27 of a folio; a byte that the manual does not give is free (16 Table 16.2). -/
def spareBytes (r : RecSt) (n : Nat) : List Nat :=
  let free (i : Nat) : Nat := (Config.folioByte n (65536 + i)).toNat
  match r.folios.find? fun f => f.num = n with
  | some f =>
    [f.typ, f.st] ++ le 2 f.boot ++ le 4 f.serial ++ le 8 f.mt0 ++ le 4 f.first ++
      (if f.typ = 3 then (List.range 4).map fun i => free (20 + i) else le 4 f.count) ++ le 4 f.extra
  | none =>
    (if n < 16 then [7] else [0]) ++ (if n < 16 then [free 1] else [0]) ++ (List.range 26).map fun i => free (2 + i)
/-- The lines of an input record (16 Table 16.6). -/
def recBytes (folio : Nat) (x : InRec) : List Nat :=
  let p (i : Nat) : Int := x.pay.getD i 0
  let body : List Nat := match x.typ with
    | 1 => leI 4 (p 0)
    | 2 => (List.range 24).map fun i => (Config.folioByte folio (65600 + x.mt * 24 + i)).toNat
    | 5 => [uw 8 (p 0)]
    | 6 => [uw 8 (p 0), uw 8 (p 1)]
    | 7 => leI 2 (p 0) ++ [uw 8 (p 1), 0] ++ leI 4 (p 2) ++ leI 4 (p 3) ++ leI 4 (p 4) ++ (x.pay.drop 5).map (uw 8)
    | 8 => leI 4 (p 0) ++ [uw 8 (p 1), uw 8 (p 2), 0, 0] ++ leI 4 (p 3) ++ leI 4 (p 4) ++ leI 4 (p 5)
    | 0x0A => leI 2 (p 0) ++ [uw 8 (p 1), uw 8 (p 2)]
    | 0x0B => leI 8 (p 0)
    | 0x0C => leI 4 (p 0) ++ leI 4 (p 1 + p 2 * 268435456)
    | 0x0D => leI 4 (p 0)
    | 0x0E => [uw 8 (p 0), uw 8 (p 1)] ++ leI 2 (p 2) ++ leI 2 (p 3)
    | _ => x.pay.map (uw 8)
  padTo (16 * recLines x.typ) ([x.typ, x.index] ++ le 6 x.mt ++ body)
/-- Unused bytes hold 0xFF (16 R402). -/
def fillFF (k : Nat) (l : List Nat) : List Nat := l.take k ++ List.replicate (k - l.length) 0xFF
def snapBytes (x : Column) : List Nat := x.parcels.flatMap fun p => parcelBytes p p.dose false
/-- The bytes of an input unit: where one line is left that its next record did not fit, a PAD record fills it, with an MT
that the manual does not give (16 R410, Table 16.6). -/
def unitBytes (folio unit : Nat) (recs : List InRec) : List Nat :=
  recs.flatMap (recBytes folio) ++ (if bufLines recs = 255 then
    [0, 0] ++ ((List.range 6).map fun i => (Config.folioByte folio (65700 + 6 * unit + i)).toNat) else [])
/-- The data bytes of a folio from byte `lo` on, `k` of them. -/
def folioData (r : RecSt) (n lo k : Nat) : List Nat :=
  let free : List Nat := (List.range k).map fun i => (Config.folioByte n (lo + i)).toNat
  match r.folios.find? fun f => f.num = n with
  | none => free
  | some f =>
    let units (us : List (List Nat)) : List Nat := ((us.flatMap (fillFF 4096)).drop lo).take k
    match f.typ with
    | 1 => fillFF k (units ((r.log.reverse.filter fun u => u.folio = n).map fun u => u.slugs.flatMap slugBytes))
    | 2 => fillFF k (units ((r.input.reverse.filter fun u => u.folio = n).map fun u => unitBytes n u.unit u.recs))
    | 4 =>
      let cols := if decide (n < 84) = !r.snapSet then r.snapPrev else r.snap
      fillFF k (((snapBytes ((cols.getD []).getD (n % 4) {})).drop lo).take k)
    | 5 => fillFF k (((((spGet r.galCopies n).getD []).flatMap galBytes).drop lo).take k)
    | _ => free
/-- The slugs of a folio's copy (16 Table 16.5, R424; class DESIGN CHOICE INFO, log 34). -/
def State.folioSlugs (s : State) (n : Nat) : List Slug :=
  let mk (kind : Nat) (bytes : List Nat) : Slug :=
    { seq := 0xFFFFFFFF, cls := .info, audit := false, reprint := s.isSt .reprint, replay := true, source := 0x14, kind
      mt := s.now % 2 ^ 48, epoch := s.epochOf 0x14, obj := 0, after := 0, before := 0, v1 := 0, v2 := 0, rel := 0, bytes }
  mk 0x14F0 (le 4 n ++ spareBytes s.store n) :: (List.range 1639).map fun i =>
    let k := if i = 1638 then 16 else 40
    mk 0x14F1 (le 4 n ++ le 2 i ++ le 2 k ++ folioData s.store n (40 * i) k)
/-- Does the session own this EQ? -/
def State.ownEq (s : State) (sid eq : Nat) : Bool :=
  decide (768 ≤ eq ∧ eq < 896) && (s.queue? eq).any fun q => decide (q.owner = sid) && !q.orphan
def State.startCopy (s : State) (c : Copy) : Ans := .later ((s.onStore fun r => { r with copies := r.copies ++ [c] }))
/-- Operation 1: the slugs stored and staged of a span that the mask selects (16 R424, R420). -/
def logCopyOf (r : RecSt) (f eq mask first count : Nat) : Copy :=
  let ahead := uw 32 ((r.nextSeq : Int) - first)
  let n := if ahead < 2 ^ 31 then min count ahead else 0
  let have_ := (stored r ++ r.staging).filter fun x => decide (uw 32 ((x.seq : Int) - first) < n)
  let sel := have_.filter fun x => mask = 0 || bitOf mask (clsIdx x.cls)
  { flight := f, eq, todo := sel.map fun x => { x with replay := true }, queued := 0
    first := (sel.head?.map (·.seq)).getD first, last := (sel.getLast?.map (·.seq)).getD (uw 32 ((first : Int) - 1))
    holes := n - have_.length, fol := false }
def logReadBody (fl : Flight) (s : State) : Ans :=
  let r := s.store
  let a := argN fl.e 4 4
  match argB fl.e 0 with
  | 0 => .ok s (le 4 r.nextSeq ++ le 4 (oldestSeq r) ++ le 2 r.staging.length ++ le 2 r.hwm ++ le 4 r.dropped ++
      [b2n r.readOnly + 2 * b2n r.torn] ++ le 2 s.power.boot)
  | 1 =>
    let eq := argN fl.e 2 2
    let n := argN fl.e 8 4
    if !s.ownEq fl.sid eq ∨ n = 0 ∨ 65536 < n then .bad s else s.startCopy (logCopyOf r fl.f eq (argB fl.e 1) a n)
  | 2 => if folioCount ≤ a then .bad s else .ok s ((spareBytes r a).take 16)
  | 3 =>
    let v := s.fresh
    match r.keys with
    | [] =>
      let w := v.2.fresh
      .ok w.2 (leI 6 w.1 ++ leI 6 w.1 ++ leI 2 w.1 ++ leI 4 v.1 ++
        [b2n s.recording + 2 * b2n (decide (131072 < bufLines r.buf))])
    | k :: _ =>
      let old := (r.keys.filter fun x => x.boot = k.boot).getLast?.getD k
      .ok v.2 (le 6 old.mt ++ le 6 k.mt ++ le 2 k.boot ++ leI 4 v.1 ++
        [b2n s.recording + 2 * b2n (decide (131072 < bufLines r.buf))])
  | 4 =>
    let eq := argN fl.e 2 2
    if !s.ownEq fl.sid eq ∨ folioCount ≤ a then .bad s
    else s.startCopy { flight := fl.f, eq, todo := s.folioSlugs a, queued := 0, first := 0, last := 0, holes := 0, fol := true }
  | _ => .bad s
/-- LOG_READ (16 R424): operations 1 and 4 queue what the EQ has room for, and complete with the last entry. -/
def execLogRead (dt f : Nat) (s0 : State) : Out :=
  let s := runCmd 0x78 f logReadBody (s0.elapse dt)
  match s.store.copies.find? fun c => c.flight = f with
  | some c => .next (s.runCopy c)
  | none => .next s
/-- LOG_COPY_RESUME: an EQ has space again (16 Table 16.10). -/
def execLogCopyResume (dt : Nat) (s0 : State) : Out :=
  let s := s0.elapse dt
  .next (s.store.copies.foldl State.runCopy s)
def recordMarkBody (fl : Flight) (s : State) : Ans :=
  let body := (fl.e.args.drop 4).take 12
  let s1 := (s.slug 0x14 0x1404 .info (bytes := padTo 12 body ++ le 2 fl.sid)).record 0x0F 0
    ((padTo 12 body ++ le 2 fl.sid).map Int.ofNat)
  let key := bitOf (argB fl.e 0) 0 && s1.recording
  .ok (if key then s1.takeKey else s1)
    (le 4 s.store.nextSeq ++ le 6 s.now ++ le 4 (if key then s1.store.keyNum else 0xFFFFFFFF))
/-- RECORD_MARK (16 R424, R411). -/
def execRecordMark (dt f : Nat) (s : State) : Out := .next (runCmd 0x79 f recordMarkBody (s.elapse dt))

end Sys2Proof.Machine
end

