-- ==== Sys2Proof/Machine/Power.lean ====
section
/-! DEFINITION. Power, proof and the latency contract: unit states and their changes, unit-level resets, supply events,
power fail and commit, proof, the internal temperature, the choice of power state (13). -/

namespace Sys2Proof.Machine

-- The choice of power state (13 R336, R337) ---------------------------------------------------------------

/-- An effective tolerance: the least of the default and of every contract (13 R336). -/
def State.tlEff (s : State) (id : Nat) (f : Contract → Nat) : Nat :=
  (s.host.sessions.filterMap fun x => x.contract.map f).foldl min (s.parN id)
def State.tlAll (s : State) : List Nat :=
  [s.tlEff 0xA001 (·.control), s.tlEff 0xA002 (·.host), s.tlEff 0xA003 (·.probe)]
/-- The deepest state whose wake latency fits a tolerance in µs (13 Table 13.8). -/
def deepestFor (tl : Nat) : Nat := if 600000 ≤ tl then 3 else if 20000 ≤ tl then 2 else if 200 ≤ tl then 1 else 0
/-- The first index of which something holds. -/
def firstOf (n : Nat) (p : Nat → Bool) : Option Nat := (List.range n).find? p
/-- Is MA in use by an armed slot (13 Table 13.9, code 11)? -/
def State.mainsArmed (s : State) : Bool :=
  s.imp.slots.any fun p => decide (p.2.st = .armed) &&
    (let e := s.slotEntry p.1; e.base = 1 || (e.base = 6 && p.2.next % 256 = 0))
def galWorks (g : Galley) : Bool := match g.st with | .wait => true | .recording => true | .post => true | _ => false
/-- The conditions that hold: code, detail, deepest state permitted (13 Table 13.9). -/
def State.powerConds (s : State) : List (Nat × Nat × Nat) :=
  let when_ (code deep : Nat) (d : Option Nat) : List (Nat × Nat × Nat) :=
    match d with | some x => [(code, x, deep)] | none => []
  let is (b : Bool) : Option Nat := if b then some 0 else none
  let tl := s.tlAll
  [(1, 0, deepestFor (tl.getD 0 0)), (2, 0, deepestFor (tl.getD 1 0)), (3, 0, deepestFor (tl.getD 2 0))] ++
  (match s.unit.st with | .run => [(4, 0, 1)] | .standby => [] | _ => [(4, 0, 0)]) ++
  when_ 5 1 (firstOf 6 fun n => moving (s.drive n).st) ++
  when_ 6 1 (firstOf 8 fun n => match (s.sv n).st with
    | .on => true | .pull => true | .pullWait => true | .hold => true | _ => false) ++
  when_ 7 1 (firstOf 24 fun n => (s.dout n).pulse.isSome ||
    (decide (3 ≤ s.pDo n 0) && (s.loopU 4 n).any fun u => decide (u ≠ 0)) ||
    (decide (3 ≤ s.pDo n 0) && (s.loopU 3 n).any fun u => decide (u ≠ 0))) ++
  when_ 8 1 (firstOf 4 fun l => (s.lane.lanes.getD l {}).up) ++
  when_ 9 1 (is (s.host.queues.any (·.bound) || s.cle.galleys.any galWorks)) ++
  when_ 10 1 (firstOf 4 fun w => match (s.wheel w).st with
    | .acquire => true | .locked => true | .resync => true | _ => false) ++
  when_ 11 2 (is s.mainsArmed) ++
  when_ 12 0 (if s.isSt .run then firstOf 48 fun l => s.loopEn l && decide (s.pL l 0x13 / 4096 = 5) else none) ++
  when_ 13 1 (is (s.host.sessions.any (fun x => x.port = 2) || s.svc.sel.any (· ≠ 0))) ++
  when_ 14 1 (firstOf 4 fun g => s.pSq g 1 = 1 && s.pSq g 3 ≠ 0)
/-- The deepest state permitted, with the lowest code that stops the unit there and its detail (13 R337). -/
def choiceOf (cs : List (Nat × Nat × Nat)) : Nat × Nat × Nat :=
  let d := (cs.map fun c => c.2.2).foldl min 3
  if d = 3 then (3, 0, 0)
  else match cs.find? fun c => c.2.2 = d with
    | some c => (d, c.1, c.2.1)
    | none => (d, 0, 0)
/-- The choice is made; a change of CHOSEN or of the reason writes an INFO slug (13 R337, R341). -/
def State.choose (s : State) : State :=
  let c := choiceOf s.powerConds
  let s1 := s.onPower fun p => { p with chosen := c.1, reason := c.2.1, detail := c.2.2 }
  if c.1 = s.power.chosen ∧ c.2.1 = s.power.reason then s1
  else s1.slug 0 0x000B .info (obj := c.2.2) (after := c.1 + 16 * c.2.1) (before := s.power.chosen + 16 * s.power.reason)

-- Unit states (01 R23, 13 R331) ---------------------------------------------------------------------------

def uCode (u : UState) : Nat :=
  match u with | .proof => 0 | .proofHold => 1 | .standby => 2 | .run => 3 | .reprint => 4 | .update => 5
/-- Ports scan and groups convert in these states (06 R163, 07 R180). -/
def converts (u : UState) : Bool := match u with | .standby => true | .run => true | .update => true | _ => false
/-- A group's pass ends without a sample where converters go idle (06 R163). -/
def State.groupsIdle (s : State) : State :=
  s.onProbe fun t => { t with groups := t.groups.map fun g => { g with phase := .idle, idx := 0, preFail := false, pended := none } }
/-- The unit changes its state: what each station does at the change, and the STATE record (13 R331, R332; 08 R211; 05
R127; 09 R239; 10 R262; 11 R281; 12 R299; 16 R410). -/
def State.enterState (s0 : State) (new : UState) : State :=
  let old := s0.unit.st
  let rec_ (a : State) : State := a.record 0x0B 0 [(uCode new : Nat)]
  let s := if s0.recording then rec_ s0 else s0
  let s1 := s.onUnit fun u => { u with st := new, prev := old, stMt := s.now
                                       runReq := if old = .run ∧ new ≠ .run then false else u.runReq }
  let s2 := if s0.recording then s1 else rec_ s1
  let s3 := if old = .run ∧ new ≠ .run then s2.cleLeaveRun.batchLeaveRun else s2
  let s4 := if new = .run ∧ old ≠ .run then s3.cleEnterRun else s3
  let s5 := if converts old && !converts new then s4.groupsIdle.portsStop else s4
  let s6 := (((s5.fansEnter old).valvesEnter).dioEnter).hlRefresh
  (if new = .run ∧ old ≠ .run then s6.takeKey else s6).choose
/-- An enabled sequencer in free run starts its first pass when converters start (06 R147). -/
def State.freeRuns (s : State) : State :=
  (List.range 4).foldl (fun a g => if (a.group g).phase = .idle then a.endPass g (a.now - 1) else a) s
/-- Entry to STANDBY from PROOF: the forme in force is applied, kept CLE values and the ledger are restored, the
ports start, and the recorder takes a keyframe (13 R324, Table 13.4; 03 R83; 04 R102; 05 R130; 07 R173; 08 R207). -/
def State.standbyFromProof (s : State) : State :=
  let s1 := s.onUnit fun u => { u with st := .standby, prev := .proof, stMt := s.now }
  let s2 := ((s1.applyTime none).applyTimers none s1.sup.forme).cleRestore.onSup fun u => { u with applied := decide (u.gen ≠ 0) }
  let s3 := ((s2.ledgerRestore.applySlots none s2.sup.forme).zonesInit).portsStart (decide (s.power.kind ≤ 1))
  let s4 := (s3.record 0x0B 0 [2]).freeRuns
  ((((((s4.fansEnter .proof).fgRefresh).valvesEnter).dioEnter).hlRefresh).takeKey).choose

-- Unit-level resets (13 R322, R324; 20 R495) --------------------------------------------------------------

/-- The open forme is discarded with a WARN slug (15 R387). -/
def State.dropForme (s : State) : State :=
  match s.sup.openF with
  | some o => (s.onSup fun u => { u with openF := none, quoin := none }).slug 0 0x0004 .warn (v1 := o.baseGen) (v2 := o.opener)
  | none => s
/-- A clear of the test multiplexer's selections (18 R457). -/
def State.muxOff (s : State) : State :=
  match s.svc.owner with
  | some sid => (s.onSvc fun v => { v with sel := [0, 0, 0, 0, 0, 0], owner := none }).slug 0 0x0010 .info (v1 := sid)
  | none => s
/-- Everything starts from its reset value but what non-volatile memory and the record store keep (13 R324). The high
limit's comparators and their 40 ms filter are no firmware's and go on, and TRIP slugs that waited for the supervisor wait
on (12 R296, R304; log 85). -/
def State.wiped (s : State) : State :=
  let r := s.store
  { ({} : State) with
    hl := { latch := s.hl.latch, cause := s.hl.cause, first := s.hl.first, tmt := s.hl.tmt, slugs := s.hl.slugs
            chs := s.hl.chs.map fun c => { c with since := c.since.map fun m => m - (s.now : Int) } }
    valve := { svs := s.valve.svs.map fun v => { learned := v.learned } }
    power := { resets := s.power.resets, boot := s.power.boot, kind := s.power.kind }
    unit := { serial := s.unit.serial, zType := s.unit.zType, fw := s.unit.fw, controlRev := s.unit.controlRev
              rollback := s.unit.rollback, straps := s.unit.straps, changed := s.unit.changed }
    sup := { live := s.sup.live, forme := s.sup.forme, gen := s.sup.gen, crc := s.sup.crc, archive := s.sup.archive }
    store := { nextSeq := r.nextSeq, log := r.log, readOnly := r.readOnly, folios := r.folios, logOpen := r.logOpen
               inOpen := r.inOpen, logNext := r.logNext, inNext := r.inNext, logUnits := r.logUnits, inUnits := r.inUnits
               galFolio := r.galFolio, serials := r.serials, galCopies := r.galCopies, progs := r.progs, failAt := r.failAt
               badFolios := r.badFolios, logSize := r.logSize, input := r.input, keys := r.keys, keyNum := r.keyNum
               snap := r.snap, snapPrev := r.snapPrev, snapSet := r.snapSet }
    free := s.free, pending := s.pending }
/-- A new REC_LOG_FOLIOS takes effect at a unit-level reset, which erases the log and input regions (16 R419). -/
def State.resizeLog (s : State) : State :=
  let n := s.parN 0xB000
  let old := s.store.logSize
  if n = old then s
  else (s.onStore fun r => { r with
    logSize := n, log := [], input := [], keys := [], logOpen := none, inOpen := none, logNext := 0, inNext := 0
    logUnits := 0, inUnits := 0, folios := r.folios.filter fun f => decide (f.num < 1024) }).slug 0x14 0x140C .fault
      (bytes := le 4 old ++ le 4 n)
/-- A unit-level reset: MT and epochs from 0, the boot number and the count of resets up, the interface settings written, PROOF, a
RESET slug, TRIP slugs that waited, and the internal fans running (13 Table 13.3, Table 13.4; 14 R372; 16 R401, Table 16.5;
12 R304, R308). -/
def State.unitLevel (s : State) (kind sid : Nat) : State :=
  let iface := (List.range 9).map fun i => s.parN (0xD000 + i)
  let s0 := { s.wiped with
    time := { masterId := s.unit.straps.nodeId }, lane := { masterSer := s.unit.serial }, host := { iface } }
  let s1 := s0.onPower fun p => { p with kind, resets := incW 8 p.resets, boot := incW 16 p.boot }
  (((s1.resizeLog).slug 0x14 0x1403 .info (bytes := [kind] ++ le 2 sid)).hlBack).coolRefresh
/-- POWER_ON: logic starts with the straps read anew. After a commit the kind is BROWNOUT; in a unit that still ran,
the hold-up has failed, and what staging held is lost (13 R321, R322; 18 R455; 16 R409; log 37). -/
def execPowerOn (dt : Nat) (straps : Straps) (s0 : State) : Out :=
  let s := s0.elapse dt
  let s1 := (s.onUnit fun u => { u with straps, changed := false }).onHl fun h => { h with chs := [{}, {}] }
  .next (s1.unitLevel (if s.power.committed then 1 else 0) 0xFFFF)
/-- Resets that the hardware holds until the store has been written (16 R402). -/
def State.resetNow (s : State) (kind sid : Nat) : State := (s.muxOff.dropForme.flushStore).unitLevel kind sid
/-- SUPERVISOR_WATCHDOG: the heartbeat is older than 1 s, or 900 s while the supervisor restarts; it stands still with the
supervisor in P2 and P3 (13 R323, Table 13.8; 04 R107; DEDUCED, log 42). -/
def execSupervisorWatchdog (dt : Nat) (s0 : State) : Out :=
  let s := s0.elapse dt
  let limit := if s.isSt .update then 900 * Config.sec else Config.sec
  if s.power.on ∧ !s.power.debug ∧ !s.power.dark ∧ s.power.cur < 2 ∧ max s.power.beat s.power.wdMt + limit < s.now then .next (s.resetNow 3 0xFFFF)
  else .next s

-- Supply (13 R316 to R321) --------------------------------------------------------------------------------

/-- VIN_RANGE_CHANGE; above 100 V nothing is specified (13 R316, R343). -/
def execVinRangeChange (dt vin : Nat) (s0 : State) : Out :=
  if 10000 < vin then .fault .outsideOperatingConditions else .next ((s0.elapse dt).seeVin vin)
/-- POWER_FAIL: VIN below the threshold for 1 ms; relays release and the internal fans stop (13 R318, 12 R311). -/
def execPowerFail (dt vin : Nat) (s0 : State) : Out :=
  let s := s0.elapse dt
  if s.power.pfail ∨ !s.power.on ∨ 1560 ≤ vin then .next s
  else
    let s1 := (s.seeVin vin).onPower fun p => { p with pfail := true, ride := true, pfailMt := s.now, pfailVin := vin }
    .next (((s1.setHl fun h => { h with vinLost := true }).coolRefresh).slug 0 0x0007 .warn (v1 := vin))
def State.rideEnd (s : State) : Nat := s.power.pfailMt + s.parN 0xA000 * Config.ms
/-- RIDE_THROUGH: VIN has been at or above the start threshold for 10 ms inside the window (13 R319). -/
def execRideThrough (dt vin : Nat) (s0 : State) : Out :=
  let s := s0.elapse dt
  if 10000 < vin then .fault .outsideOperatingConditions
  else if s.power.pfail ∧ s.power.on ∧ 1680 ≤ vin ∧ s.now < s.rideEnd then
    let s1 := (s.seeVin vin).onPower fun p => { p with pfail := false, ride := false }
    .next (((s1.setHl fun h => { h with vinLost := false }).coolRefresh).slug 0 0x0008 .info (v1 := vin))
  else .next s
/-- A slug is put ahead of every slug still in staging, whatever staging holds (13 R320). -/
def State.slugFirst (s : State) (put : State → State) : State :=
  let r := s.store
  (put (s.onStore fun x => { x with staging := [], inProg := 0, tripQ := [] })).onStore fun x => { x with
    staging := r.staging.take r.inProg ++ x.staging ++ r.staging.drop r.inProg, inProg := r.inProg, tripQ := r.tripQ
    hwm := max r.hwm (r.staging.length + x.staging.length) }
/-- POWER_COMMIT: the link stops and what it held is lost, the POWER slug goes first, staging, snapshot and folios are
written, and the logic turns off (13 R320, R344; 16 R423; log 38). -/
def execPowerCommit (dt holdup : Nat) (s0 : State) : Out :=
  let s := s0.elapse dt
  let overT := decide (s.rideEnd ≤ s.now)
  if s.power.pfail ∧ s.power.on ∧ (overT || decide (holdup ≤ Config.holdupReserve)) then
    let s1 := s.onHost fun h => { h with sessions := [], shakes := [], lingers := [], queues := [], flights := [] }
    let s2 := (s1.muxOff.dropForme).onPower fun p => { p with holdupV := holdup }
    let s4 := s2.slugFirst fun a => a.slug 0x14 0x1402 .fault (bytes := [b2n overT] ++ le 2 s.power.pfailVin ++ le 2 holdup)
    let s5 := if s.svDark then s4
      else match s4.store.reprint with
        | some r => ({ s4 with cols := r.saved.cols }).ledgerSave
        | none => s4.ledgerSave
    .next ((s5.flushStore.wiped).onPower fun p => { p with on := false, committed := true })
  else .next s

-- Proof (13 R326 to R329) ---------------------------------------------------------------------------------

def resCode (r : ProofRes) : Nat := r.result % 4
/-- PROOF_STAT (13 Table 13.13). -/
def proofStat (p : PowerSt) : Nat :=
  p.stage + 16 * b2n p.pass + 32 * b2n p.fail + 64 * b2n p.waitVin + 128 * b2n p.recovery + 256 * p.failed
/-- The PROOF slug with the whole report: PROOF_STAT, PROOF_TIME, the nine results, then item and time of each stage
(13 R329; log 39). -/
def State.proofSlug (s : State) (ok : Bool) : State :=
  let p := s.power
  let codes := (p.res.foldr (fun r a => resCode r + 4 * a) 0)
  s.slug 0 0x0005 (if ok then .info else .fault) (v1 := proofStat p) (v2 := p.proofMs)
    (bytes := le 3 codes ++ p.res.flatMap fun r => [r.item] ++ le 2 r.time)
/-- Stage 4 waits for VIN where VIN is known to be below 22.0 V (13 R328; log 40). -/
def State.stage4 (s : State) : State :=
  let low := s.power.vinUv || s.power.pfail || decide (0 < s.power.vin ∧ s.power.vin < 2200)
  if s.power.stage = 4 ∧ low then s.onPower fun p => { p with waitVin := true, waitMt := s.now } else s
/-- What the stages 4, 5 and 8 leave besides their result; stage 5 the high-limit channels as they stand (10 R250; 12 R297,
R303, Table 12.6; 16 R408, R409). -/
def State.stageDoes (s : State) (k : Nat) (ok : Bool) (item meas : Nat) (hl0 hl1 : HlMeas) : State :=
  match k with
  | 4 => s.onValve fun v => { v with c := meas % 65536 }
  | 5 =>
    let a := (s.seeHl 0 hl0).seeHl 1 hl1
    if ok then a.setHl fun h => { h with cause := clrBit h.cause 2, rb := [false, false] } else a.hlLatch 2
  | 8 =>
    if ok then (s.onPower fun p => { p with holdupOk := true, holdupV := meas % 65536 }).mountStore
    else if item = 2 then s.onPower fun p => { p with holdupV := meas % 65536 } else s
  | _ => s
/-- Proof has ended: STANDBY, or PROOF_HOLD (13 R327, R329). -/
def State.proofEnd (s : State) (recovery : Bool) : State :=
  let ok := decide (s.power.failed = 0)
  let s1 := s.presetIns.onPower fun p => { p with pass := ok, fail := !ok, recovery }
  let s2 := s1.proofSlug ok
  if ok then ((s2.onStore fun r => { r with proofHeld := false }).standbyFromProof).nextProgram
  else
    let s3 := if (s2.power.res.getD 8 {}).result = 0 then (s2.onStore fun r => { r with proofHeld := false }).nextProgram else s2
    s3.enterState .proofHold
/-- A stage ends: the next runs, or proof stops (13 R327). -/
def State.stageEnd (s : State) (pass : Bool) (item time meas : Nat) (hl0 hl1 : HlMeas) : State :=
  let k := s.power.stage
  let cBad := decide (k = 4) && pass && !decide (3000 ≤ meas ∧ meas ≤ 3600)
  let ok := pass && !cBad
  let it := if ok then 0xFF else if cBad then 16 else item % 256
  let s1 := (s.stageDoes k ok it meas hl0 hl1).onPower fun p => { p with
    res := p.res.set k { result := if ok then 0 else 1, item := it, time := time % 65536 }
    failed := if ok then p.failed else setBit p.failed k, waitVin := false, proofMs := (p.proofMs + time) % 65536 }
  if k = 0 ∧ !ok then s1.onPower fun p => { p with dark := true, fail := true }
  else if (k = 1 ∨ k = 2) ∧ !ok then s1.proofEnd true
  else if 8 ≤ k then s1.proofEnd false
  else (s1.onPower fun p => { p with stage := k + 1 }).stage4
def State.proving (s : State) : Bool := s.isSt .proof && s.power.on && !s.power.dark
/-- PROOF_STAGE_END (13 R326, R327). `meas` is C in 0.1 µF at stage 4 and the hold-up voltage at stage 8; stage 5 brings
what the high-limit channels show. -/
def execProofStageEnd (dt : Nat) (pass : Bool) (item time meas : Nat) (hl0 hl1 : HlMeas) (s0 : State) : Out :=
  let s := s0.elapse dt
  if s.proving ∧ !s.power.waitVin then .next (s.stageEnd pass item time meas hl0 hl1) else .next s
/-- PROOF_VIN_READY: VIN is at or above 22.0 V while stage 4 waits (13 R328). -/
def execProofVinReady (dt vin : Nat) (s0 : State) : Out :=
  let s := s0.elapse dt
  if 10000 < vin then .fault .outsideOperatingConditions
  else if s.proving ∧ s.power.waitVin ∧ 2200 ≤ vin then .next ((s.seeVin vin).onPower fun p => { p with waitVin := false })
  else .next s
/-- PROOF_VIN_TIMEOUT: the wait has lasted longer than 60 s, and item 16 fails (13 R328). -/
def execProofVinTimeout (dt : Nat) (s0 : State) : Out :=
  let s := s0.elapse dt
  if s.proving ∧ s.power.waitVin ∧ s.power.waitMt + 60 * Config.sec < s.now then .next (s.stageEnd false 16 0 s.valve.c ⟨0, 0⟩ ⟨0, 0⟩)
  else .next s

-- Internal temperature (13 R333) --------------------------------------------------------------------------

/-- What two failed internal fans take off every threshold, 0.01 °C. -/
def State.derate (s : State) : Int :=
  if 2 ≤ ((List.range 3).filter fun i => bitOf s.fan.coolFail i).length then 1000 else 0
/-- T_INT is seen at a value: HOT, the start of OVERTEMP's 10 s, and OVERTEMP's end (13 Table 13.7). -/
def State.seeTemp (s : State) (t : Int) : State :=
  let d := s.derate
  let hot := decide (7500 - d ≤ t) || (s.power.hot && decide (7000 - d < t))
  let s1 := s.onPower fun p => { p with
    tInt := t, hot, hotMt := if 8500 - d ≤ t then p.hotMt.or (some s.now) else none
    overtemp := p.overtemp && decide (8000 - d < t) }
  (if hot && !s.power.hot then s1.slug 0 0x0009 .warn (v1 := t) else s1).coolRefresh
/-- T_INT_THRESHOLD (13 R333). -/
def execTIntThreshold (dt : Nat) (t : Int) (s0 : State) : Out := .next ((s0.elapse dt).seeTemp t)
/-- OVERTEMP: 10 s at or above the threshold; a unit in RUN enters STANDBY (13 R333, R332). -/
def execOvertemp (dt : Nat) (t : Int) (s0 : State) : Out :=
  let s := s0.elapse dt
  if 8500 - s.derate ≤ t ∧ !s.power.overtemp ∧ (s.power.hotMt.any fun m => decide (m + 10 * Config.sec ≤ s.now)) then
    let s1 := ((s.seeTemp t).onPower fun p => { p with overtemp := true }).slug 0 0x000A .fault (v1 := t)
    .next (if s.isSt .run then s1.enterState .standby else s1)
  else .next s

-- Power states (13 R334 to R341) --------------------------------------------------------------------------

/-- The items that the unit knows in advance, as MTs (13 R338, R340). -/
def State.items (s : State) : List Nat :=
  let conv := s.converting
  let slots := ((s.win 0).filter fun n => (s.slotLive n).st = .armed).map fun n => (s.slotLive n).next
  let ports := (List.range 8).filterMap fun p =>
    if conv && s.portOn p && decide (s.pPc p 1 ≠ 0) && !(s.port p).opened && !(s.port p).short then some (s.port p).nextMt else none
  let drives := s.fan.drives.filterMap fun d => if d.st = .wait then d.nextMt else none
  let chans := (List.range 64).filterMap fun ch =>
    if conv && decide (s.chMode ch ≠ 0) then some ((s.chan ch).lastMt + s.pCh ch 13 * tenth) else none
  let points := (List.range 8).flatMap fun p =>
    if conv && s.portOn p then (s.port p).table.map fun x => x.lastMt + s.pPc p 2 * tenth else []
  let nodePts := if conv then (s.pica.nodePts.filter fun q => s.portOn (q.1 / 64)).map fun q =>
    q.2.lastMt + s.pPc (q.1 / 64) 2 * tenth else []
  let zones := (List.range 16).flatMap fun z =>
    if s.pZn z 0 = 0 then [] else (s.zone z).srcs.filterMap fun x =>
      let t := s.fullMt x.2.stamp + s.pZn z 3 * tenth
      if x.2.code = .ok ∧ s.now ≤ t then some ((t / tenth + 1) * tenth) else none
  slots ++ ports ++ drives ++ chans ++ points ++ nodePts ++ zones
/-- The shortest stay that pays, and the wake latency, in ticks (13 Table 13.8). -/
def pmin (k : Nat) : Nat := match k with | 1 => 50000 | 2 => 100 * Config.ms | _ => 5 * Config.sec
def wakeLat (k : Nat) : Nat := match k with | 0 => 0 | 1 => 200 * Config.us | 2 => 20 * Config.ms | _ => 600 * Config.ms
def State.fitsState (s : State) (k : Nat) : Bool :=
  (s.items.all fun t => decide (s.now + pmin k ≤ t)) && (k ≠ 1 || decide (s.now + pmin 1 ≤ s.power.beat + Config.ms))
/-- The unit enters a power state: the entry is counted; SRC 0 timers change clock; P3 stops the mains front end (13
R334, R341; 04 R105). -/
def State.enterPower (s : State) (k : Nat) : State :=
  let s1 := s.onPower fun p => { p with cur := k, cnt := p.cnt.modify k (incW 32), lfBase := s.now, lfReal := 0 }
  let s2 := s1.tmLf (decide (2 ≤ k) || s.power.debug)
  if k = 3 ∧ s.time.ma ≠ .invalid then (s2.holdBase 1).onTime fun t => { t with ma := .invalid, coastLeft := 0 } else s2
/-- POWER_STATE_ENTRY: between items the unit enters the chosen state, or the deepest that pays (13 R338). -/
def execPowerStateEntry (dt : Nat) (s0 : State) : Out :=
  let s := (s0.elapse dt).choose
  match (([3, 2, 1].filter fun k => decide (k ≤ s.power.chosen)).find? fun k => s.fitsState k) with
  | some k => if s.power.cur < k ∧ s.power.on then .next (s.enterPower k) else .next s
  | none => .next s
/-- Back in P0: the heat integral catches up, timers return to 100 MHz, and a supervisor that stood still writes its
heartbeat again (13 R335, R339, R340). -/
def State.wakeUp (s : State) : State :=
  if s.power.cur = 0 then s
  else
    let s1 := (s.enterPower 0).heat
    if 2 ≤ s.power.cur then s1.onPower fun p => { p with beat := s.now } else s1
/-- PLANNED_WAKE: ahead of the next item by the wake latency and 100 µs (13 R338). -/
def execPlannedWake (dt : Nat) (s0 : State) : Out :=
  let s := s0.elapse dt
  let lead := wakeLat s.power.cur + 100 * Config.us
  if (s.items.any fun t => decide (t ≤ s.now + lead)) ||
      (decide (s.power.cur = 1) && decide (s.power.beat + Config.ms ≤ s.now + lead)) then .next s.wakeUp
  else .next s
/-- WAKE: sources in the order of Table 13.10, 0 to 8; a mains event cannot wake P3 (13 R339). -/
def execWake (dt src : Nat) (s0 : State) : Out :=
  let s := s0.elapse dt
  if 8 < src ∨ (src = 5 ∧ s.power.cur = 3) then .next s else .next s.wakeUp
/-- DEBUG_HALT and DEBUG_RELEASE of the supervisor's cores (04 R107). -/
def execDebugHalt (dt : Nat) (s0 : State) : Out :=
  let s := s0.elapse dt
  .next ((s.onPower fun p => { p with debug := true }).tmLf true)
def execDebugRelease (dt : Nat) (s0 : State) : Out :=
  let s := s0.elapse dt
  if s.power.debug then
    .next ((s.onPower fun p => { p with debug := false, wdMt := s.now }).tmLf (decide (2 ≤ s.power.cur)))
  else .next s

-- LATENCY_SET (13 R345, Table 13.14) ----------------------------------------------------------------------

def latencySetBody (fl : Flight) (s : State) : Ans :=
  let op := argB fl.e 0
  if 2 < op then .bad s
  else
    let c : Option Contract := if op = 1 then
        some { control := argN fl.e 4 4, host := argN fl.e 8 4, probe := argN fl.e 12 4 } else none
    let s1 := if op = 0 then s else s.onSession fl.sid fun x => { x with contract := c }
    let s2 := s1.choose
    .ok s2 ([s2.power.cur, s2.power.chosen, s2.power.reason, s2.power.detail] ++ s2.tlAll.flatMap (le 4) ++
      [(s2.host.sessions.filter fun x => x.contract.isSome).length,
       b2n ((s2.session? fl.sid).any fun x => x.contract.isSome)])
/-- LATENCY_SET (13 R345). -/
def execLatencySet (dt f : Nat) (s : State) : Out := .next (runCmd 0x70 f latencySetBody (s.elapse dt))

end Sys2Proof.Machine
end

