-- ==== Sys2Proof/Machine/Sessions.lean ====
section
/-! DEFINITION. The host link: handshakes, the trust list, sessions and their timers, sending of frames, the queues,
and the fetch, start and time limits of commands (14). -/

namespace Sys2Proof.Machine

-- Trust (14 R350) -----------------------------------------------------------------------------------------

def State.trustUsed (s : State) (k : Nat) : Bool := decide (s.parN (0xD108 + 16 * k) ≤ 3)
def State.trustEmpty (s : State) : Bool := (List.range 32).all fun k => !s.trustUsed k
/-- An entry's fingerprint, its first byte least significant. -/
def State.trustFp (s : State) (k : Nat) : Nat := ofLe ((List.range 8).flatMap fun i => le 4 (s.parN (0xD100 + 16 * k + i)))
/-- The highest role that the list gives a fingerprint (14 R350). -/
def State.trustRole (s : State) (fp : Nat) : Option Nat :=
  (((List.range 32).filter fun k => s.trustUsed k && s.trustFp k = fp).map fun k => s.parN (0xD108 + 16 * k)).foldl
    (fun a r => some (max (a.getD 0) r)) none
/-- The highest role that a certificate may take on a port: the empty list admits any on X22 (14 R350). -/
def State.admitRole (s : State) (port fp : Nat) : Option Nat :=
  if s.trustEmpty then (if port = 2 then some 3 else none) else s.trustRole fp

-- Sending (14 R356) ---------------------------------------------------------------------------------------

/-- A frame is sent with the next SEQ, or waits while 32 are unacknowledged; it carries the ACK. -/
def sendFrame (now : Nat) (x : Session) (fr : UnitFrame) : Session :=
  if x.unacked.length < 32 ∧ x.txq = [] then
    { x with unacked := x.unacked ++ [{ seq := x.tx, frame := fr, sentMt := now, tries := 0 }], tx := incW 32 x.tx
             ackDue := none, txMt := now }
  else { x with txq := x.txq ++ [fr] }
/-- Frames that wait go out as the window opens. -/
def pump (now : Nat) : Nat → Session → Session
  | 0, x => x
  | k + 1, x =>
    match x.txq with
    | [] => x
    | fr :: r => if x.unacked.length < 32 then pump now k (sendFrame now { x with txq := [] } fr |> fun y => { y with txq := r }) else x
def State.send (s : State) (sid : Nat) (fr : UnitFrame) : State := s.onSession sid fun x => sendFrame s.now x fr
/-- An ACK value acknowledges every frame up to it. -/
def takeAck (now ack : Nat) (x : Session) : Session :=
  pump now x.txq.length { x with unacked := x.unacked.filter fun t => decide (0 < sx 32 (uw 32 ((t.seq : Int) - ack))) }

-- The end of a session (14 R356, R373; 18 R457) -----------------------------------------------------------

/-- The test multiplexer's selections end with their session (18 R457). -/
def State.clearMux (s : State) (sid : Nat) : State := if s.svc.owner = some sid then s.muxOff else s
/-- A session ends: its queues become ORPHAN, session-held settings end, an Engineer's or a Service end is audited.
The SESSION_CLOSE goes out at once, outside the window. -/
def State.endSession (s : State) (sid reason : Nat) (close : Bool) : State :=
  match s.session? sid with
  | none => s
  | some x =>
    let s1 := s.onHost fun h => { h with
      sessions := h.sessions.filter fun y => y.sid ≠ sid
      lingers := h.lingers ++ [{ sid, fp := x.fp, untilMt := s.now + x.linger * Config.sec, len := x.linger }]
      queues := h.queues.map fun q => if q.owner = sid then { q with orphan := true } else q
      outFrame := if close then some (x.assoc, some (.sessionClose reason)) else h.outFrame }
    let s2 := if 2 ≤ x.role then s1.audit sid x.role x.fp reason 0xFE 1 [] else s1
    (((s2.fansSession sid).fgRefresh).valvesSession sid |>.clearMux sid).choose
/-- No session is formed: the association ends, a WARN slug names the certificate (14 R351). -/
def State.noSession (s : State) (assoc : Nat) : State :=
  match s.host.shakes.find? fun k => k.assoc = assoc with
  | none => s
  | some k => (s.onHost fun h => { h with shakes := h.shakes.filter fun y => y.assoc ≠ assoc, hsRef := incW 32 h.hsRef }).slug 0 0x0002 .warn
      (v1 := sx 32 k.fp)

-- Handshakes (14 R348, R350) ------------------------------------------------------------------------------

def State.refuseShake (s : State) (assoc : Nat) : State :=
  s.onHost fun h => { h with shakes := h.shakes.filter fun y => y.assoc ≠ assoc, hsRef := incW 32 h.hsRef }
/-- In PROOF and UPDATE the link takes no handshakes (14 R351). -/
def State.linkOpen (s : State) : Bool := s.power.on && !s.isSt .proof && !s.isSt .update
/-- CLIENT_HELLO on port 0 X20, 1 X21, 2 X22. On Ethernet a hello without a valid cookie is answered with one; an offer
that the unit does not support, a renegotiation, and a second hello on a busy X22 are refused (14 R347, R348). -/
def execClientHello (dt port assoc : Nat) (cookie offerOk : Bool) (s0 : State) : Out :=
  let s := s0.elapse dt
  let known := s.host.shakes.any fun k => k.assoc = assoc
  let busy := (s.host.shakes.filter fun k => k.doneMt.isNone).length
  if !s.linkOpen ∨ 3 ≤ port then .next s
  else if s.host.sessions.any fun x => x.assoc = assoc then .next (s.onHost fun h => { h with hsRef := incW 32 h.hsRef })
  else if port = 2 ∧ (s.host.sessions.any (fun x => x.port = 2) || s.host.shakes.any (fun k => k.port = 2)) then
    .next (s.onHost fun h => { h with hsRef := incW 32 h.hsRef })
  else if !known ∧ 8 ≤ busy then .next s
  else if (port = 2 ∨ cookie) ∧ !offerOk then .next (s.refuseShake assoc)
  else
    let agreed_ := decide (port = 2) || cookie
    let agree (k : Shake) : Shake := if k.assoc = assoc then { k with agreed := k.agreed || agreed_ } else k
    let add := if known then [] else [{ assoc, port, startMt := s.now }]
    .next (s.onHost fun h => { h with shakes := (h.shakes ++ add).map agree })
/-- HANDSHAKE_DONE, after a hello that the unit has agreed to: the client's certificate is admitted, or the handshake is refused (14 R348, R350). -/
def execHandshakeDone (dt assoc fp : Nat) (certOk : Bool) (s0 : State) : Out :=
  let s := s0.elapse dt
  match s.host.shakes.find? fun k => k.assoc = assoc && k.doneMt.isNone && k.agreed with
  | none => .next s
  | some k =>
    if !s.linkOpen ∨ k.startMt + 5 * Config.sec < s.now then .next s
    else if certOk ∧ (s.admitRole k.port fp).isSome then
      .next (s.onHost fun h => { h with
        shakes := h.shakes.map fun y => if y.assoc = assoc then { y with fp, doneMt := some s.now } else y })
    else .next (s.refuseShake assoc)
/-- HANDSHAKE_TIMEOUT: 5 s after the first ClientHello (14 R348). -/
def execHandshakeTimeout (dt assoc : Nat) (s0 : State) : Out :=
  let s := s0.elapse dt
  if s.host.shakes.any fun k => k.assoc = assoc && k.doneMt.isNone && decide (k.startMt + 5 * Config.sec ≤ s.now) then
    .next (s.refuseShake assoc)
  else .next s
/-- SESSION_OPEN_TIMEOUT: 2 s after the handshake (14 R351). -/
def execSessionOpenTimeout (dt assoc : Nat) (s0 : State) : Out :=
  let s := s0.elapse dt
  if s.host.shakes.any fun k => k.assoc = assoc && (k.doneMt.any fun m => decide (m + 2 * Config.sec ≤ s.now)) then
    .next (s.noSession assoc)
  else .next s
/-- ETHERNET_LINK_CHANGE (14 R346). -/
def execEthernetLinkChange (dt port : Nat) (up : Bool) (speed : Nat) (s0 : State) : Out :=
  let s := s0.elapse dt
  if 2 ≤ port then .next s
  else .next (s.onHost fun h => { h with link := h.link.set port up, speed := h.speed.set port (if up then speed % 4 else 0) })

-- Timers of a session (14 R356, R357) ---------------------------------------------------------------------

/-- FRAME_RETRANSMIT: the oldest frame whose interval has run is sent again, the interval doubling up to 8 × HL_RTO;
after HL_RETRIES the session ends. X22 retransmits nothing (14 R356, R347). -/
def execFrameRetransmit (dt sid : Nat) (s0 : State) : Out :=
  let s := s0.elapse dt
  match s.session? sid with
  | none => .next s
  | some x =>
    if x.port = 2 then .next s
    else match x.unacked.find? fun t => decide (t.sentMt + x.rto * Config.ms * min 8 (2 ^ t.tries) ≤ s.now) with
      | none => .next s
      | some t =>
        if x.retries ≤ t.tries then .next (s.endSession sid 1 true)
        else
          let s1 := s.onSession sid fun y => { y with
            unacked := y.unacked.map fun u => if u.seq = t.seq then { u with sentMt := s.now, tries := u.tries + 1 } else u
            ackDue := none, txMt := s.now }
          .next (s1.onHost fun h => { h with retx := incW 32 h.retx })
/-- ACK_TIMER: 2 ms after a receipt that no frame has acknowledged (14 R356). -/
def execAckTimer (dt sid : Nat) (s0 : State) : Out :=
  let s := s0.elapse dt
  match s.session? sid with
  | none => .next s
  | some x =>
    if x.ackDue.any fun m => decide (m + 2 * Config.ms ≤ s.now) then
      .next ((s.onSession sid fun y => { y with ackDue := none, txMt := s.now }).onHost fun h =>
        { h with outFrame := some (x.assoc, none) })
    else .next s
/-- SESSION_TIMEOUT: no valid frame for HL_SESS_TMO (14 R357). -/
def execSessionTimeout (dt sid : Nat) (s0 : State) : Out :=
  let s := s0.elapse dt
  match s.session? sid with
  | none => .next s
  | some x => if x.rxMt + x.tmo * Config.sec ≤ s.now then .next (s.endSession sid 1 true) else .next s
/-- KEEPALIVE_SEND: nothing else sent for HL_SESS_TMO / 3 (14 R357). -/
def execKeepaliveSend (dt sid : Nat) (s0 : State) : Out :=
  let s := s0.elapse dt
  match s.session? sid with
  | none => .next s
  | some x => if 3 * x.txMt + x.tmo * Config.sec ≤ 3 * s.now then .next (s.send sid .keepalive) else .next s
/-- LINGER_EXPIRY: the session's ORPHAN queues are deleted with what they held (14 R373; 16 R424). -/
def execLingerExpiry (dt sid : Nat) (s0 : State) : Out :=
  let s := s0.elapse dt
  if !s.isSt .update && s.host.lingers.any fun l => l.sid = sid && decide (l.untilMt ≤ s.now) then
    let gone (n : Nat) : Bool := (s.queue? n).any fun q => q.orphan && decide (q.owner = sid)
    let s1 := s.abortCopies fun c => gone c.eq
    .next ((s1.onHost fun h => { h with
      queues := h.queues.filter fun q => !(q.orphan && decide (q.owner = sid)), lingers := h.lingers.filter fun l => l.sid ≠ sid }).onProbe
        fun p => { p with streams := p.streams.filter fun x => !gone x.xq })
  else .next s

-- Queues (14 R358, R359, R364, R365) ----------------------------------------------------------------------

/-- Kind of a queue number: 0 SQ, 1 CQ, 2 EQ, 3 XQ (14 Table 14.3). -/
def qKind (q : Nat) : Nat := if q < 512 then 0 else if q < 768 then 1 else if q < 896 then 2 else 3
def entrySize (q : Nat) : Nat := if qKind q % 2 = 0 then 64 else 32
/-- Ring memory a queue takes, in units of 4 KiB (14 R358). -/
def ringBytes (q depth : Nat) : Nat := cdiv (depth * entrySize q) 4096 * 4096
def State.ringFree (s : State) : Nat := 8388608 - (s.host.queues.map fun q => ringBytes q.num q.depth).foldl (· + ·) 0
def depthOk (d : Nat) : Bool := [16, 32, 64, 128, 256, 512, 1024, 2048, 4096].contains d
/-- The fields of Q_CREATE that a kind does not use are 0, and the others in range (14 Table 14.8). -/
def qFieldsOk (q cq coalN cls coalT : Nat) : Bool :=
  match qKind q with
  | 0 => decide (512 ≤ cq ∧ cq < 768 ∧ coalN = 0 ∧ cls = 0 ∧ coalT = 0)
  | 2 => decide (cq = 0 ∧ 1 ≤ coalN ∧ coalN ≤ 21 ∧ cls < 32 ∧ coalT ≤ 100000)
  | _ => decide (cq = 0 ∧ 1 ≤ coalN ∧ coalN ≤ 43 ∧ cls = 0 ∧ coalT ≤ 100000)
def State.owns (s : State) (sid q : Nat) : Option Queue := (s.queue? q).filter fun x => decide (x.owner = sid) && !x.orphan
/-- Q_CREATE (14 R359): the status, and the state. -/
def State.makeQueue (s : State) (sid q depth cq coalN cls coalT : Nat) : Nat × State :=
  if 1024 ≤ q ∨ !depthOk depth ∨ !qFieldsOk q cq coalN cls coalT ∨ (q < 512 ∧ (s.owns sid cq).isNone) then (sBAD, s)
  else match s.queue? q with
    | some x => (if x.owner = sid ∧ !x.orphan then sBUSY else sBAD, s)
    | none =>
      if s.ringFree < ringBytes q depth then (sQFULL, s)
      else (sOK, s.onHost fun h => { h with queues := h.queues ++ [{ num := q, depth, owner := sid, cq, coalN, cls, coalT }] })
/-- Q_DELETE (14 R359). -/
def State.dropQueue (s : State) (sid q : Nat) : Nat × State :=
  match s.owns sid q with
  | none => (sBAD, s)
  | some x =>
    let busy := match qKind q with
      | 0 => s.host.flights.any (fun f => f.sq = q) || !x.ring.isEmpty
      | 1 => s.host.queues.any fun y => decide (y.num < 512 ∧ y.cq = q)
      | 2 => false
      | _ => x.bound
    if busy then (sBUSY, s)
    else
      let s1 := s.abortCopies fun c => c.eq = q
      (sOK, s1.onHost fun h => { h with queues := h.queues.filter fun y => y.num ≠ q })
/-- May the tail of an SQ with write index `w` move to an index (14 R364, R365)? -/
def tailOk (x : Queue) (w idx : Nat) : Bool :=
  decide (idx < x.depth) && decide ((idx + x.depth - x.tail) % x.depth ≤ (w + x.depth - x.tail) % x.depth)
/-- SUBMIT (14 R365). -/
def submitQueue (x : Queue) (first tail : Nat) (entries : List CmdEntry) : Nat × Queue :=
  let w := (x.w + entries.length) % x.depth
  if first ≠ x.w then (sBAD, x)
  else if x.depth - 1 < x.ring.length + entries.length then (sQFULL, x)
  else if tail ≠ 0xFFFF ∧ !tailOk x w tail then (sBAD, x)
  else (sOK, { x with ring := x.ring ++ entries.map .cmd, w, tail := if tail = 0xFFFF then x.tail else tail
                      passes := if w < x.w then x.passes + 1 else x.passes })
/-- A doorbell write by its owner: the tail of an SQ, the head of another ring (14 R364, 20 R492). -/
def State.doorbell (s : State) (sid q idx : Nat) : Nat × State :=
  match s.owns sid q with
  | none => (sBAD, s)
  | some x =>
    let i := idx % 4096
    if q < 512 then
      if tailOk x x.w i then (sOK, s.onQueue q fun y => { y with tail := i }) else (sBAD, s)
    else
      let k := (i + x.depth - x.head) % x.depth
      if i < x.depth ∧ k ≤ x.sent then
        (sOK, s.onQueue q fun y => { y with head := i, ring := y.ring.drop k, sent := y.sent - k })
      else (sBAD, s)

-- Delivery (14 R366) --------------------------------------------------------------------------------------

/-- The phase bit of the entry `j` places after the head: 1 in the first pass, inverted in each that follows. -/
def phaseOf (x : Queue) (j : Nat) : Nat := 1 - ((x.passes * x.depth + x.w + j - x.ring.length) / x.depth) % 2
def urgent (e : QEntry) : Bool := match e with | .comp _ n => n | _ => false
/-- DELIVER: COAL_N entries wait, or COAL_T has run, or a NOTIFY completion waits. A run never crosses index 0. -/
def execDeliver (dt q : Nat) (s0 : State) : Out :=
  let s := s0.elapse dt
  match s.queue? q with
  | none => .next s
  | some x =>
    let new := x.ring.drop x.sent
    let due := decide (x.coalN ≤ new.length) || new.any urgent ||
      (x.waitMt.any fun m => decide (m + x.coalT * Config.us ≤ s.now))
    if q < 512 ∨ new = [] ∨ x.orphan ∨ !due then .next s
    else
      let i := (x.head + x.sent) % x.depth
      let k := min new.length (min (x.depth - i) (1380 / entrySize q))
      let s1 := s.onQueue q fun y => { y with sent := y.sent + k, waitMt := if k = new.length then none else y.waitMt }
      .next (s1.send x.owner (.deliver q i k (phaseOf x x.sent) (new.take k)))

-- Fetch, start and time limits (14 R367 to R371) ----------------------------------------------------------

/-- Entries of an SQ made available for fetch. -/
def available (x : Queue) : Nat := (x.tail + x.depth - x.head) % x.depth
/-- Pool and credit (14 R367). -/
def State.admitsEntry (s : State) (x : Queue) (e : CmdEntry) : Bool :=
  let n := s.host.flights.length
  let pool := decide (n < 960) || (bitOf e.flags 2 && decide (n < 1024))
  let mine := (s.host.flights.filter fun f => (s.queue? f.sq).any fun y => y.cq = x.cq).length
  pool && (s.queue? x.cq).any fun c => decide (mine < c.depth - 1 - c.ring.length)
def State.fetchable (s : State) (x : Queue) : Bool :=
  decide (x.num < 512) && !x.orphan && decide (available x ≠ 0) &&
    (match x.ring with | .cmd e :: _ => s.admitsEntry x e | _ => false)
/-- The SQ whose turn it is: the next one round that can be fetched from. -/
def State.turn (s : State) : Option Nat :=
  let ready := (s.host.queues.filter fun x => s.fetchable x).map (·.num)
  let dist (n : Nat) : Nat := (n + 512 - s.host.rr % 512) % 512
  ready.foldl (fun a n => match a with | some m => if dist n < dist m then some n else a | none => some n) none
/-- The check at fetch, in the order of R379; none where the command goes on to its station (14 R368, 15 R379). -/
def State.fetchStatus (s : State) (role : Nat) (e : CmdEntry) : Option Nat :=
  match catalogue e.op with
  | none => some sBADOP
  | some _ =>
    if !targetOk e.op e.target ∨ !reservedOk e ∨ (State.isNode e.target ∧ e.op ≠ 1 ∧ (s.node e.target).info.peer) then some sBAD
    else if (requiredRole e).any fun r => decide (role < r) then some sDENIED
    else match stateStatus s.unit.st e.op with
      | some st => some st
      | none => if 64 ≤ s.inboxLen e.target then some sBUSY else none
/-- COMMAND_FETCH: one entry of the SQ whose turn it is; an SQ that pool or credit holds back pauses (14 R367, R368). -/
def execCommandFetch (dt sq : Nat) (s0 : State) : Out :=
  let s := s0.elapse dt
  match s.queue? sq with
  | none => .next s
  | some x =>
    if sq ≥ 512 ∨ x.orphan ∨ available x = 0 ∨ !s.linkOpen then .next s
    else if !s.fetchable x then .next (s.onQueue sq fun y => { y with paused := true })
    else if s.turn ≠ some sq then .next s
    else match x.ring, s.session? x.owner with
      | .cmd e :: rest, some ses =>
        let f := s.host.nextF
        let st := s.fetchStatus ses.role e
        let fl : Flight := {
          f, sq, order := f, sid := x.owner, role := ses.role, fp := ses.fp, e, fetchMt := s.now, tmo := ses.cmdTmo }
        let s1 := (s.onQueue sq fun y => { y with ring := rest, head := (y.head + 1) % y.depth, paused := false }).onHost fun h =>
          { h with flights := h.flights ++ [fl], nextF := f + 1, rr := (sq + 1) % 512
                   maxFlight := max h.maxFlight (h.flights.length + 1) }
        match st with
        | some v => .next (s1.complete f v)
        | none => .next s1
      | _, _ => .next s
/-- The state of a node; one whose scheduled UPDATE_COMMIT is due is UPDATING until it reports another epoch (17 R443). -/
def State.nodeSt (s : State) (t : Nat) : NState :=
  let n := s.node t
  if n.st = .online ∧ n.flight.isSome ∧ n.sinceMt ≤ s.now ∧ n.info.epoch = n.wasEpoch then .updating else n.st
/-- A node station that is absent: its commands wait as for a station that resets (17 R441, 01 R32). -/
def State.nodeAway (s : State) (t : Nat) : Bool :=
  State.isNode t && (match s.nodeSt t with | .online => false | _ => true)
/-- Rules 1 and 2 of R369 hold for a waiting command. -/
def State.inOrder (s : State) (fl : Flight) : Bool :=
  !(s.host.flights.any fun x => decide (x.sq = fl.sq ∧ x.order < fl.order) &&
    (decide (x.e.target = fl.e.target) || bitOf fl.e.flags 0))
/-- A command whose node is away waits for it; NODE_RESET is judged at once (17 R450). -/
def State.cmdAway (s : State) (fl : Flight) : Bool := s.nodeAway fl.e.target && decide (fl.e.op ≠ 0x81)
def State.startable (s : State) (fl : Flight) : Bool :=
  !fl.started && s.inOrder fl && !s.isResetting fl.e.target && !s.cmdAway fl
/-- Commands that cross a lane to their node (17 R440). -/
def crosses (e : CmdEntry) : Bool := State.isNode e.target && decide (e.op = 0x01 ∨ e.op = 0x40 ∨ e.op = 0x41)
/-- COMMAND_START: the unit state and the epoch are checked again, and the command starts at its station. One to a
node goes out in a CONTROL cell (14 R368 to R371; 17 R440). -/
def execCommandStart (dt f : Nat) (s0 : State) : Out :=
  let s := s0.elapse dt
  match s.flight? f with
  | none => .next s
  | some fl =>
    let waits := !bitOf fl.e.flags 2 && s.host.flights.any fun x =>
      decide (x.e.target = fl.e.target) && bitOf x.e.flags 2 && s.startable x
    if !s.startable fl ∨ waits ∨ s.isSt .update ∨ !s.power.on then .next s
    else match stateStatus s.unit.st fl.e.op with
      | some v => .next (s.complete f v)
      | none =>
        if bitOf fl.e.flags 3 ∧ fl.e.expEpoch ≠ s.epochOf fl.e.target then .next (s.complete f sSTALE)
        else
          let s1 := s.onFlight f fun x => { x with started := true, deferred := crosses fl.e }
          if crosses fl.e then
            .next (s1.onLane fun l => { l with
              cells := l.cells ++ [{ station := fl.e.target, cseq := l.nextCell, flight := some f, bulk := false
                                     sentMt := s.now, tries := 0 }]
              nextCell := incW 16 l.nextCell })
          else .next s1
/-- COMMAND_TIMEOUT: not started within HL_CMD_TMO of its fetch; the 50 ms wait does not count (14 R368, R371). -/
def execCommandTimeout (dt f : Nat) (s0 : State) : Out :=
  let s := s0.elapse dt
  match s.flight? f with
  | none => .next s
  | some fl =>
    if fl.started ∨ s.isResetting fl.e.target ∨ s.cmdAway fl ∨ s.now < fl.fetchMt + fl.tmo * Config.ms then .next s
    else .next (s.complete f sTMO)
/-- A station or node is back after a time from `startMt` on: commands that waited for it for more than 50 ms complete with
TARGET_RESET, and the others' HL_CMD_TMO has not run meanwhile (14 R371). -/
def State.waitersBack (s : State) (t startMt : Nat) : State :=
  let start (fl : Flight) : Nat := if State.isNode t then max fl.fetchMt startMt else startMt
  let waits (fl : Flight) : Bool := decide (fl.e.target = t) && !fl.started
  let late := (s.host.flights.filter fun fl => waits fl && decide (start fl + 50 * Config.ms < s.now)).map (·.f)
  let hold (fl : Flight) : Flight :=
    if waits fl then { fl with fetchMt := fl.fetchMt + (s.now - max fl.fetchMt startMt) } else fl
  late.foldl (fun a f => a.complete f sTRESET) (s.onHost fun h => { h with flights := h.flights.map hold })
/-- RESET_WAIT_EXPIRY: 50 ms from the start of the reset, or from the fetch for a node that is away (14 R371, 01 R32). -/
def execResetWaitExpiry (dt f : Nat) (s0 : State) : Out :=
  let s := s0.elapse dt
  match s.flight? f with
  | none => .next s
  | some fl =>
    let start := match s.sup.resets.find? fun r => r.station = fl.e.target with
      | some r => some r.startMt
      | none => if s.cmdAway fl then some (max fl.fetchMt (s.node fl.e.target).sinceMt) else none
    if !fl.started && start.any fun m => decide (m + 50 * Config.ms ≤ s.now) then .next (s.complete f sTRESET) else .next s

end Sys2Proof.Machine
end

