-- ==== Sys2Proof/Machine/Lanes.lean ====
section
/-! DEFINITION. Station 0x15, the lanes: modules, chains and rings, machine time on the lanes, remote trips, node
stations, peers, and the commands LANE_STATUS and NODE_RESET (17). -/

namespace Sys2Proof.Machine

-- Positions and stations (17 R431, R432) ------------------------------------------------------------------

def State.laneAt (s : State) (l : Nat) : Lane := s.lane.lanes.getD l {}
def State.onLaneAt (s : State) (l : Nat) (f : Lane → Lane) : State :=
  s.onLane fun t => { t with lanes := t.lanes.modify l f }
def State.laneRole (s : State) (l : Nat) : Nat := s.parN (0xC000 + l)
/-- Lanes 0 and 1, or 2 and 3, form a ring (17 R432). -/
def State.ringOn (s : State) (l : Nat) : Bool := bitOf (s.parN 0xC004) (l / 2)
/-- The lane whose stations the nodes of a lane take. -/
def State.homeLane (s : State) (l : Nat) : Nat := if s.ringOn l then l - l % 2 else l
def nodeStation (home pos : Nat) : Nat := 0x20 + 15 * home + (pos - 1)
/-- Lanes, TRIP blocks and SYNC run from the end of proof stage 7 (17 R447). -/
def State.lanesRun (s : State) : Bool := s.power.on && (!s.isSt .proof || decide (7 < s.power.stage))
/-- CONTROL, BULK run in STANDBY, RUN and REPRINT; RECORD in UPDATE and PROOF_HOLD as well (17 R447). -/
def State.recordRuns (s : State) : Bool := s.power.on && !s.isSt .proof
/-- Commands and images travel while a supervisor runs (17 R447). -/
def State.controlRuns (s : State) : Bool := s.recordRuns && !s.isSt .update

-- Peers and the MT master (02 R36, R37, R39) --------------------------------------------------------------

def onlineN (n : Node) : Bool := match n.st with | .online => true | .resetting => true | .updating => true | .mismatch => true | _ => false
/-- NODE_ID and serial of the units that can be reached, each once. -/
def State.peers (s : State) : List (Nat × Nat) :=
  let a := (s.lane.nodes.filter fun p => p.2.info.peer && onlineN p.2).map fun p => (p.2.info.nodeId, p.2.info.serial)
  let b := s.lane.lanes.filterMap fun x => if x.up then x.head.map fun h => (h.nodeId, h.serial) else none
  (a ++ b).eraseDups
def State.ownId (s : State) : Nat × Nat := (s.unit.straps.nodeId, s.unit.serial)
/-- NODE_IDs that more than one reachable unit carries (02 R37). -/
def State.sharedIds (s : State) : List Nat :=
  let all := (s.ownId :: s.peers).eraseDups
  (List.range 16).filter fun i => decide (2 ≤ (all.filter fun p => p.1 = i).length)
def idBefore (x y : Nat × Nat) : Bool := decide (x.1 < y.1 ∨ (x.1 = y.1 ∧ x.2 < y.2))
/-- DUP_ID is set and cleared, with one FAULT slug at the first finding; its 30 bytes of detail hold three serials (02 R37,
16 R405). -/
def State.dupCheck (s : State) : State :=
  match s.sharedIds with
  | [] => s.onTime fun t => { t with dupId := false }
  | i :: _ =>
    if s.time.dupId then s
    else (s.onTime fun t => { t with dupId := true }).slug 1 0x0102 .fault (v1 := i) (live := true)
      (bytes := (((s.ownId :: s.peers).eraseDups.filter fun p => p.1 = i).take 3).flatMap fun p => le 8 p.2)
/-- A follower whose master has gone: the lowest of those left is the master, without a step; alone it holds over. A unit
that becomes master itself has the shared time, and NOSYNC clears (02 R36, R39; DESIGN CHOICE, log 84). -/
def State.masterCheck (s : State) : State :=
  if s.time.sync = .master ∨ s.peers.any fun p => p.1 = s.time.masterId && p.2 = s.lane.masterSer then s
  else if s.peers = [] then
    if s.time.sync = .holdover then s else s.onTime fun t => { t with sync := .holdover, nosync := true, syncGood := 0 }
  else
    let best := s.peers.foldl (fun a p => if idBefore p a then p else a) s.ownId
    let s1 := s.onLane fun l => { l with masterSer := best.2 }
    s1.onTime fun t => { t with masterId := best.1, syncGood := 0
                                sync := if best = s.ownId then .master else .slewing
                                nosync := if best = s.ownId then false else t.nosync }
def State.peersRefresh (s : State) : State := s.dupCheck.masterCheck
/-- Does the unit follow the sender of a SYNC cell: it is the master followed already, or R36 keeps it where two sets join.
A master compares its own MT, a follower its master's; a unit whose master has gone follows whoever sends (02 R36). -/
def State.follows (s : State) (masterMt : Nat) (sender : Nat × Nat) : Bool :=
  let mine := decide (s.time.sync = .master)
  let cur := if mine then s.ownId else (s.time.masterId, s.lane.masterSer)
  let curMt : Int := if mine then s.now else s.now - rdiv s.time.offset 10
  (!mine && (decide (sender = cur) || !s.peers.contains cur)) ||
    decide (curMt < masterMt) || (decide (curMt = masterMt) && idBefore sender cur)
/-- One exchange with the neighbour of a lane, at most every 10 ms; LN_DELAY is the mean of the last 16 (17 R434; the filter
a DESIGN CHOICE, log 84). -/
def State.takeDelay (s : State) (l delay : Nat) : State :=
  s.onLaneAt l fun x =>
    if x.delayMt.any fun m => decide (s.now < m + 10 * Config.ms) then x
    else
      let d := (delay :: x.delays).take 16
      { x with delays := d, delayMt := some s.now, delay := (rdiv (d.foldl (· + ·) 0 : Nat) (d.length : Nat)).toNat % 2 ^ 32 }
/-- SYNC_CELL_RECEIVE on a lane: the master's MT, its NODE_ID and serial, the offset of the own MT from it in ns, and the
delay that the exchange measured in 0.1 ns, in every unit state. A follower far behind steps forward once; in REPRINT the step reaches the bases when it ends (02 R36, R38; 17 R434,
R447; 16 R410; log 41). -/
def execSyncCellReceive (dt l masterMt masterId serial : Nat) (offset : Int) (delay : Nat) (s0 : State) : Out :=
  let sE := s0.elapse dt
  let s := if sE.lanesRun && (sE.laneAt l).up then sE.takeDelay l delay else sE
  if !s.lanesRun ∨ !(s.laneAt l).up ∨ !s.follows masterMt (masterId, serial) then .next s
  else
    let s1 := (s.onLane fun l => { l with masterSer := serial }).onTime fun t =>
      { t with masterId := masterId % 16, offset := clamp (-32767) 32767 offset }
    if offset < -((s.parN 0x1200 * 1000 : Nat) : Int) then
      let k := (rdiv (-offset) 10).toNat
      let s2 := (s1.onTime fun t => { t with mt := t.mt + k, sync := .slewing, syncGood := 0 }).onStore fun t =>
        { t with reprint := t.reprint.map fun r => { r with liveMt := r.liveMt + k } }
      let s3 := (s2.slug 1 0x0101 .warn (v1 := sat32 k) (live := true)).record 0x0B 3 [(k : Int)]
      .next (if s.isSt .reprint then s3 else s3.crossBase 0 true)
    else
      let v := s1.fresh
      let good := decide (-100 ≤ offset ∧ offset ≤ 100)
      let n := if good then min 16 (s.time.syncGood + 1) else 0
      .next (v.2.onTime fun t => { t with
        syncGood := n, trim := clamp (-20000) 20000 v.1
        sync := if n = 16 then .locked else if t.sync = .locked ∧ good then .locked else .slewing
        nosync := t.nosync && decide (n < 16) })
/-- SYNC_CELL_SEND: the master's SYNC cell, every 125 µs (17 R434). -/
def execSyncCellSend (dt : Nat) (s0 : State) : Out :=
  let s := s0.elapse dt
  if s.time.sync = .master ∧ s.lanesRun ∧ s.lane.lanes.any (·.up) ∧ s.lane.syncMt + 125 * Config.us ≤ s.now then
    .next (s.onLane fun l => { l with syncMt := s.now })
  else .next s

-- Lanes (17 R426, R427, R432) -----------------------------------------------------------------------------

/-- SFP_MODULE_CHANGE (17 R426). -/
def execSfpModuleChange (dt l : Nat) (m : Sfp) (s0 : State) : Out :=
  .next ((s0.elapse dt).onLaneAt l fun x => { x with sfp := if m.present then m else {} })
/-- LANE_UP: a HEAD lane starts discovery; a ring whose hop returns is whole again (17 R427, R431, R432). -/
def execLaneUp (dt l : Nat) (s0 : State) : Out :=
  let s := s0.elapse dt
  let x := s.laneAt l
  if 4 ≤ l ∨ x.up ∨ s.laneRole l = 0 ∨ !x.sfp.present ∨ !x.sfp.supported ∨ !s.lanesRun then .next s
  else
    let s1 := s.onLaneAt l fun y => { y with lock := true, up := true, ring := s.ringOn l, brk := 0xFF
                                             discMt := if s.laneRole l = 1 then some s.now else y.discMt }
    let mate := if l % 2 = 0 then l + 1 else l - 1
    let s2 := if s.ringOn l ∧ (s1.laneAt mate).up then
        (s1.onLaneAt l fun y => { y with broken := false }).onLaneAt mate fun y => { y with ring := true, broken := false, brk := 0xFF }
      else s1
    .next ((s2.slug 0x15 0x1502 .info (obj := l)).peersRefresh)
/-- LANE_DOWN: hop 0 is the lane's own; a ring is broken at the hop and goes on over its second lane (17 R427, R432). -/
def execLaneDown (dt l hop : Nat) (s0 : State) : Out :=
  let s := s0.elapse dt
  let x := s.laneAt l
  if 4 ≤ l ∨ !x.up ∨ 15 < hop then .next s
  else
    let s1 := s.onLaneAt l fun y => if hop = 0 then
        { y with lock := false, up := false, losses := incW 16 y.losses, brk := 0, head := none }
      else { y with brk := hop }
    let mate := if l % 2 = 0 then l + 1 else l - 1
    let s2 := if s.ringOn l then
        (s1.onLaneAt l fun y => { y with broken := true }).onLaneAt mate fun y => { y with broken := true, brk := hop }
      else s1
    .next ((s2.slug 0x15 0x1501 .warn (obj := l) (v1 := hop)).peersRefresh)
/-- DISCOVER_CELL: on a PEER lane the unit's position is the HOPS value plus 1 (17 R431; 02 R37). -/
def execDiscoverCell (dt l : Nat) (info : NodeInfo) (s0 : State) : Out :=
  let s := s0.elapse dt
  if 4 ≤ l ∨ s.laneRole l ≠ 2 ∨ !(s.laneAt l).up then .next s
  else .next ((s.onLaneAt l fun x => { x with pos := info.hops + 1, head := if info.peer then some info else x.head }).peersRefresh)
def nStateOf (n : Nat) : NState :=
  match n with | 1 => .joining | 3 => .resetting | 4 => .updating | _ => .online
def nCode (n : NState) : Nat :=
  match n with | .absent => 0 | .joining => 1 | .online => 2 | .resetting => 3 | .updating => 4 | .lost => 5 | .mismatch => 6
def State.expectSerial (s : State) (home pos : Nat) : Nat :=
  s.parN (0xC100 + 0x40 * home + 2 * pos) + 2 ^ 32 * s.parN (0xC101 + 0x40 * home + 2 * pos)
/-- A node restarts: what it executes, but for the command that restarts it, completes with TARGET_RESET, and the cells of
these commands are gone (14 R371; 17 R442, R443). -/
def State.breakNode (s : State) (st : Nat) (own : Option Nat) : State :=
  let fl := (s.host.flights.filter fun f => f.started && decide (f.e.target = st ∧ some f.f ≠ own)).map (·.f)
  let s1 := s.onLane fun l => { l with cells := l.cells.filter fun c => !(c.station = st && decide (c.flight.isNone ∨ c.flight ≠ own)) }
  fl.foldl (fun a f => a.complete f sTRESET) s1
/-- The node is back: a NODE_RESET or an UPDATE_COMMIT that waited completes with the old and the new epoch (17 R442,
R443). -/
def State.nodeBack (s : State) (st : Nat) (n : Node) (info : NodeInfo) : State :=
  match n.flight with
  | none => s
  | some f =>
    if info.epoch = n.wasEpoch then s
    else if n.st = .resetting then
      (s.onNode st fun x => { x with flight := none }).complete f sOK
        ([n.wasEpoch, info.epoch] ++ le 4 ((s.now - n.sinceMt) / 100))
    else if (spGet s.lane.nodes st).isSome && (spGet s.sup.nodeImg st).any fun g => g.img.version = info.fw then
      (s.onNode st fun x => { x with flight := none }).complete f sOK []
    else s
/-- STATUS_CELL: a node tells of itself; it is mapped to its station, or MISMATCH where another serial is expected;
beyond position 15 it is only counted (17 R431, R442, R443; 01 R29; 02 R37). -/
def execStatusCell (dt l pos : Nat) (info : NodeInfo) (s0 : State) : Out :=
  let s := s0.elapse dt
  let home := s.homeLane l
  if 4 ≤ l ∨ pos = 0 ∨ s.laneRole l ≠ 1 ∨ !(s.laneAt l).up ∨ s.isResetting 0x15 then .next s
  else
    let s1 := s.onLaneAt home fun x => { x with found := max x.found (min 15 pos) }
    if 15 < pos then .next s1
    else
      let st := nodeStation home pos
      let n := s.node st
      let e := s.expectSerial home pos
      if e ≠ 0 ∧ e ≠ info.serial then
        let s2 := s1.onNode st fun x => { x with st := .mismatch, info, mapped := false, seenMt := s.now }
        .next ((if n.st = .mismatch then s2 else s2.slug 0x15 0x1503 .fault (obj := st) (bytes := le 8 info.serial ++ le 8 e)).peersRefresh)
      else
        let now_ := s.nodeSt st
        let stays := (now_ = .resetting ∨ now_ = .updating) ∧ n.flight.isSome ∧ info.epoch = n.wasEpoch
        let away := s.nodeAway st
        let s2 := s1.onNode st fun x => { x with
          st := if stays then now_ else nStateOf info.state, info := { info with alt := info.alt || l ≠ home }
          mapped := true, seenMt := s.now, recSeq := if info.epoch = x.info.epoch then x.recSeq else none }
        let s3 := if n.mapped ∧ info.epoch ≠ n.info.epoch then s2.breakNode st n.flight else s2
        let s4 := if stays then s3 else s3.nodeBack st { n with st := now_ } info
        .next ((if away ∧ !s4.nodeAway st then s4.waitersBack st n.sinceMt else s4).peersRefresh)
/-- STATUS_CELL_SEND: every 1 ms on a lane that is UP (17 Table 17.2). -/
def execStatusCellSend (dt l : Nat) (s0 : State) : Out :=
  let s := s0.elapse dt
  if (s.laneAt l).up ∧ (s.laneAt l).statMt + Config.ms ≤ s.now then .next (s.onLaneAt l fun x => { x with statMt := s.now })
  else .next s

-- Node stations (17 R440 to R443) -------------------------------------------------------------------------

/-- The lane of a node station. -/
def laneOf (st : Nat) : Nat := (st - 0x20) / 15
/-- A node is lost: what it executes completes with TARGET_RESET, and its cells are gone (17 R441; 14 R371). -/
def State.nodeGone (s : State) (st : Nat) : State :=
  let s1 := (s.onNode st fun n => { n with st := .lost, sinceMt := s.now, flight := none }).breakNode st none
  (s1.slug 0x15 0x1504 .fault (obj := st) (after := 5) (before := nCode (s.node st).st)).peersRefresh
/-- NODE_LOST: no STATUS cell for 20 ms from a mapped node; one that resets is given its 45 ms. One in MISMATCH, which is
not mapped, is ABSENT again and no longer reachable (17 R441, R442; 02 R37; log 84). -/
def execNodeLost (dt st : Nat) (s0 : State) : Out :=
  let s := s0.elapse dt
  let n := s.node st
  let due := n.seenMt + 20 * Config.ms ≤ s.now
  let waits := (match s.nodeSt st with | .updating => true | .resetting => decide (s.now < n.sinceMt + 65 * Config.ms) | _ => false)
  match n.st with
  | .absent => .next s
  | .lost => .next s
  | .mismatch => .next (if due ∧ !s.isResetting 0x15 then (s.onNode st fun x => { x with st := .absent }).peersRefresh else s)
  | _ => if n.mapped ∧ due ∧ !waits ∧ !s.isResetting 0x15 then .next (s.nodeGone st) else .next s
/-- NODE_UPDATE_TIMEOUT: not back on the new image within 60 s (17 R443). -/
def execNodeUpdateTimeout (dt st : Nat) (s0 : State) : Out :=
  let s := s0.elapse dt
  let n := s.node st
  match n.flight with
  | some f =>
    if (spGet s.sup.nodeImg st).isSome ∧ n.sinceMt + 60 * Config.sec ≤ s.now ∧ n.st ≠ .resetting then
      let s1 := (s.onNode st fun x => { x with flight := none }).complete f sTMO
      .next (if s.nodeSt st = .updating then s1.nodeGone st else s1)
    else .next s
  | none => .next s
/-- CONTROL_CELL: a node's completion of the command that a cell carried, which acknowledges the cell; one whose
command has ended is discarded and counted. A cell number from 65,536 on acknowledges the TRIP cell (17 R440, Tables
17.2, 17.4). -/
def execControlCell (dt st cseq status : Nat) (result : List Nat) (s0 : State) : Out :=
  let s := s0.elapse dt
  if 65536 ≤ cseq then
    if cseq - 65536 = s.lane.tripSeq then
      .next (s.onLane fun l =>
        let a := (st :: l.tripAcks).eraseDups
        { l with tripAcks := a
                 tripCell := l.tripCell && decide (a.length < ((List.range 4).filter fun i => (s.laneAt i).up && s.laneRole i = 2).length) })
    else .next s
  else if s.isResetting 0x15 ∨ !s.controlRuns then .next s
  else
    match s.lane.cells.find? fun c => c.station = st && c.cseq = cseq && !c.bulk with
    | none => .next (s.onLane fun l => { l with lateComp := incW 32 l.lateComp })
    | some c =>
      let s1 := s.onLane fun l => { l with cells := l.cells.filter fun x => !(x.station = st && x.cseq = cseq) }
      match c.flight with
      | some f => .next (s1.complete f (status % 256) (padTo 19 result))
      | none => .next s1
/-- CONTROL_CELL_RETRANSMIT: after 1 ms, up to 8 times; then the node is LOST (17 Table 17.2, R441). -/
def execControlCellRetransmit (dt st : Nat) (s0 : State) : Out :=
  let s := s0.elapse dt
  match (if s.controlRuns then s.lane.cells.find? fun c => c.station = st && decide (c.sentMt + Config.ms ≤ s.now) else none) with
  | none => .next s
  | some c =>
    if 8 ≤ c.tries then .next (s.nodeGone st)
    else
      let s1 := s.onLane fun l => { l with cells := l.cells.map fun x =>
        if x.station = st ∧ x.cseq = c.cseq then { x with sentMt := s.now, tries := x.tries + 1 } else x }
      .next (s1.onLaneAt (laneOf st) fun x => { x with retx := incW 32 x.retx })
/-- BULK_CELL: the oldest span on its way to a node has arrived, and its UPDATE_STAGE completes (17 R443, 15 R393). -/
def execBulkCell (dt st : Nat) (s0 : State) : Out :=
  let s := s0.elapse dt
  match (if s.isResetting 0x15 || !s.controlRuns then none else s.lane.cells.find? fun c => c.station = st && c.bulk) with
  | none => .next s
  | some c =>
    let s1 := s.onLane fun l => { l with cells := l.cells.filter fun x => !(x.station = st && x.cseq = c.cseq) }
    match c.flight.bind s.flight? with
    | some fl =>
      let n := argN fl.e 4 2
      let off := argN fl.e 0 4
      .next ((s1.onSup fun u => { u with nodeImg := spPut u.nodeImg st { bytes := off + n } }).complete fl.f sOK)
    | none => .next s1

-- Tokens from nodes and peers (17 R444, R445, R448) -------------------------------------------------------

/-- The 24 bytes of a LANE record (16 Table 16.6). -/
def lanePay (tok : RecTok) : List Int :=
  match tok with
  | .zone id z st v d => [0, id, z, st, (v.getD (-32768)), d]
  | .boost id g on => [1, id, g, b2n on]
  | .reading .. => []
/-- A zone or boost token takes its peer's place; one under a shared NODE_ID is ignored (17 R444, R445; 02 R37). -/
def State.peerTok (s : State) (tok : RecTok) : State :=
  let put (l : List PeerTok) (t : PeerTok) : List PeerTok := t :: l.filter fun x => !(x.nodeId = t.nodeId && x.index = t.index)
  match tok with
  | .zone id z _ _ d =>
    if s.time.dupId ∧ s.sharedIds.contains id then s
    else (s.onLane fun l => { l with peerZones := put l.peerZones { nodeId := id, index := z, demand := d, on := false, mt := s.now } }).fgRefresh
  | .boost id g on =>
    (s.onLane fun l => { l with peerBoosts := put l.peerBoosts { nodeId := id, index := g, demand := 0, on, mt := s.now } }).fgRefresh
  | .reading .. => s
/-- RECORD_CELL: a node's Pica reading, or a peer's token; a gap in the sequence counts in LN_LOST. In REPRINT live
tokens are not delivered (17 Table 17.2, R444, R448; 07 R171; 01 R20). -/
def execRecordCell (dt st epoch seq : Nat) (tok : RecTok) (s0 : State) : Out :=
  let s := s0.elapse dt
  let n := s.node st
  if !n.mapped ∨ !onlineN n ∨ !s.recordRuns ∨ n.st = .mismatch ∨ s.isResetting 0x15 then .next s
  else
    let gap := match n.recSeq with | some q => uw 16 ((seq : Int) - q - 1) | none => 0
    let s1 := (s.onNode st fun x => { x with recSeq := some (seq % 65536) }).onLaneAt (laneOf st) fun x =>
      { x with lost := (x.lost + gap) % 2 ^ 32 }
    if s.isSt .reprint ∨ epoch ≠ n.info.epoch then .next s1
    else match tok with
      | .reading port point code rhP brown temp rh stamp scan =>
        if 8 ≤ port ∨ 64 ≤ point ∨ n.info.peer then .next s1
        else .next (s1.deliverReading (8 + 8 * (st - 0x20) + port) point
          { point, code := scodeOf code, rhP, brown, port, epoch, temp, rh := if rhP then some rh else none
            stamp := stamp % 2 ^ 48, scan := scan % 65536 })
      | t => if n.info.peer then .next ((s1.record 9 st (lanePay t)).peerTok t) else .next s1
/-- A zone's last token, or before the first one what its state gives (07 R178, Table 7.4). -/
def State.zoneNow (s : State) (z : Nat) : ZoneTok :=
  let x := s.zone z
  (x.tok.map fun t => { t with st := x.st }).getD
    { zone := z, st := x.st, value := x.value, demand := s.zoneDemand z, valid := x.valid, epoch := s.epochOf 9, mt := x.evalMt }
/-- PEER_ZONE_EXPORT: the selected zones' tokens, on a change of state and every 100 ms; none in REPRINT (17 R444,
R448). -/
def execPeerZoneExport (dt : Nat) (s0 : State) : Out :=
  let s := s0.elapse dt
  let now_ := (List.range 16).map fun z => if bitOf (s.parN 0xC006) z then some (s.zoneNow z) else none
  if s.isSt .reprint ∨ !s.recordRuns then .next s
  else if now_.map (·.map (·.st)) ≠ s.lane.exported.map (·.map (·.st)) ∨ s.lane.exportMt + tenth ≤ s.now then
    .next (s.onLane fun l => { l with exported := now_, exportMt := s.now })
  else .next s
/-- PEER_BOOST_SEND: BOOST only where a local member has failed (17 R445, R448). -/
def execPeerBoostSend (dt g : Nat) (s0 : State) : Out :=
  let s := s0.elapse dt
  let on := (s.fg g).boost && (s.fgMembers g).any fun n => driveFailed (s.drive n)
  if s.isSt .reprint ∨ !s.recordRuns ∨ !bitOf (s.pFg g 7) 0 then .next s
  else if on ≠ (s.fg g).sentB ∨ (s.fg g).sentMt + tenth ≤ s.now then
    .next (s.onFg g fun x => { x with sentB := on, sentMt := s.now })
  else .next s
/-- PEER_TIMEOUT: PEER_TMO has passed since a peer's last token (17 R444, R445). -/
def execPeerTimeout (dt nodeId : Nat) (s0 : State) : Out :=
  let s := s0.elapse dt
  let old (t : PeerTok) : Bool := t.nodeId = nodeId && decide (t.mt + s.parN 0xC005 * Config.ms ≤ s.now)
  .next ((s.onLane fun l => { l with peerZones := l.peerZones.filter fun t => !old t
                                     peerBoosts := l.peerBoosts.filter fun t => !old t }).fgRefresh)

-- Trips (17 R429, R437 to R439) ---------------------------------------------------------------------------

def State.rtripBits (s : State) (st : Nat) : Nat := ((s.lane.rtrips.find? fun r => r.station = st).map (·.bits)).getD 0
def putRTrip (l : List RTrip) (r : RTrip) : List RTrip := r :: l.filter fun x => x.station ≠ r.station
/-- TRIP_BLOCK_RECEIVE: a source's bits; mapped ones hold FTRIP0 or FTRIP1 open in hardware, in every unit state. A
block whose CRC fails is counted (17 R429, R437 to R439; 16 Table 16.6; 08 R206). -/
def execTripBlockReceive (dt l st bits seq : Nat) (crcOk : Bool) (s0 : State) : Out :=
  let s := s0.elapse dt
  if !(s.laneAt l).up then .next s
  else if !crcOk then .next (s.onLaneAt l fun x => { x with err := incW 16 x.err })
  else
    let was := (s.ftripOn 0, s.ftripOn 1)
    let chg := decide (s.rtripBits st ≠ bits)
    let old := (s.lane.rtrips.find? fun r => r.station = st).getD { station := st }
    let s1 := (s.onLaneAt l fun x => { x with tripSrc := st % 256, tripBits := bits % 16, tripCnt := incW 16 x.tripCnt }).onLane
      fun t => { t with rtrips := putRTrip t.rtrips { old with bits := bits % 16, seq, changes := old.changes + b2n chg } }
    if !chg then .next s1
    else
      let one (i : Nat) (w : Bool) (a : State) : State :=
        let b := a.record 6 (1 + i) [b2n (a.ftripOn i), bits % 16]
        let c := b.ftripApply i
        if a.ftripOn i ∧ !w then c.liveTrip (1 + i) else c
      .next (one 1 was.2 (one 0 was.1 s1))
/-- TRIP_BLOCK_REPEAT: every 10 µs while a bit is set, and every 1 ms otherwise (17 R437). -/
def execTripBlockRepeat (dt : Nat) (s0 : State) : Out :=
  let s := s0.elapse dt
  let p := if s.lane.tripSent = 0 then Config.ms else 10 * Config.us
  if s.lane.tripMt + p ≤ s.now then .next (s.onLane fun l => { l with tripMt := s.now }) else .next s
/-- TRIP_CELL_RECEIVE: a REMOTE_TRIP slug for the first change of a source, then at most one in 10 ms (17 R437). -/
def execTripCellReceive (dt st bits : Nat) (s0 : State) : Out :=
  let s := s0.elapse dt
  match s.lane.rtrips.find? fun r => r.station = st with
  | none => .next s
  | some r =>
    if r.changes = 0 ∨ (r.slugMt.any fun m => decide (s.now < m + 10 * Config.ms)) ∨ 16 ≤ bits then .next s
    else
      let s1 := s.onLane fun l => { l with rtrips := putRTrip l.rtrips { r with changes := 0, slugMt := some s.now } }
      .next (s1.slug 0x15 0x1505 .trip (obj := st) (after := r.bits) (bytes := le 4 r.changes))
/-- TRIP_CELL_REPEAT: every 1 ms until every head has acknowledged it (17 Table 17.2). -/
def execTripCellRepeat (dt : Nat) (s0 : State) : Out :=
  let s := s0.elapse dt
  if s.lane.tripCell ∧ s.lane.tripCellMt + Config.ms ≤ s.now then .next (s.onLane fun l => { l with tripCellMt := s.now })
  else .next s

-- Commands and registers (17 R450, Tables 17.5, 17.6) -----------------------------------------------------

def State.laneNodes (s : State) (l : Nat) : List Node := (List.range 15).map fun p => s.node (nodeStation l (p + 1))
/-- LN_STAT. -/
def State.lnStat (s : State) (l : Nat) : Nat :=
  let x := s.laneAt l
  ofBits [x.sfp.present, x.lock, x.up, x.ring, x.broken] + 32 * s.laneRole l +
    256 * ((s.laneNodes l).filter (·.mapped)).length + 4096 * x.found + 65536 * x.brk
def lnErr (x : Lane) : Nat := x.err + 65536 * x.losses
/-- NODE_STAT of position p. -/
def nodeStat (n : Node) : Nat :=
  n.info.epoch % 256 + 256 * nCode n.st + 2048 * b2n n.info.peer + 4096 * (n.info.nodeId % 16) + 65536 * (n.info.hops % 16) +
    1048576 * b2n n.info.alt
def laneStatusBody (fl : Flight) (s : State) : Ans :=
  let l := argB fl.e 0
  let p := argB fl.e 2
  let x := s.laneAt l
  if 3 < l then .bad s
  else match argB fl.e 1 with
    | 0 => .ok s (le 4 (s.lnStat l) ++ le 4 (lnErr x) ++ le 4 x.lost ++ le 4 x.delay)
    | 1 =>
      if p = 0 ∨ 15 < p then .bad s
      else
        let n := s.node (nodeStation l p)
        .ok s ([nCode n.st, b2n n.info.peer, n.info.epoch % 256, n.info.nodeId % 16] ++ le 8 n.info.serial ++
          (le 3 n.info.fw).reverse ++
          [n.info.hops % 256, b2n n.info.alt + 2 * b2n n.mapped, p])
    | 2 => .ok s ([ofBits [x.sfp.present, x.sfp.supported, x.sfp.txFault, x.sfp.rxLoss]] ++ leI 2 x.sfp.temp ++ le 2 x.sfp.tx ++
        le 2 x.sfp.rx)
    | _ => .bad s
/-- LANE_STATUS (17 R450). -/
def execLaneStatus (dt f : Nat) (s : State) : Out := .next (runCmd 0x80 f laneStatusBody (s.elapse dt))
def nodeResetBody (fl : Flight) (s : State) : Ans :=
  let n := s.node fl.e.target
  if !n.mapped ∨ n.info.peer then .bad s
  else if n.st ≠ .online then .err s sNOTST
  else .later ((s.onNode fl.e.target fun x => { x with
    st := .resetting, sinceMt := s.now, wasEpoch := x.info.epoch, flight := some fl.f }).breakNode fl.e.target (some fl.f))
/-- NODE_RESET: it completes when the node is back with its new epoch (17 R442, R450). -/
def execNodeReset (dt f : Nat) (s : State) : Out := .next (runCmd 0x81 f nodeResetBody (s.elapse dt))
/-- A change of LN_ROLE or LN_RING restarts the lanes concerned through discovery; those that were UP lose it (17
R427, R446). -/
def State.lanesRestart (s0 : State) (which : Nat → Bool) : State :=
  let s := ((List.range 4).filter fun l => which l && (s0.laneAt l).up).foldl (fun a l => a.slug 0x15 0x1501 .warn (obj := l)) s0
  s.onLane fun t => { t with
    lanes := t.lanes.mapIdx fun l x => if which l then
      { x with up := false, ring := false, broken := false, brk := 0xFF, found := 0, pos := 0, head := none } else x
    nodes := t.nodes.map fun p => if which (laneOf p.1) ∧ p.2.mapped then (p.1, { p.2 with st := .joining, seenMt := s.now }) else p }

end Sys2Proof.Machine
end

