-- ==== Sys2Proof/Machine/Service.lean ====
section
/-! DEFINITION. The service block: the ACK key, the lamp test, the straps, the test multiplexer and the USB port (18). -/

namespace Sys2Proof.Machine

/-- ACK_KEY: a press held for 50 ms. `released` is how long the key had been released before it; a stuck key is ignored
until that is 1 s (18 R454). -/
def execAckKey (dt released : Nat) (s0 : State) : Out :=
  let s := s0.elapse dt
  if s.svc.ackStuck ∧ released < Config.sec then .next s
  else .next ((s.onSvc fun v => { v with
    ack := true, ackMt := s.now, ackStuck := false, ackCnt := incW 16 v.ackCnt, faultLed := false }).slug 0 0x000D .info)
/-- How long the press has been held beyond its first 50 ms. -/
def State.ackHeld (s : State) (t : Nat) : Bool := s.svc.ack && !s.svc.ackStuck && decide (s.svc.ackMt + t ≤ s.now + 50 * Config.ms)
/-- LAMP_TEST: the press has been held for 3 s (18 R454). -/
def execLampTest (dt : Nat) (s0 : State) : Out :=
  let s := s0.elapse dt
  if s.ackHeld (3 * Config.sec) then .next (s.onSvc fun v => { v with lamp := true, lampMt := s.now }) else .next s
/-- LAMP_TEST_END: 2 s later (18 R454). -/
def execLampTestEnd (dt : Nat) (s0 : State) : Out :=
  let s := s0.elapse dt
  if s.svc.lamp ∧ s.svc.lampMt + 2 * Config.sec ≤ s.now then .next (s.onSvc fun v => { v with lamp := false }) else .next s
/-- ACK_STUCK: the press has been held for more than 10 s (18 R454). -/
def execAckStuck (dt : Nat) (s0 : State) : Out :=
  let s := s0.elapse dt
  if s.ackHeld (10 * Config.sec + 1) then .next ((s.onSvc fun v => { v with ackStuck := true }).slug 0 0x000E .fault)
  else .next s

/-- STRAPS without CHANGED (12 Table 12.6). -/
def strapsWord (x : Straps) : Nat :=
  x.hl0 % 16 + 16 * (x.hl1 % 16) + 256 * (x.epc % 4) + 1024 * b2n x.testEn + 4096 * (x.nodeId % 16)
/-- STRAP_SAMPLE: the first difference from the power-on values sets CHANGED; the slug names the straps that differ by
their bits of STRAPS (18 R455, 12 R309). -/
def execStrapSample (dt : Nat) (straps : Straps) (s0 : State) : Out :=
  let s := s0.elapse dt
  let d := strapsWord s.unit.straps ^^^ strapsWord straps
  if s.power.on ∧ !s.unit.changed ∧ d ≠ 0 then
    .next ((s.onUnit fun u => { u with changed := true }).slug 0 0x000F .warn (v1 := d))
  else .next s

/-- USB_ATTACH: VBUS on X22, which wakes the unit (18 R451, 13 Table 13.10). -/
def execUsbAttach (dt : Nat) (s0 : State) : Out := .next ((s0.elapse dt).wakeUp.onSvc fun v => { v with usb := true })
/-- USB_DETACH (18 R451). -/
def execUsbDetach (dt : Nat) (s0 : State) : Out := .next ((s0.elapse dt).onSvc fun v => { v with usb := false })

/-- Codes that an output takes: 0x00, analog ones for TP_A0 and TP_A1, digital ones for TP_D0 to TP_D3 (18 R456,
Table 18.3). -/
def muxCodeOk (out code : Nat) : Bool :=
  decide (out < 6 ∨ out = 0xFF) &&
    (code = 0 || (if out < 2 then decide (1 ≤ code ∧ code ≤ 0x3E) else decide (out < 6 ∧ 0x80 ≤ code ∧ code ≤ 0xDF)))
def State.muxResult (s : State) : List Nat :=
  s.svc.sel ++ [b2n s.unit.straps.testEn + 2 * b2n s.svc.owner.isSome] ++ le 2 (s.svc.owner.getD 0xFFFF)
/-- TESTMUX_SET: the selections belong to the session that made the first; the last of them to go ends them (18 R457,
R460; 15 R379). -/
def testmuxSetBody (fl : Flight) (s : State) : Ans :=
  let out := argB fl.e 0
  let code := argB fl.e 1
  if !muxCodeOk out code then .bad s
  else if !s.unit.straps.testEn then .err s sNOTST
  else if s.svc.owner.any (· ≠ fl.sid) then .err s sBUSY
  else
    let sel := if out = 0xFF then [0, 0, 0, 0, 0, 0] else s.svc.sel.set out code
    let s1 := if sel.any (· ≠ 0) then s.onSvc fun v => { v with sel, owner := some fl.sid } else s.muxOff
    let s2 := s1.choose
    .ok s2 s2.muxResult
/-- TESTMUX_SET (18 R460). -/
def execTestmuxSet (dt f : Nat) (s : State) : Out := .next (runCmd 0x88 f testmuxSetBody (s.elapse dt))

end Sys2Proof.Machine
end

