-- ==== Sys2Proof/Machine/Flags.lean ====
section
/-! DEFINITION. The status words of the register map, computed from the state: flags, state codes and packed counters
(20 Tables 20.2 to 20.9; 04 Table 4.4; 08 Tables 8.7, 8.8; 11 Table 11.7; 12 Table 12.6; 13 Table 13.13; 14 Table 14.10;
18 Table 18.7). -/

namespace Sys2Proof.Machine

-- Unit and power ------------------------------------------------------------------------------------------

/-- The five flags of GET_STATE byte 10: high-limit latch, FIO_FAULT, OVERTEMP, PFAIL, forme open (15 Table 15.3). -/
def State.stateFlags (s : State) : Nat := ofBits [s.hl.latch, s.dio.fio, s.power.overtemp, s.power.pfail, s.sup.openF.isSome]
/-- UNIT_STATE (20 Table 20.2). -/
def State.unitState (s : State) : Nat :=
  uCode s.unit.st + 16 * uCode s.unit.prev + 256 * b2n s.unit.runReq + 65536 * s.stateFlags
/-- A QUOIN has the open forme locked until its boundary (15 R390). -/
def State.locked (s : State) : Bool := s.sup.quoin.any fun q => q.boundMt.isNone
/-- The flags of FORME_STAT: open, CHECKED, locked by a QUOIN (20 Table 20.2). -/
def State.formeFlags (s : State) : Nat :=
  ofBits [s.sup.openF.isSome, s.sup.openF.any fun o => o.checked.isSome, s.locked]
def State.opener (s : State) : Nat := (s.sup.openF.map (·.opener)).getD 0xFFFF
def State.formeStat (s : State) : Nat := s.formeFlags + 65536 * s.opener
/-- PWR_STAT (13 Table 13.13). -/
def pwrStat (p : PowerSt) : Nat :=
  p.cur % 4 + 4 * (p.chosen % 4) + 16 * (p.reason % 16) + 256 * (p.detail % 256) +
    65536 * ofBits [p.pfail, p.ride, p.vinUv, p.vinLow, p.vinHigh, p.hot, p.overtemp, p.holdupOk]
/-- RESET_CAUSE and PROOF_RES (13 Table 13.13). -/
def resetCause (p : PowerSt) : Nat := p.kind % 4 + 256 * (p.resets % 256)
def proofResWord (r : ProofRes) : Nat := r.result % 4 + 256 * (r.item % 256) + 65536 * (r.time % 65536)

-- Time bases and imposition -------------------------------------------------------------------------------

/-- MT_SYNC and MA_STATE (20 Table 20.3). -/
def mtSync (t : TimeSt) : Nat :=
  syncCode t.sync + 4 * b2n t.nosync + 8 * b2n t.dupId + 16 * (t.masterId % 16) + 65536 * uw 16 (clamp (-32767) 32767 t.offset)
/-- The time bases whose MT_SYNC is shown: in REPRINT the recorded unit's (20 R484). -/
def State.shownSync (s : State) : TimeSt := match s.store.reprint with | some r => r.shown | none => s.time
def State.maState (s : State) : Nat := maCode s.time.ma + 16 * s.coastLeft + 256 * activeBits s.time
/-- TW_STATE, TW_CNT and TW_CORR (20 Table 20.4). -/
def State.twState (s : State) (w : Nat) : Nat :=
  let x := s.wheel w
  wCode x.st + 16 * wheelFlags x + 256 * (x.pitch % 256) + 65536 * (s.epochOf 1 % 256)
def twCnt (x : Wheel) : Nat := x.noiseRej % 65536 + 65536 * (x.synthCnt % 65536)
def twCorr (x : Wheel) : Nat := x.corr % 65536 + 65536 * (x.gapUnexp % 256) + 16777216 * (x.gapMiss % 256)
/-- IMP_STATUS and IMP_WIN_b (20 Table 20.5). -/
def State.impStatus (s : State) : Nat :=
  s.epochOf 2 % 256 + 256 * b2n (decide (256 ≤ s.imp.queue.length)) + 65536 * min 256 s.imp.queue.length
def State.impWin (s : State) (b : Nat) : Nat :=
  match s.win b with
  | [] => 0
  | n :: r => (r.length + 1) % 64 + 256 * ((s.slotLive n).next % 16777216)

-- Timers and loops ----------------------------------------------------------------------------------------

/-- TM_STAT and TM_RUN (04 Tables 4.4, 4.5). -/
def tmCode (t : TState) : Nat := match t with | .stopped => 0 | .running => 1 | .expired => 2
def State.tmStat (s : State) (n : Nat) : Nat :=
  let c := s.tmCfg n
  let t := tmSync c s.bmt (s.tmNow n)
  tmCode t.st + 4 * ofBits [tmLfBit c t, t.exp, t.ovf] + 256 * (t.expCnt % 256)
def State.tmRun (s : State) : Nat := ofBits ((List.range s.timers.length).map fun n => decide ((s.tmNow n).st = .running))
/-- L_STAT (08 Table 8.7). -/
def State.lStat (s : State) (l : Nat) : Nat :=
  let x := s.loop l
  s.loopState l + 8 * ofBits [x.sat, x.inBad, x.ffBad, s.loopEn l && s.dstBlocked (s.pL l 0x13), x.dlMiss, x.overrun] +
    65536 * (x.nMiss % 65536)
/-- GAL_CFG, GAL_NODES with GAL_POST, GAL_STAT (08 Table 8.8). -/
def galCfg (g : Galley) : Nat := g.loop % 64 + 256 * (g.start % 8) + 2048 * (g.stop % 8) + 16384 * (g.trip % 16)
def galNodes (g : Galley) : Nat := g.nodes % 65536 + 65536 * (g.post % 4096)
def galStat (g : Galley) : Nat :=
  galCode g.st + 8 * b2n (decide (4096 < g.total)) + 16 * b2n g.byTrip + 65536 * (g.total % 4096)

-- Fans and valves -----------------------------------------------------------------------------------------

/-- FD_STATE: BOOSTED, SKIP, PWR_LIM, I2T_LIM, AUTON, RECOVERING and the epoch (09 Table 9.11). -/
def State.fdState (s : State) (n : Nat) : Nat :=
  let d := s.drive n
  let boosted := (s.fgView (s.pFd n 1)).boost && s.driveOn n && !driveFailed d
  dCode d.st + 16 * ofBits [boosted, d.skip, d.pwrLim, d.i2tLim, s.autonomous, d.recov] + 65536 * (s.epochOf (0x0B + n) % 256)
/-- FG_STAT, FTRIP_STAT and FD_COOL (20 Table 20.7). -/
def State.fgStat (s : State) (g : Nat) : Nat :=
  let x := s.fgView g
  x.t % 65536 + 65536 * (s.groupFlags g x % 16) + 1048576 * (x.src % 8) + 16777216 * (min 15 (s.fgFailed g))
def State.ftripStat (s : State) : Nat :=
  ofBits [s.fan.ftrip.getD 0 false, s.fan.ftrip.getD 1 false, s.remoteTrip 0, s.remoteTrip 1, s.ftripOn 0, s.ftripOn 1]
def fdCool (f : FanSt) : Nat := f.coolRun % 8 + 16 * (f.coolFail % 8) + 128 * b2n f.coolBoost + 256 * (f.coolSpd % 256)
/-- SV_STATE with the epoch (BLOCKED from proof on, 20 R495), SV_L and GOV_STAT (20 Tables 20.8, 20.9). -/
def State.svWord (s : State) (n : Nat) : Nat :=
  let w := s.svState n
  (if s.untouched then w % 0x4000 + 0x8000 * (w / 0x8000 % 2) else w % 65536) + 65536 * (s.epochOf 0x11 % 256)
def State.svLWord (s : State) (n : Nat) : Nat := s.svL n % 65536 + 65536 * b2n (s.sv n).learned.isSome
def State.govStat (s : State) : Nat := s.pullWaitMask + 256 * s.govFlags

-- Field I/O and high limit --------------------------------------------------------------------------------

/-- DIO_STAT and a DO_FQ word (11 Table 11.7). -/
def State.dioStat (s : State) : Nat :=
  ofBits [s.dio.fio, s.dio.fioSeen, s.dio.outs.any (·.expired), s.dio.scan.isSome,
    s.dio.outs.any (·.cpl) || decide (s.dio.diCpl ≠ 0)]
def doFq (d : DioSt) (k : Nat) : Nat :=
  ((List.range 8).map fun j => 8 ^ j * ((d.outs.getD (8 * k + j) {}).fq % 8)).foldl (· + ·) 0 +
    (if k = 2 then 16777216 * b2n d.supMask else 0)
/-- HL_STAT and HL_CNT; `key` is whether the key is down (12 Table 12.6). -/
def hlStat (h : HlSt) (key : Bool) : Nat :=
  ofBits [h.latch, h.rb.getD 0 false, h.rb.getD 1 false, h.fwp, h.permit, key, h.keyStuck, h.pchain] + 256 * h.chBits +
    65536 * (h.cause % 16) + 1048576 * (h.first % 4)
def State.hlCnt (s : State) : Nat := s.hl.trips % 65536 + 65536 * (s.hl.refused % 256) + 16777216 * (s.epochOf 0x13 % 256)
def State.strapsReg (s : State) : Nat := strapsWord s.unit.straps + 65536 * b2n s.unit.changed

-- Host link and service -----------------------------------------------------------------------------------

def State.usbSession (s : State) : Bool := s.host.sessions.any fun x => x.port = 2
/-- HL_STAT of the host link (14 Table 14.10). -/
def State.linkStat (s : State) : Nat :=
  ofBits s.host.link + 4 * (s.host.speed.getD 0 0 % 4) + 16 * (s.host.speed.getD 1 0 % 4) +
    64 * (s.host.sessions.length % 32) + 2048 * b2n s.usbSession + 4096 * b2n s.trustEmpty
/-- Q_CFG, Q_PTR and Q_STAT; a queue that does not exist reads 0 (14 Table 14.10). -/
def qCfg (q : Option Queue) : Nat := match q with | some x => x.depth + 8192 * qKind x.num + 65536 * x.owner | none => 0
def qPtr (q : Option Queue) : Nat := match q with | some x => x.head + 65536 * x.tail | none => 0
def qStat (q : Option Queue) : Nat :=
  match q with
  | some x => (if x.num < 512 then x.w else x.tail) + 65536 * ofBits [decide (x.passes % 2 = 0), true, x.orphan, x.paused]
  | none => 0
/-- SVC_STAT; `ack` is whether the key is down (18 Table 18.7). -/
def State.svcStat (s : State) (ack : Bool) : Nat :=
  ofBits [s.svc.usb, s.usbSession, ack, s.svc.ackStuck] + 65536 * (s.svc.ackCnt % 65536)
/-- A latched drive or valve trip; one whose source is still active. -/
def State.anyTrip (s : State) : Bool := s.fan.drives.any (fun d => d.trip ≠ 0) || s.valve.svs.any fun v => v.trip ≠ 0
def State.anyTripActive (s : State) : Bool :=
  s.fan.drives.any (fun d => d.trip &&& d.active ≠ 0) || s.valve.svs.any fun v => v.trip &&& v.active ≠ 0
/-- The eight LEDs' pattern codes, PWR first; a dark unit's alternating blink has no code, and nothing can read it
(18 R452 to R454, Tables 18.1, 18.2). -/
def State.leds (s : State) : List Nat :=
  if s.svc.lamp then List.replicate 8 1
  else if s.power.dark ∨ !s.power.on then List.replicate 8 0
  else
    let lanes := (List.range 4).filter fun l => s.laneRole l ≠ 0
    [ (if s.power.ride then 3 else if s.power.vinUv || s.power.vinLow then 2 else 1),
      (match s.unit.st with | .proof => 3 | .update => 5 | .reprint => 4 | .standby => 2 | .run => 1 | .proofHold => 0),
      (if s.isSt .proofHold then 6 else if s.svc.faultLed then 3 else 0),
      (if s.anyTripActive then 3 else if s.anyTrip then 1 else 0),
      (if s.hl.latch then (if s.hl.admits then 1 else 3) else 0),
      (if s.host.sessions.isEmpty then 0 else 1),
      (if lanes.any fun l => !(s.laneAt l).up || (s.laneAt l).broken then 2 else if lanes.isEmpty then 0 else 1),
      (if s.svc.sel.any (· ≠ 0) then 3 else if s.host.sessions.any fun x => x.role = 3 then 1 else 0) ]
/-- SVC_LED; from a unit-level reset until proof has run its first stage it reads its reset value (18 Table 18.7; 20 R495). -/
def State.svcLed (s : State) : Nat :=
  if s.untouched then 0 else s.leds.foldr (fun c a => c + 8 * a) 0
/-- The flashes of FAULT's CODE in PROOF_HOLD: the number of the first failed stage plus 1 (18 R453). -/
def State.faultFlashes (s : State) : Nat := ((List.range 9).find? fun k => bitOf s.power.failed k).getD 0 + 1
/-- Stage 0 has failed: FAULT and TRIP blink alternately at 2 Hz and every other LED is off (18 R453). -/
def State.altBlink (s : State) : Bool := s.power.on && s.power.dark && !s.svc.lamp
/-- TM_STAT of the test multiplexer; no owner reads 0 (18 Table 18.7). -/
def State.muxStat (s : State) : Nat :=
  b2n s.unit.straps.testEn + 2 * b2n s.svc.owner.isSome + 65536 * (s.svc.owner.getD 0)

end Sys2Proof.Machine
end

