-- ==== Sys2Proof/Machine/Registers.lean ====
section
/-! DEFINITION. The register file (20): which words are assigned and under which access code, what a word reads, what a
write does, and the commands that read or write one register word. -/

namespace Sys2Proof.Machine

-- The saved live state of a reprint (16 R413, R416) -------------------------------------------------------

/-- Stations 0x01 to 0x0A, and what the DIO station has told them, take an image; MT and its synchronisation go on (16 R413;
02 R67; 17 R447). -/
def State.putStations (s : State) (i : Image) : State :=
  let t := s.time
  { s with
    time := { i.time with mt := t.mt, sync := t.sync, nosync := t.nosync, dupId := t.dupId, masterId := t.masterId
                          offset := t.offset, trim := t.trim, syncGood := t.syncGood }
    imp := i.imp
    timers := i.timers
    cols := i.cols
    probe := { i.probe with streams := s.probe.streams }
    pica := i.pica
    toks := i.toks
    cle := i.cle
    dio := { s.dio with ins := s.dio.ins.mapIdx fun k d => { d with tok := (i.dio.ins.getD k {}).tok } }
    unit := { s.unit with epochs := s.unit.epochs.mapIdx fun k e => if 1 ≤ k ∧ k ≤ 10 then i.epochs.getD k e else e } }
/-- A live write in REPRINT acts on the saved state, which the end restores; the reprinted stations take their inputs
from the records (16 R416). -/
def State.onLiveStations (s : State) (f : State → Nat × State) : Nat × State :=
  match s.store.reprint with
  | none => f s
  | some r =>
    let shown := s.image
    let live := ({ s with store := { s.store with reprint := none } }.putStations r.saved).onUnit fun u => { u with st := .standby }
    let a := f live
    let saved := { a.2.image with epochs := r.saved.epochs }
    let back := a.2.onStore fun t => { t with
      reprint := some { r with saved := saved }, buf := s.store.buf, recIdx := s.store.recIdx, lost := s.store.lost
      lostMt := s.store.lostMt }
    (a.1, (back.onUnit fun u => { u with st := .reprint }).putStations shown)

-- Assigned words (20 R478, R479, Table 20.1) --------------------------------------------------------------

/-- The access codes (00 Table 0.4); `unas` is an unassigned word, `door` a doorbell, `qsel` Q_SEL. -/
inductive RAcc where
  | unas | ro | rw | w1c | wo | rwl | ws | qsel | door
  deriving DecidableEq, Repr

def roIf (b : Bool) : RAcc := if b then .ro else .unas
/-- Windows 0x0000 to 0x02FF (20 Table 20.2; 14 Table 14.10; 13 Table 13.13). -/
def accLow (a : Nat) : RAcc :=
  if a < 0x100 then roIf (decide (a ≤ 6 ∨ (8 ≤ a ∧ a ≤ 0xA) ∨ (0x10 ≤ a ∧ a ≤ 0x14)))
  else if a = 0x110 then .qsel
  else if a < 0x200 then roIf (decide (a ≤ 0x105 ∨ (0x111 ≤ a ∧ a ≤ 0x115) ∨ a = 0x120))
  else roIf (decide (a ≤ 0x205 ∨ (0x210 ≤ a ∧ a ≤ 0x218) ∨ (0x220 ≤ a ∧ a ≤ 0x222) ∨ (0x224 ≤ a ∧ a ≤ 0x22B)))
/-- Windows 0x0300 to 0x07FF (20 Tables 20.3 to 20.5; 04 Tables 4.3 to 4.5; 08 Table 8.7). -/
def accStations (a : Nat) : RAcc :=
  if a < 0x310 then (if a = 0x307 then .w1c else roIf (decide (a ≤ 0x306)))
  else if a < 0x350 then (if a % 16 = 5 then .w1c else roIf (decide (a % 16 ≤ 6)))
  else if a < 0x400 then .unas
  else if a < 0x500 then
    (if a = 0x400 then .wo else if a = 0x402 then .w1c
     else roIf (decide (a = 0x401 ∨ (0x408 ≤ a ∧ a ≤ 0x40D) ∨ (0x410 ≤ a ∧ a ≤ 0x416))))
  else if a < 0x580 then (if a % 4 ≤ 1 then .ws else if a % 4 = 2 then .ro else .w1c)
  else if a < 0x600 then (if a ≤ 0x581 then .wo else roIf (decide (a ≤ 0x583)))
  else if a < 0x7E0 then
    (match (a - 0x600) % 10 with | 5 => .rw | 8 => .ro | 9 => .w1c | _ => .rwl)
  else .unas
/-- Windows 0x0800 to 0x0DFF (20 Tables 20.6 to 20.9; 11 Table 11.7; 12 Table 12.6; 08 Table 8.8; 17 Table 17.5; 18 Table
18.7). -/
def accOutputs (a : Nat) : RAcc :=
  if a < 0x900 then .unas
  else if a < 0x960 then (if a % 16 = 10 then .w1c else roIf (decide (a % 16 ≤ 9)))
  else if a < 0xA00 then roIf (decide (a ≤ 0x966))
  else if a < 0xA40 then (if a % 8 = 6 then .w1c else .ro)
  else if a < 0xB00 then roIf (decide (a ≤ 0xA46))
  else if a < 0xB10 then
    (match a % 16 with
     | 2 => .w1c | 3 => .rw | 4 => .rwl | 5 => .rwl | 7 => .w1c | 8 => .w1c | 9 => .wo
     | 0xA => .rwl | 0xB => .rwl | 0xC => .rwl | 0xF => .unas | _ => .ro)
  else if a < 0xB40 then roIf (decide (a ≤ 0xB30))
  else if a < 0xB60 then roIf (decide (a ≤ 0xB45 ∨ a = 0xB48))
  else if a < 0xB80 then .ro
  else if a < 0xC00 then .unas
  else if a < 0xD00 then roIf (decide (a % 0x40 ≤ 5 ∨ (0x11 ≤ a % 0x40 ∧ a % 0x40 ≤ 0x1F)))
  else roIf (decide (a ≤ 0xD04))
def regAcc (a : Nat) : RAcc :=
  if a < 0x300 then accLow a
  else if a < 0x800 then accStations a
  else if a < 0xE00 then accOutputs a
  else if 0x4000 ≤ a ∧ a < 0x4400 then .door
  else .unas
/-- The station whose reset holds a register (20 R494); 0 for those of the supervisor and the fan block. -/
def regStation (a : Nat) : Nat :=
  if a < 0x300 then 0
  else if a < 0x400 then 1
  else if a < 0x500 then 2
  else if a < 0x600 then 3
  else if a < 0x800 then 0x0A
  else if a < 0x900 then 0
  else if a < 0x960 then 0x0B + (a - 0x900) / 16
  else if a < 0xA00 then 0
  else if a < 0xB00 then 0x11
  else if a < 0xB40 then 0x12
  else if a < 0xB60 then 0x13
  else if a < 0xB80 then 0x0A
  else if 0xC00 ≤ a ∧ a < 0xD00 then 0x15
  else 0
/-- The words of a station's windows. -/
def stationRegs (st : Nat) : List Nat :=
  ((List.range 0xB00).map (· + 0x300)).filter fun a => regStation a = st && regAcc a ≠ .unas
/-- The _LO words with a _HI word after them (20 R481). -/
def isLo (a : Nat) : Bool := [0x0002, 0x0009, 0x0013, 0x0300, 0x0310, 0x0320, 0x0330, 0x0340, 0x0B43].contains a
def isHi (a : Nat) : Bool := decide (0 < a) && isLo (a - 1)

-- What a word reads ---------------------------------------------------------------------------------------

def word (n : Nat) : Nat := n % 2 ^ 32
def wordI (i : Int) : Nat := uw 32 i
def half (lo hi : Nat) : Nat := lo % 65536 + 65536 * (hi % 65536)
/-- Window 0x0000 (20 Table 20.2). -/
def State.regUnit (s : State) (a : Nat) : Nat :=
  match a with
  | 0x0 => 0x0960 + 65536 * b2n s.unit.zType + 0x43000000
  | 0x1 => s.unit.fw % 16777216
  | 0x2 => word s.unit.serial
  | 0x3 => word (s.unit.serial / 2 ^ 32)
  | 0x4 => s.unit.rollback % 65536
  | 0x5 => s.unit.controlRev % 65536
  | 0x6 => s.power.boot % 65536
  | 0x8 => s.unitState
  | 0x9 => word s.unit.stMt
  | 0xA => s.unit.stMt / 2 ^ 32 % 65536
  | 0x10 => word s.sup.gen
  | 0x11 => s.sup.crc.toNat
  | 0x12 => s.formeStat
  | 0x13 => word s.sup.quoinMt
  | 0x14 => s.sup.quoinMt / 2 ^ 32 % 65536
  | _ => 0
/-- Window 0x0100 and the doorbells (14 Table 14.10). -/
def State.regLink (s : State) (sel : Nat) (a : Nat) : Nat :=
  let q := s.queue? sel
  match a with
  | 0x100 => s.linkStat
  | 0x101 => s.host.flights.length % 2048 + 65536 * (s.host.maxFlight % 2048)
  | 0x102 => s.host.frames
  | 0x103 => s.host.retx
  | 0x104 => s.host.bad
  | 0x105 => s.host.hsRef
  | 0x110 => sel
  | 0x111 => qCfg q
  | 0x112 => qPtr q
  | 0x113 => qStat q
  | 0x114 => ((q.map (·.ovf)).getD 0)
  | 0x115 => ((q.map (·.discard)).getD 0)
  | 0x120 => if s.untouched then 0 else s.ringFree
  | _ => 0
def State.regDoor (s : State) (q : Nat) : Nat :=
  match s.queue? q with
  | some x => if q < 512 then x.tail else x.head
  | none => 0
/-- Window 0x0200 (13 Table 13.13). -/
def State.regPower (s : State) (a : Nat) : Nat :=
  let p := s.power
  match a with
  | 0x200 => pwrStat p
  | 0x201 => half p.vin p.lp
  | 0x202 => half (uw 16 p.tInt) p.holdupV
  | 0x203 => resetCause p
  | 0x204 => proofStat p
  | 0x205 => p.proofMs % 65536
  | _ =>
    if a < 0x220 then proofResWord (p.res.getD (a - 0x210) {})
    else if a < 0x224 then word (s.tlAll.getD (a - 0x220) 0)
    else if a < 0x228 then word (p.cnt.getD (a - 0x224) 0)
    else word (p.time.getD (a - 0x228) 0 / Config.sec)
/-- Window 0x0300 (20 Tables 20.3, 20.4). -/
def State.regTime (s : State) (a : Nat) : Nat :=
  if a < 0x310 then
    match a with
    | 0x300 => word s.now
    | 0x301 => word (s.now / 2 ^ 32)
    | 0x302 => mtSync s.shownSync
    | 0x303 => uw 16 s.time.trim
    | 0x304 => s.maNow % 65536
    | 0x305 => word s.time.freq
    | 0x306 => s.maState
    | _ => s.time.maEvt.toNat
  else
    let w := (a - 0x310) / 16
    let x := s.wheel w
    match a % 16 with
    | 0 => word x.pos
    | 1 => x.pos / 2 ^ 32 % 65536
    | 2 => s.twState w
    | 3 => word (wheelRate x)
    | 4 => twCnt x
    | 5 => x.evt.toNat
    | _ => twCorr x
/-- Window 0x0400 (20 Table 20.5). -/
def State.regImp (s : State) (a : Nat) : Nat :=
  let i := s.imp
  match a with
  | 0x401 => s.impStatus
  | 0x402 => i.evt.toNat
  | 0x410 => i.disp
  | 0x411 => i.late
  | 0x412 => i.refused
  | 0x413 => i.winLate
  | 0x414 => word i.latMax
  | 0x415 => i.skip
  | 0x416 => i.resetLoss
  | _ => if 0x408 ≤ a then s.impWin (a - 0x408) else 0
/-- Window 0x0500 (04 Tables 4.3 to 4.5); WS words read the value in force, and their reset value while the timers hold
reset values (04 R108). -/
def State.regTimer (s : State) (a : Nat) : Nat :=
  let n := (a - 0x500) / 4
  match a with
  | 0x580 => 0
  | 0x581 => 0
  | 0x582 => s.tmRun
  | 0x583 => s.epochOf 3 % 256
  | _ =>
    match a % 4 with
    | 0 => s.tmWord n
    | 1 => s.tmReload n
    | 2 => word (tmCount (s.tmCfg n) (s.tmNow n) s.bmt)
    | _ => s.tmStat n
/-- Windows 0x0600 and 0x0B60 (08 Tables 8.7, 8.8). -/
def State.regLoop (s : State) (a : Nat) : Nat :=
  let l := (a - 0x600) / 10
  match (a - 0x600) % 10 with
  | 8 => wordI (s.loop l).out
  | 9 => s.lStat l
  | o => wordI (getReg o (s.loop l))
def State.regGal (s : State) (a : Nat) : Nat :=
  let g := s.gal ((a - 0xB60) / 4)
  match a % 4 with
  | 0 => galCfg g
  | 1 => galNodes g
  | 2 => galStat g
  | _ => g.mark % 4096
/-- Window 0x0900 (20 Tables 20.6, 20.7). -/
def State.regFan (s : State) (a : Nat) : Nat :=
  if a < 0x960 then
    let n := (a - 0x900) / 16
    let d := s.drive n
    match a % 16 with
    | 0 => s.fdState n
    | 1 => d.trip % 64 + 256 * (d.active % 64)
    | 2 => half d.ref d.target
    | 3 => half d.pct d.rpm
    | 4 => word d.irms
    | 5 => d.pwr % 65536
    | 6 => d.vbus % 65536
    | 7 => d.budget / 10000000000 % 65536
    | 8 => d.attempts % 256 + 65536 * s.nextSec d
    | 9 => half d.kicks d.stalls
    | _ => d.evt.toNat
  else
    match a with
    | 0x964 => half s.fan.ptot s.fan.pl
    | 0x965 => s.ftripStat
    | 0x966 => fdCool s.fan
    | _ => s.fgStat (a - 0x960)
/-- Window 0x0A00 (20 Tables 20.8, 20.9). -/
def State.regValve (s : State) (a : Nat) : Nat :=
  let b := s.valve
  if a < 0xA40 then
    let n := (a - 0xA00) / 8
    let v := s.sv n
    match a % 8 with
    | 0 => s.svWord n
    | 1 => half v.ref v.cmd
    | 2 => v.imeas % 65536
    | 3 => s.svLWord n
    | 4 => word v.e
    | 5 => v.trip % 16 + 256 * (v.active % 16)
    | 6 => v.evt.toNat
    | _ => half v.capGov v.capCls
  else
    match a with
    | 0xA40 => b.vb % 65536
    | 0xA41 => word (railE b.c b.vb)
    | 0xA42 => b.tgt % 65536
    | 0xA43 => s.govStat
    | 0xA44 => word b.clampCnt
    | 0xA45 => b.clampJ
    | _ => b.c % 65536
/-- Window 0x0B00 (11 Table 11.7). -/
def State.regDio (s : State) (a : Nat) : Nat :=
  let d := s.dio
  match a with
  | 0xB00 => ofBits (d.ins.map (·.st))
  | 0xB01 => ofBits (d.ins.map (·.raw))
  | 0xB02 => d.diEvt.toNat
  | 0xB03 => d.doHost.toNat
  | 0xB04 => d.forceEn.toNat
  | 0xB05 => d.forceVal.toNat
  | 0xB06 => ofBits (d.outs.map (·.out))
  | 0xB07 => d.wdExp.toNat
  | 0xB08 => s.dioStat
  | 0xB09 => 0
  | 0xB0A => doFq d 0
  | 0xB0B => doFq d 1
  | 0xB0C => doFq d 2
  | 0xB0D => cplMask d.outs
  | 0xB0E => d.diCpl.toNat
  | 0xB30 => s.epochOf 0x12 % 256
  | _ => (s.din (a - 0xB10)).cnt % 65536 + 65536 * ((s.din (a - 0xB10)).c % 256)
/-- Window 0x0B40 (12 Table 12.6); `key` is whether the key is down. -/
def State.regHl (s : State) (key : Bool) (a : Nat) : Nat :=
  match a with
  | 0xB40 => hlStat s.hl key
  | 0xB41 => uw 16 (hlTemp s.hl 0)
  | 0xB42 => uw 16 (hlTemp s.hl 1)
  | 0xB43 => word s.hl.tmt
  | 0xB44 => s.hl.tmt / 2 ^ 32 % 65536
  | 0xB45 => s.hlCnt
  | _ => s.strapsReg
/-- Window 0x0C00 (17 Table 17.5). -/
def State.regLane (s : State) (a : Nat) : Nat :=
  let l := (a - 0xC00) / 0x40
  let x := s.laneAt l
  let o := a % 0x40
  match o with
  | 0 => s.lnStat l
  | 1 => lnErr x
  | 2 => x.lost
  | 3 => x.retx
  | 4 => word x.delay
  | 5 => x.tripSrc % 256 + 256 * (x.tripBits % 16) + 65536 * (x.tripCnt % 65536)
  | _ => nodeStat (s.node (nodeStation l (o - 0x10)))
/-- Window 0x0D00 (18 Table 18.7); `ack` is whether the key is down. -/
def State.regSvc (s : State) (ack : Bool) (a : Nat) : Nat :=
  match a with
  | 0xD00 => s.svcStat ack
  | 0xD01 => s.svcLed
  | 0xD02 => s.svc.sel.getD 0 0 + 256 * s.svc.sel.getD 1 0
  | 0xD03 => ofLe (s.svc.sel.drop 2)
  | _ => s.muxStat
/-- What an assigned word holds now; `down` is whether a key whose press has acted is still down. -/
def State.regLive (s : State) (sel : Nat) (down : Bool) (a : Nat) : Nat :=
  if a < 0x100 then s.regUnit a
  else if a < 0x200 then s.regLink sel a
  else if a < 0x300 then s.regPower a
  else if a < 0x400 then s.regTime a
  else if a < 0x500 then s.regImp a
  else if a < 0x600 then s.regTimer a
  else if a < 0x800 then s.regLoop a
  else if a < 0xA00 then s.regFan a
  else if a < 0xB00 then s.regValve a
  else if a < 0xB40 then s.regDio a
  else if a < 0xB60 then s.regHl (s.hl.key && down) a
  else if a < 0xC00 then s.regGal a
  else if a < 0xD00 then s.regLane a
  else if a < 0xE00 then s.regSvc (s.svc.ack && down) a
  else s.regDoor (a - 0x4000)
/-- The value of a word: 0 where unassigned; held while its station resets, MT apart (20 R479, R494; 02 R34, R66). -/
def State.regVal (s : State) (sel : Nat) (down : Bool) (a : Nat) : Nat :=
  if regAcc a = .unas then 0
  else
    let held := if a = 0x300 ∨ a = 0x301 then none
      else (s.sup.resets.find? fun r => r.station = regStation a).bind fun r => spGet r.regs a
    held.getD (s.regLive sel down a)
/-- Words that show what nothing reports: L+, the hold-up voltage, and whether a pressed key is down (log 33, 35). -/
def State.readsFree (s : State) (a : Nat) : Bool :=
  decide (a = 0x201 ∨ a = 0x202) || (decide (a = 0xB40) && s.hl.key) || (decide (a = 0xD00) && s.svc.ack)
/-- Before a word is read: what it shows and nothing has reported takes a free value. -/
def State.refreshFree (s : State) (a : Nat) : Bool × State :=
  if s.readsFree a then
    let v := s.fresh
    let n := uw 16 v.1
    (decide (n % 2 = 1),
      if a = 0x201 then v.2.onPower fun p => { p with lp := n }
      else if a = 0x202 then v.2.onPower fun p => { p with holdupV := n }
      else v.2)
  else (false, s)
/-- One word is read: a _LO word latches its _HI word for the session, a _HI word gives what is latched (20 R480,
R481). -/
def State.readWord (s : State) (sid a : Nat) : Nat × State :=
  match s.session? sid with
  | none => (0, s)
  | some x =>
    if isHi a then (spGetD 0 x.latches a, s)
    else
      let f := s.refreshFree a
      let v := f.2.regVal x.qsel f.1 a
      if isLo a then
        (v, f.2.onSession sid fun y => { y with latches := spSet 0 y.latches (a + 1) (f.2.regVal x.qsel f.1 (a + 1)) })
      else (v, f.2)
/-- The staged view: TM_CFG and TM_RELOAD of the open forme, 0 elsewhere (20 R483). -/
def stagedWord (o : OpenForme) (a : Nat) : Nat := if a % 4 ≤ 1 then spGetD 0 o.forme.ws (a - 0x8000) else 0

-- What a write does ---------------------------------------------------------------------------------------

/-- A W1C clear of the written ones (00 Table 0.4). -/
def w1c (w : Word) (v : Nat) : Word := w &&& ~~~(BitVec.ofNat 32 v)
/-- The lowest role of a write, none where every role may write or nothing is written (20 R482). -/
def accRole (c : RAcc) : Option Nat :=
  match c with
  | .rw => some 1 | .w1c => some 1 | .wo => some 1 | .rwl => some 2 | .ws => some 2 | _ => none
/-- TM_CFG's reserved bits are not written (04 Table 4.3; 00 R8). -/
def wsMask (a v : Nat) : Nat := if a % 4 = 0 then v % 2 ^ 21 + 2 ^ 24 * (v / 2 ^ 24 % 256) else v
/-- A WS write stages the value (00 R14, 15 R388 to R390). -/
def State.writeWs (s : State) (a v : Nat) : Nat × State :=
  match s.sup.openF with
  | none => (sNOTST, s)
  | some o =>
    if s.locked then (sBUSY, s)
    else (sOK, s.onSup fun u => { u with
      openF := some { o with forme := { o.forme with ws := spSet 0 o.forme.ws a (wsMask a v) }, checked := none } })
/-- A write of one of a loop's eight registers: L_UMIN at most L_UMAX, an enabled loop's limits in its destination's
range; reserved bits of L_SHIFT are ignored (08 R209). -/
def State.writeLoop (s : State) (l off v : Nat) : Nat × State :=
  let i : Int := if off = 4 then (v % 2 ^ 20 : Nat) else sx 32 v
  if s.loopWriteOk l off i then (sOK, s.loopWrite l off i) else (sBAD, s)
/-- The clears of IMP_CTRL (20 R489). -/
def ImpSt.cntClr (i : ImpSt) : ImpSt := { i with disp := 0, late := 0, refused := 0, winLate := 0, skip := 0, resetLoss := 0 }
def ImpSt.latClr (i : ImpSt) : ImpSt := { i with latMax := 0 }
/-- Writes in the windows of stations 0x01 to 0x0A. -/
def State.writeStations (s : State) (a v : Nat) : Nat × State :=
  if a = 0x307 then (sOK, s.onTime fun t => { t with maEvt := w1c t.maEvt v })
  else if a < 0x400 then (sOK, s.onWheel ((a - 0x310) / 16) fun x => { x with evt := w1c x.evt v })
  else if a = 0x400 then
    (sOK, s.onImp fun i =>
      let j := if bitOf v 0 then i.cntClr else i
      if bitOf v 1 then j.latClr else j)
  else if a < 0x500 then (sOK, s.onImp fun i => { i with evt := w1c i.evt v })
  else if a < 0x580 then
    (sOK, (s.tmSettle ((a - 0x500) / 4)).tmClear ((a - 0x500) / 4) (bitOf v 3) (bitOf v 4))
  else if a = 0x580 then (sOK, s.gstart v)
  else if a < 0x600 then (sOK, s.gstop v)
  else
    let l := (a - 0x600) / 10
    let off := (a - 0x600) % 10
    if off = 9 then
      (sOK, s.onLoop l fun x => { x with dlMiss := x.dlMiss && !bitOf v 7, overrun := x.overrun && !bitOf v 8 })
    else s.writeLoop l off v
/-- Writes of the fault queries: not while a scan runs (11 R285, Table 11.7). -/
def State.writeFq (s : State) (k v : Nat) : Nat × State :=
  if s.dio.scan.isSome then (sBUSY, s)
  else (sOK, s.onDio fun d => { d with
    outs := d.outs.mapIdx fun n o => if n / 8 = k then { o with fq := fld v (3 * (n % 8)) 3 } else o
    supMask := if k = 2 then bitOf v 24 else d.supMask })
/-- The channels of function HOST: bits of DO_HOST outside them are not written (11 R272). -/
def State.hostMask (s : State) : Nat := ofBits ((List.range 24).map fun n => decide (s.pDo (s.doLead n) 0 = 0))
/-- Writes in the windows of the drives, valves and the field I/O. -/
def State.writeOutputs (s : State) (a v : Nat) : Nat × State :=
  let w : Word := BitVec.ofNat 32 (v % 16777216)
  if a < 0xA00 then (sOK, s.onDrive ((a - 0x900) / 16) fun d => { d with evt := w1c d.evt v })
  else if a < 0xB00 then (sOK, s.onSv ((a - 0xA00) / 8) fun x => { x with evt := w1c x.evt v })
  else
    match a with
    | 0xB02 => (sOK, s.onDio fun d => { d with diEvt := w1c d.diEvt v })
    | 0xB03 =>
      let m : Word := BitVec.ofNat 32 s.hostMask
      (sOK, (s.onDio fun d => { d with doHost := (d.doHost &&& ~~~m) ||| (w &&& m) }).doRefresh)
    | 0xB04 => (sOK, (s.onDio fun d => { d with forceEn := w }).doRefresh)
    | 0xB05 => (sOK, (s.onDio fun d => { d with forceVal := w }).doRefresh)
    | 0xB07 => (sOK, s.onDio fun d => { d with wdExp := w1c d.wdExp v })
    | 0xB08 => (sOK, s.onDio fun d => { d with fioSeen := d.fioSeen && !bitOf v 1 })
    | 0xB09 => (sOK, if bitOf v 0 then s.onDio fun d => { d with release := true } else s)
    | _ => s.writeFq (a - 0xB0A) v
/-- A register write that is admitted, with its HOST record (16 Table 16.6). -/
def State.writeReg (s : State) (sid a v : Nat) : Nat × State :=
  if regAcc a = .ws then s.writeWs a v
  else
    let r := if a < 0x800 then s.onLiveStations fun t => t.writeStations a v else s.writeOutputs a v
    let n := if 0x600 ≤ a ∧ a < 0x7E0 then (r.2.loop ((a - 0x600) / 10)).accN else 0
    if r.1 = sOK ∧ (a < 0x800 ∨ regAcc a ≠ .w1c) then (sOK, r.2.recHost sid 0xFF a (sx 32 v) n []) else r
/-- One word is written by a session: the status, in the order of R379 (20 R479, R482, R493, R494; 00 R10, R11). -/
def State.writeWord (s : State) (x : Session) (a v : Nat) : Nat × State :=
  match regAcc a with
  | .unas => (sBAD, s)
  | .door => s.doorbell x.sid (a - 0x4000) v
  | .qsel => (sOK, s.onSession x.sid fun y => { y with qsel := v % 1024 })
  | c =>
    if (accRole c).any fun r => decide (x.role < r) then (sDENIED, s)
    else if s.isSt .proofHold then (sHOLD, s)
    else if regStation a ≠ 0 ∧ s.isResetting (regStation a) then (sBUSY, s)
    else if c = .ro then (sOK, s)
    else s.writeReg x.sid a v
/-- Writes to Q_SEL and the doorbells are not audited; others are in an Engineer or Service session, and where the
role was too low (14 R353, 00 R11). -/
def openToAll (a : Nat) : Bool := match regAcc a with | .qsel => true | .door => true | _ => false
def State.auditReg (s : State) (x : Session) (a status : Nat) (vals : List Nat) (touched : List Nat) : State :=
  if status = sDENIED ∨ (2 ≤ x.role ∧ touched.any fun w => !openToAll w) then
    s.audit x.sid x.role x.fp status 0xFF a (vals.flatMap (le 4))
  else s
/-- A write of one word by itself, with its audit; its status is kept for the reply. -/
def State.writeOne (s : State) (sid a v : Nat) : State :=
  match s.session? sid with
  | none => s
  | some x =>
    let r := s.writeWord x a (v % 2 ^ 32)
    (r.2.auditReg x a r.1 [v % 2 ^ 32] [a]).onHost fun h => { h with lastWord := some (a, v % 2 ^ 32, r.1) }

-- Meanings ------------------------------------------------------------------------------------------------

/-- REGISTER_WRITE (00 R10; 20 R482). A host frame wakes the unit (14 R377). -/
def execRegisterWrite (dt sid addr val : Nat) (s : State) : Out := .next ((s.elapse dt).wakeUp.writeOne sid addr val)
/-- LO_WORD_READ (20 R481). -/
def execLoWordRead (dt sid addr : Nat) (s0 : State) : Out :=
  let s := (s0.elapse dt).wakeUp
  if isLo addr ∧ (s.session? sid).isSome then
    let r := s.readWord sid addr
    .next (r.2.onHost fun h => { h with lastWord := some (addr, r.1, sOK) })
  else .next s
/-- GSTART (04 R99). -/
def execGstart (dt sid mask : Nat) (s : State) : Out := .next ((s.elapse dt).wakeUp.writeOne sid 0x580 mask)
/-- GSTOP (04 R99). -/
def execGstop (dt sid mask : Nat) (s : State) : Out := .next ((s.elapse dt).wakeUp.writeOne sid 0x581 mask)
/-- CNT_CLR (20 R489). -/
def execCntClr (dt sid : Nat) (s : State) : Out := .next ((s.elapse dt).wakeUp.writeOne sid 0x400 1)
/-- LAT_CLR (20 R489). -/
def execLatClr (dt sid : Nat) (s : State) : Out := .next ((s.elapse dt).wakeUp.writeOne sid 0x400 2)
/-- WD_REL (11 R281). -/
def execWdRel (dt sid : Nat) (s : State) : Out := .next ((s.elapse dt).wakeUp.writeOne sid 0xB09 1)
/-- LOOP_REGISTER_WRITE (08 R191, R209). -/
def execLoopRegisterWrite (dt sid loop off val : Nat) (s : State) : Out :=
  .next (if loop < 48 ∧ off < 10 then (s.elapse dt).wakeUp.writeOne sid (0x600 + 10 * loop + off) val else s.elapse dt)
/-- SQ_DOORBELL_WRITE (14 R364). -/
def execSqDoorbellWrite (dt sid q idx : Nat) (s : State) : Out :=
  .next (if q < 512 then (s.elapse dt).wakeUp.writeOne sid (0x4000 + q) idx else s.elapse dt)
/-- HEAD_DOORBELL_WRITE (14 R364). -/
def execHeadDoorbellWrite (dt sid q idx : Nat) (s : State) : Out :=
  .next (if 512 ≤ q ∧ q < 1024 then (s.elapse dt).wakeUp.writeOne sid (0x4000 + q) idx else s.elapse dt)

end Sys2Proof.Machine
end

