-- ==== Sys2Proof/Machine/Supervisor.lean ====
section
/-! DEFINITION. The supervisor's commands (15): NOP, IDENTIFY, GET_STATE, parameters, station and unit resets, and the
firmware update with the supervisor's restart. -/

namespace Sys2Proof.Machine

-- NOP, IDENTIFY, GET_STATE (15 R381, R382) ----------------------------------------------------------------

def nopBody (_ : Flight) (s : State) : Ans := .ok s []
/-- NOP (15 R381). -/
def execNop (dt f : Nat) (s : State) : Out := .next (runCmd 0x01 f nopBody (s.elapse dt))
def State.identify0 (s : State) : List Nat :=
  le 2 0x0960 ++ [b2n s.unit.zType, 0x43, s.unit.fw / 65536 % 256, s.unit.fw / 256 % 256, s.unit.fw % 256, 0] ++
    le 8 s.unit.serial ++ [s.unit.straps.nodeId % 16] ++ le 2 s.unit.rollback
def State.identify1 (s : State) : List Nat :=
  le 4 s.sup.gen ++ le 4 s.sup.crc.toNat ++ [s.formeFlags] ++ le 2 s.opener ++ le 6 s.sup.quoinMt
def identifyBody (fl : Flight) (s : State) : Ans :=
  match argB fl.e 0 with
  | 0 => .ok s s.identify0
  | 1 => .ok s s.identify1
  | _ => .bad s
/-- IDENTIFY (15 R382, Table 15.3). -/
def execIdentify (dt f : Nat) (s : State) : Out := .next (runCmd 0x02 f identifyBody (s.elapse dt))
def getStateBody (_ : Flight) (s : State) : Ans :=
  .ok s ([uCode s.unit.st, uCode s.unit.prev, b2n s.unit.runReq, s.power.cur] ++ le 6 s.unit.stMt ++ [s.stateFlags])
/-- GET_STATE (15 R382, Table 15.3). -/
def execGetState (dt f : Nat) (s : State) : Out := .next (runCmd 0x03 f getStateBody (s.elapse dt))

-- Parameters (15 R385, R386) ------------------------------------------------------------------------------

/-- A CLE parameter as the engine holds it: the mirror of the registers and the counters (08 Table 8.5). -/
def State.loopPar (s : State) (id : Nat) : Int :=
  let l := (id - 0x6000) / 0x40
  let x := s.loop l
  match id % 0x40 with
  | 8 => x.out
  | 9 => s.lStat l
  | 0x20 => uw 64 x.iacc % 2 ^ 32
  | 0x21 => uw 64 x.iacc / 2 ^ 32
  | 0x22 => x.yprev
  | 0x23 => x.nEval
  | 0x24 => x.nMiss
  | 0x25 => x.nOver
  | 0x26 => x.nHeld
  | o => if o < 8 then getReg o x else s.live id
/-- The value in force (15 Table 15.6 view 0): REC_LOG_FOLIOS and the interface settings as the last unit-level reset took
them (16 R419; 14 R372). -/
def State.parNow (s : State) (id : Nat) (p : PInfo) : Int :=
  if p.forme then s.sup.forme.par id
  else if id = 0x10 then b2n s.unit.runReq
  else if id = 0x6F00 then s.cle.latMax
  else if id = 0xB000 then s.store.logSize
  else if 0xD000 ≤ id ∧ id < 0xD009 then s.host.iface.getD (id - 0xD000) 0
  else if id / 0x1000 = 6 then s.loopPar id
  else s.live id
def parAttr (p : PInfo) (staged : Bool) : Nat := ofBits [p.forme && staged, decide (p.role = 0xFF), p.signed, p.nv]
def parResult (id : Nat) (attr role : Nat) (v : Int) : List Nat := le 2 id ++ [attr, role] ++ leI 4 v
def paramReadBody (fl : Flight) (s : State) : Ans :=
  let id := argN fl.e 0 2
  let view := argB fl.e 2
  match paramInfo id with
  | none => .bad s
  | some p =>
    let now := s.parNow id p
    match view with
    | 0 => .ok s (parResult id (parAttr p true) p.role now)
    | 1 => match s.sup.openF with
      | none => .err s sNOTST
      | some o => .ok s (parResult id (parAttr p true) p.role (if p.forme then o.forme.par id else now))
    | 2 => .ok s (parResult id (parAttr p true) p.role p.dflt)
    | 3 => .ok s (parResult id (parAttr p true) p.role now ++ leI 4 p.lo ++ leI 4 p.hi)
    | _ => .bad s
/-- PARAM_READ (15 R386, Table 15.6). -/
def execParamRead (dt f : Nat) (s : State) : Out := .next (runCmd 0x10 f paramReadBody (s.elapse dt))

/-- A forme with a parameter at a value; at its default it stores nothing. -/
def Forme.setPar (fm : Forme) (id : Nat) (v : Int) : Forme :=
  { fm with params := spSet (((paramInfo id).map (·.dflt)).getD 0) fm.params id v }
/-- A live parameter takes a value and keeps it. -/
def State.setLive (s : State) (id : Nat) (v : Int) : State :=
  s.onSup fun u => { u with live := spSet (((paramInfo id).map (·.dflt)).getD 0) u.live id v }
/-- RUN_REQUEST (13 R332, Table 13.6; 01 R26). -/
def State.writeRun (s : State) (v : Int) : Nat × State :=
  if !(s.isSt .standby || s.isSt .run) then (sNOTST, s)
  else if v = 0 then (sOK, if s.isSt .run then s.enterState .standby else s)
  else if s.isSt .run then (sOK, s)
  else if s.sup.gen = 0 then (sFORME, s)
  else if s.power.overtemp then (sBUSY, s)
  else (sOK, (s.onUnit fun u => { u with runReq := true }).enterState .run)
/-- A CLE parameter, in its order among the inputs of the loop (08 R191, R208, R209): the mirror as the register; L_ENABLE
under its conditions, which makes the next evaluation a first one; structure only while the loop is disabled; a new
source has given nothing yet; host values as value tokens. -/
def State.writeCle (s : State) (id : Nat) (v : Int) : Nat × State :=
  let l := (id - 0x6000) / 0x40
  let o := id % 0x40
  let s1 := s.cleAhead l
  if o < 8 then
    if s.loopWriteOk l o v then (sOK, s.loopWrite l o v) else (sBAD, s)
  else if o = 0x10 then
    if v = 1 ∧ !s.loopEn l ∧ !s.enableOk l then (sBAD, s)
    else
      let s2 := if v = 1 then s1.onLoop l fun x => { x with first := true } else s1
      (sOK, ((s2.setLive id v).fgRefresh).doRefresh)
  else if o = 0x1A ∧ !inDst (s.pL l 0x13) v then (sBAD, s)
  else if o ≤ 0x1B then
    if s.loopEn l then (sBUSY, s)
    else
      let s2 := s1.setLive id v
      (sOK, if o = 0x11 then s2.onLoop l fun x => { x with y := {}, yOld := {} }
        else if o = 0x12 then s2.onLoop l fun x => { x with f := {}, fOld := {} } else s2)
  else
    let s2 := s1.setLive id v
    (sOK, if o = 0x1C ∧ s.pL l 0x18 = 1 ∧ s.pL l 0x11 / 4096 = 4 ∧ s.evaluating then s2.trigTok l 2 s.bmt 0x0A else s2)
/-- Lane parameters: a change of LN_ROLE or LN_RING restarts the lanes concerned; the others act on trips and groups
(17 R446). -/
def State.writeLane (s : State) (id : Nat) (v : Int) : State :=
  let was := s.parN id
  let s1 := s.setLive id v
  if id < 0xC004 then (if (was : Int) = v then s1 else (s1.lanesRestart fun l => decide (l = id - 0xC000)).peersRefresh)
  else if id = 0xC004 then
    (s1.lanesRestart fun l => decide (bitOf was (l / 2) ≠ bitOf v.toNat (l / 2))).peersRefresh
  else if 0xC010 ≤ id ∧ id < 0xC018 then ((s1.ftripApply 0).ftripApply 1).tripSync
  else s1.fgRefresh
/-- A change of the trust list ends the sessions that it no longer admits in their role (14 R372). -/
def State.trustCheck (s : State) (wasEmpty : Bool) : State :=
  s.host.sessions.foldl (fun a x =>
    let ok := (x.port = 2 && !wasEmpty && a.trustEmpty) || (a.admitRole x.port x.fp).any fun r => decide (x.role ≤ r)
    if ok then a else a.endSession x.sid 3 true) s
/-- A live parameter is written: the status, and what follows (15 R386). -/
def State.writeLive (s : State) (id : Nat) (v : Int) : Nat × State :=
  match id / 0x1000 with
  | 0 => if id = 0x10 then s.writeRun v else (sOK, (s.setLive id v).hlRefresh)
  | 6 => s.onLiveStations fun t => t.writeCle id v
  | 0xA => (sOK, (s.setLive id v).choose)
  | 0xC => (sOK, s.writeLane id v)
  | 0xD => (sOK, if 0xD100 ≤ id then (s.setLive id v).trustCheck s.trustEmpty else s.setLive id v)
  | _ => (sOK, s.setLive id v)
/-- PARAM_WRITEs that change the control path are recorded (16 Table 16.6). -/
def recordsPar (id : Nat) : Bool := id / 0x1000 = 0 || id / 0x1000 = 6 || id / 0x1000 = 0xC
/-- SV_SAFE_I ranges up to the channel's SV_IMAX (10 Table 10.5), which the open forme holds beside it. -/
def State.safeFits (s : State) (id : Nat) (v : Int) : Bool :=
  !(decide (0x8000 ≤ id ∧ id < 0x8100) && id % 0x20 = 2) ||
    decide (v ≤ ((s.sup.openF.map (·.forme)).getD s.sup.forme).par (id - 1))
def paramWriteBody (fl : Flight) (s : State) : Ans :=
  let id := argN fl.e 0 2
  match paramInfo id with
  | none => .bad s
  | some p =>
    let v : Int := if p.signed then argI fl.e 4 4 else argN fl.e 4 4
    if p.role = 0xFF ∨ !parInRange id p v ∨ !s.safeFits id v then .bad s
    else if p.forme then
      s.openWrite (fun o => { o with forme := o.forme.setPar id v, checked := none }) (le 2 id ++ [1, 0] ++ leI 4 v)
    else
      let r := s.writeLive id v
      if r.1 ≠ sOK then .err s r.1
      else
        let n := if id / 0x1000 = 6 then (r.2.loop ((id - 0x6000) / 0x40)).accN else 0
        let s1 := if recordsPar id then r.2.recHost fl.sid 0x11 id v n fl.e.args else r.2
        .ok s1 (le 2 id ++ [0, 0] ++ leI 4 (s1.parNow id p))
/-- PARAM_WRITE (15 R386). -/
def execParamWrite (dt f : Nat) (s : State) : Out := .next (runCmd 0x11 f paramWriteBody (s.elapse dt))

-- Station resets (15 R383; 14 R371; 20 R494) --------------------------------------------------------------

/-- The epoch of a station counts up. -/
def State.bumpEpoch (s : State) (st : Nat) : State := s.onUnit fun u => { u with epochs := u.epochs.modify st fun e => (e + 1) % 256 }
/-- Actions that wait in the station's inbox are discarded (03 Table 3.8). -/
def State.dropActions (s : State) (st : Nat) : State :=
  let mine (x : Firing) : Bool := decide (actionStation x.action x.index = st)
  (s.imp.inbox.filter mine).foldl (fun a x => a.reportAcc x.slot .discarded)
    (s.onImp fun i => { i with inbox := i.inbox.filter fun x => !mine x })
/-- What a station does when its reset begins; firings held back behind the full queue are lost and counted with those in
it (DESIGN CHOICE, log 76; 02 R66; 03 R91; 04 R109; 05 R131; 06 R161; 07 R181; 08 R213; 09 R242; 10
R265; 11 R291; 16 R422; 17 R449). -/
def State.stationStops (s : State) (st : Nat) : State :=
  match st with
  | 1 =>
    let s1 := if s.time.ma = .invalid then s else (s.holdBase 1).onTime fun t => { t with ma := .invalid, coastLeft := 0 }
    (List.range 4).foldl (fun a w => if a.pTw w 0 = 1 then a.wheelAcquire w else a) s1
  | 2 =>
    let lost := s.imp.queue.length + s.imp.held.length
    s.onImp fun i => { i with
      queue := [], held := [], wins := List.replicate 6 [], slots := []
      resetLoss := (i.resetLoss + lost) % 2 ^ 32, evt := if lost = 0 then i.evt else orBit i.evt 4 }
  | 3 => s.tmReset
  | 4 => s.ledgerReset
  | 9 => s.picaReset
  | 0xA => s.cleReset
  | 0x11 => s.valveReset
  | 0x12 => s.dioReset
  | 0x14 => s.abortCopies fun _ => true
  | 0x15 => s
  | _ =>
    if st ≤ 8 then
      let g := st - 5
      (s.onGroup g fun x => { x with phase := .idle, idx := 0, preFail := false, pended := none }).onProbe fun p =>
        { p with chans := p.chans.mapIdx fun n c => if n / 16 = g then clearBlk c else c }
    else s.driveReset (st - 0x0B)
/-- What a station does when it is back, under its new epoch. -/
def State.stationStarts (s : State) (st : Nat) : State :=
  match st with
  | 1 => s.maReturn
  | 2 => s.applySlots none (s.formeOf 2)
  | 3 => s.applyTimers none (s.formeOf 3)
  | 4 => s.onToks fun t => t.filter fun x => x.cons ≠ 1
  | 9 => s.picaBack
  | 0xA => s.onToks fun t => t.filter fun x => x.cons < 2
  | 0x11 => s.valveBack
  | 0x12 => s
  | 0x14 => s
  | 0x15 =>
    let n := s.lane.cells
    let s1 := n.foldl (fun a c => a.onLaneAt (laneOf c.station) fun x => { x with retx := incW 32 x.retx }) s
    s1.onLane fun l => { l with
      cells := l.cells.map fun c => { c with sentMt := s.now }
      nodes := l.nodes.map fun p => (p.1, { p.2 with seenMt := max p.2.seenMt s.now }) }
  | _ => if st ≤ 8 then (if (s.group (st - 5)).phase = .idle then s.endPass (st - 5) (s.now - 1) else s) else s.settleDrive (st - 0x0B)
/-- Commands that the reset of a station finds executing there complete with TARGET_RESET; a fault scan with ABORTED
(14 R371; 11 R291). -/
def State.breakFlights (s : State) (st own : Nat) : State :=
  let status (fl : Flight) : Nat := if fl.e.op = 0x60 then sABORT else sTRESET
  (s.host.flights.filter fun x => x.e.target = st && x.started && decide (x.f ≠ own)).foldl
    (fun a x => a.complete x.f (status x)) s
/-- The station's registers as they read now (20 R494). -/
def State.frozenRegs (s : State) (st : Nat) : Sparse Nat := (stationRegs st).map fun a => (a, s.regVal 0 false a)
/-- A station reset begins. -/
def State.startReset (s : State) (st f : Nat) : State :=
  let r : Resetting := { station := st, startMt := s.now, oldEpoch := s.epochOf st, flight := some f, regs := s.frozenRegs st }
  let s1 := s.onSup fun u => { u with resets := u.resets ++ [r] }
  ((s1.stationStops st).breakFlights st f).dropActions st
def stationResetBody (fl : Flight) (s : State) : Ans :=
  if s.sup.quoin.isSome then .err s sBUSY else .later (s.startReset fl.e.target fl.f)
/-- STATION_RESET (15 R383). -/
def execStationReset (dt f : Nat) (s : State) : Out := .next (runCmd 0x89 f stationResetBody (s.elapse dt))
/-- STATION_RETURN: the station is back; waiting commands' HL_CMD_TMO has not run (14 R371; 15 R383). -/
def execStationReturn (dt st : Nat) (s0 : State) : Out :=
  let s := s0.elapse dt
  match s.sup.resets.find? fun r => r.station = st with
  | none => .next s
  | some r =>
    let s1 := (s.onSup fun u => { u with resets := u.resets.filter fun x => x.station ≠ st }).bumpEpoch st
    let s2 := s1.waitersBack st r.startMt
    let s3 := (s2.stationStarts st).record 0x0B 2 [(st + 256 * s2.epochOf st : Nat)]
    match r.flight with
    | some f => .next (s3.complete f sOK ([r.oldEpoch, s3.epochOf st] ++ le 4 (rdiv ((s.now - r.startMt : Nat) : Int) (Config.us : Nat)).toNat))
    | none => .next s3

-- Unit reset (15 R384) ------------------------------------------------------------------------------------

def State.endAll (s : State) (reason : Nat) : State := s.host.sessions.foldl (fun a x => a.endSession x.sid reason true) s
/-- UNIT_RESET: the completion, SESSION_CLOSE on every session, and the reset, in one step (15 R384). -/
def execUnitReset (dt f : Nat) (s0 : State) : Out :=
  let s := s0.elapse dt
  match s.flight? f with
  | none => .next s
  | some fl =>
    if !fl.started ∨ fl.e.op ≠ 0x8A then .next s
    else if argN fl.e 0 2 ≠ 0xA5C3 then .next (s.complete f sBAD)
    else .next (((s.complete f sOK).endAll 2).resetNow 2 fl.sid)

-- Firmware update (15 R393 to R396; 17 R443) --------------------------------------------------------------

/-- A scheduled UPDATE_COMMIT is withdrawn. -/
def State.withdrawCommit (s : State) : State :=
  match s.sup.commit with
  | some (_, f) => (s.onSup fun u => { u with commit := none }).complete f sABORT
  | none => s
/-- What is staged for a target: the unit, or a node. -/
def State.stagedOf (s : State) (t : Nat) : Staged := if t = 0 then s.sup.staged else spGetD {} s.sup.nodeImg t
def State.setStaged (s : State) (t : Nat) (g : Staged) : State :=
  s.onSup fun u => if t = 0 then { u with staged := g } else { u with nodeImg := spPut u.nodeImg t g }
/-- A node that takes updates: mapped, and no unit (17 R443). -/
def State.nodeTakes (s : State) (t : Nat) : Bool := t = 0 || ((s.node t).mapped && !(s.node t).info.peer)
def updateStageBody (fl : Flight) (s : State) : Ans :=
  let off := argN fl.e 0 4
  let n := argN fl.e 4 2
  let t := fl.e.target
  if n = 0 ∨ 48 < n ∨ !s.nodeTakes t ∨ (off ≠ 0 ∧ off ≠ (s.stagedOf t).bytes) ∨ 33554432 < off + n then .bad s
  else if t = 0 then .ok (s.withdrawCommit.setStaged 0 { bytes := off + n }) []
  else .later (s.onLane fun l => { l with
    cells := l.cells ++ [{ station := t, cseq := l.nextCell, flight := some fl.f, bulk := true, sentMt := s.now, tries := 0 }]
    nextCell := incW 16 l.nextCell })
/-- UPDATE_STAGE (15 R393, 17 R443). -/
def execUpdateStage (dt f : Nat) (s : State) : Out := .next (runCmd 0x90 f updateStageBody (s.elapse dt))
/-- The verdict on a staged image: 0 VALID, 1 INCOMPLETE, 2 SIGNATURE, 3 ROLLBACK, 4 HARDWARE, 5 FORMAT, 6 TARGET; the
header first, then what it describes (15 R394). -/
def verdictOf (g : Staged) (img : ImageInfo) (counter : Nat) : Nat :=
  if g.bytes = 0 then 1
  else if !img.formatOk then 5
  else if !img.targetOk then 6
  else if !img.complete then 1
  else if !img.sigOk then 2
  else if img.rollback < counter then 3
  else if !img.hwOk then 4
  else 0
def updateCheckBody (img : ImageInfo) (fl : Flight) (s : State) : Ans :=
  let t := fl.e.target
  if !s.nodeTakes t then .bad s
  else
    let g := s.stagedOf t
    let v := verdictOf g img s.unit.rollback
    let s1 := s.setStaged t { g with verdict := some v, img }
    .ok s1 ([v, img.version / 65536 % 256, img.version / 256 % 256, img.version % 256] ++ le 4 img.length ++ le 2 img.rollback ++
      le 2 s.unit.rollback ++ le 4 g.bytes ++ le 2 img.controlRev)
/-- UPDATE_CHECK; what the header and the signature hold comes with it (15 R394). -/
def execUpdateCheck (dt f : Nat) (img : ImageInfo) (s : State) : Out := .next (runCmd 0x91 f (updateCheckBody img) (s.elapse dt))
def updateCommitBody (fl : Flight) (s : State) : Ans :=
  let t := fl.e.target
  let at_ := if bitOf (argB fl.e 0) 0 then argN fl.e 8 8 else s.now
  if !s.nodeTakes t ∨ (s.stagedOf t).verdict ≠ some 0 ∨ s.now + 3600 * Config.sec < at_ then .bad s
  else if s.sup.quoin.isSome then .err s sBUSY
  else if t = 0 then .later (s.withdrawCommit.onSup fun u => { u with commit := some (at_, fl.f) })
  else
    let due := decide (at_ ≤ s.now)
    let s1 := s.onNode t fun n => { n with
      st := if due then .updating else n.st, sinceMt := max s.now at_, wasEpoch := n.info.epoch, flight := some fl.f }
    .later (if due then s1.breakNode t (some fl.f) else s1)
/-- UPDATE_COMMIT: it completes at the restart; a node's when the node is back on the new image (15 R395, 17 R443). -/
def execUpdateCommit (dt f : Nat) (s : State) : Out := .next (runCmd 0x92 f updateCommitBody (s.elapse dt))
def updateAbortBody (fl : Flight) (s : State) : Ans :=
  let t := fl.e.target
  if !s.nodeTakes t then .bad s
  else if t = 0 then .ok (s.withdrawCommit.setStaged 0 {}) []
  else .ok (s.onSup fun u => { u with nodeImg := spErase u.nodeImg t }) []
/-- UPDATE_ABORT (15 R395). -/
def execUpdateAbort (dt f : Nat) (s : State) : Out := .next (runCmd 0x93 f updateAbortBody (s.elapse dt))
/-- UPDATE_RESTART: the commit is due; its completion, SESSION_CLOSE with reason 2, and the supervisor restarts (15 R395;
14 R374; 13 Table 13.6). -/
def execUpdateRestart (dt : Nat) (s0 : State) : Out :=
  let s := s0.elapse dt
  match s.sup.commit with
  | none => .next s
  | some (m, f) =>
    if s.now < m ∨ s.sup.quoin.isSome ∨ !(s.isSt .standby || s.isSt .run || s.isSt .proofHold) then .next s
    else
      let s1 := ((((s.onSup fun u => { u with commit := none }).complete f sOK).endAll 2).muxOff).dropForme
      let s2 := s1.onHost fun h => { h with shakes := [] }
      let s3 := (s2.onUnit fun u => { u with updHold := s.isSt .proofHold }).onPower fun p => { p with updMt := s.now }
      .next (s3.enterState .update)
/-- Commands in flight complete with TARGET_RESET and the new supervisor epoch; nothing waits for them any more (14
R374). -/
def State.flightsEnd (s : State) : State :=
  let s1 := s.onStore fun r => { r with copies := [] }
  let s2 := s1.onDio fun d => { d with scan := d.scan.map fun x => { x with flight := none } }
  let s3 := s2.onPica fun p => { p with ports := p.ports.map fun x => { x with enumF := none } }
  let s4 := s3.onLane fun l => { l with
    cells := l.cells.filter fun c => c.flight.isNone
    nodes := l.nodes.map fun p => (p.1, { p.2 with flight := none }) }
  let s5 := s4.onSup fun u => { u with resets := u.resets.map fun r => { r with flight := none } }
  let fin (a : State) (fl : Flight) : State :=
    let c := { completionOf a fl sTRESET [] with epoch := a.epochOf 0 }
    let a1 := match a.queue? fl.sq with
      | some q => a.onQueue q.cq fun x => qPush x (.comp c (bitOf fl.e.flags 1)) a.now
      | none => a
    a1.auditCmd fl sTRESET
  s5.host.flights.foldl fin (s5.onHost fun h => { h with flights := [] })
/-- Queues on the supervisor's return: unfetched entries are discarded and counted, all are ORPHAN, and HL_LINGER runs
from now (14 R374). -/
def State.queuesBack (s : State) : State :=
  s.onHost fun h => { h with
    queues := h.queues.map fun q =>
      if q.num < 512 then
        { q with discard := (q.discard + q.ring.length) % 2 ^ 32, ring := [], head := q.w, tail := q.w, orphan := true, paused := false }
      else { q with orphan := true }
    lingers := h.lingers.map fun l => { l with untilMt := s.now + l.len * Config.sec } }
/-- The new image runs: its version, its CONTROL_REV, and the rollback counter (15 R396; 16 R415). -/
def State.newImage (s : State) : State :=
  let g := s.sup.staged.img
  ((s.onUnit fun u => { u with fw := g.version, controlRev := g.controlRev, rollback := max u.rollback g.rollback }).onSup fun u =>
    { u with staged := {} }).record 0x0B 4 [(g.controlRev : Nat)]
/-- Proof runs in full after an UPDATE from PROOF_HOLD, without a unit-level reset; proof slugs that were still held in
staging are lost, and those of this proof are held until its stage 8 passes (13 Table 13.6, R329; 16 R408). -/
def State.proofAgain (s : State) : State :=
  ((s.enterState .proof).onPower fun p => { p with
    stage := 0, pass := false, fail := false, recovery := false, failed := 0, waitVin := false, proofMs := 0
    res := List.replicate 9 {} }).onStore fun r =>
      if r.proofHeld then { r with staging := [], tripQ := [], partMt := none } else { r with proofHeld := true }
/-- SUPERVISOR_RETURN (14 R374; 13 Table 13.6; 12 R304). -/
def execSupervisorReturn (dt : Nat) (s0 : State) : Out :=
  let s := s0.elapse dt
  if !s.isSt .update then .next s
  else
    let s1 := (((s.bumpEpoch 0).flightsEnd).queuesBack).newImage
    let s2 := s1.hlBack.onPower fun p => { p with beat := s.now }
    .next (if s.unit.updHold then s2.proofAgain else s2.enterState .standby)

end Sys2Proof.Machine
end

