-- ==== Sys2Proof/Machine/Forme.lean ====
section
/-! DEFINITION. Formes (15): opening, writing, FORME_CHECK with every station's checks, QUOIN with its boundary and
changeover, and discarding. -/

namespace Sys2Proof.Machine

-- What FORME_CHECK finds (15 R389, Table 15.8) ------------------------------------------------------------

/-- One failure: item 0 parameter, 1 register, 2 record; its ID, address or index; record kind; checking station. -/
structure Fail where
  item : Nat
  id : Nat
  kind : Nat
  station : Nat
  deriving DecidableEq, Repr

def failP (st id : Nat) (b : Bool) : List Fail := if b then [{ item := 0, id, kind := 0, station := st }] else []
def failW (a : Nat) (b : Bool) : List Fail := if b then [{ item := 1, id := a, kind := 0, station := 3 }] else []
def failR (st kind idx : Nat) (b : Bool) : List Fail := if b then [{ item := 2, id := idx, kind, station := st }] else []
/-- Strictly increasing. -/
def rising : List Int → Bool
  | a :: b :: r => decide (a < b) && rising (b :: r)
  | _ => true
/-- The slots of a forme with their entries; a slot left at zero passes every check. -/
def Forme.slots (fm : Forme) : List (Nat × SlotEntry) := (formeSlots fm).map fun n => (n, slotOf (fm.rec_ 0x20 n))
/-- A live parameter, of the live unit in REPRINT too. -/
def State.liveOwn (s : State) (id : Nat) : Nat := ((spGet s.sup.live id).getD (((paramInfo id).map (·.dflt)).getD 0)).toNat
/-- The enabled loops. -/
def State.onLoops (s : State) : List Nat := (List.range 48).filter fun l => s.liveOwn (0x6010 + 0x40 * l) = 1
def State.ownDst (s : State) (l : Nat) : Nat := s.liveOwn (0x6013 + 0x40 * l)

/-- Station 0x01 (02 R64). -/
def checkTime (fm : Forme) : List Fail :=
  failP 1 0x1002 (fm.parN 0x1002 = 0 && fm.parN 0x1001 = 0) ++
    (List.range 4).flatMap fun w =>
      let p (o : Nat) : Nat := fm.parN (0x1100 + 0x20 * w + o)
      failP 1 (0x1104 + 0x20 * w) (decide (p 4 ≤ 2 * (2 * p 0x0B + p 5)))
/-- An action of Table 3.3: its INDEX range and its arguments (03 R73). -/
def actionOk (e : SlotEntry) : Bool :=
  let none' := decide (e.argA = 0 ∧ e.argB = 0)
  match e.action with
  | 0 => e.index = 0 && none'
  | 1 => decide (e.index ≤ 3) && none'
  | 2 => decide (e.index ≤ 47) && none'
  | 3 => decide (e.index ≤ 23) && none'
  | 4 => decide (e.index ≤ 23) && none'
  | 5 => decide (e.index ≤ 23 ∧ 1 ≤ e.argA ∧ e.argB = 0)
  | 6 => decide (e.index ≤ 31) && none'
  | 7 => decide (e.index ≤ 31) && none'
  | 8 => decide (e.index ≤ 3) && none'
  | 9 => decide (e.index ≤ 127)
  | 0x0A => decide (e.index ≤ 7) && none'
  | _ => false
def isDo (e : SlotEntry) : Bool := decide (3 ≤ e.action ∧ e.action ≤ 5)
/-- An EVENT slot's target and REPEAT; a qualifier that selects nothing fails (03 R76, Table 3.4). -/
def eventOk (e : SlotEntry) : Bool :=
  let i := e.target / 256 % 256
  let q := e.target / 65536 % 256
  e.rep = 0 &&
    (match e.target % 256 with
     | 0 => decide (i ≤ 4) && !bitOf q 3 && decide (q < 64) && (bitOf q 4 || bitOf q 5) && (decide (3 ≤ i) || decide (q % 8 ≠ 0))
     | 1 => decide (i ≤ 31 ∧ 1 ≤ q ∧ q ≤ 3)
     | 2 => decide (i ≤ 31 ∧ q = 0)
     | _ => false)
/-- Station 0x02 (03 R70, R72 to R74, R76). -/
def checkSlot (fm : Forme) (n : Nat) (e : SlotEntry) : List Fail :=
  let f := failR 2 0x20 n
  f (!slotReservedOk e) ++ f (decide (e.base < 6 ∧ e.rep = 0 ∧ 1 < e.count)) ++ f (!actionOk e) ++
    f (isDo e && decide (leadOf (fm.parN (0x9200 + e.index / 4)) e.index ≠ e.index)) ++ f (e.base = 6 && !eventOk e)
def checkImp (fm : Forme) : List Fail := fm.slots.flatMap fun p => checkSlot fm p.1 p.2
/-- Station 0x03 (04 R103). -/
def checkTimer (fm : Forme) (n : Nat) : List Fail :=
  let c := tmCfgOf (fm.tmCfg n)
  let f := failW (0x500 + 4 * n)
  f (c.src = 3 && decide (n ≤ c.idx)) ++ f (c.src = 1 && decide (3 < c.idx) || c.rstSrc = 1 && decide (3 < c.rstIdx)) ++
    f (c.edge = 3 || c.rstEdge = 3) ++ f (decide (c.rstSrc ≠ 0) != decide (c.mode = 3) || c.rstSrc = 3) ++
    f (c.auto && c.mode ≠ 2 && fm.tmReload n = 0)
def checkTimers (fm : Forme) : List Fail := (List.range 32).flatMap (checkTimer fm)
/-- The LEDGER_SHIFT slots of a column. -/
def Forme.shiftSlots (fm : Forme) (c : Nat) : List (Nat × SlotEntry) :=
  fm.slots.filter fun p => p.2.action = 8 && p.2.index = c
/-- A volume in mL as position units of a wheel (02 R56). -/
def volUnits (ml cal : Nat) : Nat := (rdiv (ml * 2 ^ 24 : Nat) cal).toNat
/-- A condition of a batch step: its kind, operand and value (05 Table 5.4). -/
def condOk (b : List Nat) : Bool :=
  let o := b.getD 1 0
  let v := numAt b 4 4
  match b.getD 0 0 with
  | 0 => o = 0 && v = 0
  | 1 => o = 0
  | 2 => decide (o ≤ 15)
  | 3 => decide (o ≤ 15)
  | 4 => decide (o ≤ 3)
  | 5 => decide (o ≤ 31 ∧ v = 0)
  | 6 => decide (o ≤ 31 ∧ v = 0)
  | 7 => o = 0 && v = 0
  | _ => false
/-- A batch step record: its fields, and the steps it names (05 R128, Table 5.3). -/
def checkStep (fm : Forme) (k : Nat) : List Fail :=
  let b := bstepOf (fm.rec_ 0x30 k)
  let f := failR 4 0x30 k
  let next (x : Nat) : Bool := decide (x < 16 ∨ x = 0xFF)
  f (!(next b.nextA && next b.nextB)) ++
    f (if b.typ = 6 then decide (k % 16 ≤ b.jmp ∨ b.rpt = 0) else decide (b.rpt ≠ 0 ∨ b.jmp ≠ 0)) ++
    f (decide (6 < b.typ) || !condOk b.a || !condOk b.b)
/-- The steps that a forme holds as something else than zero. -/
def Forme.recKeys (fm : Forme) (kind : Nat) : List Nat :=
  (fm.recs.filter fun p => decide (p.1 / 65536 = kind)).map fun p => p.1 % 65536
/-- Station 0x04 (01 R22; 05 R110, R128). -/
def checkCol (fm : Forme) (c : Nat) : List Fail :=
  let id (o : Nat) : Nat := 0x3000 + 0x40 * c + o
  let p (o : Nat) : Nat := fm.parN (id o)
  let mine := fm.shiftSlots c
  let moist (w : Nat) : Bool := w / 4096 = 1 && fm.parN (0x4000 + 0x10 * (w % 64)) ≠ 6
  let before (o x : Nat) : Bool := (List.range c).any fun d => fm.parN (0x3000 + 0x40 * d + o) = x
  let used (d : Nat) : Bool := fm.parN (0x3000 + 0x40 * d) ≠ 0
  failP 4 (id 1) (used c && (List.range c).any fun d => used d && fm.parN (0x3001 + 0x40 * d) = p 1) ++
    (if p 0 = 1 then
      failP 4 (id 0) (decide (mine.length ≠ 1)) ++
        mine.flatMap fun m => failR 4 0x20 m.1 (decide (m.2.base ≠ 2 + p 1 ∨ m.2.count ≠ 0 ∨
          m.2.rep ≠ volUnits (p 3) (fm.parN (0x110E + 0x20 * p 1))))
     else []) ++
    failP 4 (id 5) (decide (p 5 < p 4 ∨ p 2 < p 5)) ++
    failP 4 (id 6) (decide (p 2 ≤ p 6 ∨ p 6 < p 7)) ++
    failP 4 (id 9) (moist (p 9)) ++ failP 4 (id 0x0B) (moist (p 0x0B)) ++
    failP 4 (id 8) (p 8 ≠ 0xFF && before 8 (p 8)) ++ failP 4 (id 0x16) (p 0x16 ≠ 0xFF && before 0x16 (p 0x16)) ++
    (fm.slots.filter fun m => isDo m.2 && bitOf (p 0x17) m.2.index).flatMap fun m => failR 4 0x20 m.1 true
def checkLedger (fm : Forme) : List Fail :=
  (List.range 4).flatMap (checkCol fm) ++ (fm.recKeys 0x30).flatMap (checkStep fm)
/-- A channel that cannot be read by itself (06 R138). -/
def chDead (fm : Forme) (ch : Nat) : Bool := let m := fm.parN (0x4000 + 0x10 * ch); m = 0 || m = 7
def rtdMode (m : Nat) : Bool := m = 1 || m = 2
/-- A group's list names a channel (06 R146). -/
def listed (fm : Forme) (ch : Nat) : Bool :=
  (List.range (fm.parN (0x4403 + 0x40 * (ch / 16)))).any fun i => fm.parN (0x4410 + 0x40 * (ch / 16) + i) = ch
/-- One probe channel (06 R156). -/
def checkChan (fm : Forme) (n : Nat) : List Fail :=
  let id (o : Nat) : Nat := 0x4000 + 0x10 * n + o
  let p (o : Nat) : Nat := fm.parN (id o)
  let m := p 0
  let st := 5 + n / 16
  let t := 0x4800 + 0x40 * p 0x0B
  let four (k : Nat) : Bool := rtdMode (fm.parN (0x4000 + 0x10 * k)) && fm.parN (0x4001 + 0x10 * k) = 4
  failP st (id 1) (four n && (n % 2 = 1 || fm.parN (0x4010 + 0x10 * n) ≠ 7)) ++
    failP st (id 0) (m = 7 && (n % 2 = 0 || !four (n - 1))) ++
    failP st (id 1) (decide (3 ≤ m ∧ m ≤ 6 ∧ p 1 ≠ 2)) ++
    failP st (t + 0x10) (m = 6 && !rising ((List.range (fm.parN t)).map fun i => fm.par (t + 0x10 + i))) ++
    failP st (id 5) (m = 5 && p 5 = 1)
/-- One group's sequencer and channels (06 R156). -/
def checkGroup (fm : Forme) (g : Nat) : List Fail :=
  let b := 0x4400 + 0x40 * g
  let len := fm.parN (b + 3)
  let free := decide (fm.parN (b + 1) = 1)
  let timer := decide (fm.parN (b + 2) ≠ 0xFF)
  let trig := fm.slots.any fun m => m.2.action = 1 && m.2.index = g
  ((List.range len).flatMap fun i =>
      let ch := fm.parN (b + 0x10 + i)
      failP (5 + g) (b + 0x10 + i) (decide (ch / 16 ≠ g) || chDead fm ch)) ++
    ((List.range 16).flatMap fun k => checkChan fm (16 * g + k)) ++
    failP (5 + g) (b + 1) (free && (timer || trig)) ++ failP (5 + g) (b + 3) (len = 0 && (free || timer || trig))
/-- The port slot that a Pica source names (07 R179, Table 7.5). -/
def srcSlot (w : Nat) : Nat := let st := w / 65536 % 256; let p := w / 256 % 8; if st = 9 then p else 8 + 8 * (st - 0x20) + p
/-- One source of a zone; an OFF channel that its group's list names has failed there already (07 R179; 15, Example). -/
def srcBad (fm : Forme) (w : Nat) : Bool :=
  match w / 0x10000000 with
  | 1 => let m := fm.parN (0x4000 + 0x10 * (w % 64)); (decide (m = 0 ∨ 3 < m)) && !(m = 0 && listed fm (w % 64))
  | 2 => decide (fm.parN (0x5003 + 4 * srcSlot w) / 256 ≤ w % 64)
  | _ => false
/-- One zone that is not OFF (07 R179). -/
def checkZone (fm : Forme) (z : Nat) : List Fail :=
  let b := 0x5800 + 0x40 * z
  let p (o : Nat) : Nat := fm.parN (b + o)
  if p 0 = 0 then []
  else
    failP 9 (b + 2) (decide (p 2 = 0 ∨ p 1 < p 2)) ++
      failP 9 (b + 8) (!rising ((List.range (p 5)).map fun i => fm.par (b + 8 + i))) ++
      (List.range (p 1)).flatMap fun i =>
        let w := p (0x20 + i)
        failP 9 (b + 0x20 + i) (srcBad fm w) ++
          failP 9 (b + 0x20 + i) (w ≠ 0 && (List.range i).any fun j => p (0x20 + j) = w)
/-- One point map (07 R179). -/
def hasTwice : List Nat → Bool
  | [] => false
  | a :: r => r.contains a || hasTwice r
def checkMap (fm : Forme) (sl : Nat) : List Fail := failR 9 0x51 sl (hasTwice (fm.picaMap sl))
/-- The port slots whose PC_NMAP a forme sets. -/
def Forme.mapSlots (fm : Forme) : List Nat :=
  (fm.params.filter fun p => decide (0x5000 ≤ p.1 ∧ p.1 < 0x57A0 ∧ p.1 % 4 = 3)).map fun p => (p.1 - 0x5000) / 4
def checkPica (fm : Forme) : List Fail := (List.range 16).flatMap (checkZone fm) ++ fm.mapSlots.flatMap (checkMap fm)
/-- An enabled loop whose destination or source the new settings do not accept (15 R389; 08 R199, R208). -/
def checkLoop (fm : Forme) (s : State) (l : Nat) : List Fail :=
  let d := s.ownDst l
  let f := fm.parN (0x9100 + 8 * (d % 64))
  let src (w : Nat) (probe zone wheel : Nat) : List Fail :=
    let i := w % 64
    if w / 4096 = probe then failP 0x0A (0x4000 + 0x10 * i) (chDead fm i)
    else if w / 4096 = zone then failP 0x0A (0x5800 + 0x40 * i) (fm.parN (0x5800 + 0x40 * i) = 0)
    else if w / 4096 = wheel then failP 0x0A (0x1100 + 0x20 * i) (fm.parN (0x1100 + 0x20 * i) = 0)
    else []
  failP 0x0A (0x9100 + 8 * (d % 64)) (d / 4096 = 3 && f ≠ 4 || d / 4096 = 4 && f ≠ 3) ++
    src (s.liveOwn (0x6011 + 0x40 * l)) 1 2 3 ++ src (s.liveOwn (0x6012 + 0x40 * l)) 2 3 16
/-- The used skip bands of a drive (09 R223). -/
def bandsOf (fm : Forme) (n : Nat) : List (Nat × Nat × Nat) :=
  ((List.range 4).map fun i => (i, fm.parN (0x7010 + 0x40 * n + 2 * i), fm.parN (0x7011 + 0x40 * n + 2 * i))).filter
    fun b => decide (b.2.1 ≠ 0 ∨ b.2.2 ≠ 0)
/-- One drive (09 R238). -/
def checkDrive (fm : Forme) (n : Nat) : List Fail :=
  let b := 0x7000 + 0x40 * n
  let g := 0x7200 + 0x20 * fm.parN (b + 1)
  let bands := bandsOf fm n
  (bands.flatMap fun x =>
      let f := failP (0x0B + n) (b + 0x10 + 2 * x.1)
      f (decide (x.2.2 ≤ x.2.1)) ++
        f (bands.any fun y => decide (y.1 < x.1 ∧ x.2.1 < y.2.2 ∧ y.2.1 < x.2.2)) ++
        f ([fm.parN (g + 2), fm.parN (g + 3), 10000].any fun v => decide (x.2.1 < v ∧ v < x.2.2))) ++
    failP (0x0B + n) (b + 9) (fm.parN (b + 3) = 0 && decide (fm.parN (b + 9) < fm.parN (b + 2)))
/-- The groups and the FTRIP masks (09 R238). -/
def checkFanGroup (fm : Forme) (s : State) (g : Nat) : List Fail :=
  let b := 0x7200 + 0x20 * g
  failP 0x0B (b + 2) (decide (fm.parN (b + 3) < fm.parN (b + 2))) ++
    failP 0x0B (b + 4) (decide (10000 < fm.parN (b + 4) + 200)) ++
    failP 0x0B b (decide (2 ≤ (s.onLoops.filter fun l => s.ownDst l = 0x2000 + g).length))
def checkFans (fm : Forme) (s : State) : List Fail :=
  let both := fm.parN 0x7302 &&& fm.parN 0x7303
  (List.range 6).flatMap (checkDrive fm) ++ (List.range 4).flatMap (checkFanGroup fm s) ++
    failP 0x0B 0x7302 (decide (both / 64 % 4 ≠ 0 ∨ 65536 ≤ both))
/-- One valve channel (10 R261); energies are compared exactly, in half units of 10^-6 µJ. -/
def checkValve (fm : Forme) (s : State) (n : Nat) : List Fail :=
  let b := 0x8000 + 0x20 * n
  let p (o : Nat) : Nat := fm.parN (b + o)
  let e := p 3 * p 0x0A * p 0x0A
  let f := fm.parN 0x1000 * p 8
  failP 0x11 (b + 0x0C) (decide (p 0x0A < p 0x0C)) ++
    failP 0x11 (b + 0x0A) (decide (p 1 < p 0x0A)) ++ failP 0x11 (b + 2) (decide (p 1 < p 2)) ++
    failP 0x11 (b + 0x0D) (p 0x0D ≠ 0xFF && p 0 ≠ 2) ++
    failP 0x11 (b + 7) (p 7 = 1 && decide (f < 25 * p 9 ∨ 400 * p 9 < f)) ++
    failP 0x11 (b + 3) (p 0 = 2 && (((epcClass s.unit.straps.epc).any fun c => decide (2000000 * c < e)) ||
      decide (2000000 * admitLimit 3300 < e))) ++
    failP 0x11 b (decide (p 0 ≠ 1) && s.onLoops.any fun l => s.ownDst l = 0x1000 + n)
/-- One output (11 R288). -/
def checkDo (fm : Forme) (n : Nat) : List Fail :=
  let b := 0x9100 + 8 * n
  let p (o : Nat) : Nat := fm.parN (b + o)
  let member := decide (leadOf (fm.parN (0x9200 + n / 4)) n ≠ n)
  ((List.range 5).flatMap fun k => failP 0x12 (b + k) (member && fm.par (b + k) ≠ ((paramInfo (b + k)).map (·.dflt)).getD 0)) ++
    failP 0x12 (b + 4) (decide (p 3 < 2 * p 4))
def checkDio (fm : Forme) : List Fail :=
  ((List.range 32).flatMap fun n =>
      let b := 0x9000 + 4 * n
      failP 0x12 (b + 2) (decide (fm.parN (b + 1) ≤ fm.parN (b + 2))) ++
        failP 0x12 (b + 1) (decide (fm.parN (b + 3) < fm.parN (b + 1)))) ++
    (List.range 24).flatMap (checkDo fm) ++
    (fm.slots.filter fun m => isDo m.2 && decide (fm.parN (0x9100 + 8 * m.2.index) ≠ 1)).flatMap (fun m => failR 0x12 0x20 m.1 true) ++
    (List.range 4).flatMap fun c => failP 0x12 (0x3017 + 0x40 * c)
      ((List.range 24).any fun n => bitOf (fm.parN (0x3017 + 0x40 * c)) n && fm.parN (0x9100 + 8 * n) ≠ 2)
/-- Every check that the station chapters state, by station (15 R389). -/
def State.formeFails (s : State) (fm : Forme) : List Fail :=
  checkTime fm ++ checkImp fm ++ checkTimers fm ++ checkLedger fm ++ (List.range 4).flatMap (checkGroup fm) ++
    checkPica fm ++ s.onLoops.flatMap (checkLoop fm s) ++ checkFans fm s ++ (List.range 8).flatMap (checkValve fm s) ++ checkDio fm

-- The content of a forme ----------------------------------------------------------------------------------

/-- What two formes hold differently: the stations changed (15 Table 15.8 byte 12). -/
def stationsChanged (a b : Forme) : Nat :=
  let par (k : Nat) : Bool :=
    (a.params.filter fun p => decide (p.1 / 0x1000 = k)) ≠ b.params.filter fun p => decide (p.1 / 0x1000 = k)
  let recs (k : Nat) : Bool :=
    (a.recs.filter fun p => decide (p.1 / 65536 = k)) ≠ b.recs.filter fun p => decide (p.1 / 65536 = k)
  ofBits [par 1, par 2 || recs 0x20 || a.ws ≠ b.ws, par 4, par 5 || recs 0x51, par 3 || recs 0x30, par 7, par 8, par 9]
/-- A forme's content as one list, over which the check code is taken (log 7). -/
def Forme.content (fm : Forme) : List Int :=
  (fm.params.flatMap fun p => [(p.1 : Int), p.2]) ++ (fm.ws.flatMap fun p => [(p.1 : Int), (p.2 : Int)]) ++
    fm.recs.flatMap fun p => (p.1 : Int) :: p.2.map Int.ofNat
def Forme.code (fm : Forme) : BitVec 32 := Config.formeCrc fm.content

-- Commands (15 R387 to R389) ------------------------------------------------------------------------------

def openResult (o : OpenForme) : List Nat := le 4 o.baseGen ++ le 2 o.opener
def formeOpenBody (fl : Flight) (s : State) : Ans :=
  if 1 < argB fl.e 0 then .bad s
  else match s.sup.openF with
    | some o => .done s sBUSY (openResult o)
    | none =>
      let inForce := decide (argB fl.e 0 = 0 ∧ s.sup.gen ≠ 0)
      let o : OpenForme := { forme := if inForce then s.sup.forme else {}, baseGen := if inForce then s.sup.gen else 0, opener := fl.sid }
      .ok (s.onSup fun u => { u with openF := some o }) (openResult o)
/-- FORME_OPEN (15 R387). -/
def execFormeOpen (dt f : Nat) (s : State) : Out := .next (runCmd 0x18 f formeOpenBody (s.elapse dt))
/-- Size and count of a record kind (15 Table 15.7). -/
def recKind (kind : Nat) : Option (Nat × Nat) :=
  match kind with | 0x20 => some (32, 4096) | 0x30 => some (32, 64) | 0x51 => some (384, 488) | _ => none
/-- A span put into a record; the other bytes stay (15 R388). -/
def putSpan (old : List Nat) (off : Nat) (data : List Nat) : List Nat := old.take off ++ data ++ old.drop (off + data.length)
/-- Byte `j` of a record holds no reserved bit, as the record's other bytes define it: the fields of a slot by its base,
MODE and action, those of a batch condition by its kind (00 R8; 03 Tables 3.2 to 3.4; 05 Table 5.4; DEDUCED, log 48). -/
def recFits (kind : Nat) (b : List Nat) (j : Nat) : Bool :=
  let at_ (i : Nat) : Nat := b.getD i 0
  let condFree (c : Nat) : Bool :=
    (j = c + 1 && [0, 1, 7].contains (at_ c)) || (decide (c + 4 ≤ j ∧ j < c + 8) && [0, 5, 6, 7].contains (at_ c))
  let unused := condFree 12 || condFree 20 || (decide (30 ≤ j) && at_ 0 ≠ 6)
  if kind = 0x20 then at_ j &&& slotUsed at_ j = at_ j
  else if kind = 0x30 then at_ j &&& recReserved kind j = 0 && (!unused || at_ j = 0)
  else true
def formeWriteBody (fl : Flight) (s : State) : Ans :=
  let kind := argB fl.e 0
  let idx := argN fl.e 2 2
  let off := argN fl.e 4 2
  let n := argN fl.e 6 2
  let data := bytesAt fl.e.args 8 n
  match recKind kind with
  | none => .bad s
  | some (size, cnt) =>
    let now := (s.sup.openF.map fun o => putSpan (o.forme.rec_ kind idx) off data).getD []
    if cnt ≤ idx ∨ n = 0 ∨ 48 < n ∨ size < off + n ∨ !(List.range n).all fun i => recFits kind now (off + i) then .bad s
    else s.openWrite (fun o => openPutRec o kind idx (putSpan (o.forme.rec_ kind idx) off data)) ([kind, 0] ++ le 2 idx ++ le 2 n)
/-- FORME_WRITE (15 R388). -/
def execFormeWrite (dt f : Nat) (s : State) : Out := .next (runCmd 0x19 f formeWriteBody (s.elapse dt))
def checkResult (fails : List Fail) (code : BitVec 32) (changed : Nat) : List Nat :=
  match fails with
  | [] => [0, 0, 0, 0, 0, 0, 0, 0] ++ le 4 code.toNat ++ [changed]
  | x :: _ => [1] ++ le 2 (min 65535 fails.length) ++ [x.item] ++ le 2 x.id ++ [x.kind, x.station, 0, 0, 0, 0, changed]
def formeCheckBody (_ : Flight) (s : State) : Ans :=
  match s.sup.openF with
  | none => .err s sNOTST
  | some o =>
    if s.locked then .err s sBUSY
    else
      let fails := s.formeFails o.forme
      let ok := fails.isEmpty
      let s1 := s.onSup fun u => { u with openF := some { o with checked := if ok then some o.forme.code else none } }
      .done s1 (if ok then sOK else sFORME) (checkResult fails o.forme.code (stationsChanged s.sup.forme o.forme))
/-- FORME_CHECK (15 R389). -/
def execFormeCheck (dt f : Nat) (s : State) : Out := .next (runCmd 0x1A f formeCheckBody (s.elapse dt))
def formeDiscardBody (_ : Flight) (s : State) : Ans :=
  match s.sup.openF with
  | none => .err s sNOTST
  | some o =>
    let drop := s.onSup fun u => { u with openF := none }
    match s.sup.quoin with
    | some q =>
      if q.boundMt.isNone then .ok ((drop.onSup fun u => { u with quoin := none }).complete q.flight sABORT) (le 4 o.baseGen ++ [1])
      else .ok drop (le 4 o.baseGen ++ [0])
    | none => .ok drop (le 4 o.baseGen ++ [0])
/-- FORME_DISCARD (15 Table 15.11). -/
def execFormeDiscard (dt f : Nat) (s : State) : Out := .next (runCmd 0x1C f formeDiscardBody (s.elapse dt))

-- QUOIN (15 R390 to R392) ---------------------------------------------------------------------------------

def quoinBody (fl : Flight) (s : State) : Ans :=
  let b := argB fl.e 0
  let c := argB fl.e 1
  let w := argN fl.e 2 2
  if 2 < b ∨ 3 < c ∨ w = 0 ∨ 600 < w ∨ (b = 1 ∧ s.sup.forme.parN (0x3000 + 0x40 * c) ≠ 1) then .bad s
  else if s.sup.quoin.isSome then .err s sBUSY
  else
    match s.sup.openF with
    | none => .err s sFORME
    | some o =>
      if o.checked.any fun k => k.toNat = argN fl.e 4 4 then
        .later (s.onSup fun u => { u with quoin := some {
          flight := fl.f, boundary := b, column := c, startMt := s.now, waitMt := s.now + w * 10000000
          changed := stationsChanged s.sup.forme o.forme } })
      else .err s sFORME
/-- QUOIN (15 R390): accepted, it locks the forme and preloads. -/
def execQuoin (dt f : Nat) (s : State) : Out := .next (runCmd 0x1B f quoinBody (s.elapse dt))
/-- The target that a column's LEDGER_SHIFT slot next crosses: the slot's own, or of a disarmed one the next ahead of P. -/
def State.quoinTarget (s : State) (c : Nat) : Nat :=
  match s.sup.forme.shiftSlots c with
  | (n, e) :: _ =>
    let l := s.slotLive n
    if l.st = .armed ∨ l.st = .held then l.next else firstAhead e.base e.target e.rep (s.baseVal e.base)
  | [] => 0
/-- QUOIN_PRELOAD_DONE: it waits for the first boundary of its kind from here on (15 R390). -/
def execQuoinPreloadDone (dt : Nat) (s0 : State) : Out :=
  let s := s0.elapse dt
  match s.sup.quoin with
  | some q =>
    if q.loadedMt.isSome then .next s
    else
      let t := if q.boundary = 1 then s.quoinTarget q.column else 0
      .next (s.onSup fun u => { u with quoin := some { q with loadedMt := some s.now, target := t } })
  | none => .next s
/-- The MT of the boundary, if it has come: the first millisecond after the preload; the target reached by P; a crossing
of angle 0 while MA is valid (15 R390). -/
def State.boundaryMt (s : State) (q : Quoin) : Option Nat :=
  q.loadedMt.bind fun l =>
    match q.boundary with
    | 0 => let t := (l / Config.ms + 1) * Config.ms; if t ≤ s.now then some t else none
    | 1 =>
      let b := 2 + s.sup.forme.parN (0x3001 + 0x40 * q.column)
      if s.baseValid b ∧ 0 ≤ baseDiff b (s.baseVal b) q.target then some s.now else none
    | _ =>
      let passed := decide (coastAngle s.time s.now / 65536 ≠ coastAngle s.time l / 65536)
      if s.baseValid 1 && (s.time.ma ≠ .coast || passed) then some s.now else none
/-- The forme archive keeps the last 64 formes applied, each in its folio (16 Tables 16.1, 16.2). -/
def State.archiveForme (s : State) (gen : Nat) (fm : Forme) : State :=
  if !s.store.mounted || s.store.readOnly then s
  else
    (s.onSup fun u => { u with archive := ((gen, fm) :: u.archive).take 64 }).onStore fun r =>
      { putFolio r { num := 16 + (gen - 1) % 64, typ := 6, st := 2, boot := s.power.boot, serial := r.serials.getD 0 0
                     mt0 := s.now, first := 0, count := 1, extra := 0 } with serials := r.serials.modify 0 (incW 32) }
/-- A forme comes into force: the time bases change over first, the imposition and the timers on the same cycle (15 R391,
R392; 03 R83; 04 R102). -/
def State.takeForme (s : State) (fm : Forme) (code : BitVec 32) (q : Quoin) (t : Nat) : State :=
  let old := s.sup.forme
  let gen := (s.sup.gen + 1) % 2 ^ 32
  let s1 := s.onSup fun u => { u with
    forme := fm, gen, crc := code, applied := true, openF := none
    quoinMt := t % 2 ^ 48
    quoin := some { q with boundMt := some t, old := old, left := [5, 6, 7, 8, 9, 4, 0x0B, 0x11, 0x12] } }
  let s2 := ((s1.archiveForme gen fm).record 0x0B 1 [(gen : Nat)]).applyTime (some old)
  (s2.applySlots (some old) fm).applyTimers (some old) fm
/-- QUOIN_BOUNDARY (15 R390 to R392). -/
def execQuoinBoundary (dt : Nat) (s0 : State) : Out :=
  let s := s0.elapse dt
  match s.sup.quoin, s.sup.openF with
  | some q, some o =>
    if q.boundMt.isSome then .next s
    else
      match s.boundaryMt q, o.checked with
      | some t, some code => if t ≤ q.waitMt then .next (s.takeForme o.forme code q t) else .next s
      | _, _ => .next s
  | _, _ => .next s
/-- A station takes the forme in force at its turn (15 R391). -/
def State.changeStation (s : State) (st : Nat) (old : Forme) : State :=
  match st with
  | 9 => s.picaChange old
  | 4 => s.ledgerChange old
  | 0x0B => s.fgRefresh.drivesSettle
  | 0x11 => s.valveChange old
  | 0x12 => s.dioChange old
  | _ => s.groupChange (st - 5) old
/-- The DIO station has changed over: QUOIN completes, with its slug and a keyframe (15 R392; 16 R411). -/
def State.quoinDone (s : State) (q : Quoin) (t : Nat) : State :=
  let gen := s.sup.gen
  let s1 := (s.onSup fun u => { u with quoin := none }).slug 0 0x0003 .info (obj := q.boundary) (after := q.changed)
    (v1 := ((gen + 2 ^ 32 - 1) % 2 ^ 32 : Nat)) (v2 := gen) (rel := t)
  let dur := (rdiv ((s.now - t : Nat) : Int) (Config.us : Nat)).toNat
  (s1.complete q.flight sOK ([q.boundary, q.changed] ++ le 4 gen ++ le 6 t ++ le 4 dur)).takeKey
/-- STATION_CHANGEOVER: the next station in QUOIN order has changed over (15 R391). -/
def execStationChangeover (dt : Nat) (s0 : State) : Out :=
  let s := s0.elapse dt
  match s.sup.quoin with
  | none => .next s
  | some q =>
    match q.boundMt, q.left with
    | some t, st :: rest =>
      let s1 := (s.onSup fun u => { u with quoin := some { q with left := rest } }).changeStation st q.old
      .next (if rest.isEmpty then s1.quoinDone q t else s1)
    | _, _ => .next s
/-- QUOIN_TIMEOUT: the forme stays open and checked (15 R390). -/
def execQuoinTimeout (dt : Nat) (s0 : State) : Out :=
  let s := s0.elapse dt
  match s.sup.quoin with
  | none => .next s
  | some q =>
    if q.boundMt.isSome ∨ s.now < q.waitMt then .next s
    else .next ((s.onSup fun u => { u with quoin := none }).complete q.flight sTMO)

end Sys2Proof.Machine
end

