-- ==== Sys2Proof/Machine/Reprint.lean ====
section
/-! DEFINITION. Reprint (16 R413 to R417): the span and its conditions, the delivery of the recorded inputs, the
comparison with the recorded outputs, and the return to the live state. -/

namespace Sys2Proof.Machine

-- The span (16 R413, R414) --------------------------------------------------------------------------------

/-- The recorded runs of a boot, oldest first, each with the index of its first record; those of this boot that wait in
the buffer come last (16 Table 16.2, R402). -/
def State.inputRuns (s : State) (boot : Nat) : List (Nat × List InRec) :=
  ((s.store.input.filter fun u => u.boot = boot).reverse.map fun u => (u.first, u.recs)) ++
    (if boot = s.power.boot then [(s.store.recIdx - s.store.buf.length, s.store.buf)] else [])
/-- The records from an index on, as far as they follow one another; false where some are missing before later ones. -/
def gather : List (Nat × List InRec) → Nat → Bool × List InRec
  | [], _ => (true, [])
  | (f, rs) :: t, e =>
    if f + rs.length ≤ e then gather t e
    else if f ≤ e then
      let g := gather t (f + rs.length)
      (g.1, rs.drop (e - f) ++ g.2)
    else (false, [])
/-- Records with their MT in full, each near the one before. -/
def unwrapMt : Nat → List InRec → List InRec
  | _, [] => []
  | t, x :: r =>
    let m := ((t : Int) + diff48 x.mt (t % 2 ^ 48)).toNat
    { x with mt := m } :: unwrapMt m r
/-- The records that follow a keyframe, and whether none is missing. -/
def State.following (s : State) (k : Keyframe) : Bool × List InRec :=
  let g := gather (s.inputRuns k.boot) k.pos
  (g.1, unwrapMt k.mt g.2)
/-- The latest keyframe of a boot at or before an MT. -/
def State.keyAt (s : State) (boot mt : Nat) : Option Keyframe := s.store.keys.find? fun k => k.boot = boot && decide (k.mt ≤ mt)
/-- The keyframe's KEY folios are intact (16 R414). -/
def State.keyIntact (s : State) (k : Keyframe) : Bool :=
  k.folios.all fun n => s.store.folios.any fun f => f.num = n && f.typ = 3 && f.st = 2 && f.first = k.num
/-- The forme of a generation in the archive; none was in force under generation 0. -/
def State.archived (s : State) (gen : Nat) : Option Forme :=
  if gen = 0 then some {} else (s.sup.archive.find? fun p => p.1 = gen).map (·.2)
/-- The generations that a span meets. -/
def spanGens (k : Keyframe) (recs : List InRec) : List Nat :=
  k.img.gen :: (recs.filter fun x => x.typ = 0x0B && x.index = 1).map fun x => (x.pay.getD 0 0).toNat
/-- What keeps a span from being reproduced: 0 nothing, else the detail of R414. -/
def State.spanDetail (s : State) (key : Option Keyframe) (endMt : Nat) : Nat :=
  match key with
  | none => 1
  | some k =>
    let g := s.following k
    let span := g.2.filter fun x => decide (x.mt ≤ endMt)
    let cut := !g.1 && !(g.2.any fun x => decide (endMt < x.mt))
    let hurt := s.store.folios.any fun f => f.typ = 2 && f.boot = k.boot && decide (3 ≤ f.st) && decide (f.mt0 ≤ endMt) &&
      decide (k.pos < f.first + max 1 f.count)
    if !s.keyIntact k then 1
    else if cut || hurt || span.any (fun x => x.typ = 0x0D) then 2
    else if !(spanGens k span).all (fun n => (s.archived n).isSome) then 3
    else if k.img.controlRev ≠ s.unit.controlRev then 4
    else 0

-- Comparison (16 R417, Table 16.8) ------------------------------------------------------------------------

/-- One difference: counted, and reported if it is its stream's first, or all are. -/
def State.diff1 (s : State) (stream field mt obj : Nat) (was now : Int) : State :=
  match s.store.reprint with
  | none => s
  | some r =>
    let s1 := s.onStore fun t => { t with reprint := some { r with diffs := r.diffs.modify stream (incSat 32) } }
    if r.diffs.getD stream 0 = 0 ∨ s.parN 0xB005 = 1 then
      s1.slug 0x14 0x1407 .warn (bytes := [stream, field] ++ le 6 mt ++ leI 8 was ++ leI 8 now ++ le 2 obj)
    else s1
/-- A recorded output against the reprinted one: field by field; one that was not made differs in its first field. -/
def State.diffOut (s : State) (stream skip n : Nat) (x : InRec) (y : Option InRec) : State :=
  match y with
  | none => s.diff1 stream 0 x.mt x.index (x.pay.getD skip 0) 0
  | some y =>
    (List.range n).foldl (fun a i =>
      let p := x.pay.getD (skip + i) 0
      let q := y.pay.getD (skip + i) 0
      if p = q then a else a.diff1 stream i x.mt x.index p q) s
/-- The reprinted output that answers a record is taken from those made; before the start MT nothing is reported. -/
def State.meet (s : State) (stream skip n : Nat) (x : InRec) (same : InRec → Bool) : State :=
  match s.store.reprint with
  | none => s
  | some r =>
    let y := r.made.find? same
    let s1 := match y with
      | some v => s.onStore fun t => { t with reprint := some { r with made := r.made.erase v } }
      | none => s
    if r.startMt ≤ x.mt then s1.diffOut stream skip n x y else s1
/-- What a keyframe and the reprinted state must share, by station: what the records reproduce (16 R411, R416). -/
def sameLoop (a b : Loop) : Bool :=
  [a.kp, a.ki, a.kd, a.kff, a.shift, a.sp, a.umin, a.umax, a.out, a.iacc, a.yprev, a.shiLast, a.accN, a.nEval, a.nMiss, a.nHeld] =
    [b.kp, b.ki, b.kd, b.kff, b.shift, b.sp, b.umin, b.umax, b.out, b.iacc, b.yprev, (b.shiLast : Int), b.accN, b.nEval, b.nMiss, b.nHeld] &&
    a.first = b.first && a.hold = b.hold
/-- A galley armed alike in both has been frozen by a recorded trip in both or in neither (12 R314). -/
def sameTrip (a b : Galley) : Bool :=
  decide (a.loop ≠ b.loop ∨ a.start ≠ b.start ∨ a.stop ≠ b.stop ∨ a.trip ≠ b.trip ∨ a.nodes ≠ b.nodes ∨ a.post ≠ b.post ∨
    a.st = .idle ∨ b.st = .idle) || a.byTrip = b.byTrip
def sameList {α : Type} (f : α → α → Bool) (a b : List α) : Bool := a.length = b.length && (a.zip b).all fun p => f p.1 p.2
def imageDiffers (a b : Image) (st : Nat) : Bool :=
  let chans (i : Image) : List (Sample × Option (Int × Nat)) :=
    ((i.probe.chans.drop (16 * (st - 5))).take 16).map fun c => (c.last, c.okVal)
  match st with
  | 1 => a.time.wheels ≠ b.time.wheels || a.time.ma ≠ b.time.ma || a.time.ext ≠ b.time.ext || a.time.active ≠ b.time.active ||
      a.time.maEvt ≠ b.time.maEvt
  | 2 => a.imp.slots ≠ b.imp.slots
  | 3 => !sameList (fun x y => x.st = y.st && x.cnt = y.cnt && x.exp = y.exp && x.ovf = y.ovf && x.expCnt = y.expCnt) a.timers b.timers
  | 4 => a.cols ≠ b.cols
  | 9 => a.pica.zones ≠ b.pica.zones
  | 0x0A => !sameList sameLoop a.cle.loops b.cle.loops || !sameList sameTrip a.cle.galleys b.cle.galleys
  | 0x12 => (a.dio.ins.map fun d => d.tok) ≠ b.dio.ins.map fun d => d.tok
  | _ => chans a ≠ chans b
/-- A keyframe in the span is compared, and tells whether the recorded unit was in HOLDOVER (16 R417; log 84). -/
def State.meetKey (s : State) (x : InRec) : State :=
  match s.store.reprint with
  | none => s
  | some r =>
    match s.store.keys.find? fun k => k.boot = r.boot && k.num = (x.pay.getD 0 0).toNat with
    | some k =>
      let s1 := if r.startMt ≤ x.mt then
          ([1, 2, 3, 4, 5, 6, 7, 8, 9, 0x0A, 0x12].filter (imageDiffers k.img s.image)).foldl
            (fun a st => a.diff1 2 0 x.mt st 0 0) s
        else s
      s1.onStore fun t => { t with reprint := t.reprint.map fun y => { y with shown := k.img.time } }
    | none => s

-- Delivery (16 R416) --------------------------------------------------------------------------------------

/-- An operation that sees the recorded unit's CLE parameters as the live ones, and leaves the live ones alone. -/
def State.asRecorded (s : State) (f : State → State) : State :=
  match s.store.reprint with
  | none => s
  | some r =>
    let t := f (s.onSup fun u => { u with live := r.live })
    (t.onStore fun x => { x with reprint := x.reprint.map fun y => { y with live := t.sup.live } }).onSup fun u => { u with live := s.sup.live }
/-- A recorded command's body, without its completion. -/
def State.asBody (s : State) (op : Nat) (args : List Nat) (body : Flight → State → Ans) : State :=
  let e : CmdEntry := { op, flags := 0, tag := 0, target := 0, expEpoch := 0, rsv := 0, args := padTo 56 args }
  match body { f := 0, sq := 0, order := 0, sid := 0, role := 2, fp := 0, e, fetchMt := 0, tmo := 0 } s with
  | .done t _ _ => t
  | .later t => t
/-- A HOST record (16 Table 16.6). -/
def State.replayHost (s : State) (p : List Int) : State :=
  let n (i : Nat) : Nat := (p.getD i 0).toNat
  let id := n 2
  let v := p.getD 3 0
  let args := (p.drop 5).map Int.toNat
  match n 1 with
  | 0x11 => if id / 0x1000 = 6 then s.asRecorded fun t => (t.writeCle id v).2 else s
  | 0xFF => if 0x300 ≤ id ∧ id < 0x800 then s.asRecorded fun t => (t.writeStations id (uw 32 v)).2 else s
  | 0x22 =>
    let ovr := (uw 64 v, bitOf (args.getD 5 0) 0)
    ((List.range (numAt args 2 2)).foldl (fun a i => slotEnableOne (args.getD 4 0) (id + i) ovr a) (s, 0, 0)).1
  | 0x31 => s.asBody 0x31 args batchStepBody
  | 0x48 => s.asBody 0x48 args loopHoldBody
  | 0x49 => s.asBody 0x49 args loopReleaseBody
  | _ => s
/-- A MAINS record, as the events left it (log 13). -/
def State.replayMains (s : State) (p : List Int) : State :=
  let n (i : Nat) : Nat := (p.getD i 0).toNat
  match n 0 with
  | 0 => s.maLockOp ((p.drop 3).map Int.toNat) (n 1) (n 2)
  | 1 => s.maLost (n 1) (n 2)
  | 2 => s.maReturn
  | 3 => s.mainsStart (n 1) (n 2) (n 3) (n 4) (n 5)
  | 4 => s.mainsEnd (n 1) (n 2) (n 3)
  | _ => s.maAdvance (n 1) (n 2)
/-- A STATUS record: whether a destination is BLOCKED; drive states reach no reprinted station. -/
def State.replayStatus (s : State) (st : Nat) (p : List Int) : State :=
  let n := (p.getD 0 0).toNat
  let b := decide (p.getD 2 0 = 1)
  let put (c : CleSt) (d : Nat) : CleSt :=
    { c with blocked := if b then (if c.blocked.contains d then c.blocked else d :: c.blocked) else c.blocked.filter (· ≠ d) }
  match st with
  | 0x11 => s.onCle fun c => put c (0x1000 + n)
  | 0x12 => s.onCle fun c => put (put c (0x3000 + n)) (0x4000 + n)
  | 0x0B => if 256 ≤ n then s.onCle fun c => put c (0x2000 + (n - 256)) else s
  | _ => s
/-- A recorded QUOIN boundary applies the archived forme to every reprinted station. -/
def State.replayQuoin (s : State) (gen : Nat) : State :=
  match s.store.reprint, s.archived gen with
  | some r, some fm =>
    let old := r.forme
    let s1 := s.onStore fun t => { t with reprint := some { r with forme := fm, gen } }
    let s2 := ((s1.applyTime (some old)).applySlots (some old) fm).applyTimers (some old) fm
    ((List.range 4).foldl (fun a g => a.groupChange g old) s2 |>.picaChange old).ledgerChange old
  | _, _ => s
/-- A recorded station reset: what it did to the station, under the recorded epoch. -/
def State.replayReset (s : State) (v : Nat) : State :=
  let st := v % 256
  if 1 ≤ st ∧ st ≤ 0x0A then
    ((s.stationStops st).onUnit fun u => { u with epochs := u.epochs.set st (v / 256 % 256) }).stationStarts st
  else s
/-- A recorded change of unit state: only RUN matters to the reprinted stations. -/
def State.replayState (s : State) (code : Nat) : State :=
  match s.store.reprint with
  | none => s
  | some r =>
    let s1 := s.onStore fun t => { t with reprint := some { r with runs := decide (code = 3) } }
    if code = 3 ∧ !r.runs then s1.cleEnterRun
    else if code ≠ 3 ∧ r.runs then s1.cleLeaveRun.batchLeaveRun
    else s1
/-- A LANE record: a peer's token, delivered in place of the live ones (17 R448; 16 R416). -/
def State.replayLane (s : State) (p : List Int) : State :=
  let n (i : Nat) : Nat := (p.getD i 0).toNat
  if n 0 = 0 then s.peerTok (.zone (n 1) (n 2) (n 3) (some (p.getD 4 0)) (n 5)) else s.peerTok (.boost (n 1) (n 2) (n 3 = 1))
/-- CLE writes that came before their acceptance count are applied once it is reached (08 R212). -/
def State.applyHeld (s : State) : State :=
  match s.store.reprint with
  | none => s
  | some r =>
    (r.held.filter s.writeDue).foldl (fun a x => a.replayHost x.pay)
      (s.onStore fun t => { t with reprint := some { r with held := r.held.filter fun x => !s.writeDue x } })
/-- Outputs of the span that no record answers differ in their first field from a record of 0 (16 R417; log 53). -/
def State.diffExtra (s : State) (r : Reprint) : State :=
  (r.made.filter fun x => decide (r.startMt % 2 ^ 48 ≤ x.mt ∧ x.mt ≤ r.endMt % 2 ^ 48)).foldl (fun a x =>
    if x.typ = 8 then a.diff1 0 0 x.mt x.index 0 (x.pay.getD 1 0) else a.diff1 1 0 x.mt x.index 0 (x.pay.getD 0 0)) s
/-- One record is delivered to the reprinted stations, or compared. -/
def State.replay (s : State) (x : InRec) : State :=
  let n (i : Nat) : Nat := (x.pay.getD i 0).toNat
  match x.typ with
  | 1 => s.toothOp x.index
  | 2 => s.replayMains x.pay
  | 3 => s.deliver x.index (sampleOf (x.pay.map Int.toNat))
  | 4 => s.deliverReading x.index (readingOf (x.pay.map Int.toNat)).point (readingOf (x.pay.map Int.toNat))
  | 5 => s.diToken x.index (n 0 = 1)
  | 6 =>
    if n 0 = 1 then
      (if x.index = 3 then s.galTrip 0 else if x.index = 1 ∨ x.index = 2 then s.galTrip x.index
       else if 4 ≤ x.index then s.galTrip 3 else s)
    else s
  | 7 => s.replayHost x.pay
  | 9 => s.replayLane x.pay
  | 8 => s.meet 0 1 5 x fun y => y.typ = 8 && y.index = x.index && y.mt % 2 ^ 48 = x.mt % 2 ^ 48
  | 0x0A => s.replayStatus x.index x.pay
  | 0x0B => match x.index with
    | 0 => s.replayState (n 0)
    | 1 => s.replayQuoin (n 0)
    | 2 => s.replayReset (n 0)
    | 3 => s.crossBase 0 true
    | _ => s
  | 0x0C => s.meetKey x
  | 0x0E => s.meet 1 0 4 x fun y => y.typ = 0x0E && y.index = x.index
  | _ => s

-- Begin and end (16 R413) ---------------------------------------------------------------------------------

/-- Milliseconds of the heat integral and of the batch conditions are served from an MT on. -/
def State.msFrom (s : State) (mt : Nat) : State :=
  s.onPower fun p => { p with heatMs := mt / Config.ms, batchMs := mt / Config.ms }
/-- The live state is saved, the keyframe loaded, and the unit enters REPRINT. -/
def State.reprintBegin (s : State) (k : Keyframe) (startMt endMt opts : Nat) (todo : List InRec) : State :=
  let s1 := s.enterState .reprint
  let r : Reprint := {
    boot := k.boot, startMt, endMt, kfMt := k.mt, liveMt := s.now, fast := bitOf opts 0, stopDiff := bitOf opts 1
    saved := s1.image, kfNum := k.num, todo, lastMt := k.mt, runs := k.runs, forme := k.img.forme, gen := k.img.gen
    live := k.img.live, shown := k.img.time }
  let s2 := (s1.putStations k.img).onStore fun t => { t with reprint := some r }
  ((s2.groupsIdle.portsStop).msFrom k.mt).slug 0x14 0x1405 .info
    (bytes := le 2 k.boot ++ le 6 k.mt ++ le 6 startMt ++ le 6 endMt ++ [opts % 4])
def reprintStartBody (fl : Flight) (s : State) : Ans :=
  let boot := argN fl.e 0 2
  let startMt := argN fl.e 4 8
  let endMt := argN fl.e 12 8
  if s.sup.quoin.isSome then .err s sBUSY
  else if endMt ≤ startMt then .bad s
  else
    let key := s.keyAt boot startMt
    let d := s.spanDetail key endMt
    match key with
    | none => .done s sBAD [1]
    | some k =>
      if d ≠ 0 then .done s sBAD [d]
      else
        let todo := (s.following k).2.filter fun x => decide (x.mt ≤ endMt)
        .ok (s.reprintBegin k startMt endMt (argB fl.e 2) todo) ([0, 0] ++ le 6 k.mt ++ le 4 k.num ++ le 4 todo.length)
/-- REPRINT_START (16 R413, R414; 15 R398). -/
def execReprintStart (dt f : Nat) (s : State) : Out := .next (runCmd 0x7A f reprintStartBody (s.elapse dt))
/-- Timers resume with the counts saved: their anchors move with the time that the reprint took. -/
def shiftTimer (d : Nat) (t : Timer) : Timer :=
  { t with anchor := t.anchor + d, lfMt := t.lfMt + d, ovfMt := t.ovfMt + d, unit_ := t.unit_.map (· + d) }
/-- The reprint ends: its slug, the saved live state with the wheels through ACQUIRE, STANDBY, and a keyframe (16 R413; 05
R132; 02 R54). Reasons: 0 end MT, 1 end of recording, 2 REPRINT_STOP, 3 a difference, 4 firmware change. -/
def State.reprintEnd (s : State) (reason : Nat) : State :=
  match s.store.reprint with
  | none => s
  | some r =>
    let s1 := s.slug 0x14 0x1406 .info (bytes := [reason] ++ le 4 r.done ++ r.diffs.flatMap (le 4))
    let s2 := (s1.onStore fun t => { t with reprint := none }).putStations r.saved
    let s3 := ({ s2 with timers := s2.timers.map (shiftTimer (s.now - r.liveMt)) }.applyTime none).ledgerBack.msFrom s.now
    (((s3.enterState .standby).crossBase 0 true).freeRuns.portsStart false).takeKey
def reprintStopBody (_ : Flight) (s : State) : Ans :=
  match s.store.reprint with
  | none => .err s sNOTST
  | some r => .ok (s.reprintEnd 2) (le 4 r.done ++ r.diffs.map (min 255) ++ le 6 r.lastMt)
/-- REPRINT_STOP (16 R413). -/
def execReprintStop (dt f : Nat) (s : State) : Out := .next (runCmd 0x7B f reprintStopBody (s.elapse dt))
/-- Does the boot's recording go on beyond the end MT? -/
def State.recordedBeyond (s : State) (r : Reprint) : Bool :=
  match s.store.keys.find? fun k => k.boot = r.boot && k.num = r.kfNum with
  | some k => (s.following k).2.any fun x => decide (r.endMt < x.mt)
  | none => false
/-- REPRINT_RECORD: the next record, at its recorded pace or with FAST at once; after the last the reprint ends (16 R413,
R416, R417). -/
def execReprintRecord (dt : Nat) (s0 : State) : Out :=
  let s := s0.elapse dt
  let s := s.applyHeld
  match s.store.reprint with
  | none => .next s
  | some r =>
    let due (m : Nat) : Bool := r.fast || decide (m - r.kfMt ≤ s.now - r.liveMt)
    match r.todo with
    | [] =>
      let beyond := s.recordedBeyond r
      .next (if !beyond || due r.endMt then (s.diffExtra r).reprintEnd (if beyond then 0 else 1) else s)
    | x :: rest =>
      if !due x.mt then .next s
      else
        let early := (hostLoop x).isSome && !s.writeDue x
        let s0 := s.onStore fun t => { t with reprint := some { r with
          todo := rest, done := r.done + 1, lastMt := max r.lastMt x.mt, held := if early then r.held ++ [x] else r.held } }
        let s1 := if early then s0 else s0.replay x
        let differs := s1.store.reprint.any fun y => y.stopDiff && y.diffs.any (· ≠ 0)
        .next (if x.typ = 0x0B ∧ x.index = 4 then s1.reprintEnd 4 else if differs then s1.reprintEnd 3 else s1)

end Sys2Proof.Machine
end

