-- ==== Sys2Proof/Machine/Frames.lean ====
section
/-! DEFINITION. The host's frames: the opening of sessions, reception in SEQ order, and what each frame does and answers
(14 R351 to R365; 20 R478 to R483). -/

namespace Sys2Proof.Machine

-- What the frames of a session do -------------------------------------------------------------------------

def State.countBad (s : State) : State := s.onHost fun h => { h with bad := incW 32 h.bad }
/-- The span of a read or a write: 1 to 256 words, wholly below 0x4400 or wholly in the staged view (20 R479). -/
def spanOk (addr count : Nat) : Bool := decide (1 ≤ count ∧ count ≤ 256) &&
  decide (addr + count ≤ 0x4400 ∨ (0x8500 ≤ addr ∧ addr + count ≤ 0x8580))
/-- Words are read in address order (20 R480). -/
def State.readWords (s : State) (sid a : Nat) : Nat → List Nat × State
  | 0 => ([], s)
  | n + 1 =>
    let r := s.readWord sid a
    let t := r.2.readWords sid (a + 1) n
    (r.1 :: t.1, t.2)
/-- REG_READ (14 R355; 20 R479, R480, R483): the reply, and the state. -/
def State.regReadFrame (s : State) (sid addr count len : Nat) : UnitFrame × State :=
  if len ≠ 4 ∨ !spanOk addr count then (.regData addr count sBAD [], s)
  else if addr < 0x4400 then
    let r := s.readWords sid addr count
    (.regData addr count sOK r.1, r.2)
  else match s.sup.openF with
    | none => (.regData addr count sNOTST [], s)
    | some o => (.regData addr count sOK ((List.range count).map fun i => stagedWord o (addr + i)), s)
/-- Words are written in address order up to the first that is refused: how many were written, the status, the state
(14 R355). -/
def State.writeWords (s : State) (sid a : Nat) : List Nat → Nat × Nat × State
  | [] => (0, sOK, s)
  | v :: vs =>
    match s.session? sid with
    | none => (0, sBAD, s)
    | some x =>
      let r := s.writeWord x a (v % 2 ^ 32)
      if r.1 = sOK then
        let t := r.2.writeWords sid (a + 1) vs
        (t.1 + 1, t.2.1, t.2.2)
      else (0, r.1, r.2)
/-- REG_WRITE with its audit slug: the words written and the status of the refused one (14 R353, R355; 20 R479,
R483). -/
def State.regWriteFrame (s : State) (sid addr count rsv : Nat) (vals : List Nat) (len : Nat) : UnitFrame × State :=
  if len ≠ 8 + 4 * count ∨ vals.length ≠ count ∨ rsv ≠ 0 ∨ !spanOk addr count ∨ 0x4400 ≤ addr then (.regAck addr 0 sBAD, s)
  else match s.session? sid with
    | none => (.regAck addr 0 sBAD, s)
    | some x =>
      let r := s.writeWords sid addr vals
      let touched := (List.range (min count (r.1 + 1))).map (addr + ·)
      (.regAck addr r.1 r.2.1, r.2.2.auditReg x addr r.2.1 (vals.take touched.length) touched)
/-- SUBMIT (14 R365): only the owner, and 1 to 21 entries. -/
def State.submitFrame (s : State) (sid sq first rsv tail : Nat) (entries : List CmdEntry) (len : Nat) : UnitFrame × State :=
  let n := entries.length
  match (if 512 ≤ sq then none else s.owns sid sq) with
  | none => (.submitAck sq sBAD 0 0, s)
  | some x =>
    if len ≠ 8 + 64 * n ∨ n = 0 ∨ 21 < n ∨ rsv ≠ 0 then (.submitAck sq sBAD x.w x.head, s)
    else
      let r := submitQueue x first tail entries
      (.submitAck sq r.1 r.2.w r.2.head, s.onQueue sq fun _ => r.2)
/-- A frame of a session has its effect, and its reply goes out (14 R355). -/
def State.takeFrame (s : State) (sid : Nat) (fr : HostFrame) : State :=
  let reply (r : UnitFrame × State) : State := r.2.send sid r.1
  match fr with
  | .bad => s.countBad
  | .keepalive len => if len = 0 then s else s.countBad
  | .sessionClose reason len =>
    if len = 1 then s.endSession sid reason false else s.countBad.endSession sid 0 false
  | .regRead addr count len => reply (s.regReadFrame sid addr count len)
  | .regWrite addr count rsv vals len => reply (s.regWriteFrame sid addr count rsv vals len)
  | .qCreate q depth cq coalN cls coalT len =>
    let r := if len = 12 then s.makeQueue sid q depth cq coalN cls coalT else (sBAD, s)
    reply (.qAck q r.1 r.2.ringFree, r.2)
  | .qDelete q len =>
    let r := if len = 2 then s.dropQueue sid q else (sBAD, s)
    reply (.qAck q r.1 r.2.ringFree, r.2)
  | .submit sq first rsv tail entries len => reply (s.submitFrame sid sq first rsv tail entries len)

-- Reception (14 R356, R377) -------------------------------------------------------------------------------

/-- Held frames follow as their turn comes. -/
def State.drain (s : State) (sid : Nat) : Nat → State
  | 0 => s
  | k + 1 =>
    match s.session? sid with
    | none => s
    | some x =>
      match x.held.find? fun p => p.1 = incW 32 x.rx with
      | none => s
      | some p =>
        ((s.onSession sid fun y => { y with rx := p.1, held := y.held.filter fun q => q.1 ≠ p.1 }).takeFrame sid p.2).drain sid k
/-- An ACK is owed from now on. -/
def oweAck (now : Nat) (x : Session) : Session := { x with ackDue := some (x.ackDue.getD now) }
/-- A frame arrives in an open session: its ACK is taken, an ACK is owed; the next in order is processed with those held
behind it, one at most 32 ahead is held, another is discarded (14 R356). `valid` is whether it counts for HL_SESS_TMO
(14 R357). -/
def State.arrive (s : State) (sid : Nat) (h : Hdr) (valid : Bool) (fr : HostFrame) : State :=
  let s1 := s.onSession sid fun x => oweAck s.now (takeAck s.now h.ack (if valid then { x with rxMt := s.now } else x))
  match s1.session? sid with
  | none => s
  | some x =>
    let ahead := (h.seq + 2 ^ 32 - x.rx) % 2 ^ 32
    if ahead = 1 then ((s1.onSession sid fun y => { y with rx := h.seq }).takeFrame sid fr).drain sid 32
    else if 2 ≤ ahead ∧ ahead ≤ 32 ∧ !(x.held.any fun p => p.1 = h.seq) then
      s1.onSession sid fun y => { y with held := y.held ++ [(h.seq, fr)] }
    else s1
/-- A frame has arrived at the link: it wakes the unit and is counted (14 R377, Table 14.10). -/
def State.onFrame (s : State) : State := s.wakeUp.onHost fun h => { h with frames := incW 32 h.frames }
/-- A frame other than SESSION_OPEN and ACK: of an open session, or the first of an association, which then forms none
(14 R351). -/
def State.receive (s : State) (h : Hdr) (valid : Bool) (fr : HostFrame) : State :=
  if (s.session? h.sid).isSome then s.onFrame.arrive h.sid h valid fr
  else if (s.host.shakes.any fun k => k.assoc + 65536 = h.sid && k.doneMt.isSome) && s.linkOpen then
    s.onFrame.noSession (h.sid - 65536)
  else s

-- Opening (14 R351, R372, R373) ---------------------------------------------------------------------------

/-- The session ID that an opening takes: the first from a free value on that no session and no ORPHAN queue has; the
spec names no rule for it (log 43). -/
def State.newSid (s : State) : Nat × State :=
  let v := s.fresh
  let used := s.host.sessions.map (·.sid) ++ s.host.lingers.map (·.sid)
  let from_ := uw 16 v.1
  let cand := (List.range (used.length + 3)).map fun i => (from_ + i) % 65536
  ((cand.find? fun n => decide (n ≠ 0 ∧ n ≠ 0xFFFF) && !used.contains n).getD 0, v.2)
/-- RECLAIM takes every ORPHAN queue of the fingerprint; its delivery goes on from the head (14 R373). -/
def State.reclaim (s : State) (sid fp : Nat) : Nat × State :=
  let old := (s.host.lingers.filter fun l => l.fp = fp).map (·.sid)
  let mine (q : Queue) : Bool := q.orphan && old.contains q.owner
  let take (q : Queue) : Queue := { q with
    owner := sid, orphan := false, sent := 0, waitMt := if q.ring = [] then none else some (q.waitMt.getD s.now) }
  ((s.host.queues.filter mine).length, s.onHost fun h => { h with
    queues := h.queues.map fun q => if mine q then take q else q
    lingers := h.lingers.filter fun l => l.fp ≠ fp })
/-- The status of a SESSION_OPEN from an association (14 R351, R355). -/
def State.openStatus (s : State) (k : Shake) (role opts rsv len : Nat) : Nat :=
  if len ≠ 8 ∨ 3 < role ∨ 1 < opts ∨ rsv ≠ 0 then sBAD
  else if !((s.admitRole k.port k.fp).any fun m => decide (role ≤ m)) then sDENIED
  else if 16 ≤ s.host.sessions.length then sBUSY
  else sOK
/-- A refusal: SESSION_ACCEPT with its status, and the association ends (14 R351). -/
def State.refuseOpen (s : State) (k : Shake) (role status : Nat) : State :=
  let s1 := s.onHost fun h => { h with
    shakes := h.shakes.filter fun y => y.assoc ≠ k.assoc
    outFrame := some (k.assoc, some (.sessionAccept status 0xFF 0xFFFF (s.epochOf 0) (uCode s.unit.st) 0)) }
  if status = sDENIED then s1.audit 0xFFFF role k.fp status 0xFE 0 [] else s1
/-- The session opens, with the timing parameters of now (14 R351, R353, R372). -/
def State.openSession (s : State) (k : Shake) (role opts : Nat) : State :=
  let n := s.newSid
  let x : Session := {
    sid := n.1, port := k.port, assoc := k.assoc, fp := k.fp, role, rx := 1, rxMt := s.now, txMt := s.now
    tmo := s.parN 0xD010, linger := s.parN 0xD011, rto := s.parN 0xD012, retries := s.parN 0xD013, cmdTmo := s.parN 0xD014 }
  let s1 := n.2.onHost fun h => { h with
    sessions := h.sessions ++ [x], shakes := h.shakes.filter fun y => y.assoc ≠ k.assoc }
  let r := if opts = 1 then s1.reclaim n.1 k.fp else (0, s1)
  let s2 := r.2.send n.1 (.sessionAccept sOK role n.1 (s.epochOf 0) (uCode s.unit.st) r.1)
  if 2 ≤ role then s2.audit n.1 role k.fp sOK 0xFE 0 [] else s2

-- Meanings ------------------------------------------------------------------------------------------------

/-- SESSION_OPEN: the first frame of an association, SEQ 1, within 2 s of the handshake; inside an open session it is ignored and counted (14 R351,
R355, R356). -/
def execSessionOpen (dt : Nat) (h : Hdr) (assoc role opts rsv : Nat) (s0 : State) : Out :=
  let s := s0.elapse dt
  if (s.session? h.sid).isSome then .next (s.receive h false .bad)
  else match s.host.shakes.find? fun k => k.assoc = assoc && k.doneMt.isSome with
    | none => .next s
    | some k =>
      if !s.linkOpen then .next s
      else if h.seq ≠ 1 then .next s.onFrame
      else if k.doneMt.any fun m => decide (m + 2 * Config.sec < s.now) then .next (s.onFrame.noSession assoc)
      else
        let s1 := s.onFrame
        let st := s1.openStatus k role opts rsv h.len
        .next (if st = sOK then s1.openSession k role opts else s1.refuseOpen k role st)
/-- ACK: carries no SEQ, and is not acknowledged; before SESSION_OPEN it is ignored (14 R351, R355, R356). -/
def execAck (dt : Nat) (h : Hdr) (s0 : State) : Out :=
  let s := s0.elapse dt
  if (s.session? h.sid).isSome then
    let s1 := s.onFrame.onSession h.sid fun x => takeAck s.now h.ack { x with rxMt := s.now }
    .next (if h.len = 0 then s1 else s1.countBad)
  else .next s
/-- SESSION_CLOSE by the host (14 R355, R356). -/
def execSessionClose (dt : Nat) (h : Hdr) (reason : Nat) (s : State) : Out :=
  .next ((s.elapse dt).receive h true (.sessionClose (reason % 256) h.len))
/-- KEEPALIVE (14 R355, R357). -/
def execKeepalive (dt : Nat) (h : Hdr) (s : State) : Out := .next ((s.elapse dt).receive h true (.keepalive h.len))
/-- REG_READ (14 R355; 20 R479 to R481, R483). -/
def execRegRead (dt : Nat) (h : Hdr) (addr count : Nat) (s : State) : Out :=
  .next ((s.elapse dt).receive h true (.regRead addr count h.len))
/-- REG_WRITE (14 R353, R355; 20 R479, R482). -/
def execRegWrite (dt : Nat) (h : Hdr) (addr count rsv : Nat) (vals : List Nat) (s : State) : Out :=
  .next ((s.elapse dt).receive h true (.regWrite addr count rsv vals h.len))
/-- Q_CREATE (14 R359). -/
def execQCreate (dt : Nat) (h : Hdr) (q depth cq coalN cls coalT : Nat) (s : State) : Out :=
  .next ((s.elapse dt).receive h true (.qCreate q depth cq coalN cls coalT h.len))
/-- Q_DELETE (14 R359). -/
def execQDelete (dt : Nat) (h : Hdr) (q : Nat) (s : State) : Out :=
  .next ((s.elapse dt).receive h true (.qDelete q h.len))
/-- SUBMIT (14 R365). -/
def execSubmit (dt : Nat) (h : Hdr) (sq first rsv tail : Nat) (entries : List CmdEntry) (s : State) : Out :=
  .next ((s.elapse dt).receive h true (.submit sq first rsv tail entries h.len))
/-- BAD_FRAME, kind 0 a TYPE that is unknown or that the host never sends, 1 a LEN that differs from the record, 2 a
record shorter than a header, other a VER that is not 1 (14 R351, R355). -/
def execBadFrame (dt : Nat) (h : Hdr) (kind : Nat) (s0 : State) : Out :=
  let s := s0.elapse dt
  if kind ≤ 1 then .next (s.receive h false .bad)
  else if kind = 2 then
    .next (if (s.session? h.sid).isSome ∨ (s.host.shakes.any fun k => k.assoc + 65536 = h.sid) then s.wakeUp.countBad else s)
  else if (s.session? h.sid).isSome then .next (s.onFrame.endSession h.sid 4 true)
  else .next (s.receive h false .bad)

end Sys2Proof.Machine
end

