-- ==== Sys2Proof/Machine/Dispatch.lean ====
section
/-! DEFINITION. One arm per command: each arm is one direct call of the command's meaning. -/

namespace Sys2Proof.Machine

open Sys2Proof

/-- The command's effect on everything but the queue. -/
def exec (i : Instr) (s : State) : Host.Outcome State Fault Refusal :=
  match i with
  | .registerWrite dt sid addr val => Sys2Proof.Machine.execRegisterWrite dt sid addr val s
  | .loWordRead dt sid addr => Sys2Proof.Machine.execLoWordRead dt sid addr s
  | .gstart dt sid mask => Sys2Proof.Machine.execGstart dt sid mask s
  | .gstop dt sid mask => Sys2Proof.Machine.execGstop dt sid mask s
  | .cntClr dt sid => Sys2Proof.Machine.execCntClr dt sid s
  | .latClr dt sid => Sys2Proof.Machine.execLatClr dt sid s
  | .wdRel dt sid => Sys2Proof.Machine.execWdRel dt sid s
  | .loopRegisterWrite dt sid loop off val => Sys2Proof.Machine.execLoopRegisterWrite dt sid loop off val s
  | .sqDoorbellWrite dt sid q idx => Sys2Proof.Machine.execSqDoorbellWrite dt sid q idx s
  | .headDoorbellWrite dt sid q idx => Sys2Proof.Machine.execHeadDoorbellWrite dt sid q idx s
  | .toothEdge dt w => Sys2Proof.Machine.execToothEdge dt w s
  | .toothSynth dt w => Sys2Proof.Machine.execToothSynth dt w s
  | .twInterpAdvance dt w => Sys2Proof.Machine.execTwInterpAdvance dt w s
  | .twStopTimeout dt w => Sys2Proof.Machine.execTwStopTimeout dt w s
  | .maLock dt errs ext freq => Sys2Proof.Machine.execMaLock dt errs ext freq s
  | .maRefLost dt ext freq => Sys2Proof.Machine.execMaRefLost dt ext freq s
  | .maCoastEnd dt => Sys2Proof.Machine.execMaCoastEnd dt s
  | .maRefReturn dt => Sys2Proof.Machine.execMaRefReturn dt s
  | .mainsEventStart dt ev ph val ext freq => Sys2Proof.Machine.execMainsEventStart dt ev ph val ext freq s
  | .mainsEventEnd dt ev ph val => Sys2Proof.Machine.execMainsEventEnd dt ev ph val s
  | .tbStatus dt f => Sys2Proof.Machine.execTbStatus dt f s
  | .slotWrite dt f => Sys2Proof.Machine.execSlotWrite dt f s
  | .slotRead dt f => Sys2Proof.Machine.execSlotRead dt f s
  | .slotEnable dt f => Sys2Proof.Machine.execSlotEnable dt f s
  | .mtSlotCrossing dt => Sys2Proof.Machine.execMtSlotCrossing dt s
  | .maSlotCrossing dt ext freq => Sys2Proof.Machine.execMaSlotCrossing dt ext freq s
  | .windowRefill dt b => Sys2Proof.Machine.execWindowRefill dt b s
  | .actionDispatch dt => Sys2Proof.Machine.execActionDispatch dt s
  | .timerStart dt n => Sys2Proof.Machine.execTimerStart dt n s
  | .timerStop dt n => Sys2Proof.Machine.execTimerStop dt n s
  | .timerExpiry dt n => Sys2Proof.Machine.execTimerExpiry dt n s
  | .timerMatch dt n => Sys2Proof.Machine.execTimerMatch dt n s
  | .ledgerShift dt c => Sys2Proof.Machine.execLedgerShift dt c s
  | .parcelClose dt c => Sys2Proof.Machine.execParcelClose dt c s
  | .ledgerSample dt c => Sys2Proof.Machine.execLedgerSample dt c s
  | .heatIntegralTick dt => Sys2Proof.Machine.execHeatIntegralTick dt s
  | .batchConditionTick dt => Sys2Proof.Machine.execBatchConditionTick dt s
  | .batchTmax dt c => Sys2Proof.Machine.execBatchTmax dt c s
  | .ledgerRead dt f => Sys2Proof.Machine.execLedgerRead dt f s
  | .batchStep dt f => Sys2Proof.Machine.execBatchStep dt f s
  | .seqTrig dt g => Sys2Proof.Machine.execSeqTrig dt g s
  | .seqTrigger dt f => Sys2Proof.Machine.execSeqTrigger dt f s
  | .settleEnd dt g leadA leadB => Sys2Proof.Machine.execSettleEnd dt g leadA leadB s
  | .conversionSlotEnd dt g m => Sys2Proof.Machine.execConversionSlotEnd dt g m s
  | .channelStale dt ch => Sys2Proof.Machine.execChannelStale dt ch s
  | .sampleRead dt f => Sys2Proof.Machine.execSampleRead dt f s
  | .streamOpen dt f => Sys2Proof.Machine.execStreamOpen dt f s
  | .picaScanPeriod dt p => Sys2Proof.Machine.execPicaScanPeriod dt p s
  | .picaReadSlotEnd dt p r => Sys2Proof.Machine.execPicaReadSlotEnd dt p r s
  | .picaEnumEnd dt p found => Sys2Proof.Machine.execPicaEnumEnd dt p found s
  | .portOpen dt p => Sys2Proof.Machine.execPortOpen dt p s
  | .portShort dt p => Sys2Proof.Machine.execPortShort dt p s
  | .portShortRetry dt p => Sys2Proof.Machine.execPortShortRetry dt p s
  | .picaPointStale dt p point => Sys2Proof.Machine.execPicaPointStale dt p point s
  | .zoneEvaluate dt z => Sys2Proof.Machine.execZoneEvaluate dt z s
  | .zoneAgeingTick dt => Sys2Proof.Machine.execZoneAgeingTick dt s
  | .zoneHoldTimeout dt z => Sys2Proof.Machine.execZoneHoldTimeout dt z s
  | .picaScan dt f => Sys2Proof.Machine.execPicaScan dt f s
  | .picaEnum dt f => Sys2Proof.Machine.execPicaEnum dt f s
  | .loopEval dt l => Sys2Proof.Machine.execLoopEval dt l s
  | .cleValueToken dt l => Sys2Proof.Machine.execCleValueToken dt l s
  | .loopEvalStart dt => Sys2Proof.Machine.execLoopEvalStart dt s
  | .loopEvalComplete dt l => Sys2Proof.Machine.execLoopEvalComplete dt l s
  | .loopDeadline dt l => Sys2Proof.Machine.execLoopDeadline dt l s
  | .setpointCopy dt l => Sys2Proof.Machine.execSetpointCopy dt l s
  | .galleySnap dt g => Sys2Proof.Machine.execGalleySnap dt g s
  | .galleyCopy dt g => Sys2Proof.Machine.execGalleyCopy dt g s
  | .loopHold dt f => Sys2Proof.Machine.execLoopHold dt f s
  | .loopRelease dt f => Sys2Proof.Machine.execLoopRelease dt f s
  | .galleyArm dt f => Sys2Proof.Machine.execGalleyArm dt f s
  | .galleyDump dt f => Sys2Proof.Machine.execGalleyDump dt f s
  | .driveRefTick dt m => Sys2Proof.Machine.execDriveRefTick dt m s
  | .kickCatchEnd dt n fwd => Sys2Proof.Machine.execKickCatchEnd dt n fwd s
  | .kickPulsesCounted dt n pct => Sys2Proof.Machine.execKickPulsesCounted dt n pct s
  | .kickTimeout dt n => Sys2Proof.Machine.execKickTimeout dt n s
  | .stall dt n lockLost => Sys2Proof.Machine.execStall dt n lockLost s
  | .retryAttempt dt n => Sys2Proof.Machine.execRetryAttempt dt n s
  | .retryCountReset dt n => Sys2Proof.Machine.execRetryCountReset dt n s
  | .i2tExhausted dt n => Sys2Proof.Machine.execI2tExhausted dt n s
  | .driveTrip dt n src => Sys2Proof.Machine.execDriveTrip dt n src s
  | .ftripInput dt input opened => Sys2Proof.Machine.execFtripInput dt input opened s
  | .powerLimitTick dt => Sys2Proof.Machine.execPowerLimitTick dt s
  | .powerLimitReduce dt => Sys2Proof.Machine.execPowerLimitReduce dt s
  | .vinUndervolt dt vin => Sys2Proof.Machine.execVinUndervolt dt vin s
  | .vinRecover dt vin => Sys2Proof.Machine.execVinRecover dt vin s
  | .autonomyExpiry dt => Sys2Proof.Machine.execAutonomyExpiry dt s
  | .internalFanFail dt fan => Sys2Proof.Machine.execInternalFanFail dt fan s
  | .fanCmd dt f => Sys2Proof.Machine.execFanCmd dt f s
  | .fanClearTrip dt f => Sys2Proof.Machine.execFanClearTrip dt f s
  | .fanRetryNow dt f => Sys2Proof.Machine.execFanRetryNow dt f s
  | .fanUnlock dt f => Sys2Proof.Machine.execFanUnlock dt f s
  | .governorTick dt imeas vbst full => Sys2Proof.Machine.execGovernorTick dt imeas vbst full s
  | .pullinPeak dt n vavg riseUs => Sys2Proof.Machine.execPullinPeak dt n vavg riseUs s
  | .peakTimeEnd dt n => Sys2Proof.Machine.execPeakTimeEnd dt n s
  | .valveTrip dt n src => Sys2Proof.Machine.execValveTrip dt n src s
  | .coilOpen dt n => Sys2Proof.Machine.execCoilOpen dt n s
  | .clamp dt burned => Sys2Proof.Machine.execClamp dt burned s
  | .govClampClear dt => Sys2Proof.Machine.execGovClampClear dt s
  | .burnerPermitChange dt on => Sys2Proof.Machine.execBurnerPermitChange dt on s
  | .vbFault dt => Sys2Proof.Machine.execVbFault dt s
  | .valveCmd dt f => Sys2Proof.Machine.execValveCmd dt f s
  | .valveLearnL dt f vHold stepUs => Sys2Proof.Machine.execValveLearnL dt f vHold stepUs s
  | .diFilterStep dt n raw => Sys2Proof.Machine.execDiFilterStep dt n raw s
  | .doSet dt n => Sys2Proof.Machine.execDoSet dt n s
  | .doClear dt n => Sys2Proof.Machine.execDoClear dt n s
  | .doPulse dt n => Sys2Proof.Machine.execDoPulse dt n s
  | .doPulseEnd dt n => Sys2Proof.Machine.execDoPulseEnd dt n s
  | .tpropPeriodStart dt n => Sys2Proof.Machine.execTpropPeriodStart dt n s
  | .tpropOnEnd dt n => Sys2Proof.Machine.execTpropOnEnd dt n s
  | .freqHalfPeriod dt n => Sys2Proof.Machine.execFreqHalfPeriod dt n s
  | .dioUpdateFrame dt => Sys2Proof.Machine.execDioUpdateFrame dt s
  | .supervisorHeartbeat dt => Sys2Proof.Machine.execSupervisorHeartbeat dt s
  | .doWatchdogExpiry dt n => Sys2Proof.Machine.execDoWatchdogExpiry dt n s
  | .fieldFault dt n cls on => Sys2Proof.Machine.execFieldFault dt n cls on s
  | .ovlRetry dt n => Sys2Proof.Machine.execOvlRetry dt n s
  | .fioFaultRise dt => Sys2Proof.Machine.execFioFaultRise dt s
  | .fioFaultFall dt => Sys2Proof.Machine.execFioFaultFall dt s
  | .faultScanRepeat dt => Sys2Proof.Machine.execFaultScanRepeat dt s
  | .faultScanStep dt => Sys2Proof.Machine.execFaultScanStep dt s
  | .couplerFault dt n out => Sys2Proof.Machine.execCouplerFault dt n out s
  | .dioFaultScan dt f => Sys2Proof.Machine.execDioFaultScan dt f s
  | .hlTrip dt ch => Sys2Proof.Machine.execHlTrip dt ch s
  | .heartbeatStale dt => Sys2Proof.Machine.execHeartbeatStale dt s
  | .contactWeld dt relay => Sys2Proof.Machine.execContactWeld dt relay s
  | .limitResetKey dt released => Sys2Proof.Machine.execLimitResetKey dt released s
  | .keyStuck dt => Sys2Proof.Machine.execKeyStuck dt s
  | .hlReset dt f => Sys2Proof.Machine.execHlReset dt f s
  | .pchain dt => Sys2Proof.Machine.execPchain dt s
  | .powerOn dt straps => Sys2Proof.Machine.execPowerOn dt straps s
  | .powerFail dt vin => Sys2Proof.Machine.execPowerFail dt vin s
  | .rideThrough dt vin => Sys2Proof.Machine.execRideThrough dt vin s
  | .powerCommit dt holdup => Sys2Proof.Machine.execPowerCommit dt holdup s
  | .supervisorWatchdog dt => Sys2Proof.Machine.execSupervisorWatchdog dt s
  | .proofStageEnd dt pass item time meas hl0 hl1 => Sys2Proof.Machine.execProofStageEnd dt pass item time meas hl0 hl1 s
  | .proofVinReady dt vin => Sys2Proof.Machine.execProofVinReady dt vin s
  | .proofVinTimeout dt => Sys2Proof.Machine.execProofVinTimeout dt s
  | .tIntThreshold dt t => Sys2Proof.Machine.execTIntThreshold dt t s
  | .overtemp dt t => Sys2Proof.Machine.execOvertemp dt t s
  | .powerStateEntry dt => Sys2Proof.Machine.execPowerStateEntry dt s
  | .plannedWake dt => Sys2Proof.Machine.execPlannedWake dt s
  | .wake dt src => Sys2Proof.Machine.execWake dt src s
  | .latencySet dt f => Sys2Proof.Machine.execLatencySet dt f s
  | .clientHello dt port assoc cookie offerOk => Sys2Proof.Machine.execClientHello dt port assoc cookie offerOk s
  | .handshakeDone dt assoc fp certOk => Sys2Proof.Machine.execHandshakeDone dt assoc fp certOk s
  | .handshakeTimeout dt assoc => Sys2Proof.Machine.execHandshakeTimeout dt assoc s
  | .sessionOpen dt h assoc role opts rsv => Sys2Proof.Machine.execSessionOpen dt h assoc role opts rsv s
  | .sessionOpenTimeout dt assoc => Sys2Proof.Machine.execSessionOpenTimeout dt assoc s
  | .ack dt h => Sys2Proof.Machine.execAck dt h s
  | .sessionClose dt h reason => Sys2Proof.Machine.execSessionClose dt h reason s
  | .keepalive dt h => Sys2Proof.Machine.execKeepalive dt h s
  | .regRead dt h addr count => Sys2Proof.Machine.execRegRead dt h addr count s
  | .regWrite dt h addr count rsv vals => Sys2Proof.Machine.execRegWrite dt h addr count rsv vals s
  | .qCreate dt h q depth cq coalN cls coalT => Sys2Proof.Machine.execQCreate dt h q depth cq coalN cls coalT s
  | .qDelete dt h q => Sys2Proof.Machine.execQDelete dt h q s
  | .submit dt h sq first rsv tail entries => Sys2Proof.Machine.execSubmit dt h sq first rsv tail entries s
  | .badFrame dt h kind => Sys2Proof.Machine.execBadFrame dt h kind s
  | .frameRetransmit dt sid => Sys2Proof.Machine.execFrameRetransmit dt sid s
  | .ackTimer dt sid => Sys2Proof.Machine.execAckTimer dt sid s
  | .sessionTimeout dt sid => Sys2Proof.Machine.execSessionTimeout dt sid s
  | .keepaliveSend dt sid => Sys2Proof.Machine.execKeepaliveSend dt sid s
  | .deliver dt q => Sys2Proof.Machine.execDeliver dt q s
  | .commandFetch dt sq => Sys2Proof.Machine.execCommandFetch dt sq s
  | .commandStart dt f => Sys2Proof.Machine.execCommandStart dt f s
  | .commandTimeout dt f => Sys2Proof.Machine.execCommandTimeout dt f s
  | .resetWaitExpiry dt f => Sys2Proof.Machine.execResetWaitExpiry dt f s
  | .lingerExpiry dt sid => Sys2Proof.Machine.execLingerExpiry dt sid s
  | .nop dt f => Sys2Proof.Machine.execNop dt f s
  | .identify dt f => Sys2Proof.Machine.execIdentify dt f s
  | .getState dt f => Sys2Proof.Machine.execGetState dt f s
  | .paramRead dt f => Sys2Proof.Machine.execParamRead dt f s
  | .paramWrite dt f => Sys2Proof.Machine.execParamWrite dt f s
  | .formeOpen dt f => Sys2Proof.Machine.execFormeOpen dt f s
  | .formeWrite dt f => Sys2Proof.Machine.execFormeWrite dt f s
  | .formeCheck dt f => Sys2Proof.Machine.execFormeCheck dt f s
  | .quoin dt f => Sys2Proof.Machine.execQuoin dt f s
  | .quoinBoundary dt => Sys2Proof.Machine.execQuoinBoundary dt s
  | .stationChangeover dt => Sys2Proof.Machine.execStationChangeover dt s
  | .quoinTimeout dt => Sys2Proof.Machine.execQuoinTimeout dt s
  | .formeDiscard dt f => Sys2Proof.Machine.execFormeDiscard dt f s
  | .stationReset dt f => Sys2Proof.Machine.execStationReset dt f s
  | .stationReturn dt st => Sys2Proof.Machine.execStationReturn dt st s
  | .unitReset dt f => Sys2Proof.Machine.execUnitReset dt f s
  | .updateStage dt f => Sys2Proof.Machine.execUpdateStage dt f s
  | .updateCheck dt f img => Sys2Proof.Machine.execUpdateCheck dt f img s
  | .updateCommit dt f => Sys2Proof.Machine.execUpdateCommit dt f s
  | .updateAbort dt f => Sys2Proof.Machine.execUpdateAbort dt f s
  | .updateRestart dt => Sys2Proof.Machine.execUpdateRestart dt s
  | .supervisorReturn dt => Sys2Proof.Machine.execSupervisorReturn dt s
  | .unitProgramDone dt ok => Sys2Proof.Machine.execUnitProgramDone dt ok s
  | .flushTimer dt => Sys2Proof.Machine.execFlushTimer dt s
  | .keyframeTimer dt => Sys2Proof.Machine.execKeyframeTimer dt s
  | .logRead dt f => Sys2Proof.Machine.execLogRead dt f s
  | .logCopyResume dt => Sys2Proof.Machine.execLogCopyResume dt s
  | .recordMark dt f => Sys2Proof.Machine.execRecordMark dt f s
  | .reprintStart dt f => Sys2Proof.Machine.execReprintStart dt f s
  | .reprintStop dt f => Sys2Proof.Machine.execReprintStop dt f s
  | .reprintRecord dt => Sys2Proof.Machine.execReprintRecord dt s
  | .sfpModuleChange dt l m => Sys2Proof.Machine.execSfpModuleChange dt l m s
  | .laneUp dt l => Sys2Proof.Machine.execLaneUp dt l s
  | .laneDown dt l hop => Sys2Proof.Machine.execLaneDown dt l hop s
  | .discoverCell dt l info => Sys2Proof.Machine.execDiscoverCell dt l info s
  | .statusCell dt l pos info => Sys2Proof.Machine.execStatusCell dt l pos info s
  | .statusCellSend dt l => Sys2Proof.Machine.execStatusCellSend dt l s
  | .syncCellReceive dt l masterMt masterId serial offset delay => Sys2Proof.Machine.execSyncCellReceive dt l masterMt masterId serial offset delay s
  | .syncCellSend dt => Sys2Proof.Machine.execSyncCellSend dt s
  | .controlCell dt st cseq status result => Sys2Proof.Machine.execControlCell dt st cseq status result s
  | .controlCellRetransmit dt st => Sys2Proof.Machine.execControlCellRetransmit dt st s
  | .recordCell dt st epoch seq tok => Sys2Proof.Machine.execRecordCell dt st epoch seq tok s
  | .bulkCell dt st => Sys2Proof.Machine.execBulkCell dt st s
  | .tripBlockReceive dt l st bits seq crcOk => Sys2Proof.Machine.execTripBlockReceive dt l st bits seq crcOk s
  | .tripBlockRepeat dt => Sys2Proof.Machine.execTripBlockRepeat dt s
  | .tripCellReceive dt st bits => Sys2Proof.Machine.execTripCellReceive dt st bits s
  | .tripCellRepeat dt => Sys2Proof.Machine.execTripCellRepeat dt s
  | .nodeLost dt st => Sys2Proof.Machine.execNodeLost dt st s
  | .nodeUpdateTimeout dt st => Sys2Proof.Machine.execNodeUpdateTimeout dt st s
  | .peerZoneExport dt => Sys2Proof.Machine.execPeerZoneExport dt s
  | .peerBoostSend dt g => Sys2Proof.Machine.execPeerBoostSend dt g s
  | .peerTimeout dt nodeId => Sys2Proof.Machine.execPeerTimeout dt nodeId s
  | .laneStatus dt f => Sys2Proof.Machine.execLaneStatus dt f s
  | .nodeReset dt f => Sys2Proof.Machine.execNodeReset dt f s
  | .ackKey dt released => Sys2Proof.Machine.execAckKey dt released s
  | .lampTest dt => Sys2Proof.Machine.execLampTest dt s
  | .ackStuck dt => Sys2Proof.Machine.execAckStuck dt s
  | .strapSample dt straps => Sys2Proof.Machine.execStrapSample dt straps s
  | .testmuxSet dt f => Sys2Proof.Machine.execTestmuxSet dt f s
  | .usbAttach dt => Sys2Proof.Machine.execUsbAttach dt s
  | .vinRangeChange dt vin => Sys2Proof.Machine.execVinRangeChange dt vin s
  | .picaConvertWaitEnd dt p => Sys2Proof.Machine.execPicaConvertWaitEnd dt p s
  | .portFaultClear dt p => Sys2Proof.Machine.execPortFaultClear dt p s
  | .usbDetach dt => Sys2Proof.Machine.execUsbDetach dt s
  | .ethernetLinkChange dt port up speed => Sys2Proof.Machine.execEthernetLinkChange dt port up speed s
  | .lampTestEnd dt => Sys2Proof.Machine.execLampTestEnd dt s
  | .debugHalt dt => Sys2Proof.Machine.execDebugHalt dt s
  | .debugRelease dt => Sys2Proof.Machine.execDebugRelease dt s
  | .quoinPreloadDone dt => Sys2Proof.Machine.execQuoinPreloadDone dt s
  | .tripSourceClear dt valve n src => Sys2Proof.Machine.execTripSourceClear dt valve n src s
  | .hlThresholdCrossing dt ch m => Sys2Proof.Machine.execHlThresholdCrossing dt ch m s

end Sys2Proof.Machine
end

