-- ==== Sys2Proof/Safety.lean ====
section
/-! DEFINITION. The terms of the claims: what it means that a command completes, that two states agree but for named
parts, and the invariants of the unit. -/

namespace Sys2Proof.Machine

/-- The command answers a next state. -/
def completes (c : Instr) (s : State) : Prop := ∃ t, exec c s = .next t

/-- The parts of the state: the blocks of 01 Table 1.2, the supervisor's memory, the record, and the model's own two
fields. -/
inductive Part where
  | time | imp | timers | cols | probe | pica | toks | cle | fan | valve | dio | hl | power | unit | host | sup | store
  | lane | svc | free | pending
  deriving DecidableEq, Repr

/-- The state with some parts blanked out: two states that agree so differ in those parts only. -/
def State.but (ps : List Part) (s : State) : State where
  time := if Part.time ∈ ps then {} else s.time
  imp := if Part.imp ∈ ps then {} else s.imp
  timers := if Part.timers ∈ ps then [] else s.timers
  cols := if Part.cols ∈ ps then [] else s.cols
  probe := if Part.probe ∈ ps then {} else s.probe
  pica := if Part.pica ∈ ps then {} else s.pica
  toks := if Part.toks ∈ ps then [] else s.toks
  cle := if Part.cle ∈ ps then {} else s.cle
  fan := if Part.fan ∈ ps then {} else s.fan
  valve := if Part.valve ∈ ps then {} else s.valve
  dio := if Part.dio ∈ ps then {} else s.dio
  hl := if Part.hl ∈ ps then {} else s.hl
  power := if Part.power ∈ ps then {} else s.power
  unit := if Part.unit ∈ ps then {} else s.unit
  host := if Part.host ∈ ps then {} else s.host
  sup := if Part.sup ∈ ps then {} else s.sup
  store := if Part.store ∈ ps then {} else s.store
  lane := if Part.lane ∈ ps then {} else s.lane
  svc := if Part.svc ∈ ps then {} else s.svc
  free := if Part.free ∈ ps then 0 else s.free
  pending := if Part.pending ∈ ps then [] else s.pending

/-- The two states agree in everything but the named parts. -/
def sameBut (ps : List Part) (s t : State) : Prop := s.but ps = t.but ps

/-- What a slug may touch: the rings of the EQs, the staging of the log, the FAULT lamp. -/
def slugParts : List Part := [.host, .store, .svc]

/-- A queue that slugs do not write. -/
def notEq (q : Queue) : Bool := decide (q.num < 768 ∨ 896 ≤ q.num)

/-- A store without its staging buffer, its counts and the recorder's buffer. -/
def RecSt.quiet (r : RecSt) : RecSt :=
  { r with nextSeq := 0, staging := [], inProg := 0, tripQ := [], drops := [], dropFirst := 0, dropLast := 0, dropped := 0
           hwm := 0, partMt := none, buf := [], recIdx := 0, lost := 0, lostMt := 0 }
/-- The state without what slugs and input records leave behind: the rings of the EQs, the staging of the log with its
counts, the recorder's buffer, the FAULT lamp. Two states with equal `quiet` differ in those only. -/
def State.quiet (s : State) : State :=
  { s with
    host := { s.host with queues := s.host.queues.filter notEq }
    store := s.store.quiet
    svc := { s.svc with faultLed := false } }

/-- A host command runs and can be executed: fetched, started, with this opcode (14 R368, R369). -/
def ready (fl : Flight) (op : Nat) : Bool := fl.started && !fl.deferred && decide (fl.e.op = op)

/-- A session of at least a role writes registers: it is open, the unit is not in PROOF_HOLD, no station resets and no
reprint runs (20 R479, R482). -/
def canWrite (s : State) (sid role : Nat) : Bool :=
  (s.session? sid).any (fun x => decide (role ≤ x.role)) && !s.isSt .proofHold && s.sup.resets.isEmpty && s.store.reprint.isNone

/-- The command reports no supply voltage outside the operating conditions, 0 to 100.00 V (13 R343). -/
def supplyOk : Instr → Bool
  | .vinRangeChange _ vin | .vinRecover _ vin | .rideThrough _ vin | .proofVinReady _ vin => decide (vin ≤ 10000)
  | _ => true

/-- The frame is the session's next in SEQ order, nothing is held behind it, and its reply need not wait (14 R356). -/
def nextFrame (x : Session) (h : Hdr) : Bool :=
  decide (h.seq = (x.rx + 1) % 2 ^ 32) && x.held.isEmpty && x.txq.isEmpty && decide (x.unacked.length < 32)

/-- The session ended: it is gone, its queues are ORPHAN and linger for HL_LINGER (14 R373). -/
def endedAt (x : Session) (now : Nat) (t : State) : Prop :=
  t.session? x.sid = none ∧ (∀ q ∈ t.host.queues, q.owner = x.sid → q.orphan = true) ∧
  { sid := x.sid, fp := x.fp, untilMt := now + x.linger * Config.sec, len := x.linger } ∈ t.host.lingers

/-- The last frame that a session sent. -/
def lastSent (t : State) (sid : Nat) : Option UnitFrame :=
  (t.session? sid).bind fun y => y.unacked.getLast?.map (·.frame)

/-- Zone z has been evaluated between s and t: OK at its quorum of valid sources, else FAILED where `fails`, and
otherwise as it was (07 R177, R181). -/
def zoneJudged (s t : State) (z : Nat) (fails : Bool) : Prop :=
  let vs := t.zoneVals z
  let x := t.zone z
  x.valid = vs.length ∧ x.evalMt = t.now ∧
  (0 < vs.length → t.pZn z 2 ≤ vs.length →
    x.st = .ok ∧ x.value = some (zoneFunc (t.pZn z 0) vs) ∧ x.demand = t.zoneCurve z (zoneFunc (t.pZn z 0) vs)) ∧
  ((vs.length = 0 ∨ vs.length < t.pZn z 2) →
    (fails = true → x.st = .failed ∧ x.value = none ∧ x.demand = t.pZn z 4) ∧
    (fails = false → x.st = (s.zone z).st ∧ x.value = (s.zone z).value ∧ x.demand = (s.zone z).demand))

/-- The keys of a table rise. -/
def keysRise {α : Type} (t : Sparse α) : Prop := t.Pairwise fun a b => a.1 < b.1

/-- The tables of stations 0x01 to 0x0A and of the DIO station, live or saved, have the sizes of 01 Table 1.2: 4 wheels
and MA's 5 conditions, 6 windows of at most 32 slots, a dispatch queue of at most 256 (03 R77, R79), 32 timers, 4 columns,
64 channels in 4 groups, 8 ports, 16 zones, 48 loops, 8 galleys, 32 inputs, 24 outputs, and an 8-bit epoch of each of the
22 stations of the unit (01 R20). -/
def Image.shaped (x : Image) : Prop :=
  x.time.wheels.length = 4 ∧ x.time.active.length = 5 ∧ x.imp.wins.length = 6 ∧ (∀ w ∈ x.imp.wins, w.length ≤ 32) ∧
  x.imp.queue.length ≤ 256 ∧ keysRise x.imp.slots ∧ x.timers.length = 32 ∧ x.cols.length = 4 ∧ x.probe.chans.length = 64 ∧
  x.probe.groups.length = 4 ∧ x.pica.ports.length = 8 ∧ x.pica.zones.length = 16 ∧ x.cle.loops.length = 48 ∧
  x.cle.galleys.length = 8 ∧ x.dio.ins.length = 32 ∧ x.dio.outs.length = 24 ∧ x.epochs.length = 22 ∧ ∀ e ∈ x.epochs, e < 256

/-- The invariant of the unit: its tables, and those of every state it has saved, have their sizes; at most 16 sessions
are open, each in one of the four roles with its latches in order (14 R346, R351, 20 R481); node stations and forme parameters are kept in order. -/
def State.wf (s : State) : Prop :=
  s.image.shaped ∧ s.fan.drives.length = 6 ∧ s.fan.groups.length = 4 ∧ s.fan.ftrip.length = 2 ∧ s.valve.svs.length = 8 ∧
  s.hl.chs.length = 2 ∧ s.hl.temps.length = 2 ∧ s.hl.rb.length = 2 ∧ s.power.res.length = 9 ∧ s.lane.lanes.length = 4 ∧
  s.svc.sel.length = 6 ∧ keysRise s.lane.nodes ∧ keysRise s.sup.forme.params ∧ (∀ o ∈ s.sup.openF.toList, keysRise o.forme.params) ∧
  s.host.sessions.length ≤ 16 ∧ (∀ x ∈ s.host.sessions, x.role ≤ 3 ∧ keysRise x.latches) ∧ (∀ k ∈ s.store.keys, k.img.shaped) ∧
  ∀ r ∈ s.store.reprint.toList, r.saved.shaped

end Sys2Proof.Machine
end

