-- ==== Sys2Proof/Certificates/Slice0/Obligations.lean ====
section
/-! DEFINITION. The statements for the provers. `dt` is the time since the command before, `s.elapse dt` the state when
the command comes; `quiet` (Safety.lean) leaves out what slugs and input records write. -/

open Sys2Proof Sys2Proof.Machine


/-- A step takes the command at the front of the queue, runs it with the queue's rest, and every command completes (14
R367 (the block's queue of commands), 02 R34, 13 R343). For every command c and state s with c at the front of its
queue, step of s is exec of c at s with the queue's rest; on an empty queue the step idles for one 10 ns cycle (the
model's choice, log 1). Every command answers a next state in every state, unless it reports a supply voltage above
100 V, which is outside the operating conditions. -/
def Obligations.StepTakesTheFrontCommand : Prop :=
  (∀ (c : Instr) (rest : List Instr) (s : State), s.pending = c :: rest → step s = exec c { s with pending := rest }) ∧
  (∀ s : State, s.pending = [] → step s = .next (s.elapse 1)) ∧
  ∀ (c : Instr) (s : State), supplyOk c = true → ∃ t, exec c s = .next t

/-- REGISTER_WRITE of MA_EVT, CNT_CLR, LAT_CLR and WD_REL have their effect at once and change nothing else (00 R10, 20
R489, 20 R482, 11 R281, 13 R339). A host frame wakes the unit. In a session of the Operator role or higher that can
write registers, REGISTER_WRITE of MA_EVT clears exactly the bits written as 1, CNT_CLR clears the six counts of
IMP_CTRL and keeps IMP_LAT_MAX, LAT_CLR clears IMP_LAT_MAX only, WD_REL requests the release of the output watchdog;
each answers a next state, and apart from slugs and input records nothing else changes. -/
def Obligations.RegisterWritesTakeEffectAtOnce : Prop :=
  ∀ (dt sid : Nat) (s u : State), u = (s.elapse dt).wakeUp → canWrite s sid 1 = true →
    (∀ v, v < 2 ^ 32 → ∃ t, exec (.registerWrite dt sid 0x307 v) s = .next t ∧
      t.quiet = { u with
        time := { u.time with maEvt := u.time.maEvt &&& ~~~BitVec.ofNat 32 v }
        host := { u.host with lastWord := some (0x307, v, sOK) } }.quiet) ∧
    (∃ t, exec (.cntClr dt sid) s = .next t ∧
      t.quiet = { u with
        imp := { u.imp with disp := 0, late := 0, refused := 0, winLate := 0, skip := 0, resetLoss := 0 }
        host := { u.host with lastWord := some (0x400, 1, sOK) } }.quiet) ∧
    (∃ t, exec (.latClr dt sid) s = .next t ∧
      t.quiet = { u with
        imp := { u.imp with latMax := 0 }, host := { u.host with lastWord := some (0x400, 2, sOK) } }.quiet) ∧
    ∃ t, exec (.wdRel dt sid) s = .next t ∧
      t.quiet = { u with
        dio := { u.dio with release := true }, host := { u.host with lastWord := some (0xB09, 1, sOK) } }.quiet

/-- A register write refused because of role changes no register and leaves an audit slug (R11). A write in a session
whose role is too low for the word (an Operator and a loop limit, an Observer and MA_EVT) completes with DENIED_ROLE,
changes nothing but the reply and the record, and takes the next SEQ of the log for its audit slug. -/
def Obligations.RoleRefusesRegisterWrite : Prop :=
  ∀ (dt sid addr v : Nat) (s u : State) (x : Session), u = (s.elapse dt).wakeUp → s.session? sid = some x → v < 2 ^ 32 →
    (∃ r, accRole (regAcc addr) = some r ∧ x.role < r) →
    ∃ t, exec (.registerWrite dt sid addr v) s = .next t ∧
      t.quiet = { u with host := { u.host with lastWord := some (addr, v, sDENIED) } }.quiet ∧
      t.store.nextSeq = incW 32 u.store.nextSeq

/-- A doorbell moves the tail of an SQ or the head of a ring, for the owner session and inside its span only (14 R364, 20
R492). The doorbell's index is bits 11 to 0. The owner's write inside the span sets the tail of the SQ, which makes
the entries from the head up to it available, or frees the entries before the new head of a CQ, EQ or XQ; a write by
another session, or outside the span from the present head to the end of what DELIVER frames have sent, is refused
with BAD_ARG and changes nothing. Only that queue changes. -/
def Obligations.DoorbellsMoveOnlyForTheirOwner : Prop :=
  ∀ (dt sid q v idx : Nat) (s u : State) (y : Session), u = (s.elapse dt).wakeUp → s.session? sid = some y → v < 2 ^ 32 →
    idx = v % 4096 →
    (∀ x, q < 512 → s.owns sid q = some x → tailOk x x.w idx = true →
      exec (.sqDoorbellWrite dt sid q v) s = .next
        ((u.onQueue q fun z => { z with tail := idx }).onHost fun h => { h with lastWord := some (0x4000 + q, v, sOK) }) ∧
      (x.head < x.depth → available { x with tail := idx } = (idx + x.depth - x.head) % x.depth)) ∧
    (∀ x, 512 ≤ q → q < 1024 → s.owns sid q = some x → idx < x.depth → (idx + x.depth - x.head) % x.depth ≤ x.sent →
      exec (.headDoorbellWrite dt sid q v) s = .next
        ((u.onQueue q fun z => { z with
            head := idx, ring := z.ring.drop ((idx + x.depth - x.head) % x.depth)
            sent := z.sent - (idx + x.depth - x.head) % x.depth }).onHost fun h =>
          { h with lastWord := some (0x4000 + q, v, sOK) })) ∧
    (q < 512 → (s.owns sid q = none ∨ ∃ x, s.owns sid q = some x ∧ tailOk x x.w idx = false) →
      exec (.sqDoorbellWrite dt sid q v) s = .next
        (u.onHost fun h => { h with lastWord := some (0x4000 + q, v, sBAD) })) ∧
    (512 ≤ q → q < 1024 → (s.owns sid q = none ∨
        ∃ x, s.owns sid q = some x ∧ (x.depth ≤ idx ∨ x.sent < (idx + x.depth - x.head) % x.depth)) →
      exec (.headDoorbellWrite dt sid q v) s = .next
        (u.onHost fun h => { h with lastWord := some (0x4000 + q, v, sBAD) }))

/-- A read of a _LO word latches the _HI word of the same cycle for the session (20 R481, 02 R35). LO_WORD_READ of a _LO
word answers the word's value; whatever time then passes, the session's next read of its _HI word gives the high word
of that same cycle, for MT the two halves of MT. A session that has read no _LO word reads every _HI word as 0.
Nothing but that session's latch and the reply changes. -/
def Obligations.LoWordLatchesItsHighWord : Prop :=
  ∀ (dt later sid a : Nat) (s u : State) (x : Session), u = (s.elapse dt).wakeUp → s.session? sid = some x → isLo a = true →
    x.latches.Pairwise (fun p q => p.1 < q.1) →
    (∃ t, exec (.loWordRead dt sid a) s = .next t ∧ t.host.lastWord = some (a, u.regVal x.qsel false a, sOK) ∧
      ((t.elapse later).readWord sid (a + 1)).1 = u.regVal x.qsel false (a + 1) ∧
      sameBut [.host] u t ∧ t.host = { u.host with sessions := t.host.sessions, lastWord := t.host.lastWord } ∧
      ∀ n, n ≠ sid → t.session? n = s.session? n) ∧
    u.regVal x.qsel false 0x300 = u.now % 2 ^ 32 ∧ u.regVal x.qsel false 0x301 = u.now / 2 ^ 32 % 2 ^ 32 ∧
    (x.latches = [] → ∀ b, isHi b = true → (s.readWord sid b).1 = 0)

/-- CLIENT_HELLO, HANDSHAKE_DONE, HANDSHAKE_TIMEOUT and ETHERNET_LINK_CHANGE complete as the link's rules say (14 R347, 14
R348, 14 R350, 14 R346). While the link is open, a first ClientHello with a supported offer begins a handshake if
fewer than eight are in progress and X22 is free; on Ethernet one without a cookie is begun and not agreed until the
hello comes again with a valid cookie; an unsupported offer is refused and counted. A client of an agreed handshake
whose fingerprint the trust list admits within 5 s is admitted with no session yet, another is refused and counted,
and so is a handshake 5 s old; a link change of X20 or X21 shows in HL_STAT. While the trust list is empty, X20 and
X21 admit nobody and X22 admits up to Service. -/
def Obligations.HandshakesAreAdmittedByTheTrustList : Prop :=
  ∀ (dt : Nat) (s : State),
    (∀ port assoc cookie ok, s.linkOpen = true → port < 3 → (s.host.sessions.any fun x => x.assoc = assoc) = false →
      (s.host.shakes.any fun k => k.assoc = assoc) = false →
      (port = 2 → (s.host.sessions.any fun x => x.port = 2) = false ∧ (s.host.shakes.any fun k => k.port = 2) = false) →
      (s.host.shakes.filter fun k => k.doneMt.isNone).length < 8 →
      ((ok = true ∨ (port ≠ 2 ∧ cookie = false)) →
        exec (.clientHello dt port assoc cookie ok) s = .next ((s.elapse dt).onHost fun h =>
          { h with shakes := h.shakes ++ [{ assoc, port, startMt := (s.elapse dt).now, agreed := decide (port = 2) || cookie }] })) ∧
      (ok = false → (port = 2 ∨ cookie = true) →
        exec (.clientHello dt port assoc cookie ok) s = .next ((s.elapse dt).onHost fun h => { h with hsRef := incW 32 h.hsRef }))) ∧
    (∀ port assoc, s.linkOpen = true → port < 2 → (s.host.sessions.any fun x => x.assoc = assoc) = false →
      (s.host.shakes.any fun k => k.assoc = assoc) = true →
      exec (.clientHello dt port assoc true true) s = .next ((s.elapse dt).onHost fun h =>
        { h with shakes := h.shakes.map fun k => if k.assoc = assoc then { k with agreed := true } else k })) ∧
    (∀ assoc fp cert k, s.linkOpen = true → (s.host.shakes.find? fun y => y.assoc = assoc && y.doneMt.isNone && y.agreed) = some k →
      (s.elapse dt).now ≤ k.startMt + 5 * Config.sec →
      (cert = true → (s.admitRole k.port fp).isSome = true →
        exec (.handshakeDone dt assoc fp cert) s = .next ((s.elapse dt).onHost fun h =>
          { h with shakes := h.shakes.map fun y => if y.assoc = assoc then { y with fp, doneMt := some (s.elapse dt).now } else y })) ∧
      ((cert = false ∨ s.admitRole k.port fp = none) →
        exec (.handshakeDone dt assoc fp cert) s = .next ((s.elapse dt).onHost fun h =>
          { h with shakes := h.shakes.filter fun y => y.assoc ≠ assoc, hsRef := incW 32 h.hsRef }))) ∧
    (∀ assoc, (s.host.shakes.any fun k =>
        k.assoc = assoc && k.doneMt.isNone && decide (k.startMt + 5 * Config.sec ≤ (s.elapse dt).now)) = true →
      exec (.handshakeTimeout dt assoc) s = .next ((s.elapse dt).onHost fun h =>
        { h with shakes := h.shakes.filter fun y => y.assoc ≠ assoc, hsRef := incW 32 h.hsRef })) ∧
    (∀ port up speed, port < 2 →
      exec (.ethernetLinkChange dt port up speed) s = .next ((s.elapse dt).onHost fun h =>
        { h with link := h.link.set port up, speed := h.speed.set port (if up then speed % 4 else 0) })) ∧
    (∀ fp, s.trustEmpty = true → s.admitRole 0 fp = none ∧ s.admitRole 1 fp = none ∧ s.admitRole 2 fp = some 3)

/-- SESSION_OPEN opens a session in the role asked for, with the timing parameters of now, and takes the ORPHAN queues on
RECLAIM (14 R351, 14 R372, 14 R373, 14 R356). From an association admitted at most 2 s ago, a well-formed SESSION_OPEN
with SEQ 1, a role that the trust list allows and fewer than 16 open sessions opens one session of that role and
fingerprint: SEQ 1 is received, HL_SESS_TMO, HL_LINGER, HL_RTO, HL_RETRIES and HL_CMD_TMO are those of now, and
SESSION_ACCEPT OK with SEQ 1 carries its ID, the supervisor epoch and the unit state. With RECLAIM no queue of the
fingerprint stays ORPHAN. The association is no longer a handshake. -/
def Obligations.SessionOpenGrantsTheRequestedRole : Prop :=
  ∀ (dt assoc role opts : Nat) (h : Hdr) (s : State) (k : Shake), s.session? h.sid = none → s.linkOpen = true →
    (s.host.shakes.find? fun y => y.assoc = assoc && y.doneMt.isSome) = some k →
    (k.doneMt.any fun m => decide (m + 2 * Config.sec < (s.elapse dt).now)) = false → h.seq = 1 → h.len = 8 →
    role ≤ 3 → opts ≤ 1 → ((s.elapse dt).admitRole k.port k.fp).any (fun m => decide (role ≤ m)) = true →
    s.host.sessions.length < 16 →
    ∃ t x n, exec (.sessionOpen dt h assoc role opts 0) s = .next t ∧ x ∈ t.host.sessions ∧
      t.host.sessions.length = s.host.sessions.length + 1 ∧ x.assoc = k.assoc ∧ x.port = k.port ∧ x.fp = k.fp ∧
      x.role = role ∧ x.rx = 1 ∧ x.tx = 2 ∧ x.rxMt = (s.elapse dt).now ∧
      (x.tmo = s.parN 0xD010 ∧ x.linger = s.parN 0xD011 ∧ x.rto = s.parN 0xD012 ∧ x.retries = s.parN 0xD013 ∧
        x.cmdTmo = s.parN 0xD014) ∧
      x.unacked.map (fun u => (u.seq, u.frame)) =
        [(1, .sessionAccept sOK role x.sid (s.epochOf 0) (uCode s.unit.st) n)] ∧
      (t.host.shakes.all fun y => y.assoc ≠ k.assoc) = true ∧
      (opts = 1 → ∀ l ∈ t.host.lingers, l.fp ≠ k.fp)

/-- A refused SESSION_OPEN answers its status with role 0xFF and session ID 0xFFFF, and the association ends (14 R351).
SESSION_OPEN with a bad length, a role above 3 or a reserved byte set answers BAD_ARG; a role the trust list does not
allow DENIED_ROLE; one beyond 16 sessions BUSY. Each SESSION_ACCEPT carries role 0xFF, session ID 0xFFFF, the
supervisor epoch, the unit state and 0 queues reclaimed; no session is formed, and the association ends whatever the
status. -/
def Obligations.SessionOpenRefusalsEndTheAssociation : Prop :=
  (∀ (s : State) (k : Shake) (role opts rsv len : Nat), s.openStatus k role opts rsv len =
    if len ≠ 8 ∨ 3 < role ∨ 1 < opts ∨ rsv ≠ 0 then sBAD
    else if (s.admitRole k.port k.fp).any (fun m => decide (role ≤ m)) = false then sDENIED
    else if 16 ≤ s.host.sessions.length then sBUSY else sOK) ∧
  ∀ (dt assoc role opts rsv : Nat) (h : Hdr) (s : State) (k : Shake) (st : Nat), s.session? h.sid = none →
    s.linkOpen = true →
    (s.host.shakes.find? fun y => y.assoc = assoc && y.doneMt.isSome) = some k →
    (k.doneMt.any fun m => decide (m + 2 * Config.sec < (s.elapse dt).now)) = false → h.seq = 1 →
    (s.elapse dt).openStatus k role opts rsv h.len = st → st ≠ sOK →
    ∃ t, exec (.sessionOpen dt h assoc role opts rsv) s = .next t ∧
      t.host.outFrame = some (k.assoc, some (.sessionAccept st 0xFF 0xFFFF (s.epochOf 0) (uCode s.unit.st) 0)) ∧
      t.host.sessions = s.host.sessions ∧ (t.host.shakes.all fun y => y.assoc ≠ k.assoc) = true

/-- ACK, KEEPALIVE, REG_READ, REG_WRITE, Q_CREATE, Q_DELETE, SUBMIT and BAD_FRAME of an open session act and answer as
laid out (14 R355, 14 R356, 14 R359, 14 R365, 20 R479). A frame wakes the unit. For the session's next frame in SEQ
order: KEEPALIVE is received and owes an ACK; REG_READ of a span below 0x4400 answers REG_DATA OK with the words read
in address order; REG_WRITE of Q_SEL writes it and answers one word written; Q_CREATE with fields in range, a free
number and ring memory makes the queue and answers OK; Q_DELETE of an idle queue of the session removes it, and of a
busy one answers BUSY; SUBMIT at the write index with room appends its entries; a frame of unknown TYPE or of a wrong
length only counts in HL_BADFRAME, and its SEQ is received. An ACK frame acknowledges every frame up to its value. -/
def Obligations.FramesOfASessionAnswerOnce : Prop :=
  ∀ (dt : Nat) (h : Hdr) (s u : State) (x : Session), u = (s.elapse dt).wakeUp → s.session? h.sid = some x →
    (∃ t y, exec (.ack dt { h with len := 0 }) s = .next t ∧ t.session? h.sid = some y ∧ y.rx = x.rx ∧
      y.rxMt = u.now ∧ (x.txq = [] →
        y.unacked = x.unacked.filter fun v => decide (0 < sx 32 (uw 32 ((v.seq : Int) - h.ack)))) ∧
      sameBut [.host] u t) ∧
    (nextFrame x h = true →
      (∃ t y, exec (.keepalive dt { h with len := 0 }) s = .next t ∧ t.session? h.sid = some y ∧ y.rx = h.seq ∧
        y.rxMt = u.now ∧ y.ackDue.isSome = true ∧ sameBut [.host] u t) ∧
      (∀ addr count, 1 ≤ count → count ≤ 256 → addr + count ≤ 0x4400 →
        ∃ t vals, exec (.regRead dt { h with len := 4 } addr count) s = .next t ∧ vals.length = count ∧
          vals = (((u.onHost fun y => { y with frames := incW 32 y.frames }).onSession h.sid fun y =>
            { oweAck u.now (takeAck u.now h.ack { y with rxMt := u.now }) with rx := h.seq }).readWords h.sid addr count).1 ∧
          lastSent t h.sid = some (.regData addr count sOK vals) ∧
          sameBut [.host, .power, .free] u t) ∧
      (∀ v, v < 2 ^ 32 → ∃ t y, exec (.regWrite dt { h with len := 12 } 0x110 1 0 [v]) s = .next t ∧
        t.session? h.sid = some y ∧ y.qsel = v % 1024 ∧ lastSent t h.sid = some (.regAck 0x110 1 sOK) ∧
        sameBut [.host] u t) ∧
      (∀ q depth cq coalN cls coalT, q < 1024 → depthOk depth = true → qFieldsOk q cq coalN cls coalT = true →
        (q < 512 → (s.owns h.sid cq).isSome = true) → s.queue? q = none → ringBytes q depth ≤ s.ringFree →
        ∃ t, exec (.qCreate dt { h with len := 12 } q depth cq coalN cls coalT) s = .next t ∧
          t.host.queues = s.host.queues ++ [{ num := q, depth, owner := h.sid, cq, coalN, cls, coalT }] ∧
          lastSent t h.sid = some (.qAck q sOK t.ringFree) ∧ sameBut [.host] u t) ∧
      (∀ q z, s.owns h.sid q = some z → (s.store.copies.all fun c => c.eq ≠ q) = true →
        ((qKind q = 0 → (s.host.flights.any fun f => f.sq = q) = false ∧ z.ring = []) →
          (qKind q = 1 → (s.host.queues.any fun y => decide (y.num < 512 ∧ y.cq = q)) = false) → (qKind q = 3 → z.bound = false) →
          ∃ t, exec (.qDelete dt { h with len := 2 } q) s = .next t ∧ t.queue? q = none ∧
            (∀ n, n ≠ q → t.queue? n = s.queue? n) ∧ lastSent t h.sid = some (.qAck q sOK t.ringFree)) ∧
        (qKind q = 3 → z.bound = true → ∃ t, exec (.qDelete dt { h with len := 2 } q) s = .next t ∧
          t.host.queues = s.host.queues ∧ lastSent t h.sid = some (.qAck q sBUSY t.ringFree))) ∧
      (∀ q z entries, q < 512 → s.owns h.sid q = some z → 1 ≤ entries.length → entries.length ≤ 21 →
        z.ring.length + entries.length ≤ z.depth - 1 →
        ∃ t v, exec (.submit dt { h with len := 8 + 64 * entries.length } q z.w 0 0xFFFF entries) s = .next t ∧
          t.queue? q = some v ∧ v.ring = z.ring ++ entries.map .cmd ∧ v.w = (z.w + entries.length) % z.depth ∧
          v.tail = z.tail ∧ v.head = z.head ∧ (∀ n, n ≠ q → t.queue? n = s.queue? n) ∧
          lastSent t h.sid = some (.submitAck q sOK v.w v.head) ∧ sameBut [.host] u t) ∧
      ∀ kind, kind ≤ 1 → ∃ t y, exec (.badFrame dt h kind) s = .next t ∧ t.session? h.sid = some y ∧ y.rx = h.seq ∧ y.rxMt = x.rxMt ∧
        t.host.bad = incW 32 s.host.bad ∧ sameBut [.host] u t)

/-- SESSION_CLOSE, SESSION_TIMEOUT, the last FRAME_RETRANSMIT and a bad VER end the session; its queues linger as ORPHAN
(14 R356, 14 R357, 14 R373, 14 R351, 14 R355). SESSION_CLOSE by the host, HL_SESS_TMO without a valid frame,
HL_RETRIES retransmissions of a frame and a frame whose VER is not 1 end the session: it is no longer open, every
queue of its is ORPHAN, and its linger runs for HL_LINGER. When HL_LINGER ends outside UPDATE, LINGER_EXPIRY deletes
those queues. SESSION_OPEN_TIMEOUT, 2 s after a handshake with no session, ends the association and counts it in
HL_HS_REF. -/
def Obligations.SessionsEndWithTheirQueuesOrphan : Prop :=
  ∀ (dt : Nat) (s : State),
    (∀ h x reason, s.session? h.sid = some x → x.sid = h.sid → nextFrame x h = true →
      ∃ t, exec (.sessionClose dt { h with len := 1 } reason) s = .next t ∧ endedAt x (s.elapse dt).now t) ∧
    (∀ x, s.session? x.sid = some x → x.rxMt + x.tmo * Config.sec ≤ (s.elapse dt).now →
      ∃ t, exec (.sessionTimeout dt x.sid) s = .next t ∧ endedAt x (s.elapse dt).now t ∧
        t.host.outFrame = some (x.assoc, some (.sessionClose 1))) ∧
    (∀ x u, s.session? x.sid = some x → x.port ≠ 2 →
      (x.unacked.find? fun w => decide (w.sentMt + x.rto * Config.ms * min 8 (2 ^ w.tries) ≤ (s.elapse dt).now)) = some u →
      x.retries ≤ u.tries →
      ∃ t, exec (.frameRetransmit dt x.sid) s = .next t ∧ endedAt x (s.elapse dt).now t) ∧
    (∀ h x kind, s.session? h.sid = some x → x.sid = h.sid → 2 < kind →
      ∃ t, exec (.badFrame dt h kind) s = .next t ∧ endedAt x (s.elapse dt).now t ∧
        t.host.outFrame = some (x.assoc, some (.sessionClose 4))) ∧
    (∀ sid, s.isSt .update = false →
      (s.host.lingers.any fun l => l.sid = sid && decide (l.untilMt ≤ (s.elapse dt).now)) = true →
      ∃ t, exec (.lingerExpiry dt sid) s = .next t ∧ (∀ q ∈ t.host.queues, q.orphan = true → q.owner ≠ sid) ∧
        (∀ l ∈ t.host.lingers, l.sid ≠ sid)) ∧
    ∀ assoc, (s.host.shakes.any fun k =>
        k.assoc = assoc && (k.doneMt.any fun m => decide (m + 2 * Config.sec ≤ (s.elapse dt).now))) = true →
      ∃ t, exec (.sessionOpenTimeout dt assoc) s = .next t ∧
        t.quiet = ((s.elapse dt).onHost fun h =>
          { h with shakes := h.shakes.filter fun y => y.assoc ≠ assoc, hsRef := incW 32 h.hsRef }).quiet

/-- FRAME_RETRANSMIT, ACK_TIMER, KEEPALIVE_SEND and DELIVER send what is due (14 R356, 14 R357, 14 R366). A frame
unacknowledged for its interval (HL_RTO, doubled per retransmission up to 8 x HL_RTO) is sent again and counted in
HL_RETX; an ACK owed for 2 ms goes out; KEEPALIVE goes out when nothing was sent for HL_SESS_TMO / 3; DELIVER
carries a run of consecutive entries, at most those due and never across index 0, and marks them sent. Nothing
outside the host link changes. -/
def Obligations.LinkTimersSendFrames : Prop :=
  ∀ (dt : Nat) (s : State) (x : Session), s.session? x.sid = some x →
    (∀ u, x.port ≠ 2 →
      (x.unacked.find? fun w => decide (w.sentMt + x.rto * Config.ms * min 8 (2 ^ w.tries) ≤ (s.elapse dt).now)) = some u →
      u.tries < x.retries →
      ∃ t y, exec (.frameRetransmit dt x.sid) s = .next t ∧ t.session? x.sid = some y ∧
        y.unacked = (x.unacked.map fun w =>
          if w.seq = u.seq then { w with sentMt := (s.elapse dt).now, tries := w.tries + 1 } else w) ∧
        t.host.retx = incW 32 s.host.retx ∧ sameBut [.host] (s.elapse dt) t) ∧
    ((x.ackDue.any fun m => decide (m + 2 * Config.ms ≤ (s.elapse dt).now)) = true →
      ∃ t y, exec (.ackTimer dt x.sid) s = .next t ∧ t.session? x.sid = some y ∧ y.ackDue = none ∧
        t.host.outFrame = some (x.assoc, none) ∧ sameBut [.host] (s.elapse dt) t) ∧
    (3 * x.txMt + x.tmo * Config.sec ≤ 3 * (s.elapse dt).now → x.txq = [] → x.unacked.length < 32 →
      ∃ t, exec (.keepaliveSend dt x.sid) s = .next t ∧ lastSent t x.sid = some .keepalive ∧
        sameBut [.host] (s.elapse dt) t) ∧
    ∀ q z, s.queue? q = some z → z.owner = x.sid → 512 ≤ q → z.orphan = false → x.txq = [] → x.unacked.length < 32 →
      z.sent < z.ring.length → z.coalN ≤ z.ring.length - z.sent → 0 < z.depth →
      ∃ t u k, exec (.deliver dt q) s = .next t ∧ t.queue? q = some u ∧ u = { z with sent := z.sent + k, waitMt := u.waitMt } ∧
        0 < k ∧ (z.head + z.sent) % z.depth + k ≤ z.depth ∧
        lastSent t x.sid = some (.deliver q ((z.head + z.sent) % z.depth) k (phaseOf z z.sent) ((z.ring.drop z.sent).take k)) ∧
        sameBut [.host] (s.elapse dt) t

/-- COMMAND_FETCH, COMMAND_START, COMMAND_TIMEOUT and RESET_WAIT_EXPIRY move a command from its ring to its completion (14
R367, 14 R368, 14 R369, 14 R370, 14 R371, 17 R440). The fetch takes the entry at the head of the SQ whose turn it is
and puts it in flight, or completes it with the status of its check; a command that can start and whose unit state and
epoch still hold is started, and one for a node goes out in a CONTROL cell; one that the unit state forbids completes
with its status, and with EPOCH set and another epoch STALE_EPOCH; one not started within HL_CMD_TMO completes
TIMEOUT; one that waited 50 ms for its resetting station, or for its node, completes TARGET_RESET. -/
def Obligations.CommandsAreFetchedStartedAndTimed : Prop :=
  (∀ (dt sq : Nat) (s : State) (x : Queue) (e : CmdEntry) (rest : List QEntry) (ses : Session),
    s.queue? sq = some x → sq < 512 → x.orphan = false → s.linkOpen = true → x.ring = .cmd e :: rest →
    s.fetchable x = true → s.turn = some sq → s.session? x.owner = some ses →
    ∃ t, exec (.commandFetch dt sq) s = .next (((s.elapse dt).fetchStatus ses.role e).elim t fun v => t.complete s.host.nextF v) ∧
      t.flight? s.host.nextF = (s.flight? s.host.nextF).or (some {
        f := s.host.nextF, sq, order := s.host.nextF, sid := x.owner, role := ses.role, fp := ses.fp, e
        fetchMt := (s.elapse dt).now, tmo := ses.cmdTmo }) ∧
      t.host.flights.length = s.host.flights.length + 1 ∧
      (t.queue? sq).map (fun y => (y.ring, y.head)) = some (rest, (x.head + 1) % x.depth) ∧
      sameBut [.host] (s.elapse dt) t) ∧
  (∀ (dt f : Nat) (s : State) (fl : Flight), s.flight? f = some fl → (s.elapse dt).startable fl = true → s.isSt .update = false →
    s.power.on = true → ((bitOf fl.e.flags 2 = true ∨ (s.host.flights.all fun x =>
      !(decide (x.e.target = fl.e.target) && bitOf x.e.flags 2 && (s.elapse dt).startable x)) = true)) →
    (∀ v, stateStatus s.unit.st fl.e.op = some v → exec (.commandStart dt f) s = .next ((s.elapse dt).complete f v)) ∧
    (stateStatus s.unit.st fl.e.op = none → (bitOf fl.e.flags 3 = false ∨ fl.e.expEpoch = s.epochOf fl.e.target) →
      (crosses fl.e = false →
        exec (.commandStart dt f) s = .next ((s.elapse dt).onFlight f fun x => { x with started := true, deferred := false })) ∧
      (crosses fl.e = true → exec (.commandStart dt f) s = .next
        (((s.elapse dt).onFlight f fun x => { x with started := true, deferred := true }).onLane fun l => { l with
          cells := l.cells ++ [{ station := fl.e.target, cseq := l.nextCell, flight := some f, bulk := false
                                 sentMt := (s.elapse dt).now, tries := 0 }]
          nextCell := incW 16 l.nextCell }))) ∧
    (stateStatus s.unit.st fl.e.op = none → bitOf fl.e.flags 3 = true → fl.e.expEpoch ≠ s.epochOf fl.e.target →
      exec (.commandStart dt f) s = .next ((s.elapse dt).complete f sSTALE))) ∧
  (∀ (dt f : Nat) (s : State) (fl : Flight), s.flight? f = some fl → fl.started = false →
    s.isResetting fl.e.target = false → (s.elapse dt).cmdAway fl = false → fl.fetchMt + fl.tmo * Config.ms ≤ (s.elapse dt).now →
    exec (.commandTimeout dt f) s = .next ((s.elapse dt).complete f sTMO)) ∧
  (∀ (dt f : Nat) (s : State) (fl : Flight), s.flight? f = some fl → fl.started = false →
    (s.sup.resets.find? fun y => y.station = fl.e.target) = none → (s.elapse dt).cmdAway fl = true →
    max fl.fetchMt (s.node fl.e.target).sinceMt + 50 * Config.ms ≤ (s.elapse dt).now →
    exec (.resetWaitExpiry dt f) s = .next ((s.elapse dt).complete f sTRESET)) ∧
  ∀ (dt f : Nat) (s : State) (fl : Flight) (r : Resetting), s.flight? f = some fl → fl.started = false →
    (s.sup.resets.find? fun y => y.station = fl.e.target) = some r → r.startMt + 50 * Config.ms ≤ (s.elapse dt).now →
    exec (.resetWaitExpiry dt f) s = .next ((s.elapse dt).complete f sTRESET)

/-- A completion goes to the CQ bound to the command's SQ, with TAG, STATUS, EPOCH, SQ, RESULT and MT (14 R362, 14 Table
14.5, 14 R378). When a command completes, the one entry written is at the end of the CQ bound to its SQ and holds the
command's TAG, the status, the epoch of its target, its SQ, the result bytes (byte 19 the epoch) and the low 48 bits
of MT; the command is in flight no more, and apart from the CQ, the flight and the audit slug nothing changes. -/
def Obligations.CompletionsAreWrittenToTheBoundQueue : Prop :=
  ∀ (f status : Nat) (res : List Nat) (s : State) (fl : Flight) (sq cq : Queue), s.flight? f = some fl →
    s.queue? fl.sq = some sq → s.queue? sq.cq = some cq → sq.cq < 768 → cq.ring.length + 1 < cq.depth → res.length < 20 →
    let t := s.complete f status res
    t.flight? f = none ∧ (∀ n, n ≠ f → t.flight? n = s.flight? n) ∧
    (∃ q c, t.queue? sq.cq = some q ∧ q.ring = cq.ring ++ [.comp c (bitOf fl.e.flags 1)] ∧ c.tag = fl.e.tag ∧
      c.status = status ∧ c.epoch = s.epochOf fl.e.target ∧ c.sq = fl.sq ∧ c.mt = s.now % 2 ^ 48 ∧
      c.result = padTo 19 res ++ [s.epochOf fl.e.target] ∧ q.tail = (cq.tail + 1) % cq.depth) ∧
    (∀ n, n < 768 → n ≠ sq.cq → t.queue? n = s.queue? n) ∧ sameBut slugParts s t

/-- No command of a tooth wheel moves its output position P backward, or touches another wheel (02 R40, 01 R21, 02
R57). For an edge, a synthesis, an interpolation step and a stop of a wheel, P afterwards is not behind P before
(signed 48-bit difference), and the other wheels are unchanged. Premises that every run meets: the wheel has at
most 255 pitches and a gap of at most 2, E is less than 2^40 units from P, and fewer than 2^30 pitches were counted
in ACQUIRE. -/
def Obligations.GrainPositionNeverStepsBackward : Prop :=
  ∀ (dt w : Nat) (s t : State) (c : Instr), w < 4 →
    c ∈ [Instr.toothEdge dt w, .toothSynth dt w, .twInterpAdvance dt w, .twStopTimeout dt w] →
    s.pTw w 4 ≤ 255 → s.pTw w 5 ≤ 2 → (s.wheel w).pos < 2 ^ 48 → (s.wheel w).acq < 2 ^ 30 →
    diff48 (wheelE (s.wheel w)) (s.wheel w).pos < 2 ^ 40 → -(2 ^ 40) < diff48 (wheelE (s.wheel w)) (s.wheel w).pos →
    (s.wheel w).sinceRef < 2 ^ 30 → (s.wheel w).sinceReal < 2 ^ 30 → exec c s = .next t →
    0 ≤ diff48 (t.wheel w).pos (s.wheel w).pos ∧ ∀ v, v ≠ w → t.wheel v = s.wheel v

/-- A TOOTH_EDGE is absorbed, rejected as noise, counted as one pitch, or checked as the reference gap (02 R42, 02 R44, 02
R46, 02 R48, 02 R49, 02 R50). For a wheel in LOCKED on live inputs: an edge within TW_ABSORB x Tp of a synthesis is
absorbed without a count; one earlier than TW_WIN_LO x Tp after t_bound raises NOISE_REJ and the run of rejections and
moves nothing else that counts; the TW_NOISE_N-th in a row counts one pitch and puts the wheel in RESYNC with Tp the
interval of the last two rejected edges; any other edge that is no gap signature and outside the gap zone counts one
pitch with Tp filtered by TW_PFILT; a gap signature in the zone sets the pitch index to 0 and corrects E by
(TW_PITCHES less the pitches counted) x 256. -/
def Obligations.ToothEdgesAreJudgedByTheWindow : Prop :=
  ∀ (dt w : Nat) (s : State) (x : Wheel) (m : Nat), w < 4 → w < s.time.wheels.length → s.store.reprint = none →
    s.isSt .reprint = false → s.wheel w = x → x.st = .locked → x.restart = 0 → m = (s.elapse dt).now →
    (x.absorb = true → 1000 * (m - x.tSynth) ≤ s.pTw w 8 * x.tp →
      ∃ t y, exec (.toothEdge dt w) s = .next t ∧ t.wheel w = y ∧ y.count = x.count ∧ y.pitch = x.pitch ∧ y.anchor = m ∧
        y.tReal = m ∧ y.tp = tpUpdate x.tp (m - x.tReal) (max 1 x.sinceReal) (s.pTw w 12) ∧ y.noiseRej = x.noiseRej) ∧
    (x.absorb = false → 1000 * (m - x.tBound) < s.pTw w 6 * x.tp →
      (x.rejRun + 1 < s.pTw w 10 →
        ∃ t y, exec (.toothEdge dt w) s = .next t ∧ t.wheel w = y ∧
          y = { x with
            noiseRej := incW 16 x.noiseRej, rejRun := x.rejRun + 1, tRej := m, resyncRun := 0, absorb := false
            evt := orBit x.evt 1, edges := incW 32 x.edges, kept := none }) ∧
      (s.pTw w 10 ≤ x.rejRun + 1 →
        ∃ t y, exec (.toothEdge dt w) s = .next t ∧ t.wheel w = y ∧ y.st = .resync ∧ y.count = x.count + 256 ∧
          y.tBound = m ∧ y.tp = m - x.tRej ∧ y.rejRun = 0)) ∧
    (x.absorb = false → s.pTw w 6 * x.tp ≤ 1000 * (m - x.tBound) →
      (s.pTw w 5 = 0 ∨ 2 * (m - x.tBound) < (2 * s.pTw w 5 + 1) * x.tp) → inZone (s.pTw w 4) (s.pTw w 5) (s.pTw w 11) x.pitch = false →
      ∃ t y, exec (.toothEdge dt w) s = .next t ∧ t.wheel w = y ∧ y.st = .locked ∧ y.count = x.count + 256 ∧ y.interp = 0 ∧
        y.pitch = (x.pitch + 1) % s.pTw w 4 ∧ y.tBound = m ∧ y.anchor = m ∧ y.rejRun = 0 ∧
        y.tp = tpUpdate x.tp (m - x.tReal) (x.sinceReal + 1) (s.pTw w 12) ∧ y.noiseRej = x.noiseRej) ∧
    (x.absorb = false → s.pTw w 6 * x.tp ≤ 1000 * (m - x.tBound) → 0 < s.pTw w 5 →
      (2 * s.pTw w 5 + 1) * x.tp ≤ 2 * (m - x.tBound) → inZone (s.pTw w 4) (s.pTw w 5) (s.pTw w 11) x.pitch = true →
      ∃ t y, exec (.toothEdge dt w) s = .next t ∧ t.wheel w = y ∧ y.st = .locked ∧ y.pitch = 0 ∧ y.sinceRef = 0 ∧
        y.count = x.count + 256 * (s.pTw w 5 + 1 : Nat) + 256 * ((s.pTw w 4 : Int) - (x.sinceRef + (s.pTw w 5 + 1) : Nat)))

/-- TOOTH_SYNTH counts a missing tooth, TW_INTERP_ADVANCE interpolates below a whole tooth, TW_STOP_TIMEOUT withdraws
synthesized teeth (02 R41, 02 R44, 02 R45, 02 R47, 02 R55, 02 R63). For a wheel in LOCKED or RESYNC: once the cycle is
over in which TW_WIN_HI x Tp after t_bound has come without an edge, outside the gap zone and with fewer than
TW_SYNTH_MAX teeth in a row, one tooth is counted as of that cycle, t_bound advances by Tp and SYNTH is set. The
interpolation is floor(256 (t - anchor) / Tp), at most 255, and changes no whole tooth. After TW_STOP_T without an
accepted or absorbed edge the wheel is STOPPED, and E has lost the teeth synthesized since the last real edge and
stands at 255 of that tooth. The parameters are those in force since the last edge. -/
def Obligations.WheelsRunOnBetweenEdges : Prop :=
  ∀ (dt w : Nat) (s : State) (x : Wheel) (m due : Nat), w < 4 → w < s.time.wheels.length → s.store.reprint = none →
    s.wheel w = x → (x.st = .locked ∨ x.st = .resync) → x.restart = 0 → 0 < x.tp → m = (s.elapse dt).now →
    (due = x.tBound + cdiv (s.wheelPar w 0 * x.tp) 1000 → due < m → x.synthRow < s.wheelPar w 1 →
      inZone (s.pTw w 4) (s.pTw w 5) (s.wheelPar w 2) x.pitch = false →
      ∃ t y, exec (.toothSynth dt w) s = .next t ∧ t.wheel w = y ∧ y.st = x.st ∧ y.count = x.count + 256 ∧ y.tBound = x.tBound + x.tp ∧
        y.anchor = due ∧ y.tSynth = due ∧ y.tp = x.tp ∧ y.synth = true ∧ y.absorb = true ∧ y.synthRow = x.synthRow + 1 ∧
        y.synthCnt = incW 16 x.synthCnt ∧ t.now = m) ∧
    (x.anchor + cdiv ((x.interp + 1) * x.tp) 256 ≤ m → x.interp < 255 →
      ∃ t y, exec (.twInterpAdvance dt w) s = .next t ∧ t.wheel w = y ∧ y.interp = min 255 (256 * (m - x.anchor) / x.tp) ∧
        x.interp < y.interp ∧ y.count = x.count) ∧
    (x.tLast + s.wheelPar w 3 * 10000000 ≤ m →
      ∃ t y, exec (.twStopTimeout dt w) s = .next t ∧ t.wheel w = y ∧ y.st = .stopped ∧ y.fromLocked = decide (x.st = .locked) ∧
        y.count = x.count - 256 * x.sinceReal ∧ y.interp = 255)

/-- MA_LOCK, MA_REF_LOST, MA_COAST_END, MA_REF_RETURN, the mains events and TB_STATUS do what the mains-angle rules say
(02 R59, 02 R60, 02 R61, 02 R62, 02 R68, 02 Table 2.3, 02 Table 2.7). Five cycles with a phase error below 91 units in
45.0 to 66.0 Hz, with the reference above the phase-loss threshold, lock an acquiring PLL at the angle given, and a
steered one where the steering has brought it; a lost reference coasts from its angle at the last locked frequency for
10 cycles, and an acquiring PLL becomes invalid; at the end of the coast MA is invalid; a reference back after that is
acquired, and in coast it is steered to. A mains event past its threshold sets its phase in ACTIVE and its bit in
MA_EVT, and past its hysteresis clears the phase and sets the bit; phase loss of the reference, or its frequency out
of range, also starts the coast. TB_STATUS answers the selected block, and clears a wheel's counters on request. -/
def Obligations.MainsAngleLocksCoastsAndEnds : Prop :=
  ∀ (dt : Nat) (s u : State), u = s.elapse dt → s.isSt .reprint = false → s.store.reprint = none →
    (∀ errs ext freq, errs.length = 5 → errs.all (· < 91) = true → freqOk freq = true →
      bitOf (s.time.active.getD 2 0) refPhase = false →
      (s.time.ma = .acquire → ∃ t, exec (.maLock dt errs ext freq) s = .next t ∧ t.time.ma = .locked ∧ t.time.freq = freq ∧
        t.time.extMt = u.now ∧ t.time.ext % 65536 = ext % 65536) ∧
      (s.time.ma = .coast → s.time.steer = true → ∃ t, exec (.maLock dt errs ext freq) s = .next t ∧
        t.time = { u.time with ma := .locked, ext := steerTo s.time u.now ext, extMt := u.now, freq, coastLeft := 0, steer := false })) ∧
    (∀ ext freq,
      (s.time.ma = .locked → ∃ t, exec (.maRefLost dt ext freq) s = .next t ∧
        t.time = { u.time with
          ma := .coast, ext := if diff48 ext s.time.ext < 0 then s.time.ext else ext % 2 ^ 48, extMt := u.now
          freq := if freqOk freq then freq else s.time.freq, coastLeft := 10, coastMt := u.now, steer := false
          maEvt := orBit s.time.maEvt 5 } ∧
        t.quiet.but [.time, .imp] = u.quiet.but [.time, .imp]) ∧
      (s.time.ma = .acquire → ∃ t, exec (.maRefLost dt ext freq) s = .next t ∧
        t.quiet = (u.onTime fun x => { x with ma := .invalid }).quiet)) ∧
    (s.time.ma = .coast → coastEndMt s.time ≤ u.now →
      ∃ t, exec (.maCoastEnd dt) s = .next t ∧ t.time.ma = .invalid ∧ t.time.maEvt = orBit s.time.maEvt 6 ∧
        t.quiet.but [.time, .imp] = u.quiet.but [.time, .imp]) ∧
    (s.time.ma = .invalid → ∃ t, exec (.maRefReturn dt) s = .next t ∧
      t.quiet = (u.onTime fun x => { x with ma := .acquire }).quiet) ∧
    (s.time.ma = .coast → s.time.steer = false → ∃ t, exec (.maRefReturn dt) s = .next t ∧
      t.quiet = (u.onTime fun x => { x with ext := coastAngle s.time u.now, extMt := u.now, steer := true }).quiet) ∧
    (∀ ev ph val ext freq p lost, ev < 5 → ph < 3 → s.time.active.length = 5 → p = (if ev < 3 then ph else 0) →
      lost = (decide (ev = 2 ∧ ph = refPhase) || (decide (ev = 4) && !freqOk val)) →
      bitOf (s.time.active.getD ev 0) p = false → s.mainsPast ev val false = true →
      ∃ t, exec (.mainsEventStart dt ev ph val ext freq) s = .next t ∧
        t.time.active = s.time.active.modify ev (setBit · p) ∧
        (lost = false → t.time.ma = s.time.ma ∧ t.time.maEvt = orBit s.time.maEvt ev) ∧
        (lost = true → s.time.ma = .locked → t.time.ma = .coast ∧ t.time.coastMt = u.now ∧
          t.time.maEvt = orBit (orBit s.time.maEvt ev) 5) ∧
        (lost = true → s.time.ma = .acquire → t.time.ma = .invalid) ∧
        t.quiet.but [.time, .imp] = u.quiet.but [.time, .imp]) ∧
    (∀ ev ph val p, ev < 5 → ph < 3 → s.time.active.length = 5 → p = (if ev < 3 then ph else 0) →
      bitOf (s.time.active.getD ev 0) p = true → s.mainsPast ev val true = false →
      ∃ t, exec (.mainsEventEnd dt ev ph val) s = .next t ∧ t.time.ma = s.time.ma ∧ t.time.maEvt = orBit s.time.maEvt ev ∧
        t.time.active = s.time.active.modify ev (clrBit · p) ∧
        t.quiet.but [.time, .imp] = u.quiet.but [.time, .imp]) ∧
    ∀ f fl b, s.flight? f = some fl → ready fl 0x28 = true → argB fl.e 0 = b →
      (b = 5 → exec (.tbStatus dt f) s = .next (u.complete f sOK (le 6 u.now ++
        [syncCode s.time.sync, 0] ++ leI 4 s.time.offset ++ leI 2 s.time.trim))) ∧
      (b = 4 → exec (.tbStatus dt f) s = .next (u.complete f sOK u.tbMains)) ∧
      (b < 4 → bitOf (argB fl.e 1) 0 = false → exec (.tbStatus dt f) s = .next (u.complete f sOK (tbWheel (s.wheel b)))) ∧
      (b < 4 → bitOf (argB fl.e 1) 0 = true → exec (.tbStatus dt f) s = .next
        ((u.onWheel b clearWheel).complete f sOK (tbWheel (s.wheel b)))) ∧
      (5 < b → exec (.tbStatus dt f) s = .next (u.complete f sBAD))

/-- A repeating MT slot fires at its target and takes the previous target plus REPEAT, however late the crossing is seen
(03 R71, 03 R72). A repeating slot alone in the MT window, that MT has reached but not yet passed by a REPEAT, fires
once: the firing carries its target as crossing MT, the next target is the previous target plus REPEAT modulo 2^64
whatever the instant of the crossing, the slot stays ARMED and back in the window unless this was the last of COUNT
firings, when it is DONE, and nothing but the imposition changes. A one-shot fires once and is DONE. On every base,
however late a crossing is seen, the next target is the previous one plus a multiple of REPEAT. -/
def Obligations.RepeatingSlotsNeverDrift : Prop :=
  (∀ (dt n : Nat) (s : State) (e : SlotEntry) (l : SlotLive) (last : Bool), s.store.reprint = none → s.win 0 = [n] → s.imp.wins ≠ [] →
    s.slotEntry n = e → e.base = 0 → s.slotLive n = l → s.imp.queue = [] → s.imp.held = [] →
    l.next ≤ (s.elapse dt).now → (s.elapse dt).now < 2 ^ 63 →
    (0 < e.rep → (s.elapse dt).now < l.next + e.rep → l.next + e.rep < 2 ^ 63 → (e.count = 0 ∨ 0 < l.remaining) →
      last = (decide (e.count ≠ 0) && decide (l.remaining ≤ 1)) →
      ∃ t, exec (.mtSlotCrossing dt) s = .next t ∧ t.slotLive n = { l with
          st := if last then .done else .armed, next := (l.next + e.rep) % 2 ^ 64, firings := (l.firings + 1) % 2 ^ 32
          marks := s.baseMarks 0, remaining := l.remaining - 1 } ∧
        t.imp.queue = [mkFiring n e l.next l.next 1 (s.baseMarks 0)] ∧ t.win 0 = (if last then [] else [n]) ∧
        sameBut [.imp] (s.elapse dt) t) ∧
    (e.rep = 0 → e.count ≤ 1 → e.count = l.remaining →
      ∃ t, exec (.mtSlotCrossing dt) s = .next t ∧ (t.slotLive n).st = .done ∧ t.win 0 = [] ∧
        t.imp.queue = [mkFiring n e l.next l.next 1 (s.baseMarks 0)] ∧ sameBut [.imp] (s.elapse dt) t)) ∧
  ∀ (b cur n : Nat) (late step : Bool) (s : State), b < 6 → (s.slotEntry n).base = b → 0 < (s.slotEntry n).rep →
    ∃ k, 0 < k ∧ (s.slotCross b cur n late step).2.next = ((s.slotLive n).next + k * (s.slotEntry n).rep) % baseMod b

/-- MA_SLOT_CROSSING, WINDOW_REFILL, ACTION_DISPATCH, SLOT_WRITE, SLOT_READ and SLOT_ENABLE work as laid out (03 R71, 03
R77, 03 R78, 03 R79, 03 R81, 03 R82, 03 R69, 03 R92). An advance of the locked angle sets the extended angle and
frequency; with no slot in the MA window nothing fires, and a one-shot that it reaches fires with the MT of now. A
refill brings an armed slot whose target lies ahead into its window; one that MT has passed outside the window fires
LATE and counts. The dispatcher hands the first firing to its station's inbox and counts it (NONE only counts, and is
ACCEPTED). SLOT_WRITE stages its 32 bytes in the open forme and clears CHECKED; SLOT_READ view 0 answers the live
state and changes nothing; SLOT_ENABLE operation 0 disables an armed slot and takes it from its window, operation 1
arms a disabled one at its target. -/
def Obligations.ImpositionRowsFireAndDispatch : Prop :=
  ∀ (dt : Nat) (s : State), s.store.reprint = none → s.isSt .reprint = false →
    (∀ ext freq, s.time.ma = .locked → 0 ≤ diff48 ext s.time.ext →
      (s.win 1 = [] → ∃ t, exec (.maSlotCrossing dt ext freq) s = .next t ∧
        t.quiet = ((s.elapse dt).onTime fun x => { x with
          ext := ext % 2 ^ 48, extMt := (s.elapse dt).now, freq := if freqOk freq then freq else x.freq }).quiet) ∧
      ∀ n e, s.win 1 = [n] → s.imp.wins.length = 6 → s.slotEntry n = e → e.base = 1 → e.rep = 0 → e.count ≤ 1 →
        (s.slotLive n).remaining = e.count → s.imp.queue = [] → s.imp.held = [] → 0 ≤ diff48 (ext % 2 ^ 48) (s.slotLive n).next →
        ∃ t, exec (.maSlotCrossing dt ext freq) s = .next t ∧ (t.slotLive n).st = .done ∧ t.win 1 = [] ∧
          t.imp.queue = [mkFiring n e ((s.slotLive n).next % 2 ^ 48) (s.elapse dt).now 1 0] ∧
          t.quiet.but [.time, .imp] = (s.elapse dt).quiet.but [.time, .imp]) ∧
    (∀ n l, s.imp.slots = [(n, l)] → l.st = .armed → (s.slotEntry n).base = 0 → s.win 0 = [] → s.imp.wins.length = 6 →
      (baseDiff 0 (s.elapse dt).now l.next < 0 →
        ∃ t, exec (.windowRefill dt 0) s = .next t ∧ t.win 0 = [n] ∧
          t = { s.elapse dt with imp := { s.imp with wins := s.imp.wins.modify 0 fun _ => [n] } }) ∧
      (0 ≤ baseDiff 0 (s.elapse dt).now l.next → (s.slotEntry n).rep = 0 → (s.slotEntry n).count ≤ 1 →
        l.remaining = (s.slotEntry n).count → s.imp.queue = [] → s.imp.held = [] →
        ∃ t, exec (.windowRefill dt 0) s = .next t ∧ t.win 0 = [] ∧ (t.slotLive n).st = .done ∧
          t.imp.queue = [mkFiring n (s.slotEntry n) (l.next % 2 ^ 64) (s.elapse dt).now 1 (s.baseMarks 0 + 1)] ∧
          t.imp.winLate = incW 32 s.imp.winLate ∧ t.imp.late = incW 32 s.imp.late ∧
          t.quiet.but [.imp] = (s.elapse dt).quiet.but [.imp])) ∧
    (∀ x rest, s.imp.queue = x :: rest → s.imp.held = [] → x.action ∈ [1, 6, 7, 10] →
      s.isResetting (actionStation x.action x.index) = false →
      ∃ t, exec (.actionDispatch dt) s = .next t ∧ t = { s.elapse dt with
        imp := { s.imp with
          queue := rest, disp := incW 32 s.imp.disp, latMax := max s.imp.latMax ((s.elapse dt).now - x.mt)
          inbox := s.imp.inbox ++ [x] } }) ∧
    (∀ x rest, s.imp.queue = x :: rest → s.imp.held = [] → x.action = 0 →
      ∃ t, exec (.actionDispatch dt) s = .next t ∧ t.imp.queue = rest ∧ t.imp.disp = incW 32 s.imp.disp ∧
        t.imp.inbox = s.imp.inbox ∧ t.imp.refused = s.imp.refused ∧ sameBut [.imp] (s.elapse dt) t) ∧
    (∀ f fl o, s.flight? f = some fl → ready fl 0x20 = true → argN fl.e 0 2 ≤ 4095 →
      slotReservedOk (slotOf (bytesAt fl.e.args 4 32)) = true → s.sup.openF = some o → s.sup.quoin = none →
      exec (.slotWrite dt f) s = .next (((s.elapse dt).onSup fun u =>
        { u with openF := some (openPutRec o 0x20 (argN fl.e 0 2) (bytesAt fl.e.args 4 32)) }).complete f sOK
          (le 2 (argN fl.e 0 2)))) ∧
    (∀ f fl, s.flight? f = some fl → ready fl 0x21 = true → argN fl.e 0 2 ≤ 4095 → argB fl.e 2 = 0 →
      ∃ res, exec (.slotRead dt f) s = .next ((s.elapse dt).complete f sOK res) ∧ res.length = 19 ∧
        numAt res 0 8 = (s.slotLive (argN fl.e 0 2)).next % 2 ^ 64 ∧
        res.getD 18 0 = (s.slotLive (argN fl.e 0 2)).lastAcc) ∧
    ∀ f fl n, s.flight? f = some fl → ready fl 0x22 = true → argN fl.e 0 2 = n → n < 4096 → argN fl.e 2 2 = 1 →
      s.imp.slots.Pairwise (fun a b => a.1 < b.1) →
      (argB fl.e 4 = 1 → (s.slotLive n).st = .disabled → (s.slotEntry n).base = 0 → (s.slotEntry n).rel = false →
        (s.slotEntry n).target < 2 ^ 64 → baseDiff 0 (s.elapse dt).now (s.slotEntry n).target < 0 →
        ∃ u : State, exec (.slotEnable dt f) s = .next (u.complete f sOK [1, 0, 0, 0]) ∧
          u.slotLive n = { s.slotLive n with
            st := .armed, next := (s.slotEntry n).target, remaining := (s.slotEntry n).count, refRun := false } ∧
          (∀ m, m ≠ n → u.slotLive m = s.slotLive m) ∧ u.quiet.but [.imp] = (s.elapse dt).quiet.but [.imp]) ∧
      (argB fl.e 4 = 0 → (s.slotLive n).st = .armed → ∃ u : State, exec (.slotEnable dt f) s = .next (u.complete f sOK [1, 0, 0, 0]) ∧ (u.slotLive n).st = .disabled ∧
        (∀ m, m ≠ n → u.slotLive m = s.slotLive m) ∧
        ((s.slotEntry n).base < 6 → (u.win (s.slotEntry n).base).contains n = false) ∧
        u.quiet.but [.imp] = (s.elapse dt).quiet.but [.imp])

/-- TIMER_START, TIMER_STOP, TIMER_EXPIRY and TIMER_MATCH act on one timer at the exact cycle (04 R95, 04 R96, 04 R98, 04
R99, 04 R100, 04 R101, 04 R104, 04 R105, 03 R79). A start by a slot loads TM_RELOAD (0 in COUNT), clears the prescaler
and runs the timer, from whatever source it counts, and reports ACCEPTED; a stop with no expiry due freezes the count
that stands. An expiry of an SRC 0 timer comes exactly TM_RELOAD x (PRESC + 1) cycles after the load, under LF on the
first slow tick at or after that: EXP is set, EXP_CNT counts, a ONESHOT or WATCH timer is EXPIRED at 0 and a PERIODIC
goes on from TM_RELOAD at the exact cycle; a timer chained to it counts one cycle later. A COUNT timer that equals
TM_RELOAD signals a match and goes on. Expiries that units of another source made are signalled in order. Lower timers
and those without a chain to it are unchanged. -/
def Obligations.TimersStartStopAndExpireExactly : Prop :=
  ∀ (dt n : Nat) (s u : State) (c : TmCfg) (x : Timer), u = s.elapse dt → n < s.timers.length → s.store.reprint = none →
    s.tmCfg n = c → s.timer n = x → (c.src = 3 → c.idx < n) →
    (∀ y, s.imp.inbox = [y] → y.action = 6 → y.index = n →
      ∃ t, exec (.timerStart dt n) s = .next t ∧ t.timer n = startTm c (s.tmReload n) u.now (u.tmNow n) ∧
        (0 < s.tmReload n ∨ c.mode = 2 → (t.timer n).st = .running ∧ (t.timer n).cnt = (if c.mode = 2 then 0 else s.tmReload n) ∧
          (t.timer n).anchor = u.now ∧ (t.timer n).pres = 0) ∧
        (∀ m, m ≠ n → t.timer m = s.timer m ∨
          (m < 32 ∧ (s.tmCfg m).src = 3 ∧ (s.tmCfg m).idx = n ∧ t.timer m = { s.timer m with unit_ := none })) ∧
        (s.imp.slots.Pairwise (fun a b => a.1 < b.1) → (t.slotLive y.slot).lastAcc = accCode .accepted) ∧
        t.imp.inbox = [] ∧ t.imp.refused = s.imp.refused ∧ sameBut [.imp, .timers] u t) ∧
    (∀ y, s.imp.inbox = [y] → y.action = 7 → y.index = n →
      (∀ m, tmSignalMt c (s.tmReload n) (u.tmNow n) = some m → u.now < m) →
      ∃ t, exec (.timerStop dt n) s = .next t ∧ t.timer n = tmHalt c (s.tmReload n) u.now x ∧ (t.timer n).st = .stopped ∧
        (x.st = .running → c.src = 0 → c.mode ≠ 2 → x.lf = false → x.unit_ = none →
          (t.timer n).cnt = x.cnt - (u.now - x.anchor) / (c.presc + 1)) ∧
        (∀ m, m ≠ n → t.timer m = s.timer m) ∧ t.imp.inbox = [] ∧ sameBut [.imp, .timers] u t) ∧
    (∀ e m, x.st = .running → x.due = [] → x.unit_ = none → c.src = 0 → c.mode ≠ 2 → e = x.anchor + x.cnt * (c.presc + 1) →
      m = (if x.lf then lfTick x.lfMt e else e) → m ≤ u.now →
      ∃ t, exec (.timerExpiry dt n) s = .next t ∧ (t.timer n).exp = true ∧ (t.timer n).expCnt = incW 8 x.expCnt ∧
        ((c.mode = 0 ∨ c.mode = 3) → (t.timer n).st = .expired ∧ (t.timer n).cnt = 0) ∧
        (c.mode = 1 → (t.timer n).st = .running ∧ (t.timer n).cnt = s.tmReload n ∧ (t.timer n).anchor = e) ∧
        (∀ k, k < n → t.timer k = s.timer k) ∧
        (∀ k, n < k → k < 32 → k < s.timers.length →
          if (s.tmCfg k).src = 3 ∧ (s.tmCfg k).idx = n then (t.timer k).unit_ = some (m + 1) else t.timer k = s.timer k) ∧
        t.quiet.but [.timers, .imp, .toks, .probe, .host] = u.quiet.but [.timers, .imp, .toks, .probe, .host]) ∧
    (x.st = .running → x.due = [] → x.unit_ = none → x.lf = false → c.src = 0 → c.mode = 2 → x.cnt < s.tmReload n →
      s.tmReload n < 2 ^ 32 → x.anchor + (s.tmReload n - x.cnt) * (c.presc + 1) ≤ u.now →
      ∃ t, exec (.timerMatch dt n) s = .next t ∧ (t.timer n).exp = true ∧ (t.timer n).expCnt = incW 8 x.expCnt ∧
        (t.timer n).st = .running ∧ (t.timer n).cnt = s.tmReload n ∧ (∀ k, k < n → t.timer k = s.timer k)) ∧
    ∀ i d rest, x.due = d :: rest → x.unit_ = none → d ≤ u.now →
      i = (if c.mode = 2 then Instr.timerMatch dt n else .timerExpiry dt n) →
      ∃ t, exec i s = .next t ∧ t.timer n = { x with due := rest, exp := true, expCnt := incW 8 x.expCnt } ∧
        ∀ k, k < n → t.timer k = s.timer k

/-- A write of a mask to GSTART or GSTOP starts or stops every masked timer on one cycle and leaves the others unchanged
(04 R96, 04 R98, 04 R99). In a session that may write registers as an Operator, GSTART starts, at the one MT of the
write, exactly the timers whose mask bit is 1 (a timer whose TM_RELOAD is 0 outside COUNT stays as it is), and GSTOP
stops every masked timer: with no expiry due on that cycle each freezes the count that stands, and the bits that are 0
leave their timers unchanged; a start only takes back a unit that its own event of that cycle would have given a timer
chained to it. In an Observer session either write is refused with DENIED_ROLE and no timer changes. -/
def Obligations.GroupStartIsSimultaneous : Prop :=
  ∀ (dt sid mask : Nat) (s u : State), u = (s.elapse dt).wakeUp → mask < 2 ^ 32 → s.timers.length = 32 →
    (canWrite s sid 1 = true →
      (∃ t, exec (.gstart dt sid mask) s = .next t ∧ t.quiet.but [.timers, .host] = u.quiet.but [.timers, .host] ∧
        t.host.lastWord = some (0x580, mask, sOK) ∧
        ∀ n x, n < 32 → x = (if bitOf mask n then startTm (s.tmCfg n) (s.tmReload n) u.now (u.tmNow n) else u.timer n) →
          { t.timer n with unit_ := none } = { x with unit_ := none } ∧
          (((s.tmCfg n).src = 3 → bitOf mask (s.tmCfg n).idx = false) → t.timer n = x)) ∧
      (∃ t, exec (.gstop dt sid mask) s = .next t ∧ t.host.lastWord = some (0x581, mask, sOK) ∧
        (∀ n, n < 32 → bitOf mask n = true → (t.timer n).st = .stopped) ∧
        ((∀ k m, k < 32 → bitOf mask k = true → tmSignalMt (s.tmCfg k) (s.tmReload k) (u.tmNow k) = some m → u.now < m) →
          t.quiet.but [.timers, .host] = u.quiet.but [.timers, .host] ∧
          ∀ n, n < 32 → t.timer n =
            if bitOf mask n then tmHalt (s.tmCfg n) (s.tmReload n) u.now (u.timer n) else u.timer n))) ∧
    (∀ x, s.session? sid = some x → x.role = 0 →
      (∃ t, exec (.gstart dt sid mask) s = .next t ∧ t.timers = u.timers ∧ t.host.lastWord = some (0x580, mask, sDENIED)) ∧
      ∃ t, exec (.gstop dt sid mask) s = .next t ∧ t.timers = u.timers ∧ t.host.lastWord = some (0x581, mask, sDENIED))

/-- On every MT millisecond boundary S grows by the last valid plenum value, and without one it stands and DOSE_GAP is set
(R116). HEAT_INTEGRAL_TICK serves every millisecond boundary since the last one served. Of these boundaries, k have a
plenum value that is OK and not older than LDG_PLEN_HOLD: each of them adds that value to S, modulo 2^64. If any
boundary has none, every parcel of the heat section has DOSE_GAP, with no other change of its record; otherwise no
parcel changes. Nothing but S, the flags and the served boundary changes, in this column and the others. -/
def Obligations.HeatIntegralGrowsByThePlenum : Prop :=
  ∀ (dt c m0 m1 k : Nat) (v : Int) (s : State) (x : Column), c < 4 → s.cols.length = 4 → s.col c = x → s.store.reprint = none →
    s.power.heatMs = m0 → (s.elapse dt).now / 100000 = m1 → m0 ≤ m1 → x.s < 2 ^ 64 → (x.plen.map (·.1)).getD 0 = v →
    k = ((List.range (m1 - m0)).filter fun j =>
      x.plen.any fun p => decide ((m0 + 1 + j) * 100000 ≤ p.2 + s.pLdg c 0x0D * 10000000)).length →
    ∃ t, exec (.heatIntegralTick dt) s = .next t ∧
      { t.col c with parcels := [] } = { x with parcels := [], s := uw 64 ((x.s : Int) + k * v) } ∧
      (k = m1 - m0 → (t.col c).parcels = x.parcels) ∧
      (k < m1 - m0 → ∀ i, i < (s.geo c).depth → (t.col c).at_ i =
        if s.heating c i then { x.at_ i with flags := (x.at_ i).flags ||| 4 } else x.at_ i) ∧
      t.power = { (s.elapse dt).power with heatMs := m1 } ∧ sameBut [.cols, .power] (s.elapse dt) t

/-- A LEDGER_SHIFT opens a parcel at index 0, moves every other one down, freezes the dose, predicts and publishes FFV (05
R111, 05 R117, 05 R118, 05 R120, 05 R121, 05 R122, 03 Table 3.8). For one occurrence in continuous mode: the new
parcel has the token's target, the next SEQ, LATE and SYNTH from its marks and S_ENTRY = S; every other parcel moves
down; the one that enters the heat section takes S_ENTRY = S; the one that leaves it, also at the discharge, freezes
DOSE at floor((S - S_ENTRY) / 1000) and takes M_PRED from it; the new feedforward parcel takes M_PRED from its DOSE;
FFV is its M_PRED - LDG_M_TARGET with its SEQ, or with M_PRED unknown 0 or the last known one, and goes to
LDG_FF_LOOP's inbox under the ledger's epoch; S, B and the other columns do not change. In another mode the action is
DISCARDED and no column changes. -/
def Obligations.LedgerShiftMovesEveryParcel : Prop :=
  ∀ (dt c : Nat) (s : State) (x : Column) (g : LdgGeo) (y : Firing), c < 4 → s.cols.length = 4 → s.col c = x → s.geo c = g →
    s.store.reprint = none → (s.elapse dt).now / 100000 ≤ s.power.heatMs → s.imp.inbox = [y] → y.action = 8 → y.index = c →
    s.imp.slots.Pairwise (fun a b => a.1 < b.1) →
    (g.mode ≠ 1 → ∃ t, exec (.ledgerShift dt c) s = .next t ∧ t.imp.inbox = [] ∧
      (t.slotLive y.slot).lastAcc = accCode .discarded ∧ t.quiet.but [.imp] = (s.elapse dt).quiet.but [.imp]) ∧
    (g.mode = 1 → y.occ = 1 → g.he ≤ g.depth → g.out < g.depth → g.ff < g.depth →
      ∃ t z, exec (.ledgerShift dt c) s = .next t ∧ t.col c = z ∧ (∀ k, k ≠ c → t.col k = s.col k) ∧ z.s = x.s ∧
        (z.at_ 0).entryPos = y.target % 2 ^ 48 ∧ (z.at_ 0).seq = x.nextSeq ∧ (z.at_ 0).sEntry = x.s % 2 ^ 48 ∧
        (z.at_ 0).flags = 16 * b2n (bitOf y.marks 0) + 32 * b2n (bitOf y.marks 2) ∧ (z.at_ 0).cntIn = 0 ∧
        z.nextSeq = incW 16 x.nextSeq ∧ z.shifts = incW 16 x.shifts ∧ z.bias = x.bias ∧
        z.closing = x.closing ++ [{ at_ := y.mt + 10000, cross := y.mt, out := g.out }] ∧
        (∀ i, 0 < i → i < g.depth → (g.hs < g.he → i ≠ g.hs ∧ i ≠ g.he) →
          { z.at_ i with mPred := none } = { x.at_ (i - 1) with mPred := none } ∧
          (i ≠ g.ff → (z.at_ i).mPred = (x.at_ (i - 1)).mPred)) ∧
        (0 < g.hs → g.hs < g.he →
          { z.at_ g.hs with mPred := none } = { x.at_ (g.hs - 1) with mPred := none, sEntry := x.s % 2 ^ 48 }) ∧
        (∀ p d, g.hs < g.he → (g.he < g.depth ∨ g.out + 1 = g.depth) → x.at_ (g.he - 1) = p →
          d = clamp (-2147483647) 2147483647 (diff48 (x.s % 2 ^ 48) p.sEntry / 1000) →
          (z.at_ g.he).dose = d ∧ (z.at_ g.he).seq = p.seq ∧
          (z.at_ g.he).mPred = p.mIn.map fun m =>
            max (s.pLdg c 0x0F : Int) (m - (d * s.pLdg c 0x0E + 2 ^ 23) / 2 ^ 24 + x.bias)) ∧
        (∀ q d, z.at_ g.ff = q →
          d = (if g.hs ≤ g.ff ∧ g.ff < g.he then clamp (-2147483647) 2147483647 (diff48 (x.s % 2 ^ 48) q.sEntry / 1000) else q.dose) →
          q.mPred = q.mIn.map fun m => max (s.pLdg c 0x0F : Int) (m - (d * s.pLdg c 0x0E + 2 ^ 23) / 2 ^ 24 + x.bias)) ∧
        z.ffSeq = (z.at_ g.ff).seq ∧ z.ffOk = (z.at_ g.ff).mPred.isSome ∧
        (∀ m, (z.at_ g.ff).mPred = some m → z.ffv = sat16 (m - s.pLdg c 0x10)) ∧
        ((z.at_ g.ff).mPred = none → z.ffv = if s.pLdg c 0x13 = 1 then x.lastFf else 0) ∧
        (48 ≤ s.pLdg c 8 → t.toks = s.toks) ∧
        (s.pLdg c 8 < 48 → ∃ a b, s.toks = a ++ b ∧ t.toks = a ++ {
          kind := 3, index := c, station := 4, epoch := s.epochOf 4, code := if z.ffOk then .ok else .suspect
          value := some z.ffv, stamp := (s.elapse dt).now, cons := 3, obj := s.pLdg c 8, role := 0, n := z.ffSeq } :: b) ∧
        t.imp.inbox = [] ∧ (y.pended = false → (t.slotLive y.slot).lastAcc = accCode .accepted) ∧
        t.quiet.but [.cols, .imp, .toks] = (s.elapse dt).quiet.but [.cols, .imp, .toks])

/-- LEDGER_SAMPLE counts fresh OK samples in their parcel, and PARCEL_CLOSE takes the means and updates the bias (05 R114,
05 R115, 05 R116, 05 R119, 05 R123, 01 R20). A sample of an old epoch is discarded, and so is a plenum sample that is
not OK. An OK plenum sample is the last valid value, with its stamp. In continuous mode a sample belongs to the parcel
that held index 0 or LDG_OUT_IDX at its stamp: at most one shift being open, the one it moved if the stamp is before
its crossing MT; before the last closed shift it is counted late. In batch mode it belongs to the record if a step
that samples it ran at its stamp. OK samples are added, others excluded, with EXCLUDED in the moisture roles. 100 us
after a crossing MT the inlet means of the parcel at index 1 and the outlet mean of the one that left LDG_OUT_IDX
close as sum / count, half up, unknown without a sample; with M_OUT and M_PRED known B becomes B + (M_OUT - M_PRED) /
2^LDG_BIAS_K, half up, within +-LDG_BIAS_MAX. Before that MT nothing closes. -/
def Obligations.ParcelMeansCloseAndTrainTheBias : Prop :=
  (∀ (dt c mt : Nat) (s : State) (x : Column) (t : VTok), c < 4 → s.cols.length = 4 → s.col c = x → s.toks = [t] → t.cons = 1 →
    t.obj = c → s.store.reprint = none → ((s.elapse dt).now + diff48 t.stamp ((s.elapse dt).now % 2 ^ 48)).toNat = mt →
    (t.epoch ≠ s.epochOf t.station → exec (.ledgerSample dt c) s = .next { s.elapse dt with toks := [] }) ∧
    (t.epoch = s.epochOf t.station →
      (t.role = 3 → t.code ≠ .ok → exec (.ledgerSample dt c) s = .next { s.elapse dt with toks := [] }) ∧
      (∀ v, t.role = 3 → t.code = .ok → t.value = some v → (s.elapse dt).now / 100000 ≤ s.power.heatMs →
        ∃ u, exec (.ledgerSample dt c) s = .next u ∧ u.col c = { x with plen := some (v, mt) } ∧
          (∀ k, k ≠ c → u.col k = s.col k) ∧ u.toks = [] ∧ sameBut [.cols, .toks] (s.elapse dt) u) ∧
      (t.role < 3 → ((s.geo c).mode = 1 ∧ mt < x.closedMt ∨ (s.geo c).mode = 2 ∧ mt < x.recMt) →
        ∃ u, exec (.ledgerSample dt c) s = .next u ∧ u.col c = { x with lateSmp := incW 16 x.lateSmp } ∧
          (∀ k, k ≠ c → u.col k = s.col k) ∧ u.toks = [] ∧ sameBut [.cols, .toks] (s.elapse dt) u) ∧
      ∀ i, t.role < 3 →
        ((s.geo c).mode = 1 ∧ x.closedMt ≤ mt ∧ x.closing.length ≤ 1 ∧
            (∀ cl ∈ x.closing, mt < cl.cross → i = if t.role = 2 then cl.out + 1 else 1) ∧
            ((∀ cl ∈ x.closing, cl.cross ≤ mt) → i = if t.role = 2 then (s.geo c).out else 0) ∨
          (s.geo c).mode = 2 ∧ x.recMt ≤ mt ∧ i = 0 ∧
            ∃ m f, x.phases = [(m, f)] ∧ m ≤ mt ∧ bitOf f (if t.role = 2 then 2 else 1) = true) →
        ∃ u p z, exec (.ledgerSample dt c) s = .next u ∧ x.at_ i = p ∧ (u.col c).at_ i = z ∧
          (∀ j, j ≠ i → (u.col c).at_ j = x.at_ j) ∧ { u.col c with parcels := [] } = { x with parcels := [] } ∧
          ((if t.role = 2 then p.voidOut else p.voidIn) = true → z = p) ∧
          ((if t.role = 2 then p.voidOut else p.voidIn) = false →
            (∀ v, t.code = .ok → t.value = some v →
              (t.role = 0 → z = { p with sumIn := p.sumIn + v, cntIn := p.cntIn + 1, nIn := min 255 (p.cntIn + 1) }) ∧
              (t.role = 1 → z = { p with sumT := p.sumT + v, cntT := p.cntT + 1 }) ∧
              (t.role = 2 → z = { p with sumOut := p.sumOut + v, cntOut := p.cntOut + 1, nOut := min 255 (p.cntOut + 1) })) ∧
            (t.code ≠ .ok → z = if t.role = 1 then p else { p with flags := p.flags ||| 128 })) ∧
          (∀ k, k ≠ c → u.col k = s.col k) ∧ u.toks = [] ∧ sameBut [.cols, .toks] (s.elapse dt) u)) ∧
  ∀ (dt c : Nat) (s : State) (x : Column) (cl : Closing), c < 4 → s.cols.length = 4 → s.col c = x → s.store.reprint = none →
    x.closing = [cl] →
    ((s.elapse dt).now < cl.at_ → exec (.parcelClose dt c) s = .next (s.elapse dt)) ∧
    (cl.at_ ≤ (s.elapse dt).now → cl.out < (s.geo c).depth →
      ∃ t z, exec (.parcelClose dt c) s = .next t ∧ t.col c = z ∧ z.closing = [] ∧ z.closedMt = cl.cross ∧
        (∀ p, 1 < (s.geo c).depth → x.at_ 1 = p →
          (z.at_ 1).mIn = (if p.cntIn = 0 ∨ p.voidIn = true then none else some (rdiv p.sumIn p.cntIn)) ∧
          (z.at_ 1).tIn = if p.cntT = 0 ∨ p.voidIn = true then none else some (rdiv p.sumT p.cntT)) ∧
        (∀ p, cl.out + 1 < (s.geo c).depth → x.at_ (cl.out + 1) = p →
          (z.at_ (cl.out + 1)).mOut = if p.cntOut = 0 ∨ p.voidOut = true then none else some (rdiv p.sumOut p.cntOut)) ∧
        (∀ i, i < (s.geo c).depth → i ≠ 1 → i ≠ cl.out + 1 → z.at_ i = x.at_ i) ∧
        (∀ p mp, x.at_ (cl.out + 1) = p → p.voidOut = false → 0 < p.cntOut → p.mPred = some mp →
          z.bias = clamp (-(s.pLdg c 0x12 : Int)) (s.pLdg c 0x12)
            (x.bias + rdiv (rdiv p.sumOut p.cntOut - mp) (2 ^ s.pLdg c 0x11))) ∧
        (∀ p, x.at_ (cl.out + 1) = p → (p.cntOut = 0 ∨ p.voidOut = true ∨ p.mPred = none) → z.bias = x.bias) ∧ z.s = x.s ∧
        (∀ k, k ≠ c → t.col k = s.col k) ∧ t.quiet.but [.cols] = (s.elapse dt).quiet.but [.cols])

/-- BATCH_CONDITION_TICK, BATCH_TMAX, BATCH_STEP and LEDGER_READ: A before B, PAUSED at TMAX, and the outcomes of Table
5.9 (05 R123, 05 R125, 05 R126, 05 R127, 05 R134, 05 R135, 05 Table 5.6, 05 Table 5.8, 05 Table 5.9). On a millisecond
boundary condition A is taken before B: the step named is entered afresh at this MT with its outputs on, the HOST
condition clear and its setpoint written; an END step or 0xFF closes the record and ends in DONE; if neither is met
the program stays. At TMAX, tested after the conditions, it is PAUSED. In DONE and PAUSED the outputs are off and
LDG_BATCH_SAFE_SP is written. BATCH_STEP completes with the status of Table 5.9 and leaves the batch state named
there; a status other than OK changes nothing. LEDGER_READ view 0 answers depth, mode, batch state and FFV, views 1
and 2 a half of a record with its index. -/
def Obligations.BatchProgramsRunByTheirSteps : Prop :=
  (∀ (dt c l : Nat) (s : State) (x : Column) (st : BStep), c < 4 → s.cols.length = 4 → s.col c = x → s.store.reprint = none →
    x.bst = .running → (s.geo c).mode = 2 → s.isSt .run = true → s.power.batchMs < (s.elapse dt).now / 100000 →
    s.bstep c x.step = st → (∀ k, k < 4 → k ≠ c → (s.col k).bst ≠ .running) → s.cle.loops.length = 48 → s.pLdg c 0x16 = l →
    (∀ n m, ((s.elapse dt).batchCond c st.a = true ∧ n = st.nextA ∨
        (s.elapse dt).batchCond c st.a = false ∧ (s.elapse dt).batchCond c st.b = true ∧ n = st.nextB) → s.bstep c n = m →
      ∃ t z, exec (.batchConditionTick dt) s = .next t ∧ t.col c = z ∧ t.power.batchMs = (s.elapse dt).now / 100000 ∧
        (n < 16 → 0 < m.typ → m.typ < 6 →
          z.bst = .running ∧ z.step = n ∧ z.entryMt = (s.elapse dt).now ∧ z.hostC = false ∧ z.doOut = m.doOn &&& s.pLdg c 0x17 ∧
          (m.sp ≠ 0x7FFF → l < 48 → (t.loop l).sp = m.sp) ∧ z.nextSeq = x.nextSeq) ∧
        ((15 < n ∨ m.typ = 0) → z.bst = .done ∧ z.doOut = 0 ∧ z.nextSeq = incW 16 x.nextSeq ∧
          (l < 48 → (t.loop l).sp = s.par (0x3018 + 0x40 * c)) ∧
          (1 < (s.geo c).depth → (z.at_ 0).seq = x.nextSeq ∧ (z.at_ 1).seq = (x.at_ 0).seq)) ∧
        (m.typ < 6 → s.toks = [] → (s.elapse dt).now / 100000 ≤ s.power.heatMs → (∀ k, k ≠ c → t.col k = s.col k) ∧
          t.quiet.but [.cols, .cle, .sup, .power] = (s.elapse dt).quiet.but [.cols, .cle, .sup, .power])) ∧
    ((s.elapse dt).batchCond c st.a = false → (s.elapse dt).batchCond c st.b = false →
      exec (.batchConditionTick dt) s = .next ((s.elapse dt).onPower fun p => { p with batchMs := (s.elapse dt).now / 100000 }) ∧
      (0 < st.tmax → x.entryMt + st.tmax * 100000000 ≤ (s.elapse dt).now →
        ∃ t, exec (.batchTmax dt c) s = .next t ∧ (t.col c).bst = .paused ∧ (t.col c).doOut = 0 ∧ (t.col c).step = x.step ∧
          (l < 48 → (t.loop l).sp = s.par (0x3018 + 0x40 * c))))) ∧
  (∀ (dt f c op i status : Nat) (b b' : BState) (s : State) (fl : Flight), s.flight? f = some fl → ready fl 0x31 = true →
    argB fl.e 0 = c → argB fl.e 1 = op → argB fl.e 2 = i → c < 4 → s.cols.length = 4 → (s.col c).bst = b → (s.geo c).mode = 2 →
    s.isSt .run = true → s.store.reprint = none → (s.elapse dt).now / 100000 ≤ s.power.batchMs → i < 16 →
    0 < (s.bstep c i).typ → (s.bstep c i).typ < 6 → 0 < (s.bstep c (s.col c).step).typ → (s.bstep c (s.col c).step).typ < 6 →
    (s.col c).step < 16 →
    (op, b, status, b') ∈ [
      (0, .idle, sOK, .running), (0, .running, sBUSY, .running), (0, .paused, sBUSY, .paused), (0, .done, sOK, BState.running),
      (1, .idle, sNOTST, .idle), (1, .running, sOK, .paused), (1, .paused, sOK, .paused), (1, .done, sNOTST, .done),
      (2, .idle, sNOTST, .idle), (2, .running, sOK, .running), (2, .paused, sOK, .running), (2, .done, sNOTST, .done),
      (3, .idle, sNOTST, .idle), (3, .running, sOK, .running), (3, .paused, sOK, .paused), (3, .done, sNOTST, .done),
      (4, .idle, sOK, .idle), (4, .running, sOK, .idle), (4, .paused, sOK, .idle), (4, .done, sOK, .done),
      (5, .idle, sNOTST, .idle), (5, .running, sOK, .running), (5, .paused, sNOTST, .paused), (5, .done, sNOTST, .done)] →
    ∃ u res, exec (.batchStep dt f) s = .next (u.complete f status res) ∧ (u.col c).bst = b' ∧
      (status ≠ sOK → u = s.elapse dt ∧ res = []) ∧ ((op = 3 ∨ op = 0) → status = sOK → (u.col c).step = i) ∧
      (op = 5 → status = sOK → (u.col c).hostC = true)) ∧
  ∀ (dt f c i v : Nat) (s : State) (fl : Flight), s.flight? f = some fl → ready fl 0x30 = true → argB fl.e 0 = c → c < 4 →
    argB fl.e 1 = v → argN fl.e 2 2 = i →
    (v = 0 → ∃ u res, exec (.ledgerRead dt f) s = .next (u.complete f sOK res) ∧ sameBut [.cols, .power] (s.elapse dt) u ∧
      numAt res 0 2 = (s.geo c).depth % 65536 ∧ res.getD 2 0 = (s.geo c).mode ∧ res.getD 3 0 = bCode (s.col c).bst ∧
      intAt res 8 2 = sx 16 ((s.col c).ffv % 65536).toNat) ∧
    ((v = 1 ∨ v = 2) → i < (s.geo c).depth →
      ∃ u, exec (.ledgerRead dt f) s = .next (u.complete f sOK
          ((if v = 1 then (u.recordAt c i).take 16 else (u.recordAt c i).drop 16) ++ le 2 i)) ∧
        sameBut [.cols, .power] (s.elapse dt) u) ∧
    ((3 < v ∨ v ≠ 0 ∧ (s.geo c).depth ≤ i) → exec (.ledgerRead dt f) s = .next ((s.elapse dt).complete f sBAD []))

/-- SEQ_TRIG and SEQ_TRIGGER start a pass, or are pended, restart it or are counted, by SQ_POLICY (06 R146, 06 R147, 06
R148, 06 R149, 06 R150, 06 Table 6.5, 06 Table 6.13). An idle sequencer takes a trigger: PASS increments and the pass
starts now at entry 0 with the trigger's source and marks. During a pass PEND keeps one and counts the next, RESTART
aborts the pass, counts it and starts at once, DROP counts; an empty list runs no pass and counts the action as
DROPPED; a station in reset discards it. The acceptance goes back to the slot or into the result. SEQ_TRIGGER to an
empty list answers NOT_IN_STATE, and to free run BUSY. Apart from the aborted sample only the group changes. -/
def Obligations.SequencersTakeTriggersByPolicy : Prop :=
  ∀ (dt g mt : Nat) (s : State) (x : Group), g < 4 → s.probe.groups.length = 4 → s.group g = x → s.store.reprint = none →
    s.converting = true → (s.elapse dt).now = mt →
    (∀ y, s.imp.inbox = [y] → y.action = 1 → y.index = g → s.imp.slots.Pairwise (fun a b => a.1 < b.1) →
      ∃ t z a, exec (.seqTrig dt g) s = .next t ∧ t.group g = z ∧ (t.slotLive y.slot).lastAcc = accCode a ∧ t.imp.inbox = [] ∧
        (s.isResetting (5 + g) = true → a = .discarded ∧ z = x) ∧
        (s.isResetting (5 + g) = false →
          (s.pSq g 3 = 0 → a = .dropped ∧ z = { x with overrun := incW 32 x.overrun }) ∧
          (s.pSq g 3 ≠ 0 → x.phase = .idle → a = .accepted ∧ z = { x with
            phase := .settling, slotMt := mt, idx := 0, preFail := false, pass := incW 16 x.pass, src := 0, marks := y.marks }) ∧
          (s.pSq g 3 ≠ 0 → x.phase ≠ .idle →
            (s.pSq g 0 = 0 → x.pended = none → a = .pended ∧ z = { x with pended := some (0, y.marks) }) ∧
            (s.pSq g 0 = 0 → x.pended ≠ none → a = .dropped ∧ z = { x with overrun := incW 32 x.overrun }) ∧
            (s.pSq g 0 = 1 → a = .replaced ∧ z = { x with
              phase := .settling, slotMt := mt, idx := 0, preFail := false, pass := incW 16 x.pass, src := 0, marks := y.marks
              restart := incW 32 x.restart, pended := none }) ∧
            (s.pSq g 0 = 2 → a = .dropped ∧ z = { x with overrun := incW 32 x.overrun }))) ∧
        (∀ k, k ≠ g → t.group k = s.group k) ∧
        ((x.phase = .idle ∨ s.pSq g 0 ≠ 1) → t.quiet.but [.imp, .probe] = (s.elapse dt).quiet.but [.imp, .probe] ∧
          t.probe.chans = s.probe.chans)) ∧
    ∀ f fl, s.flight? f = some fl → ready fl 0x38 = true → fl.e.target = 5 + g → s.isResetting (5 + g) = false →
      (s.pSq g 3 = 0 → exec (.seqTrigger dt f) s = .next ((s.elapse dt).complete f sNOTST [])) ∧
      (s.pSq g 3 ≠ 0 → s.pSq g 1 = 1 → exec (.seqTrigger dt f) s = .next ((s.elapse dt).complete f sBUSY [])) ∧
      (s.pSq g 3 ≠ 0 → s.pSq g 1 ≠ 1 → x.phase = .idle →
        exec (.seqTrigger dt f) s = .next (((s.elapse dt).onGroup g fun z => { z with
          phase := .settling, slotMt := mt, idx := 0, preFail := false, pass := incW 16 x.pass, src := 1, marks := 0 }).complete f sOK
            ([0, 0] ++ le 2 (incW 16 x.pass) ++ le 2 x.overrun ++ le 2 x.restart))) ∧
      (s.pSq g 3 ≠ 0 → s.pSq g 1 ≠ 1 → x.phase ≠ .idle → s.pSq g 0 = 0 → x.pended = none →
        exec (.seqTrigger dt f) s = .next (((s.elapse dt).onGroup g fun z => { z with pended := some (1, 0) }).complete f sOK
          ([1, 0] ++ le 2 (incW 16 x.pass) ++ le 2 x.overrun ++ le 2 x.restart))) ∧
      (s.pSq g 3 ≠ 0 → s.pSq g 1 ≠ 1 → x.phase ≠ .idle → (s.pSq g 0 = 2 ∨ s.pSq g 0 = 0 ∧ x.pended ≠ none) →
        exec (.seqTrigger dt f) s = .next (((s.elapse dt).onGroup g fun z => { z with overrun := incW 32 x.overrun }).complete f sOK
          ([3, 0] ++ le 2 x.pass ++ le 2 (incW 32 x.overrun) ++ le 2 x.restart)))

/-- A MOIST channel converts a capacitance by its grain table, compensated for temperature, and never outside the table
(R141). Below GT_EMPTY_C the sample is OVERRANGE with EMPTY and has no value; elsewhere outside the points it is
OVERRANGE without a value; between points i and i+1 the value is m_comp, rounded half up at both steps, with t the
compensation temperature, or GT_TREF where there is none; OVERRANGE with m_comp as computed when m_comp lies
outside 0 to 10,000. -/
def Obligations.GrainTablesAreNeverExtrapolated : Prop :=
  ∀ (s : State) (ch tb n : Nat) (c tref kt : Int) (gc gm : Nat → Int), ch < 64 → tb = 0x4800 + 0x40 * s.pCh ch 11 →
    n = (s.formeOf (5 + ch / 16)).parN tb → (∀ i, gc i = (s.formeOf (5 + ch / 16)).par (tb + 0x10 + i)) →
    (∀ i, gm i = (s.formeOf (5 + ch / 16)).par (tb + 0x20 + i)) → tref = (s.formeOf (5 + ch / 16)).par (tb + 1) →
    kt = (s.formeOf (5 + ch / 16)).par (tb + 2) → 2 ≤ n → (∀ i, i + 1 < n → gc i < gc (i + 1)) →
    (c < (s.formeOf (5 + ch / 16)).par (tb + 3) →
      s.moist ch c = { code := .overrange, value := none, empty := true, tcomp := false }) ∧
    ((s.formeOf (5 + ch / 16)).par (tb + 3) ≤ c → (c < gc 0 ∨ gc (n - 1) < c) →
      s.moist ch c = { code := .overrange, value := none, empty := false, tcomp := false }) ∧
    ∀ i m, (s.formeOf (5 + ch / 16)).par (tb + 3) ≤ c → i + 1 < n → gc i ≤ c → c ≤ gc (i + 1) →
      m = gm i + rdiv ((gm (i + 1) - gm i) * (c - gc i)) (gc (i + 1) - gc i) -
        rdiv (kt * ((s.compTemp ch).getD tref - tref)) 1000 →
      (s.moist ch c).value = some (sat32 m) ∧ (s.moist ch c).empty = false ∧
      ((m < 0 ∨ 10000 < m) → (s.moist ch c).code = .overrange) ∧
      (0 ≤ m → m ≤ 10000 → (s.moist ch c).code = if (s.compTemp ch).isNone then .suspect else .ok)

/-- SETTLE_END, CONVERSION_SLOT_END, CHANNEL_STALE, SAMPLE_READ and STREAM_OPEN deliver, age and show samples (06 R137, 06
R139, 06 R140, 06 R144, 06 R145, 06 R151, 06 R152, 06 R153, 06 R154, 06 R160, 06 R164). A failed lead check sends a
BROKEN sample without value, stamped with the end of CH_SETTLE, and no integration runs; otherwise the slot
integrates; before that instant nothing happens. At the slot's end, CH_SETTLE, one or two integrations and 40 us after
its start, a channel with CH_AVG 1 delivers the value stamped 40 us earlier: SUSPECT for a failed post-check,
OVERRANGE for an overload whose checks passed, else by its range; MA by its current. With CH_AVG above 1 a VOLT value
joins the block, whose mean goes out at its last. The next entry follows, a pended trigger's pass, a free-running one,
or idle. A channel silent for CH_STALE_T delivers STALE. SAMPLE_READ answers the last sample or its diagnosis;
STREAM_OPEN binds the XQ to the group or ends that. -/
def Obligations.ConversionsAreJudgedAndDelivered : Prop :=
  ∀ (dt : Nat) (s : State), s.store.reprint = none → s.converting = true → s.probe.groups.length = 4 → s.probe.chans.length = 64 →
    (∀ g ch x a b mt fail, g < 4 → s.group g = x → x.phase = .settling → s.pSq g (0x10 + x.idx) = ch → ch / 16 = g →
      x.slotMt + s.pCh ch 3 * 1000 = mt →
      fail = (s.lic ch && (decide (s.pCh ch 6 * 100 < a) || (s.fourWire ch && decide (s.pCh ch 6 * 100 < b)))) →
      ((s.elapse dt).now < mt → exec (.settleEnd dt g a b) s = .next (s.elapse dt)) ∧
      (mt ≤ (s.elapse dt).now →
        ∃ t, exec (.settleEnd dt g a b) s = .next t ∧ t.group g = { x with phase := .integrating, preFail := fail } ∧
          (t.chan ch).leadR = (if s.lic ch then min a 0xFFFFFFFE else 0xFFFFFFFF) ∧
          (fail = true → (t.chan ch).last = { ch, code := .broken, value := none, marks := x.marks, src := x.src
                                              epoch := s.epochOf (5 + g), stamp := mt % 2 ^ 48, pass := x.pass }) ∧
          (fail = false → (t.chan ch).last = (s.chan ch).last ∧ sameBut [.probe] (s.elapse dt) t) ∧
          (∀ n, n ≠ ch → { t.chan n with leadR := 0 } = { s.chan n with leadR := 0 } ∧
            ((n ≠ ch + 1 ∨ s.fourWire ch = false) → t.chan n = s.chan n)) ∧
          t.quiet.but [.probe, .toks, .host] = (s.elapse dt).quiet.but [.probe, .toks, .host])) ∧
    (∀ g ch x (m : Meas) mt post (r : Int), g < 4 → s.group g = x → x.phase = .integrating → s.pSq g (0x10 + x.idx) = ch → ch / 16 = g →
      x.slotMt + s.pCh ch 3 * 1000 +
        (if (s.chMode ch = 1 ∨ s.chMode ch = 2) ∧ s.pCh ch 1 = 3 then 2 else 1) * s.integration ch + 4000 = mt →
      post = (s.lic ch && (decide (s.pCh ch 6 * 100 < m.leadA) || (s.fourWire ch && decide (s.pCh ch 6 * 100 < m.leadB)))) →
      r = (if s.pCh ch 1 = 2 then m.q - s.pCh ch 7 else m.q) → mt ≤ (s.elapse dt).now →
      ∃ t, exec (.conversionSlotEnd dt g m) s = .next t ∧
        (x.preFail = true → (t.chan ch).last = (s.chan ch).last) ∧
        (∀ lo hi v, x.preFail = false → s.pCh ch 4 = 1 →
          (s.chMode ch = 4 ∧ v = m.q ∧ lo = -12500000 ∧ hi = 12500000 ∨
            s.chMode ch = 1 ∧ v = rtdTemp 100 r ∧ lo = -5000 ∧ hi = 40000 ∨
            s.chMode ch = 2 ∧ v = rtdTemp 1000 r ∧ lo = -5000 ∧ hi = 40000) →
          -(2 ^ 31) ≤ v → v < 2 ^ 31 →
          (t.chan ch).last = {
                               ch, value := some v, marks := x.marks, src := x.src, epoch := s.epochOf (5 + g), pass := x.pass
                               stamp := (mt - 4000) % 2 ^ 48
                               code := if post then .suspect
                                 else if m.overload then (if s.lic ch then .overrange else .suspect)
                                 else if lo ≤ v ∧ v ≤ hi then .ok else .overrange }) ∧
        (x.preFail = false → s.chMode ch = 5 → s.pCh ch 4 = 1 → m.overload = false → 0 ≤ m.q → m.q < 2 ^ 31 →
          (t.chan ch).last.code = (if m.q < 5000 then .broken else if m.q ≤ 36000 ∨ 210000 < m.q then .overrange else .ok) ∧
          (t.chan ch).last.value = if m.q < 5000 then none else some m.q) ∧
        (∀ n c, x.preFail = false → s.chMode ch = 4 → s.pCh ch 4 = n → 1 < n → post = false → m.overload = false →
          -12500000 ≤ m.q → m.q ≤ 12500000 → s.chan ch = c →
          (c.blkN + 1 < n → (t.chan ch).last = c.last ∧ (t.chan ch).blkN = c.blkN + 1 ∧ (t.chan ch).blkOk = c.blkOk + 1 ∧
            (t.chan ch).blkSum = c.blkSum + m.q) ∧
          (c.blkN + 1 = n → n ≤ 2 * (c.blkOk + 1) → (t.chan ch).last.code = .ok ∧
            (t.chan ch).last.value = some (rdiv (c.blkSum + m.q) (c.blkOk + 1)) ∧ (t.chan ch).blkN = 0)) ∧
        (x.idx + 1 < s.pSq g 3 → t.group g = { x with phase := .settling, slotMt := mt, idx := x.idx + 1, preFail := false }) ∧
        (s.pSq g 3 ≤ x.idx + 1 → x.pended = none → s.pSq g 1 ≠ 1 →
          t.group g = { x with phase := .idle, idx := 0, preFail := false }) ∧
        (∀ src marks, s.pSq g 3 ≤ x.idx + 1 →
          (x.pended = some (src, marks) ∨ x.pended = none ∧ s.pSq g 1 = 1 ∧ s.pSq g 3 ≠ 0 ∧ src = 3 ∧ marks = 0) →
          t.group g = { x with phase := .settling, slotMt := mt + 1, idx := 0, preFail := false
                               pass := incW 16 x.pass, src := src, marks := marks, pended := none }) ∧
        (∀ n, n ≠ ch → { t.chan n with leadR := 0 } = { s.chan n with leadR := 0 } ∧
          ((n ≠ ch + 1 ∨ s.fourWire ch = false) → t.chan n = s.chan n)) ∧
        t.quiet.but [.probe, .toks, .host] = (s.elapse dt).quiet.but [.probe, .toks, .host]) ∧
    (∀ ch, ch < 64 → s.chMode ch ≠ 0 → s.isResetting (5 + ch / 16) = false →
      ((s.elapse dt).now < (s.chan ch).lastMt + s.pCh ch 13 * 10000000 → exec (.channelStale dt ch) s = .next (s.elapse dt)) ∧
      ((s.chan ch).lastMt + s.pCh ch 13 * 10000000 ≤ (s.elapse dt).now →
        ∃ t, exec (.channelStale dt ch) s = .next t ∧ (t.chan ch).last.code = .stale ∧ (t.chan ch).last.value = none ∧
          (t.chan ch).lastMt = (s.elapse dt).now ∧ (∀ n, n ≠ ch → t.chan n = s.chan n) ∧ t.probe.groups = s.probe.groups ∧
          t.quiet.but [.probe, .toks, .host] = (s.elapse dt).quiet.but [.probe, .toks, .host])) ∧
    (∀ f fl ch v c, s.flight? f = some fl → ready fl 0x39 = true → argB fl.e 0 = ch → argB fl.e 1 = v → s.chan ch = c →
      (ch / 16 + 5 = fl.e.target → v = 0 →
        exec (.sampleRead dt f) s = .next ((s.elapse dt).complete f sOK (sampleBytes { c.last with ch }))) ∧
      (ch / 16 + 5 = fl.e.target → v = 1 → exec (.sampleRead dt f) s = .next ((s.elapse dt).complete f sOK
        (le 3 c.raw ++ [b2n c.ovl + 2 * b2n c.preF + 4 * b2n c.postF] ++ le 4 c.leadR ++ le 4 c.q ++ le 2 c.cond ++
          le 2 c.nSusp ++ le 2 c.nBrok))) ∧
      ((ch / 16 + 5 ≠ fl.e.target ∨ 1 < v) → exec (.sampleRead dt f) s = .next ((s.elapse dt).complete f sBAD []))) ∧
    ∀ f fl xq q mask, s.flight? f = some fl → ready fl 0x3A = true → argN fl.e 0 2 = xq → argN fl.e 2 2 = mask →
      ((xq < 896 ∨ 1023 < xq) → exec (.streamOpen dt f) s = .next ((s.elapse dt).complete f sBAD [])) ∧
      (896 ≤ xq → xq < 1024 → s.queue? xq = some q → q.owner = fl.sid → q.orphan = false →
        (argB fl.e 5 = 0 → argB fl.e 4 ≠ 0 → q.bound = false → s.probe.streams = [] →
          exec (.streamOpen dt f) s = .next ((((s.elapse dt).onProbe fun p => { p with streams := [{
            xq, group := fl.e.target - 5, mask, decim := argB fl.e 4, cnts := List.replicate 16 0, written := 0 }] }).onQueue xq
              fun z => { z with bound := true }).complete f sOK (le 2 xq ++ le 2 mask ++ le 4 0))) ∧
        (∀ st, argB fl.e 5 = 1 → s.probe.streams = [st] → st.xq = xq → st.group = fl.e.target - 5 →
          exec (.streamOpen dt f) s = .next ((((s.elapse dt).onProbe fun p => { p with streams := [] }).onQueue xq
              fun z => { z with bound := false }).complete f sOK (le 2 xq ++ le 2 0 ++ le 4 st.written))) ∧
        (argB fl.e 5 = 0 → argB fl.e 4 ≠ 0 → q.bound = true → s.probe.streams = [] →
          exec (.streamOpen dt f) s = .next ((s.elapse dt).complete f sBUSY [])))

/-- PICA_SCAN_PERIOD, PICA_CONVERT_WAIT_END, PICA_READ_SLOT_END, PICA_ENUM_END, PICA_SCAN and PICA_ENUM run a port (07
R167, 07 R168, 07 R169, 07 R170, 07 R172, 07 R173, 07 Table 7.2, 07 Table 7.8, 07 Table 7.10). A due period starts a
scan with CONVERT on an idle port and waits on a busy one; 500 ms later the read slots begin, each with a READ frame;
each slot delivers its point's reading: a reply with SYNC, a right CRC, no parity error and a start in 0.5 to 1.0 ms
resets the misses (sensor fault BROKEN, out of range OVERRANGE, else OK, raw x 6.25 half up), any other is SUSPECT
without value, BROKEN from the PC_MISS_N-th in a row. Enumeration leaves the mapped IDs first, then the others
ascending, 64 in all; a mapped point not found reads BROKEN. PICA_SCAN is ACCEPTED, PENDED once, then DROPPED;
PICA_ENUM starts an idle port's enumeration, is BUSY while one waits, and completes with it. -/
def Obligations.PicaScansReadEveryPoint : Prop :=
  ∀ (dt p : Nat) (s : State) (x : Port), p < 8 → s.pica.ports.length = 8 → s.port p = x → s.store.reprint = none →
    s.converting = true → s.isResetting 9 = false → s.portOn p = true → x.opened = false → x.short = false →
    (x.scanning = false → x.enumg = false → x.pendEnum = false → x.pendScan = false →
      ((s.pPc p 1 = 0 ∨ x.nextMt ≤ (s.elapse dt).now) →
        ∃ t, exec (.picaScanPeriod dt p) s = .next t ∧ (∃ m, (0 < s.pPc p 1 → (s.elapse dt).now < m) ∧ t.port p = { x with
            scanning := true, converting := true, idx := 0, scan := incW 16 x.scan, startMt := (s.elapse dt).now, nextMt := m
            sent := picaFrame 0x10 [] }) ∧
          (∀ k, k ≠ p → t.port k = s.port k) ∧ sameBut [.pica] (s.elapse dt) t) ∧
      (∀ f fl, s.flight? f = some fl → ready fl 0x40 = true → argB fl.e 0 = 0 → argB fl.e 1 = p →
        exec (.picaScan dt f) s = .next (((s.elapse dt).onPort p fun y => { y with
          scanning := true, converting := true, idx := 0, scan := incW 16 x.scan, startMt := (s.elapse dt).now
          sent := picaFrame 0x10 [] }).complete f sOK (0 :: le 2 (incW 16 x.scan)))) ∧
      (∀ f fl, s.flight? f = some fl → ready fl 0x41 = true → argB fl.e 0 = p → argB fl.e 1 = 0 → fl.f = f → x.enumF = none →
        ∃ t, exec (.picaEnum dt f) s = .next t ∧
          t.port p = { x with enumg := true, enumF := some f, startMt := (s.elapse dt).now } ∧ (t.flight? f).isSome = true)) ∧
    (∀ f fl, s.flight? f = some fl → ready fl 0x41 = true → argB fl.e 0 = p → argB fl.e 1 = 0 → x.enumF.isSome = true →
      exec (.picaEnum dt f) s = .next ((s.elapse dt).complete f sBUSY [])) ∧
    ((x.scanning = true ∨ x.enumg = true) → exec (.picaScanPeriod dt p) s = .next (s.elapse dt) ∧
      ∀ f fl, s.flight? f = some fl → ready fl 0x40 = true → argB fl.e 0 = 0 → argB fl.e 1 = p →
        exec (.picaScan dt f) s = .next (if x.pendScan then (s.elapse dt).complete f sOK (3 :: le 2 x.scan)
          else ((s.elapse dt).onPort p fun y => { y with pendScan := true }).complete f sOK (1 :: le 2 x.scan))) ∧
    (∀ f fl i, s.flight? f = some fl → ready fl 0x40 = true → argB fl.e 0 = 1 → argB fl.e 1 = p → argB fl.e 2 = i →
      exec (.picaScan dt f) s = .next (if i < x.table.length then
        (s.elapse dt).complete f sOK (readingBytes { (s.point p i).rd with point := i, port := p })
        else (s.elapse dt).complete f sBAD [])) ∧
    (x.scanning = true → x.converting = true →
      ((s.elapse dt).now < x.startMt + 50000000 → exec (.picaConvertWaitEnd dt p) s = .next (s.elapse dt)) ∧
      (x.startMt + 50000000 ≤ (s.elapse dt).now → x.table ≠ [] →
        exec (.picaConvertWaitEnd dt p) s = .next ((s.elapse dt).onPort p fun y => { y with
          converting := false, sent := picaFrame 0x20 (le 6 (s.point p 0).id) }))) ∧
    (∀ r m, x.scanning = true → x.converting = false → x.idx < x.table.length →
      x.startMt + 50000000 + 1562500 * (x.idx + 1) ≤ (s.elapse dt).now → m = min 15 ((s.point p x.idx).misses + 1) →
      ∃ t q, exec (.picaReadSlotEnd dt p r) s = .next t ∧ t.point p x.idx = q ∧
        q.rd.stamp = ((s.elapse dt).now - if r.frame = [] then 0 else r.back) % 2 ^ 48 ∧
        (∀ b st, b.length = 5 → r.frame = 0x55 :: b ++ [crc8 b] → r.parity = false → 50000 ≤ r.start → r.start ≤ 100000 →
          st = b.getD 0 0 → q.misses = 0 ∧ q.rd.brown = bitOf st 4 ∧ (t.port p).missTot = x.missTot ∧
            (bitOf st 0 = true → q.rd.code = .broken ∧ q.rd.temp = none) ∧
            (bitOf st 0 = false → q.rd.code = (if bitOf st 1 then .overrange else .ok) ∧
              q.rd.temp = some (rdiv (25 * intAt b 1 2) 4))) ∧
        ((∀ b : List Nat, b.length = 5 → r.frame = 0x55 :: b ++ [crc8 b] →
            r.parity = true ∨ r.start < 50000 ∨ 100000 < r.start) →
          q.misses = m ∧ q.rd.temp = none ∧ (t.port p).missTot = incW 16 x.missTot ∧
          q.rd.code = if s.missN p ≤ m then .broken else .suspect) ∧
        (∀ i, i ≠ x.idx → t.point p i = s.point p i) ∧ (∀ k, k ≠ p → t.port k = s.port k) ∧
        (x.idx + 1 < x.table.length → (t.port p).scanning = true ∧ (t.port p).idx = x.idx + 1 ∧
          (t.port p).sent = picaFrame 0x20 (le 6 (s.point p (x.idx + 1)).id)) ∧
        (x.table.length ≤ x.idx + 1 → x.enumg = false → x.pendEnum = false → x.pendScan = false →
          (0 < s.pPc p 1 → (s.elapse dt).now < x.nextMt → (t.port p).scanning = false) ∧
          (s.pPc p 1 = 0 → (t.port p).scanning = true ∧ (t.port p).scan = incW 16 x.scan ∧ (t.port p).converting = true)) ∧
        t.quiet.but [.pica, .toks] = (s.elapse dt).quiet.but [.pica, .toks]) ∧
    (∀ found m, x.enumg = true → x.scanning = false → (s.formeOf 9).picaMap p = m →
      ∃ t ex, exec (.picaEnumEnd dt p found) s = .next t ∧ (t.port p).enumg = x.pendEnum ∧ ex.Pairwise (fun a b : Nat => a ≤ b) ∧
        ex.Perm ((found.filter fun g => !m.contains g.id).map (·.id)) ∧
        (t.port p).table.map (·.id) = (m ++ ex).take 64 ∧ (t.port p).overpop = decide (64 < m.length + ex.length) ∧
        (∀ i, i < m.length → i < 64 → (∀ g ∈ found, g.id ≠ m.getD i 0) → (t.point p i).rd.code = .broken) ∧
        (∀ f, x.enumF = some f → t.flight? f = none) ∧
        (x.enumF = none → t.quiet.but [.pica, .toks] = (s.elapse dt).quiet.but [.pica, .toks]))

/-- PORT_OPEN, PORT_SHORT, PORT_SHORT_RETRY, PORT_FAULT_CLEAR and PICA_POINT_STALE age or break the points of a port (07
R174, 07 R175). On OPEN and SHORT the scan ends and every point of the port reads BROKEN at that moment; a shorted
port is off for 5 s and then starts a fresh CONVERT, and so does a port whose current is back; before the 5 s are over
a retry changes nothing. A point without a reading for PC_STALE_T reads STALE, of a local port or of a node. Other
ports do not change. -/
def Obligations.PortFaultsBreakEveryPoint : Prop :=
  ∀ (dt p : Nat) (s : State) (x : Port), p < 8 → s.pica.ports.length = 8 → s.port p = x → s.store.reprint = none →
    s.converting = true → s.isResetting 9 = false → s.portOn p = true →
    (x.short = false → x.opened = false →
      ∃ t, exec (.portOpen dt p) s = .next t ∧ (t.port p).opened = true ∧ (t.port p).scanning = false ∧
        (t.port p).enumg = false ∧ (t.port p).table.length = x.table.length ∧
        (∀ i, i < x.table.length → (t.point p i).rd.code = .broken ∧ (t.point p i).rd.temp = none) ∧
        (∀ k, k ≠ p → t.port k = s.port k) ∧ t.quiet.but [.pica, .toks] = (s.elapse dt).quiet.but [.pica, .toks]) ∧
    (x.short = false →
      ∃ t, exec (.portShort dt p) s = .next t ∧ (t.port p).short = true ∧ (t.port p).offMt = (s.elapse dt).now ∧
        (t.port p).scanning = false ∧ (∀ i, i < x.table.length → (t.point p i).rd.code = .broken) ∧
        (∀ k, k ≠ p → t.port k = s.port k) ∧ t.quiet.but [.pica, .toks] = (s.elapse dt).quiet.but [.pica, .toks]) ∧
    (x.short = true → x.opened = false → x.scanning = false → x.enumg = false → x.pendEnum = false →
      ((s.elapse dt).now < x.offMt + 5 * Config.sec → exec (.portShortRetry dt p) s = .next (s.elapse dt)) ∧
      (x.offMt + 5 * Config.sec ≤ (s.elapse dt).now →
        ∃ t, exec (.portShortRetry dt p) s = .next t ∧ t.port p = { x with
            short := false, scanning := true, converting := true, idx := 0, scan := incW 16 x.scan
            startMt := (s.elapse dt).now, pendScan := false, sent := picaFrame 0x10 [] } ∧ sameBut [.pica] (s.elapse dt) t)) ∧
    (x.opened = true → x.short = false → x.scanning = false → x.enumg = false → x.pendEnum = false →
      ∃ t, exec (.portFaultClear dt p) s = .next t ∧ t.port p = { x with
          opened := false, scanning := true, converting := true, idx := 0, scan := incW 16 x.scan
          startMt := (s.elapse dt).now, pendScan := false, sent := picaFrame 0x10 [] } ∧ sameBut [.pica] (s.elapse dt) t) ∧
    (∀ sl i, 8 ≤ sl → sl < 488 → i < 64 → s.pica.nodePts.Pairwise (fun a b => a.1 < b.1) →
      (i < s.nmap sl ∨ ∃ y, (64 * sl + i, y) ∈ s.pica.nodePts) → s.portOn sl = true →
      (s.point sl i).lastMt + s.pPc sl 2 * 10000000 ≤ (s.elapse dt).now →
      ∃ t, exec (.picaPointStale dt sl i) s = .next t ∧ (t.point sl i).rd.code = .stale ∧ (t.point sl i).rd.temp = none ∧
        (t.point sl i).lastMt = (s.elapse dt).now ∧ (∀ k, k ≠ i → k < 64 → t.point sl k = s.point sl k) ∧
        (∀ k, t.port k = s.port k) ∧ t.quiet.but [.pica, .toks] = (s.elapse dt).quiet.but [.pica, .toks]) ∧
    ∀ i, i < x.table.length → (s.point p i).lastMt + s.pPc p 2 * 10000000 ≤ (s.elapse dt).now →
      ∃ t, exec (.picaPointStale dt p i) s = .next t ∧ (t.point p i).rd.code = .stale ∧ (t.point p i).rd.temp = none ∧
        (t.point p i).lastMt = (s.elapse dt).now ∧ (∀ k, k ≠ i → t.point p k = s.point p k) ∧
        t.quiet.but [.pica, .toks] = (s.elapse dt).quiet.but [.pica, .toks]

/-- ZONE_EVALUATE, ZONE_AGEING_TICK and ZONE_HOLD_TIMEOUT evaluate a zone: OK at quorum by the curve, else FAILED or HOLD
(07 R176, 07 R177, 07 R178, 07 R181, 01 R20, 07 Table 7.4). A fresh token replaces its source's and the zone is
evaluated; one of an old epoch is discarded. At quorum the zone is OK with MAX, MEAN (half up) or MEDIAN of the valid
values and the demand of the curve, flat outside its ends; below it is FAILED with ZN_FAIL_DEM and no value, but a
zone in HOLD keeps state, value and demand until ZN_MAXAGE after the reset. An evaluation emits a token with the
zone's state, value, demand and valid count. Every 100 ms boundary evaluates all zones. Other zones do not change with
a token. -/
def Obligations.ZonesFollowQuorumAndCurve : Prop :=
  ∀ (dt : Nat) (s : State), s.pica.zones.length = 16 → s.store.reprint = none → s.zonesRun = true →
    (∀ z k, z < 16 → s.pZn z 0 ≠ 0 → s.toks = [k] → k.cons = 0 → k.obj = z →
      (k.epoch ≠ s.epochOf k.station → exec (.zoneEvaluate dt z) s = .next { s.elapse dt with toks := [] }) ∧
      (k.epoch = s.epochOf k.station →
        ∃ t, exec (.zoneEvaluate dt z) s = .next t ∧ zoneJudged s t z (decide ((s.zone z).st ≠ .hold)) ∧
          (∀ x, t.zone z = x → x.tok = some { zone := z, st := x.st, value := x.value, demand := x.demand, valid := x.valid
                                              epoch := s.epochOf 9, mt := (s.elapse dt).now }) ∧
          (∀ n, n ≠ z → t.zone n = s.zone n) ∧ t.quiet.but [.pica, .toks] = (s.elapse dt).quiet.but [.pica, .toks])) ∧
    ((s.pica.ageMt / 10000000 + 1) * 10000000 ≤ (s.elapse dt).now →
      ∃ t, exec (.zoneAgeingTick dt) s = .next t ∧ t.pica.ageMt = (s.elapse dt).now / 10000000 * 10000000 ∧
        (∀ z, z < 16 → s.pZn z 0 ≠ 0 → zoneJudged s t z (decide ((s.zone z).st ≠ .hold))) ∧
        (∀ z, z < 16 → s.pZn z 0 = 0 → t.zone z = s.zone z)) ∧
    ((s.elapse dt).now < (s.pica.ageMt / 10000000 + 1) * 10000000 → exec (.zoneAgeingTick dt) s = .next (s.elapse dt)) ∧
    (∀ z, z < 16 → s.pZn z 0 ≠ 0 → (s.zone z).st = .hold → (s.zone z).holdMt + s.pZn z 3 * 10000000 ≤ (s.elapse dt).now →
      ∃ t, exec (.zoneHoldTimeout dt z) s = .next t ∧ zoneJudged s t z true) ∧
    (∀ vs : List Int, vs ≠ [] →
      (zoneFunc 1 vs ∈ vs ∧ ∀ v ∈ vs, v ≤ zoneFunc 1 vs) ∧ zoneFunc 2 vs = rdiv vs.sum vs.length ∧
      ∃ o : List Int, o.Perm vs ∧ o.Pairwise (· ≤ ·) ∧ zoneFunc 3 vs =
        if vs.length % 2 = 1 then o.getD (vs.length / 2) 0
        else rdiv (o.getD (vs.length / 2 - 1) 0 + o.getD (vs.length / 2) 0) 2) ∧
    ∀ (z n i : Nat) (v : Int) (a d : Nat → Int), (∀ j, a j = s.par (0x5808 + 0x40 * z + j)) → (∀ j, d j = s.par (0x5810 + 0x40 * z + j)) →
      s.pZn z 5 = n → 2 ≤ n → (∀ j, j + 1 < n → a j < a (j + 1)) →
      (v < a 0 → s.zoneCurve z v = (d 0).toNat) ∧ (a (n - 1) < v → s.zoneCurve z v = (d (n - 1)).toNat) ∧
      (i + 1 < n → a i ≤ v → v ≤ a (i + 1) →
        s.zoneCurve z v = (d i + rdiv ((d (i + 1) - d i) * (v - a i)) (a (i + 1) - a i)).toNat)

/-- LOOP_EVAL_COMPLETE computes one evaluation from its snapshot and commits it, holds it, or discards it at a missed
deadline (08 R186, 08 R187, 08 R188, 08 R189, 08 R192, 08 R196, 08 R197, 08 R198, 08 R201, 08 R203, 08 R210). With a
valid Y the loop's output is min(max(raw, UMIN), UMAX) with e, P, I, D, FF and raw as R187 has them; I_ACC grows by KI
x e only where raw lies in [UMIN, UMAX] and the evaluation is neither held nor blocked; Y_PREV is Y and D is 0 on a
first evaluation. A held one leaves I_ACC and hands over the hold value at most; past its deadline it changes nothing
but DL_MISS and its count; with an invalid Y I_ACC and Y_PREV stand and L_LOSS decides U. Other loops do not change. -/
def Obligations.EvaluationsComputeAndCommit : Prop :=
  ∀ (dt l shp shi shd shf : Nat) (s : State) (lp : Loop) (q : Snap) (blk : Bool) (e p i d ff acc raw u : Int), l < 48 →
    ((s.elapse dt).now < s.cle.busyMt + 50 → (s.loop l).busy ≠ none → exec (.loopEvalComplete dt l) s = .next (s.elapse dt)) ∧ (
    s.cle.loops.length = 48 → s.loop l = lp → lp.busy = some q → s.cle.busyMt + 50 ≤ (s.elapse dt).now → s.store.reprint = none →
    s.isSt .reprint = false → blk = (s.elapse dt).dstBlocked (s.pL l 0x13) → q.bump = false → shp = q.shift % 32 → shi = q.shift / 32 % 32 →
    shd = q.shift / 1024 % 32 → shf = q.shift / 32768 % 32 → e = sat32 (q.sp - q.y) → p = rnd (q.kp * e) shp →
    acc = (if shi = lp.shiLast then lp.iacc else if lp.shiLast < shi then sat64 (lp.iacc * 2 ^ (shi - lp.shiLast))
      else rnd lp.iacc (lp.shiLast - shi)) →
    i = rnd acc shi → d = (if lp.first then 0 else rnd (q.kd * (lp.yprev - q.y)) shd) → ff = rnd (q.kff * q.f) shf →
    raw = sat64 (sat64 (sat64 (p + i) + d) + ff) → u = min (max raw q.umin) q.umax →
    ∃ t y, exec (.loopEvalComplete dt l) s = .next t ∧ t.loop l = y ∧ y.busy = none ∧ y.nEval = incW 32 lp.nEval ∧
      (∀ m, m ≠ l → t.loop m = s.loop m) ∧ t.quiet.but [.cle, .free, .valve] = (s.elapse dt).quiet.but [.cle, .free, .valve] ∧
      (∀ dl, q.dl = some dl → dl < (s.elapse dt).now → y.iacc = lp.iacc ∧ y.yprev = lp.yprev ∧ y.out = lp.out ∧
        y.first = lp.first ∧ y.shiLast = lp.shiLast ∧ y.outs = lp.outs ∧ y.dlMiss = true ∧ y.nMiss = incW 32 lp.nMiss) ∧
      ((∀ dl, q.dl = some dl → (s.elapse dt).now ≤ dl) → y.nMiss = lp.nMiss ∧
        (q.yOk = true → y.yprev = q.y ∧ y.first = false ∧ y.inBad = false ∧ y.sat = decide (raw < q.umin ∨ q.umax < raw) ∧
          (q.held = false → y.shiLast = shi ∧
            y.iacc = (if q.umin ≤ raw ∧ raw ≤ q.umax ∧ blk = false then sat64 (acc + q.ki * e) else acc) ∧
            (q.dl = none → y.out = u) ∧ ∀ dl, q.dl = some dl → y.out = lp.out ∧ y.outs = lp.outs ++ [(dl, u)]) ∧
          (q.held = true → y.iacc = lp.iacc ∧ (q.dl = none → y.out = q.holdVal.getD lp.out))) ∧
        (q.yOk = false → y.iacc = lp.iacc ∧ y.yprev = lp.yprev ∧ y.first = true ∧ y.inBad = true ∧
          y.nHeld = incW 32 lp.nHeld ∧ (q.held = false → s.pL l 0x19 = 0 → y.out = lp.out) ∧
          (q.held = false → s.pL l 0x19 = 1 → q.dl = none → y.out = s.live (0x601A + 0x40 * l)))))

/-- LOOP_EVAL, CLE_VALUE_TOKEN, LOOP_EVAL_START and LOOP_DEADLINE queue, start and hand over by the acceptance order (08
R190, 08 R191, 08 R193, 08 R194, 08 R195, 08 R197, 08 R198, 08 Table 8.1, 01 R20). A slot's trigger, or one of a timer
or a Y token of the present epoch, queues an evaluation whose snapshot holds the registers, the hold state and the
trigger MT as they stand, or under PEND is kept, under RESTART replaces the queued one, under DROP is counted; a
disabled loop discards it; a slot gets the acceptance. A fresh value token becomes the loop's Y or F, a ledger's the
applied FFV; an old epoch's is discarded; none passes a trigger before it. The evaluation accepted first starts when
the engine is free for 500 ns, or is abandoned past its deadline with DL_MISS and no other change; a pended one takes
its place behind all others. At its deadline U becomes U_LAST. -/
def Obligations.LoopTriggersFollowThePolicy : Prop :=
  ∀ (dt l : Nat) (s : State) (lp : Loop), l < 48 → s.cle.loops.length = 48 → s.loop l = lp → s.store.reprint = none →
    s.isSt .run = true → s.isResetting 0x0A = false →
    (∀ k, s.toks = [k] → k.cons = 4 → k.obj = l → k.role ≠ 0 → k.epoch ≠ s.epochOf k.station →
      exec (.loopEval dt l) s = .next { s.elapse dt with toks := [] }) ∧
    (∀ k x, s.toks = [k] → k.cons = 4 → k.obj = l →
      (k.role = 0 ∧ s.imp.inbox = [x] ∧ x.action = 2 ∧ x.index = l ∧ s.imp.slots.Pairwise (fun a b => a.1 < b.1) ∨
        k.role ≠ 0 ∧ k.epoch = s.epochOf k.station) →
      ∃ t y a, exec (.loopEval dt l) s = .next t ∧ t.loop l = y ∧ t.toks = [] ∧ (∀ m, m ≠ l → t.loop m = s.loop m) ∧
        (k.role = 0 → t.imp.inbox = [] ∧ (t.slotLive x.slot).lastAcc = accCode a) ∧ (k.role ≠ 0 → t.imp = s.imp) ∧
        t.quiet.but [.cle, .toks, .imp] = (s.elapse dt).quiet.but [.cle, .toks, .imp] ∧
        (s.loopEn l = false → a = .discarded ∧ y = lp) ∧
        (s.loopEn l = true →
          ((lp.queued = none ∨ s.pL l 0x16 = 1) → a = (if lp.queued = none then .accepted else .replaced) ∧
            ∃ q, y.queued = some q ∧ y.pend = lp.pend ∧ q.trigMt = k.stamp ∧ q.sp = lp.sp ∧
              q.kp = lp.kp ∧ q.ki = lp.ki ∧ q.kd = lp.kd ∧ q.kff = lp.kff ∧ q.shift = lp.shift ∧ q.umin = lp.umin ∧
              q.umax = lp.umax ∧ q.held = lp.hold ∧ q.dl = (if s.pL l 0x14 = 1 then some (k.stamp + s.pL l 0x15 * 100) else none) ∧
              y.nOver = if lp.queued = none then lp.nOver else incW 32 lp.nOver) ∧
          (lp.queued ≠ none → s.pL l 0x16 = 0 → lp.pend = none → a = .pended ∧ y.queued = lp.queued ∧ y.nOver = lp.nOver ∧
            ∃ q, y.pend = some q ∧ q.trigMt = k.stamp ∧ q.kp = lp.kp ∧ q.sp = lp.sp) ∧
          (lp.queued ≠ none → ((s.pL l 0x16 = 0 ∧ lp.pend ≠ none) ∨ s.pL l 0x16 = 2) →
            a = .dropped ∧ y.queued = lp.queued ∧ y.pend = lp.pend ∧ y.nOver = incW 32 lp.nOver ∧ y.overrun = true))) ∧
    (∀ k, s.toks = [k] → k.obj = l →
      (k.cons = 4 → exec (.cleValueToken dt l) s = .next (s.elapse dt)) ∧
      ((k.cons = 2 ∨ k.cons = 3) → k.epoch = s.epochOf k.station → ∃ t, exec (.cleValueToken dt l) s = .next t ∧ t.toks = [] ∧
        (k.kind ≠ 3 → k.cons = 2 → (t.loop l).y.value = k.value ∧ (t.loop l).y.stamp = k.stamp ∧ (t.loop l).y.epoch = k.epoch ∧
          (t.loop l).y.code = k.code ∧ t.loop l = { lp with y := (t.loop l).y, yOld := lp.y } ∧ sameBut [.cle, .toks] (s.elapse dt) t) ∧
        (k.kind ≠ 3 → k.cons = 3 → (t.loop l).f.value = k.value ∧ (t.loop l).f.stamp = k.stamp ∧ (t.loop l).f.epoch = k.epoch ∧
          (t.loop l).f.code = k.code ∧ t.loop l = { lp with f := (t.loop l).f, fOld := lp.f } ∧ sameBut [.cle, .toks] (s.elapse dt) t) ∧
        (k.kind = 3 → t = { (s.elapse dt).onCol k.index fun c => { c with ffvCle := k.value.getD 0 } with toks := [] }) ∧
        (∀ m, m ≠ l → t.loop m = s.loop m)) ∧
      ((k.cons = 2 ∨ k.cons = 3) → k.epoch ≠ s.epochOf k.station →
        exec (.cleValueToken dt l) s = .next { s.elapse dt with toks := [] })) ∧
    (∀ q, lp.queued = some q → (∀ x ∈ s.cle.loops, x.busy = none) →
      (∀ m r, m < 48 → m ≠ l → (s.loop m).queued = some r → q.n < r.n) →
      ((∀ dl, q.dl = some dl → (s.elapse dt).now ≤ dl) → (s.cle.accepted = 0 ∨ s.cle.busyMt + 50 ≤ (s.elapse dt).now) →
        exec (.loopEvalStart dt) s = .next { s.elapse dt with cle := { s.cle with
          loops := s.cle.loops.modify l fun x => { x with
            queued := x.pend.map fun z => { z with n := s.cle.accepted }, pend := none, busy := some q }
          accepted := s.cle.accepted + 1, busyMt := (s.elapse dt).now } }) ∧
      ((∀ dl, q.dl = some dl → (s.elapse dt).now ≤ dl) → s.cle.accepted ≠ 0 → (s.elapse dt).now < s.cle.busyMt + 50 →
        exec (.loopEvalStart dt) s = .next (s.elapse dt)) ∧
      (∀ dl c, q.dl = some dl → dl < (s.elapse dt).now → (c = .loopEvalStart dt ∨ c = .loopDeadline dt l ∧ lp.outs = []) →
        ∃ t y, exec c s = .next t ∧ t.loop l = y ∧
          y.queued = (lp.pend.map fun z => { z with n := s.cle.accepted }) ∧ y.pend = none ∧ y.busy = none ∧ y.dlMiss = true ∧
          y.nMiss = incW 32 lp.nMiss ∧ y.iacc = lp.iacc ∧ y.yprev = lp.yprev ∧ y.out = lp.out ∧ (∀ m, m ≠ l → t.loop m = s.loop m) ∧
          t.quiet.but [.cle] = (s.elapse dt).quiet.but [.cle])) ∧
    ∀ dl u rest, lp.outs = (dl, u) :: rest →
      ((s.elapse dt).now < dl → exec (.loopDeadline dt l) s = .next (s.elapse dt)) ∧
      (dl ≤ (s.elapse dt).now → ∃ t, exec (.loopDeadline dt l) s = .next t ∧ (t.loop l).out = u ∧ (t.loop l).outs = rest ∧
        (t.loop l).iacc = lp.iacc ∧ (∀ m, m ≠ l → t.loop m = s.loop m) ∧ sameBut [.cle, .valve] (s.elapse dt) t)

/-- A larger SHI keeps the I term, and the first evaluation after a BUMPLESS release has raw equal to U_LAST (08 R189, 08
R210). Where nothing saturates, the I_ACC rescaled for a larger SHI gives the very same I term as before; and an
evaluation with the BUMPLESS preset computes raw = U_LAST, so U = U_LAST whenever U_LAST lies within the limits. -/
def Obligations.RescaleAndBumplessKeepTheOutput : Prop :=
  (∀ (acc : Int) (old new : Nat), old < new → -(2 ^ 63) ≤ acc * 2 ^ (new - old) → acc * 2 ^ (new - old) + 2 ^ (new - 1) < 2 ^ 63 →
    rnd (rescale acc old new) new = rnd acc old) ∧
  ∀ (lp : Loop) (sn : Snap) (blk : Bool) (p d ff : Int), sn.bump = true → p = (evaluate lp sn blk).p → d = (evaluate lp sn blk).d →
    ff = (evaluate lp sn blk).ff → -(2 ^ 60) ≤ p → p < 2 ^ 60 → -(2 ^ 60) ≤ d → d < 2 ^ 60 → -(2 ^ 60) ≤ ff → ff < 2 ^ 60 →
    -(2 ^ 31) ≤ lp.out → lp.out < 2 ^ 31 → -(2 ^ 63) ≤ (lp.out - p - d - ff) * 2 ^ (sn.shift / 32 % 32) →
    (lp.out - p - d - ff) * 2 ^ (sn.shift / 32 % 32) < 2 ^ 63 →
    (evaluate lp sn blk).raw = lp.out ∧ (sn.umin ≤ lp.out → lp.out ≤ sn.umax → (evaluate lp sn blk).u = lp.out)

/-- LOOP_REGISTER_WRITE, SETPOINT_COPY, LOOP_HOLD and LOOP_RELEASE change the one register or the hold state of their loop
(08 R185, 08 R209, 08 R210, 08 R215, 20 R482). A host frame wakes the unit. An accepted write sets the one register
and keeps it as live configuration; a value that its register may not take (L_UMIN above L_UMAX, a limit of an enabled
loop outside its destination's range) is refused with BAD_ARG and changes nothing; a write of L_STAT clears DL_MISS
and OVERRUN where written 1. The setpoint copy writes the outer loop's output to L_SP of the inner one. LOOP_HOLD sets
the hold with its value, LOOP_RELEASE ends it, with BUMPLESS for the next evaluation; both answer the loop's state,
and NOT_IN_STATE while L_ENABLE is 0. -/
def Obligations.LoopRegistersAndHolds : Prop :=
  ∀ (dt l : Nat) (s u : State), l < 48 → u = (s.elapse dt).wakeUp → s.cle.loops.length = 48 → s.isSt .reprint = false →
    (∀ (sid off v : Nat) (x : Int), canWrite s sid (if off = 5 then 1 else 2) = true → off < 8 → v < 2 ^ 32 →
      x = (if off = 4 then ((v % 2 ^ 20 : Nat) : Int) else sx 32 v) →
      (u.loopWriteOk l off x = true →
        ∃ t, exec (.loopRegisterWrite dt sid l off v) s = .next t ∧
          getReg off (t.loop l) = x ∧
          (∀ o, o < 8 → o ≠ off → getReg o (t.loop l) = getReg o (s.loop l)) ∧
          t.sup = { u.sup with live := spSet 0 u.sup.live (0x6000 + 0x40 * l + off) x } ∧
          t.host.lastWord = some (0x600 + 10 * l + off, v, sOK) ∧
          (u.toks = [] → (∀ k, k ≠ l → t.loop k = s.loop k) ∧ t.quiet.but [.cle, .sup, .host] = u.quiet.but [.cle, .sup, .host])) ∧
      ((off = 6 ∧ (s.loop l).umax < sx 32 v ∨ off = 7 ∧ sx 32 v < (s.loop l).umin ∨
          u.loopEn l = true ∧ (off = 6 ∨ off = 7) ∧ inDst (u.pL l 0x13) (sx 32 v) = false) →
        ∃ t, exec (.loopRegisterWrite dt sid l off v) s = .next t ∧
          t.quiet = { u with host := { u.host with lastWord := some (0x600 + 10 * l + off, v, sBAD) } }.quiet)) ∧
    (∀ sid v, canWrite s sid 1 = true → v < 2 ^ 32 →
      ∃ t, exec (.loopRegisterWrite dt sid l 9 v) s = .next t ∧ t.loop l = { s.loop l with
          dlMiss := (s.loop l).dlMiss && !bitOf v 7, overrun := (s.loop l).overrun && !bitOf v 8 } ∧
        (∀ k, k ≠ l → t.loop k = s.loop k) ∧ t.host.lastWord = some (0x609 + 10 * l, v, sOK) ∧
        t.quiet.but [.cle, .host] = u.quiet.but [.cle, .host]) ∧
    (∀ z mt rest m, (s.loop l).copyU = (z, mt) :: rest → m = s.pL l 0x13 % 64 → m < 48 → s.toks = [] →
      ∃ t, exec (.setpointCopy dt l) s = .next t ∧ (t.loop m).sp = z ∧ (t.loop l).copyU = rest ∧
        (∀ k, k ≠ m → k ≠ l → t.loop k = s.loop k) ∧ t.quiet.but [.cle, .sup] = (s.elapse dt).quiet.but [.cle, .sup]) ∧
    (∀ f fl, s.flight? f = some fl → ready fl 0x48 = true → argB fl.e 0 = l → s.toks = [] →
      (s.loopEn l = false → bitOf (argB fl.e 1) 0 = false → exec (.loopHold dt f) s = .next ((s.elapse dt).complete f sNOTST [])) ∧
      (bitOf (argB fl.e 1) 0 = true → (argI fl.e 4 4 < (s.loop l).umin ∨ (s.loop l).umax < argI fl.e 4 4) →
        exec (.loopHold dt f) s = .next ((s.elapse dt).complete f sBAD [])) ∧
      (s.loopEn l = true → (bitOf (argB fl.e 1) 0 = true → (s.loop l).umin ≤ argI fl.e 4 4 ∧ argI fl.e 4 4 ≤ (s.loop l).umax) →
        ∃ u : State, exec (.loopHold dt f) s = .next (u.complete f sOK (u.loopResult l)) ∧ u.loop l = { s.loop l with
          hold := true, bump := false, holdVal := if bitOf (argB fl.e 1) 0 then some (argI fl.e 4 4) else none } ∧
          (∀ k, k ≠ l → u.loop k = s.loop k) ∧ u.quiet.but [.cle] = (s.elapse dt).quiet.but [.cle])) ∧
    ∀ f fl, s.flight? f = some fl → ready fl 0x49 = true → argB fl.e 0 = l → s.toks = [] →
      (s.loopEn l = false → exec (.loopRelease dt f) s = .next ((s.elapse dt).complete f sNOTST [])) ∧
      (s.loopEn l = true →
        ∃ u : State, exec (.loopRelease dt f) s = .next (u.complete f sOK (u.loopResult l)) ∧ u.loop l = { s.loop l with
          hold := false, holdVal := none, bump := if (s.loop l).hold then bitOf (argB fl.e 1) 0 else (s.loop l).bump } ∧
          (∀ k, k ≠ l → u.loop k = s.loop k) ∧ u.quiet.but [.cle] = (s.elapse dt).quiet.but [.cle])

/-- GALLEY_ARM, GALLEY_SNAP, GALLEY_COPY and GALLEY_DUMP move a galley through its states and copy it out (08 R204, 08
R205, 08 R206, 08 R211, 08 R215, 16 Table 16.1). Arming an IDLE or FROZEN galley empties it into WAIT, or REC with
START 0, and is refused in other states; disarming makes it IDLE. GALLEY_SNAP starts a galley in WAIT with START 4,
stops one in REC with STOP 1 (FROZEN with GAL_POST 0), writes a SNAP marker into one that it neither starts nor stops,
where code 14 is selected, and is DISCARDED in IDLE and FROZEN. A trip-frozen galley is copied with its entries oldest
first to the next folio of its ring; without a store it only stops waiting for that. GALLEY_DUMP of a galley that is
not FROZEN, or to a bound XQ, is BUSY; of a FROZEN one it queues the entries and changes only the XQ. -/
def Obligations.GalleysArmSnapFreezeAndDump : Prop :=
  ∀ (dt g : Nat) (s : State) (y : Galley), g < 8 → s.cle.galleys.length = 8 → s.gal g = y →
    (∀ f fl, s.flight? f = some fl → ready fl 0x4A = true → argB fl.e 0 = g → argB fl.e 1 = 0 → argB fl.e 2 < 48 → argB fl.e 3 < 5 →
      argB fl.e 4 < 6 → argB fl.e 5 < 16 → argN fl.e 8 2 < 4096 → bitOf (argN fl.e 6 2) 11 = false → bitOf (argN fl.e 6 2) 15 = false →
      ((y.st = .idle ∨ y.st = .frozen) → ∃ u z, exec (.galleyArm dt f) s = .next (State.complete u f sOK [g, galCode z.st]) ∧ u.gal g = z ∧
        z.loop = argB fl.e 2 ∧ z.nodes = argN fl.e 6 2 ∧ z.post = argN fl.e 8 2 ∧ z.trip = argB fl.e 5 ∧ z.byTrip = false ∧
        (argB fl.e 3 ≠ 0 → z.st = .wait ∧ z.entries = []) ∧ (argB fl.e 3 = 0 → z.st = .recording ∧
          z.entries.length = b2n (bitOf (argN fl.e 6 2) 14)) ∧
        (∀ k, k ≠ g → u.gal k = s.gal k) ∧ sameBut [.cle] (s.elapse dt) u) ∧
      (y.st ≠ .idle → y.st ≠ .frozen → exec (.galleyArm dt f) s = .next ((s.elapse dt).complete f sNOTST []))) ∧
    (∀ f fl, s.flight? f = some fl → ready fl 0x4A = true → argB fl.e 0 = g → argB fl.e 1 = 1 →
      ∃ u : State, exec (.galleyArm dt f) s = .next (u.complete f sOK [g, 0]) ∧ (u.gal g).st = .idle) ∧
    (∀ x, s.imp.inbox = [x] → x.action = 10 → x.index = g → s.evaluating = true → s.imp.slots.Pairwise (fun a b => a.1 < b.1) →
      ∃ t, exec (.galleySnap dt g) s = .next t ∧ t.imp.inbox = [] ∧ (∀ k, k ≠ g → t.gal k = s.gal k) ∧
        ((y.st = .idle ∨ y.st = .frozen) → t.gal g = y ∧ (t.slotLive x.slot).lastAcc = accCode .discarded) ∧
        (y.st = .wait → y.start = 4 → (t.gal g).st = .recording ∧ (t.slotLive x.slot).lastAcc = accCode .accepted) ∧
        (y.st = .wait → y.start ≠ 4 → t.gal g = (if bitOf y.nodes 14 then { y with
            entries := ({ stamp := (s.elapse dt).bmt % 2 ^ 48, loop := y.loop, code := 14, v1 := 0, v2 := 0 } :: y.entries).take 4096
            total := y.total + 1, sinceStart := y.sinceStart + 1 } else y) ∧ (t.slotLive x.slot).lastAcc = accCode .accepted) ∧
        (y.st = .recording → y.stop ≠ 1 → y.stop ≠ 2 → t.gal g = (if bitOf y.nodes 14 then { y with
            entries := ({ stamp := (s.elapse dt).bmt % 2 ^ 48, loop := y.loop, code := 14, v1 := 0, v2 := 0 } :: y.entries).take 4096
            total := y.total + 1, sinceStart := y.sinceStart + 1 } else y) ∧ (t.slotLive x.slot).lastAcc = accCode .accepted) ∧
        t.quiet.but [.cle, .imp] = (s.elapse dt).quiet.but [.cle, .imp] ∧
        (y.st = .recording → y.stop = 1 → (t.gal g).st = (if y.post = 0 then .frozen else .post) ∧ (t.gal g).postLeft = y.post)) ∧
    (y.copying = true → (s.store.mounted = false ∨ s.store.readOnly = true) →
      exec (.galleyCopy dt g) s = .next ((s.elapse dt).onGal g fun z => { z with copying := false })) ∧
    (y.copying = true → s.store.mounted = true → s.store.readOnly = false →
      ∃ t, exec (.galleyCopy dt g) s = .next t ∧ (t.gal g).copying = false ∧ (t.gal g).entries = y.entries ∧
        spGetD [] t.store.galCopies (88 + s.store.galFolio % 936) = y.entries.reverse ∧ t.store.galFolio = s.store.galFolio + 1 ∧
        (∀ k, k ≠ g → t.gal k = s.gal k)) ∧
    ∀ f fl q, s.flight? f = some fl → ready fl 0x4B = true → argB fl.e 0 = g → s.ownXq fl.sid (argN fl.e 2 2) = some q →
      ((y.st ≠ .frozen ∨ q.bound = true) → exec (.galleyDump dt f) s = .next ((s.elapse dt).complete f sBUSY [])) ∧
      (y.st = .frozen → q.bound = false → ∃ u res, exec (.galleyDump dt f) s = .next (State.complete u f sOK res) ∧ u.cle = s.cle ∧
        sameBut [.host] (s.elapse dt) u ∧ res.getD 2 0 = 4)

/-- DRIVE_REF_TICK takes each group's target from its greatest demand and moves each reference by one millisecond (09
R218, 09 R220, 09 R221, 09 R222, 09 R223, 09 R227, 09 R233, 09 R241). In RUN the group demand D is the greatest of the
zones', the loop's and the host's, or FORCE; the group stops below FG_STOP and starts again at FG_STOP + 200; else T =
min(max(D, FG_MIN), FG_MAX). A drive's target is T, or 10,000 while its group boosts and it has not failed, resolved
to a band's edge. A drive in RUN moves toward it by FD_RAMP_UP or FD_RAMP_DN, by FD_SKIP_RATE inside a band, not past
it and not upward outside a band while PWR_LIM is set; while the power limiter reduces, the reference is the measured
speed; a target 0 ends RUN. A resolved target never lies inside a band. A boundary already served changes nothing. -/
def Obligations.ReferencesMoveTowardTheTarget : Prop :=
  (∀ (dt n g : Nat) (m : List DriveMeas) (s : State) (x : Drive), n < 6 → s.fan.drives.length = 6 → s.fan.groups.length = 4 →
    s.drive n = x → s.pFd n 1 = g → g < 4 → s.isSt .run = true → s.isSt .standby = false → s.fan.tickMs < (s.elapse dt).now / 100000 →
    ∃ t y v, exec (.driveRefTick dt m) s = .next t ∧ t.drive n = y ∧ t.fg g = v ∧ t.fan.tickMs = (s.elapse dt).now / 100000 ∧
      (v.force = none → v.d = max (max (t.fgZone g) ((t.fgLoop g).getD 0)) ((t.fgHost g).getD 0)) ∧
      (∀ w, v.force = some w → v.d = w.1) ∧
      v.stopped = (if (s.fg g).stopped then decide (v.d < s.pFg g 4 + 200) else decide (v.d < s.pFg g 4)) ∧
      v.t = (if v.stopped then 0 else min (max v.d (s.pFg g 2)) (s.pFg g 3)) ∧
      (∀ tt r0 r1 bs, x.st = .run → s.driveOn n = true → s.isResetting (0x0B + n) = false → s.skipBands n = bs →
        tt = (if v.boost && !driveFailed x then 10000 else v.t) → r0 = x.ref * 1000 + x.frac → r1 = y.ref * 1000 + y.frac →
        y.target = (if 0 < tt then resolveSkip bs x.ref tt else 0) ∧ (y.target = 0 → y.st ≠ .run) ∧
        (0 < y.target → y.st = .run ∧ (s.fan.redu < 10000 → y.ref = y.pct) ∧
          (s.fan.redu = 10000 → (y.target * 1000 = r0 → r1 = r0) ∧
            (r0 < y.target * 1000 → r1 =
              if x.pwrLim = true ∧ ¬ (∃ b ∈ bs, b.1 * 1000 < r0 ∧ r0 < b.2 * 1000) then r0
              else min (y.target * 1000)
                (r0 + if bs.any fun b => decide (b.1 * 1000 ≤ r0 ∧ r0 < b.2 * 1000) then s.pFd n 0x0D else s.pFd n 0x0B)) ∧
            (y.target * 1000 < r0 → y.vbus ≤ 8600 → r1 = max (y.target * 1000)
              (r0 - if bs.any fun b => decide (b.1 * 1000 < r0 ∧ r0 ≤ b.2 * 1000) then s.pFd n 0x0D else s.pFd n 0x0C))))) ∧
      t.quiet.but [.fan] = (s.elapse dt).quiet.but [.fan]) ∧
  (∀ (dt : Nat) (m : List DriveMeas) (s : State), (s.elapse dt).now / 100000 ≤ s.fan.tickMs →
    exec (.driveRefTick dt m) s = .next (s.elapse dt)) ∧
  (∀ (bands : List (Nat × Nat)) (ref x : Nat), (∀ b ∈ bands, b.1 < b.2) → bands.Pairwise (fun a b => a.2 ≤ b.1 ∨ b.2 ≤ a.1) →
    (∀ b ∈ bands, ¬ (b.1 < resolveSkip bands ref x ∧ resolveSkip bands ref x < b.2)) ∧
    ((∀ b ∈ bands, ¬ (b.1 < x ∧ x < b.2)) → resolveSkip bands ref x = x) ∧
    ∀ b ∈ bands, b.1 < x → x < b.2 → (ref ≤ b.1 → resolveSkip bands ref x = b.1) ∧ (b.2 ≤ ref → resolveSkip bands ref x = b.2) ∧
      (b.1 < ref → ref < b.2 → resolveSkip bands ref x = if ref - b.1 ≤ b.2 - ref then b.1 else b.2)) ∧
  ∀ (s : State) (n : Nat), (s.drive n).st ≠ .run → s.driveLimit n ≤ (if (s.drive n).st = .kick then s.pFd n 8 else s.pFd n 7) ∧
    s.driveLimit n ≤ (if (s.drive n).i2tLim then 250000 else 450000)

/-- KICK_CATCH_END, KICK_PULSES_COUNTED, KICK_TIMEOUT, STALL, RETRY_ATTEMPT, RETRY_COUNT_RESET, FAN_RETRY_NOW and
FAN_UNLOCK (09 R224, 09 R225, 09 R228, 09 R229, 09 R243, 09 Table 9.2). After 100 ms of CATCH a fan turning forward at
10 % or more runs at its measured speed, else DRIVE begins; FD_KICK_N pulses bring RUN; FD_KICK_T without them, and a
stall, turn the gates off and put the drive in LOCKOUT under BOOST or after the last attempt, else in WAIT for min(15
s x 2^k, 240 s); a due attempt kicks while T > 0 and is deferred at T = 0; FD_RETRY_RESET of RUN clears the attempts;
FAN_RETRY_NOW kicks at once, FAN_UNLOCK ends a lockout and leaves OFF. Only that drive changes. -/
def Obligations.KicksStallsAndRetries : Prop :=
  ∀ (dt n : Nat) (s : State) (x : Drive), n < 6 → s.fan.drives.length = 6 → s.drive n = x → s.fansActive = true → s.power.uv = false →
    s.driveOn n = true → x.trip = 0 →
    (∀ fwd, x.st = .kick → x.kickDrive = false → x.kickMt + 10000000 ≤ (s.elapse dt).now → fwd < 65536 →
      ∃ t y, exec (.kickCatchEnd dt n fwd) s = .next t ∧ t.drive n = y ∧ (∀ k, k ≠ n → t.drive k = s.drive k) ∧ y.gates = true ∧
        (1000 ≤ fwd → y.st = .run ∧ y.ref = fwd ∧ y.recov = x.retry) ∧
        (fwd < 1000 → y.st = .kick ∧ y.kickDrive = true ∧ y.kickMt = (s.elapse dt).now ∧ y.pulses = 0) ∧
        t.quiet.but [.fan] = (s.elapse dt).quiet.but [.fan]) ∧
    (∀ pct, x.st = .kick → x.kickDrive = true → pct < 65536 →
      ∃ t y, exec (.kickPulsesCounted dt n pct) s = .next t ∧ t.drive n = y ∧ (∀ k, k ≠ n → t.drive k = s.drive k) ∧ y.st = .run ∧
        y.ref = pct ∧ y.gates = true ∧ y.recov = x.retry ∧ t.quiet.but [.fan] = (s.elapse dt).quiet.but [.fan]) ∧
    (∀ c, (c = .kickTimeout dt n ∧ x.st = .kick ∧ x.kickDrive = true ∧ x.kickMt + s.pFd n 0x0A * 10000000 ≤ (s.elapse dt).now ∧
          x.pulses < s.pFd n 9 ∨
        c = .stall dt n true ∧ x.st = .run ∧ s.pFd n 3 = 0 ∨
        c = .stall dt n false ∧ x.st = .run ∧ ∃ m, x.slowMt = some m ∧ m + s.pFd n 0x19 * 10000000 ≤ (s.elapse dt).now) →
      x.lockout = false →
      ∃ t y, exec c s = .next t ∧ t.drive n = y ∧ (∀ k, k ≠ n → t.drive k = s.drive k) ∧ y.gates = false ∧ y.ref = 0 ∧
        y.trip = 0 ∧ y.stalls = incW 16 x.stalls ∧ t.quiet.but [.fan] = (s.elapse dt).quiet.but [.fan] ∧
        ((s.pFg (s.pFd n 1) 0 = 0 ∨ s.parN 0x7305 ≤ x.attempts) → y.st = .lockout ∧ y.nextMt = none) ∧
        (s.pFg (s.pFd n 1) 0 ≠ 0 → x.attempts < s.parN 0x7305 → y.st = .wait ∧
          y.nextMt = some ((s.elapse dt).now + min (15 * 2 ^ x.attempts) 240 * Config.sec))) ∧
    (∀ m, x.st = .wait → x.nextMt = some m → m ≤ (s.elapse dt).now →
      (0 < ((s.elapse dt).fgView (s.pFd n 1)).t →
        ∃ t y, exec (.retryAttempt dt n) s = .next t ∧ t.drive n = y ∧ y.st = .kick ∧ y.attempts = incSat 8 x.attempts ∧
          y.retry = true ∧ y.kickMt = (s.elapse dt).now ∧ (∀ k, k ≠ n → t.drive k = s.drive k) ∧
          t.quiet.but [.fan] = (s.elapse dt).quiet.but [.fan]) ∧
      (((s.elapse dt).fgView (s.pFd n 1)).t = 0 →
        exec (.retryAttempt dt n) s = .next ((s.elapse dt).onDrive n fun y => { y with nextMt := none }))) ∧
    (∀ m, x.st = .run → x.runMt = some m → m + s.parN 0x7304 * Config.sec ≤ (s.elapse dt).now →
      exec (.retryCountReset dt n) s = .next ((s.elapse dt).onDrive n fun y => { y with attempts := 0 })) ∧
    (∀ f fl, s.flight? f = some fl → ready fl 0x52 = true → fl.e.target = 0x0B + n → argB fl.e 0 = n →
      (x.st = .wait → ∃ u : State, exec (.fanRetryNow dt f) s = .next (u.complete f sOK [n, 1, incSat 8 x.attempts]) ∧
        (u.drive n).st = .kick ∧ (∀ k, k ≠ n → u.drive k = s.drive k)) ∧
      (x.st ≠ .wait → exec (.fanRetryNow dt f) s = .next ((s.elapse dt).complete f sNOTST []))) ∧
    ∀ f fl, s.flight? f = some fl → ready fl 0x53 = true → fl.e.target = 0x0B + n → argB fl.e 0 = n →
      (x.lockout = true → (x.st = .lockout ∨ x.parked = true) → moving x.st = false → ∃ u : State, exec (.fanUnlock dt f) s = .next (u.complete f sOK [n, 0]) ∧ (u.drive n).st = .off ∧
        (u.drive n).attempts = 0 ∧ (u.drive n).lockout = false ∧ (∀ k, k ≠ n → u.drive k = s.drive k)) ∧
      ((x.lockout = false ∨ x.st ≠ .lockout ∧ x.parked = false) → exec (.fanUnlock dt f) s = .next ((s.elapse dt).complete f sNOTST []))

/-- Every source that trips a drive latches its bit, and only FAN_CLEAR_TRIP with no latched source active clears the
latch (09 R230, 09 R232, 09 Table 9.3). DRIVE_TRIP and an opening FTRIP input set their bit in FD_TRIP of the drives
they affect, whose gates are off and whose state is TRIPPED, or UV below 20.0 V; an FTRIP input that closes and a
source that is no longer detected leave every latch as it is. FAN_CLEAR_TRIP with a latched source active completes
TRIP_ACTIVE with the latch unchanged; with none it clears the latch and leaves the drive in OFF. -/
def Obligations.TripsLatchUntilCleared : Prop :=
  ∀ (dt n : Nat) (s : State) (x : Drive), n < 6 → s.fan.drives.length = 6 → s.fan.ftrip.length = 2 → s.drive n = x →
    (∀ src, src < 4 → x.trip < 64 → s.driveOn n = true →
      ∃ t y, exec (.driveTrip dt n src) s = .next t ∧ t.drive n = y ∧ (∀ k, k ≠ n → t.drive k = s.drive k) ∧
        y.trip = x.trip ||| 2 ^ src ∧ bitOf y.active src = true ∧ (bitOf x.trip src = false → y.gates = false ∧ y.st = if s.power.uv then .uv else .tripped) ∧
        t.quiet.but [.fan, .cle, .lane] = (s.elapse dt).quiet.but [.fan, .cle, .lane]) ∧
    (∀ i, i < 2 → s.fan.ftrip.getD i false = false → x.trip < 64 → s.driveOn n = true →
      ∃ t y, exec (.ftripInput dt i true) s = .next t ∧ t.drive n = y ∧ t.fan.ftrip = s.fan.ftrip.set i true ∧
        (bitOf (s.ftripMask i) n = true → y.trip = x.trip ||| 2 ^ (4 + i) ∧ (bitOf x.trip (4 + i) = false →
          y.gates = false ∧ y.st = if s.power.uv then .uv else .tripped)) ∧
        t.quiet.but [.fan, .valve, .cle, .lane] = (s.elapse dt).quiet.but [.fan, .valve, .cle, .lane] ∧
        (bitOf (s.ftripMask i) n = false → y = x)) ∧
    (∀ i, i < 2 → s.fan.ftrip.getD i false = true →
      ∃ t, exec (.ftripInput dt i false) s = .next t ∧ t.fan.ftrip = s.fan.ftrip.set i false ∧
        ((s.elapse dt).remoteTrip i = false → (t.drive n).trip = x.trip ∧ (t.drive n).st = x.st)) ∧
    (∀ src, src < 4 → exec (.tripSourceClear dt false n src) s =
      .next ((s.elapse dt).onDrive n fun y => { y with active := clrBit y.active src })) ∧
    ∀ f fl, s.flight? f = some fl → ready fl 0x51 = true → fl.e.target = 0x0B + n → argB fl.e 0 = n →
      (x.trip &&& x.active ≠ 0 → ∃ u res, exec (.fanClearTrip dt f) s = .next (State.complete u f sTRIP res) ∧
        (u.drive n).trip = x.trip ∧ (u.drive n).st = x.st) ∧
      (x.trip ≠ 0 → x.trip &&& x.active = 0 → x.st = .tripped → s.driveOn n = true → s.power.uv = false → x.lockout = false →
        ∃ u res, exec (.fanClearTrip dt f) s = .next (State.complete u f sOK res) ∧ (u.drive n).trip = 0 ∧ (u.drive n).st = .off ∧
          ∀ k, k ≠ n → u.drive k = s.drive k)

/-- POWER_LIMIT_TICK, POWER_LIMIT_REDUCE, I2T_EXHAUSTED, VIN_UNDERVOLT, VIN_RECOVER, AUTONOMY_EXPIRY, INTERNAL_FAN_FAIL,
FAN_CMD (09 R218, 09 R233, 09 R235, 09 R236, 09 R239, 09 R240, 09 R243). P above PL sets PWR_LIM on every drive in
RUN; after 20 ms above 1.05 x PL the limit falls by 5 % of its value; an empty budget sets the 25 A cap; below 20.0 V
every drive in use is in UV with gates off and its latches kept, and above 22.0 V it is in OFF; FD_AUTONOMY_T after
the start of UPDATE the targets are let go; a failed internal fan boosts the others. FAN_CMD sets and clears the host
demand, FORCE only in STANDBY and RUN, DRIVE_OFF and DRIVE_ON, and answers the group's or drive's state. -/
def Obligations.FanPowerSupplyAndCommands : Prop :=
  ∀ (dt : Nat) (s : State), s.fan.drives.length = 6 → s.fan.groups.length = 4 →
    (∃ t, exec (.powerLimitTick dt) s = .next t ∧ t.fan.ptot = (s.fan.drives.map (·.pwr)).foldl (· + ·) 0 ∧ t.fan.pl = s.powerLimit ∧
      sameBut [.fan] (s.elapse dt) t ∧
      (t.fan.pl < t.fan.ptot → ∀ n, n < 6 → (t.drive n).pwrLim = decide ((s.drive n).st = .run)) ∧
      (100 * t.fan.ptot ≤ 105 * t.fan.pl → t.fan.overMt = none)) ∧
    (∀ m, s.fan.overMt = some m → m + 20 * Config.ms ≤ (s.elapse dt).now → exec (.powerLimitReduce dt) s =
      .next ((s.elapse dt).onFan fun f => { f with redu := f.redu * 95 / 100, overMt := some (s.elapse dt).now })) ∧
    (∀ n, n < 6 → (s.drive n).budget = 0 → (s.drive n).i2tLim = false → exec (.i2tExhausted dt n) s =
      .next ((s.elapse dt).onDrive n fun x => { x with i2tLim := true, evt := orBit x.evt 5 })) ∧
    (∀ vin, vin < 2000 → s.power.uv = false →
      ∃ t, exec (.vinUndervolt dt vin) s = .next t ∧ t.power.uv = true ∧ t.power.vin = vin ∧ ∀ n, n < 6 →
        (t.drive n).gates = false ∧ (t.drive n).trip = (s.drive n).trip ∧
        (t.drive n).lockout = (s.drive n).lockout ∧ (t.drive n).parked = true ∧ (s.driveOn n = true → (t.drive n).st = .uv)) ∧
    (∀ vin, 2200 < vin → vin ≤ 10000 → s.power.uv = true →
      ∃ t, exec (.vinRecover dt vin) s = .next t ∧ t.power.uv = false ∧ t.power.vin = vin ∧ ∀ n, n < 6 → (s.drive n).st = .uv →
        s.driveOn n = true → (s.drive n).parked = true →
        (t.drive n).st = .off) ∧
    (s.isSt .update = true → s.power.updMt + s.parN 0x7301 * Config.sec ≤ (s.elapse dt).now →
      exec (.autonomyExpiry dt) s = .next ((s.elapse dt).onFan fun f => { f with autonEnd := true })) ∧
    (∀ i, i < 3 → s.fan.coolFail < 8 → bitOf s.fan.coolFail i = false →
      ∃ t, exec (.internalFanFail dt i) s = .next t ∧ t.fan.coolFail = s.fan.coolFail ||| 2 ^ i ∧ t.fan.coolBoost = true ∧
        t.quiet.but [.fan] = (s.elapse dt).quiet.but [.fan]) ∧
    ∀ f fl g v, s.flight? f = some fl → ready fl 0x50 = true → argB fl.e 1 = g → argN fl.e 2 2 = v →
      (g < 4 → v ≤ 10000 → argB fl.e 0 = 2 → ∃ u : State, exec (.fanCmd dt f) s = .next (u.complete f sOK (u.groupStatus g)) ∧
        (u.fg g).host = some (v, fl.sid) ∧ (∀ k, k ≠ g → u.fg k = s.fg k) ∧ u.quiet.but [.fan] = (s.elapse dt).quiet.but [.fan]) ∧
      (g < 4 → v ≤ 10000 → argB fl.e 0 = 4 →
        ((s.isSt .standby = true ∨ s.isSt .run = true) → ∃ u : State, exec (.fanCmd dt f) s = .next (u.complete f sOK (u.groupStatus g)) ∧
          (u.fg g).force = some (v, fl.sid) ∧ (∀ k, k ≠ g → u.fg k = s.fg k)) ∧
        (s.isSt .standby = false → s.isSt .run = false → exec (.fanCmd dt f) s = .next ((s.elapse dt).complete f sNOTST []))) ∧
      (∀ op, g < 4 → (op = 3 ∨ op = 5) → argB fl.e 0 = op → ∃ u : State, exec (.fanCmd dt f) s = .next (u.complete f sOK (u.groupStatus g)) ∧
        (u.fg g) = (if op = 3 then { s.fg g with host := none } else { s.fg g with force := none }) ∧ (∀ k, k ≠ g → u.fg k = s.fg k)) ∧
      (∀ op, g < 6 → fl.e.target = 0x0B + g → (op = 6 ∨ op = 7) → argB fl.e 0 = op →
        ∃ u : State, exec (.fanCmd dt f) s = .next (u.complete f sOK (u.driveStatus g)) ∧ (u.drive g).cmdOff = decide (op = 6) ∧
          (∀ k, k ≠ g → u.drive k = s.drive k)) ∧
      (10000 < v → argB fl.e 0 = 2 → exec (.fanCmd dt f) s = .next ((s.elapse dt).complete f sBAD [])) ∧
      (g < 6 → fl.e.target = 0x0B + g → argB fl.e 0 = 0 →
        exec (.fanCmd dt f) s = .next ((s.elapse dt).complete f sOK ((s.elapse dt).driveStatus g)))

/-- GOVERNOR_TICK admits pull-ins only inside the energy bound and class, sets the rail target and keeps references under
the caps (10 R245, 10 R246, 10 R247, 10 R250, 10 R251, 10 R252, 10 R253, 10 R256, 10 R264, 10 Table 10.3). Each tick
takes the currents, the duties and VBST. A pull-in starts only if, with its peak energy, E_S is at most E_CEIL -
40,000 uJ - C x 90 V^2 / 2, its energy is in the strap's class and VB_FAULT is clear; a channel still waiting does not
fit or VB_FAULT is set. VB_TGT is in 90.0 to 110.0 V and, above 90.0 V, keeps E_R + E_S in the bound; charge and
return run from 20.0 V. A PROP reference is the command plus dither held under the rise cap and the class cap; capped
by class it stores at most the class; a reference raised but for a pull-in keeps the bound. A coil is low from the
first tick at full duty with less than 25 % of 100.0 mA or more. Only the valves change. -/
def Obligations.GovernorAdmitsWithinTheBound : Prop :=
  (∀ (dt vbst full : Nat) (imeas : List Nat) (s : State), s.valve.svs.length = 8 →
    ∃ t, exec (.governorTick dt imeas vbst full) s = .next t ∧ t.quiet.but [.valve] = (s.elapse dt).quiet.but [.valve] ∧
      t.valve.vb = vbst % 65536 ∧
      (0 < s.valve.c → 900 ≤ t.valve.tgt ∧ t.valve.tgt ≤ 1100 ∧
        (900 < t.valve.tgt → railE s.valve.c t.valve.tgt + t.coilSum ≤ railBound s.valve.c)) ∧
      t.valve.charge = (decide (vbst < t.valve.tgt) && !s.power.vinUv) ∧
      t.valve.ret = (decide (t.valve.tgt + 10 < vbst) && !s.power.vinUv) ∧
      ∀ n x y, n < 8 → s.sv n = x → t.sv n = y → y.imeas = imeas.getD n 0 % 65536 ∧ y.trip = x.trip ∧
        y.lowMt = (if 1000 ≤ x.ref ∧ 4 * imeas.getD n 0 < x.ref ∧ bitOf full n = true then some (x.lowMt.getD (s.elapse dt).now) else none) ∧
        (x.trip ≠ 0 → y.ref = 0 ∧ y.st = .tripped) ∧ (x.trip = 0 → s.power.uv = true → y.ref = 0 ∧ y.st = .uv) ∧
        (x.trip = 0 → s.power.uv = false → x.leaving = true → 10 < y.imeas → y.ref = 0 ∧ y.st = .off ∧ y.leaving = true) ∧
        (y.st = .pull → x.st ≠ .pull → t.coilSum ≤ admitLimit s.valve.c ∧ s.valve.vbFault = false ∧ y.ref = min y.phI (s.classCap n) ∧
          (∀ e, epcClass s.unit.straps.epc = some e → coilE (t.svL n) y.phI ≤ e)) ∧
        (y.st = .pullWait → y.ref = 0 ∧ (s.valve.vbFault = true ∨ admitLimit s.valve.c < t.coilSum + coilE (t.svL n) y.phI ∨
          ∃ e, epcClass s.unit.straps.epc = some e ∧ e < coilE (t.svL n) y.phI)) ∧
        (s.pSv n 0 = 1 → s.pSv n 4 ≠ 0 → s.pSv n 7 = 0 →
          y.dacc = (x.dacc + (rdiv (s.pSv n 6 * 2 ^ 32) 200000).toNat) % 2 ^ 32) ∧
        (x.trip = 0 → s.power.uv = false → s.pSv n 0 = 1 → (x.leaving = false ∨ y.imeas ≤ 10) → (s.elapse dt).stepTest n = none →
          y.cmd = min ((s.elapse dt).propCmd n).1 (s.pSv n 1) ∧ y.src = ((s.elapse dt).propCmd n).2 ∧
          (0 < y.cmd → s.permitGone n = false → y.ref = (min (max ((y.cmd : Int) +
            ditherOf (s.pSv n 4) (s.ditherAmp n) (y.dacc / 65536)) 0) ((min y.capGov y.capCls : Nat) : Int)).toNat) ∧
          (y.cmd = 0 ∨ s.permitGone n = true → y.ref = 0) ∧
          y.govCap = decide (y.capGov < y.cmd) ∧ y.classCap = decide (y.capCls < y.cmd) ∧
          ∀ e, epcClass s.unit.straps.epc = some e → coilE (t.svL n) y.ref ≤ e)) ∧
  ∀ (s t : State) (n : Nat), n < 8 → s.valve.svs.length = 8 →
    (t = s.tickProp n ∨ t = s.tickPh n ∧ (s.sv n).st ≠ .pull ∨ ∃ i1 i2, t = s.tickTest n i1 i2) → (s.sv n).ref < (t.sv n).ref →
    railE s.valve.c s.valve.vb + coilE (s.svL n) (t.sv n).ref + (s.coilSum - (s.sv n).e) ≤ railBound s.valve.c

/-- PULLIN_PEAK, PEAK_TIME_END, VALVE_TRIP, TRIP_SOURCE_CLEAR, COIL_OPEN, CLAMP, GOV_CLAMP_CLEAR, VB_FAULT,
BURNER_PERMIT_CHANGE (10 R248, 10 R252, 10 R254, 10 R255, 10 R256, 10 R258, 10 R264, 12 R306, 20 R491, 10 Table 10.4).
A pull-in's rise gives L = VBST x t / dI, learned and LEARN_REQ cleared; SV_PEAK_T after admission the coil falls to
SV_HOLD_I. OC latches its channel, OT all: reference 0 by the fast path, TRIPPED; a source that clears leaves the
latch. A current low for SV_OPEN_T is OPEN. A clamp event counts, adds its energy, sets GOV_CLAMP and marks channels
whose E_i changed within 10 ms; 10 s without one clears GOV_CLAMP. VBST below 80.0 V for 100 ms is VB_FAULT. Without
the permit an SV_PERMIT channel's reference is 0 and PERMIT_OFF set, in every state; PCHAIN needs the permit and an
open readback. -/
def Obligations.PullinsTripsAndPermit : Prop :=
  ∀ (dt n : Nat) (s : State) (x : Valve), n < 8 → s.valve.svs.length = 8 → s.sv n = x →
    (∀ v us, x.st = .pull → s.parN 0x8100 = 1 → 0 < x.phI → pullL v us x.phI < 65536 →
      ∃ t, exec (.pullinPeak dt n v us) s = .next t ∧ (t.sv n).learned = some (pullL v us x.phI) ∧ (t.sv n).learnReq = false ∧
        (t.sv n).st = .pull ∧ (∀ k, k ≠ n → t.sv k = s.sv k) ∧ t.quiet.but [.valve] = (s.elapse dt).quiet.but [.valve]) ∧
    (∀ m, x.st = .pull → x.admMt = some m → m + x.phT * Config.ms ≤ (s.elapse dt).now →
      ∃ t, exec (.peakTimeEnd dt n) s = .next t ∧ (t.sv n).st = .hold ∧ (t.sv n).ref = min (s.pSv n 0x0C) (s.classCap n) ∧
        (t.sv n).admMt = none ∧ (∀ k, k ≠ n → t.sv k = s.sv k) ∧ t.quiet.but [.valve] = (s.elapse dt).quiet.but [.valve]) ∧
    (x.trip < 16 → ∃ t, exec (.valveTrip dt n 0) s = .next t ∧ (t.sv n).trip = x.trip ||| 1 ∧ bitOf (t.sv n).active 0 = true ∧
      (bitOf x.trip 0 = false → (t.sv n).ref = 0 ∧ (t.sv n).st = .tripped ∧ (0 < x.ref → (t.sv n).fast = true)) ∧ (∀ k, k ≠ n → t.sv k = s.sv k) ∧
      t.quiet.but [.valve] = (s.elapse dt).quiet.but [.valve]) ∧
    (∃ t, exec (.valveTrip dt 0 1) s = .next t ∧ t.quiet.but [.valve] = (s.elapse dt).quiet.but [.valve] ∧
      (x.trip < 16 → (t.sv n).trip = x.trip ||| 2 ∧ (bitOf x.trip 1 = false → (t.sv n).ref = 0 ∧ (t.sv n).st = .tripped))) ∧
    exec (.tripSourceClear dt true n 0) s = .next ((s.elapse dt).onSv n fun v => { v with active := clrBit v.active 0 }) ∧
    (∃ t, exec (.tripSourceClear dt true n 1) s = .next t ∧ t.sv n = { x with active := clrBit x.active 1 } ∧
      sameBut [.valve] (s.elapse dt) t) ∧
    (∀ m, x.lowMt = some m → x.opened = false → m + s.pSv n 0x10 * Config.ms ≤ (s.elapse dt).now →
      ∃ t, exec (.coilOpen dt n) s = .next t ∧ t.sv n = { x with opened := true, evt := orBit x.evt 1 } ∧
        (∀ k, k ≠ n → t.sv k = s.sv k) ∧ t.quiet.but [.valve] = (s.elapse dt).quiet.but [.valve]) ∧
    (∀ j, ∃ t, exec (.clamp dt j) s = .next t ∧ t.quiet.but [.valve] = (s.elapse dt).quiet.but [.valve] ∧
      t.valve.clampCnt = (s.valve.clampCnt + 1) % 2 ^ 32 ∧ t.valve.clampJ = min (2 ^ 32 - 1) (s.valve.clampJ + j) ∧
      t.valve.govClamp = true ∧
      t.sv n = if (s.elapse dt).now < x.eMt + 10 * Config.ms then { x with learnReq := true } else x) ∧
    (s.valve.clampMt + 10 * Config.sec ≤ (s.elapse dt).now →
      exec (.govClampClear dt) s = .next ((s.elapse dt).onValve fun v => { v with govClamp := false })) ∧
    (∀ m, s.valve.lowMt = some m → s.valve.vbFault = false → m + 100 * Config.ms ≤ (s.elapse dt).now →
      ∃ t, exec (.vbFault dt) s = .next t ∧ t.valve = { s.valve with vbFault := true } ∧
        t.quiet.but [.valve] = (s.elapse dt).quiet.but [.valve]) ∧
    ∀ on, s.hl.permit = !on → ∃ t, exec (.burnerPermitChange dt on) s = .next t ∧ t.hl.permit = on ∧
      t.hl.pchain = (s.hl.pchain && (on && s.hl.rb.any (! ·))) ∧ t.quiet.but [.valve, .hl] = (s.elapse dt).quiet.but [.valve, .hl] ∧
      (on = false → s.pSv n 0x0E = 1 → (t.sv n).ref = 0 ∧ (t.sv n).permitOff = true) ∧
      (on = true → s.pSv n 0x0E = 1 → (t.sv n).permitOff = false) ∧
      (s.pSv n 0x0E = 0 → t.sv n = x)

/-- VALVE_CMD stores the host's and FORCE values, clears trips and reports; VALVE_LEARN_L learns L from a step test (10
R245, 10 R252, 10 R254, 10 R255, 10 R266, 10 Table 10.9). Operation 1 stores the session's host value and 2 clears it,
3 stores FORCE in STANDBY and RUN only and 4 releases it; 5 completes TRIP_ACTIVE and keeps the latch while a latched
source is active, else clears it and leaves TRIPPED; 0 and 6 only report the channel's state and the rail's energies;
an unknown operation, or a value above SV_IMAX, is BAD_ARG. A step test in STANDBY on an undriven channel that made
its step from I1 to I2 learns L from VIN, the voltage at I1, the currents and the time; with I1 0 that value is a free
one; without the step nothing is learned; a driven channel and other states answer NOT_IN_STATE, I2 not above I1
BAD_ARG. -/
def Obligations.ValveCommandsAndStepTests : Prop :=
  ∀ (dt f n : Nat) (s : State) (fl : Flight) (x : Valve), n < 8 → s.valve.svs.length = 8 → s.flight? f = some fl → s.sv n = x →
    (∀ op v, ready fl 0x58 = true → argB fl.e 0 = op → argB fl.e 1 = n → argN fl.e 2 2 = v →
      (op = 0 → exec (.valveCmd dt f) s = .next ((s.elapse dt).complete f sOK ((s.elapse dt).svStatus n))) ∧
      (op = 6 → exec (.valveCmd dt f) s = .next ((s.elapse dt).complete f sOK (s.railStatus))) ∧
      (6 < op ∨ (op = 1 ∨ op = 3) ∧ (if s.pSv n 0 = 2 then 1 < v else s.pSv n 1 < v) →
        exec (.valveCmd dt f) s = .next ((s.elapse dt).complete f sBAD [])) ∧
      (op = 1 → (if s.pSv n 0 = 2 then v ≤ 1 else v ≤ s.pSv n 1) → ∃ u : State,
        exec (.valveCmd dt f) s = .next (u.complete f sOK (u.svStatus n)) ∧ u.sv n = { x with host := some (v, fl.sid) } ∧
        (∀ k, k ≠ n → u.sv k = s.sv k) ∧ u.quiet.but [.valve] = (s.elapse dt).quiet.but [.valve]) ∧
      (op = 2 → ∃ u : State, exec (.valveCmd dt f) s = .next (u.complete f sOK (u.svStatus n)) ∧ u.sv n = { x with host := none } ∧
        (∀ k, k ≠ n → u.sv k = s.sv k) ∧ u.quiet.but [.valve] = (s.elapse dt).quiet.but [.valve]) ∧
      (op = 3 → (if s.pSv n 0 = 2 then v ≤ 1 else v ≤ s.pSv n 1) →
        ((s.isSt .standby = true ∨ s.isSt .run = true) → ∃ u : State, exec (.valveCmd dt f) s = .next (u.complete f sOK (u.svStatus n)) ∧
          u.sv n = { x with force := some (v, fl.sid) } ∧ (∀ k, k ≠ n → u.sv k = s.sv k)) ∧
        (s.isSt .standby = false → s.isSt .run = false → exec (.valveCmd dt f) s = .next ((s.elapse dt).complete f sNOTST []))) ∧
      (op = 4 → ∃ u : State, exec (.valveCmd dt f) s = .next (u.complete f sOK (u.svStatus n)) ∧ u.sv n = { x with force := none } ∧
        ∀ k, k ≠ n → u.sv k = s.sv k) ∧
      (op = 5 → (x.trip &&& x.active ≠ 0 → ∃ u : State, exec (.valveCmd dt f) s = .next (u.complete f sTRIP (u.svStatus n)) ∧
          (∀ k, u.sv k = s.sv k)) ∧
        (x.trip &&& x.active = 0 → ∃ u : State, exec (.valveCmd dt f) s = .next (u.complete f sOK (u.svStatus n)) ∧
          u.sv n = { x with trip := 0, st := if x.st = .tripped then .off else x.st } ∧ ∀ k, k ≠ n → u.sv k = s.sv k))) ∧
    ∀ vh us i1 i2, ready fl 0x59 = true → argB fl.e 0 = n → argN fl.e 2 2 = i1 → argN fl.e 4 2 = i2 →
      ((i2 ≤ i1 ∨ s.pSv n 1 < i2) → exec (.valveLearnL dt f vh us) s = .next ((s.elapse dt).complete f sBAD [])) ∧
      (i1 < i2 → i2 ≤ s.pSv n 1 → (s.isSt .standby = false ∨ x.force.isSome = true ∨ (s.loopTo 1 n).isSome = true) → exec (.valveLearnL dt f vh us) s = .next ((s.elapse dt).complete f sNOTST [])) ∧
      (∀ l, i1 < i2 → i2 ≤ s.pSv n 1 → s.isSt .standby = true → x.force = none → s.loopTo 1 n = none →
        l = (if i1 = 0 ∨ s.power.vin = 0 then Config.freeValue s.free else stepL s.power.vin vh i1 i2 us) →
        ∃ u res, exec (.valveLearnL dt f vh us) s = .next (State.complete u f sOK res) ∧ res.getD 0 0 = n ∧
          (x.stepped = true → 0 < l → l < 65536 → (u.sv n).learned = some l.toNat ∧ (u.sv n).learnReq = false ∧ bitOf (res.getD 1 0) 0 = true) ∧
          ((x.stepped = false ∨ l ≤ 0 ∨ 65536 ≤ l) → u.sv n = x ∧ res.getD 1 0 = 0) ∧ (0 < i1 → 0 < s.power.vin → u.free = s.free) ∧
          (∀ k, k ≠ n → u.sv k = s.sv k) ∧ u.quiet.but [.valve, .free] = (s.elapse dt).quiet.but [.valve, .free])

/-- DI_FILTER_STEP presets or steps the up/down counter, and each filtered transition is counted and delivered once (11
R269, 11 R270, 11 R271, 11 R286, 11 R292, 03 R77). A preset step takes c as 0 or DI_CMAX and the state from the raw
level without a transition. Else, DI_TICK x 10 us after the last step and not before, c moves by 1 within 0 and
DI_CMAX; the state turns ON at DI_ON_TH rising and OFF at DI_OFF_TH falling. Only a transition sets DI_EVT, and a
rising one counts modulo 65,536; outside REPRINT it fires the armed EVENT slots that name the input and its edge. An
input with a coupler fault, and every input in PROOF or a station reset, holds. Other inputs do not change. -/
def Obligations.InputsFilterCountAndDeliver : Prop :=
  ∀ (dt n : Nat) (raw : Bool) (s : State) (d : Din), n < 32 → s.dio.ins.length = 32 → s.din n = d →
    ((s.isSt .proof = true ∨ s.isResetting 0x12 = true ∨ s.dio.diCpl.getLsbD n = true ∨
        d.preset = false ∧ (s.elapse dt).now < d.stepMt + s.parN (0x9000 + 4 * n) * 1000) → exec (.diFilterStep dt n raw) s = .next (s.elapse dt)) ∧
    (s.isSt .proof = false → s.isResetting 0x12 = false → s.dio.diCpl.getLsbD n = false →
      (d.preset = true ∨ d.stepMt + s.parN (0x9000 + 4 * n) * 1000 ≤ (s.elapse dt).now) → ∃ t y, exec (.diFilterStep dt n raw) s = .next t ∧ t.din n = y ∧ (∀ k, k ≠ n → t.din k = s.din k) ∧
      t.dio.outs = s.dio.outs ∧ y.raw = raw ∧ y.stepMt = (s.elapse dt).now ∧
      (d.preset = true → y.c = (if raw then s.parN (0x9003 + 4 * n) else 0) ∧ y.st = raw ∧ y.preset = false ∧ y.cnt = d.cnt ∧
        t.dio.diEvt = s.dio.diEvt ∧ sameBut [.dio] (s.elapse dt) t) ∧
      (d.preset = false →
        y.c = (if raw then min (s.parN (0x9003 + 4 * n)) (d.c + 1) else min (s.parN (0x9003 + 4 * n)) d.c - 1) ∧
        y.st = (if raw then d.st || decide (s.parN (0x9001 + 4 * n) ≤ y.c) else d.st && decide (s.parN (0x9002 + 4 * n) < y.c)) ∧
        y.cnt = (if d.st = false ∧ y.st = true then (d.cnt + 1) % 2 ^ 16 else d.cnt) ∧
        (y.st = d.st → t.dio.diEvt = s.dio.diEvt ∧ sameBut [.dio] (s.elapse dt) t) ∧
        (y.st ≠ d.st → t.dio.diEvt = orBit s.dio.diEvt n ∧
          (s.isSt .reprint = true → sameBut [.dio] (s.elapse dt) t) ∧
          (s.isSt .reprint = false → y.tok = y.st ∧
            t.quiet.but [.dio, .imp, .timers, .toks, .probe, .host] = (s.elapse dt).quiet.but [.dio, .imp, .timers, .toks, .probe, .host] ∧
            (∀ k l, s.imp.slots = [(k, l)] → l.st = .armed → (s.slotEntry k).base = 6 → eventMatch l.next 1 n 0 y.st = true →
              s.imp.queue = [] → s.imp.held = [] → s.store.reprint = none →
              t.imp.queue = [mkFiring k (s.slotEntry k) l.next (s.elapse dt).now 1 0])))))

/-- DO_SET, DO_CLEAR, DO_PULSE, DO_PULSE_END, TPROP_PERIOD_START, TPROP_ON_END and FREQ_HALF_PERIOD in RUN (11 R272, 11
R273, 11 R274, 11 R275, 11 R277, 11 R289, 11 Table 11.2). A SLOT output without FORCE is on after DO_SET and DO_PULSE,
off after DO_CLEAR; DO_PULSE puts the switch-off ARG_A x 10 us ahead, DO_SET and DO_CLEAR cancel it, and at its
instant the output is off. An action on an output that is expired or not SLOT is DISCARDED. A TPROP period is on for
round(duty x period / 10,000) ms, 0 or all of it inside DO_TP_MIN of either end; a FREQ output toggles each half
period and takes a new frequency, at most 10 kHz, at the period's end. -/
def Obligations.OutputsFollowActionsAndPeriods : Prop :=
  ∀ (dt n : Nat) (s : State) (d : Dout), n < 24 → s.dio.outs.length = 24 → s.dout n = d → s.isSt .run = true → s.doLead n = n →
    s.dio.forceEn.getLsbD n = false →
    (∀ x c, s.imp.inbox = [x] → x.index = n → s.imp.slots.Pairwise (fun a b => a.1 < b.1) →
      (c = .doSet dt n ∧ x.action = 3 ∨ c = .doClear dt n ∧ x.action = 4 ∨ c = .doPulse dt n ∧ x.action = 5) →
      ∃ t y, exec c s = .next t ∧ t.dout n = y ∧ t.imp.inbox = [] ∧
        t.quiet.but [.dio, .imp] = (s.elapse dt).quiet.but [.dio, .imp] ∧
        ((s.pDo n 0 ≠ 1 ∨ d.expired = true) → t.dio = s.dio ∧ (t.slotLive x.slot).lastAcc = accCode .discarded) ∧
        (s.pDo n 0 = 1 → d.expired = false → (t.slotLive x.slot).lastAcc = accCode .accepted ∧ y.slot = decide (x.action ≠ 4) ∧
          y.out = y.slot ∧ (x.action = 5 → y.pulse = some ((s.elapse dt).now + x.argA * 1000)) ∧ (x.action ≠ 5 → y.pulse = none) ∧
          ∀ k, k ≠ n → (t.dout k).slot = (s.dout k).slot ∧ (t.dout k).pulse = (s.dout k).pulse)) ∧
    (∀ m, d.pulse = some m → s.pDo n 0 = 1 →
      ((s.elapse dt).now < m → exec (.doPulseEnd dt n) s = .next (s.elapse dt)) ∧
      (m ≤ (s.elapse dt).now → ∃ t, exec (.doPulseEnd dt n) s = .next t ∧ (t.dout n).out = false ∧ (t.dout n).slot = false ∧
        (t.dout n).pulse = none ∧ sameBut [.dio] (s.elapse dt) t)) ∧
    (∀ u on, s.pDo n 0 = 3 → s.loopU 4 n = some u → 0 ≤ u → u ≤ 10000 → on = (rdiv (u * s.pDo n 3) 10000).toNat →
      d.tpMt + s.pDo n 3 * Config.ms ≤ (s.elapse dt).now →
      ∃ t y, exec (.tpropPeriodStart dt n) s = .next t ∧ t.dout n = y ∧ y.tpMt = d.tpMt + s.pDo n 3 * Config.ms ∧
        y.tpMs = (if on < s.pDo n 4 then 0 else if s.pDo n 3 - on < s.pDo n 4 then s.pDo n 3 else on) ∧
        y.tpOn = decide (0 < y.tpMs) ∧ y.out = y.tpOn ∧ sameBut [.dio] (s.elapse dt) t) ∧
    (s.pDo n 0 = 3 → d.tpOn = true → d.tpMs < s.pDo n 3 → d.tpMt + d.tpMs * Config.ms ≤ (s.elapse dt).now →
      ∃ t, exec (.tpropOnEnd dt n) s = .next t ∧ (t.dout n).out = false ∧ (t.dout n).tpMt = d.tpMt ∧ sameBut [.dio] (s.elapse dt) t) ∧
    (∀ u, s.pDo n 0 = 4 → s.loopU 3 n = some u → d.freq = 0 →
      ∃ t y, exec (.freqHalfPeriod dt n) s = .next t ∧ t.dout n = y ∧ y.fMt = (s.elapse dt).now ∧ y.freq = min 100000 u.toNat ∧
        y.out = decide (0 < y.freq) ∧ sameBut [.dio] (s.elapse dt) t) ∧
    (∀ u, s.pDo n 0 = 4 → s.loopU 3 n = some u → 0 < d.freq →
      (d.fHigh = true → d.fMt + 500000000 / d.freq ≤ (s.elapse dt).now →
        ∃ t, exec (.freqHalfPeriod dt n) s = .next t ∧ (t.dout n).out = false ∧ (t.dout n).freq = d.freq ∧ (t.dout n).fMt = d.fMt ∧
          sameBut [.dio] (s.elapse dt) t) ∧
      (d.fHigh = false → d.fMt + 1000000000 / d.freq ≤ (s.elapse dt).now →
        ∃ t y, exec (.freqHalfPeriod dt n) s = .next t ∧ t.dout n = y ∧ y.fMt = d.fMt + 1000000000 / d.freq ∧
          y.freq = min 100000 u.toNat ∧ y.out = decide (0 < y.freq) ∧ sameBut [.dio] (s.elapse dt) t))

/-- DIO_UPDATE_FRAME, DO_WATCHDOG_EXPIRY, FIELD_FAULT, OVL_RETRY and COUPLER_FAULT (11 R277, 11 R279, 11 R280, 11 R281, 11
R282, 11 R286, 11 R289, 11 Table 11.4, 13 R334). A frame carries each output's state by its source or DO_SAFE, feeds
the watchdogs while the heartbeat is less than 5 ms old or the power controller stands in for it, and ends expiries
only with RELEASE, but not behind a failed coupler; in UPDATE the states stay. An output that a frame has reached and
that is unfed for DIO_WD_T expires to DO_SAFE, off, on or the state in force, with its DO_WDEXP bit. Overload and open
load are reported of a driven output only; an overloaded one is off, and on again for each retry every 100 ms; one
that has been on for 10 ms of a retry reports no overload. A coupler fault sets its bit. Only that output or input
changes. -/
def Obligations.FramesFeedTheOutputWatchdog : Prop :=
  (∀ (dt n wd : Nat) (s : State) (d : Dout), n < 24 → s.dio.outs.length = 24 → s.dout n = d →
    wd = (if s.svDark then 100 else s.parN 0x9210) * Config.ms →
    (∃ t y, exec (.dioUpdateFrame dt) s = .next t ∧ t.dout n = y ∧ sameBut [.dio] (s.elapse dt) t ∧ t.dio.release = false ∧
      t.dio.ins = s.dio.ins ∧ t.dio.wdExp = s.dio.wdExp ∧
      (d.cpl = true → y.fed = d.fed ∧ y.expired = d.expired ∧ y.del = d.del) ∧
      (d.cpl = false → y.framed = true ∧ y.del = y.out ∧ y.expired = (d.expired && !s.dio.release) ∧
        (y.expired = false → driven y = y.out) ∧
        y.fed = if 2 ≤ s.power.cur ∨ (s.elapse dt).now < s.power.beat + 5 * Config.ms then (s.elapse dt).now else d.fed) ∧
      (s.isSt .update = true → y.out = d.out) ∧
      (s.isSt .proof = true ∨ s.isSt .proofHold = true → y.out = false) ∧
      (∀ l, l = s.doLead n → l < 24 → (s.isSt .run = true ∨ s.isSt .standby = true) →
        (s.dio.forceEn.getLsbD l = true → y.out = s.dio.forceVal.getLsbD l) ∧
        (s.dio.forceEn.getLsbD l = false → (s.pDo l 0 = 0 → y.out = s.dio.doHost.getLsbD l) ∧
          (s.isSt .run = true → s.pDo l 0 = 1 → y.out = (s.dout l).slot) ∧
          (s.isSt .run = true → s.pDo l 0 = 2 → y.out = s.batchDo l) ∧
          (s.isSt .standby = true → s.pDo l 0 ≠ 0 →
            y.out = safeVal (s.pDo l 1) (if d.inSafe then d.kept else d.out))))) ∧
    (d.framed = true → d.expired = false → d.fed + wd ≤ (s.elapse dt).now →
      ∃ t y, exec (.doWatchdogExpiry dt n) s = .next t ∧ t.dout n = y ∧ y.expired = true ∧
        y.safeSt = (!s.svDark && match s.pDo (s.doLead n) 1 with | 0 => false | 1 => true | _ => d.del) ∧ driven y = y.safeSt ∧
        t.dio.wdExp = orBit s.dio.wdExp n ∧ (∀ k, k ≠ n → t.dout k = s.dout k) ∧
        t.quiet.but [.dio] = (s.elapse dt).quiet.but [.dio]) ∧
    ((d.framed = false ∨ (s.elapse dt).now < d.fed + wd) → exec (.doWatchdogExpiry dt n) s = .next (s.elapse dt)) ∧
    (∀ on, exec (.fieldFault dt n 0 on) s = .next ((s.elapse dt).onDio fun t => { t with supply := on }) ∧
      exec (.fieldFault dt n 2 on) s = .next ((s.elapse dt).onDout n fun x => { x with therm := on })) ∧
    (∃ t y, exec (.fieldFault dt n 1 true) s = .next t ∧ t.dout n = y ∧ sameBut [.dio] (s.elapse dt) t ∧
      (∀ k, k ≠ n → t.dout k = s.dout k) ∧ (driven d = false → y = d) ∧ (driven d = true → switchOn s.dio.supply y = false) ∧
      (driven d = true → d.ovl = false → y = { d with ovl := true, trying := false, retryMt := (s.elapse dt).now + 100 * Config.ms }) ∧
      (driven d = true → d.ovl = true → y = { d with trying := false })) ∧
    (∃ t y, exec (.fieldFault dt n 1 false) s = .next t ∧ t.dout n = y ∧ sameBut [.dio] (s.elapse dt) t ∧
      y = if d.trying = true ∧ d.retryMt ≤ (s.elapse dt).now + 90 * Config.ms then { d with ovl := false, trying := false } else d) ∧
    (driven d = true → d.ovl = true → d.retryMt ≤ (s.elapse dt).now →
      ∃ t y, exec (.ovlRetry dt n) s = .next t ∧ t.dout n = y ∧ sameBut [.dio] (s.elapse dt) t ∧
        y = { d with retryMt := (s.elapse dt).now + 100 * Config.ms, trying := true } ∧
        switchOn s.dio.supply y = (!s.dio.supply && !d.therm) ∧ ∀ k, k ≠ n → t.dout k = s.dout k) ∧
    (∀ on, ∃ t y, exec (.fieldFault dt n 3 on) s = .next t ∧ t.dout n = y ∧ sameBut [.dio] (s.elapse dt) t ∧
      y = if on = true ∧ (driven d = false ∨ s.pDo (s.doLead n) 2 = 0) then d else { d with opn := on }) ∧
    (d.cpl = false → ∃ t, exec (.couplerFault dt n true) s = .next t ∧ t.dout n = { d with cpl := true } ∧
      (∀ k, k ≠ n → t.dout k = s.dout k) ∧ t.quiet.but [.dio] = (s.elapse dt).quiet.but [.dio])) ∧
  ∀ (dt n : Nat) (s : State), n < 32 → s.dio.diCpl.getLsbD n = false →
    ∃ t, exec (.couplerFault dt n false) s = .next t ∧ t.dio = { s.dio with diCpl := orBit s.dio.diCpl n } ∧
      t.quiet.but [.dio] = (s.elapse dt).quiet.but [.dio]

/-- FIO_FAULT_RISE, FIO_FAULT_FALL, FAULT_SCAN_REPEAT, FAULT_SCAN_STEP and DIO_FAULT_SCAN find faults from one bit (11
R282, 11 R283, 11 R284, 11 R285, 11 R293, 11 Table 11.8). A rising edge sets FIO_SEEN and under DIO_AUTOSCAN starts a
scan, with all queries 0; a falling edge clears FIO_FAULT; during a scan the bit only follows. A scan repeats 10 s
after the end of the last one. Step 0 samples SUPPLY alone; step k samples class 1 + (k - 1) / 24 on channel (k - 1)
mod 24 and marks exactly that fault; after step 72 the queries are 4 again, and the last step ends the scan with its
result and leaves FIO_FAULT as the reports have it, an edge if that is no longer what it was before. DIO_FAULT_SCAN
reads the last result, or starts a scan, is BUSY during one and completes with it. -/
def Obligations.FaultScansLocaliseByQuery : Prop :=
  ∀ (dt : Nat) (s : State), s.dio.outs.length = 24 →
    (s.dio.fio = false → s.fioNow = true → s.dio.scan = none →
      ∃ t, exec (.fioFaultRise dt) s = .next t ∧ t.dio.fio = true ∧ t.dio.fioSeen = true ∧
        t.quiet.but [.dio] = (s.elapse dt).quiet.but [.dio] ∧
        (s.parN 0x9211 ≠ 1 → t.dio.scan = none ∧ t.dio.outs = s.dio.outs) ∧
        (s.parN 0x9211 = 1 → (∃ x, t.dio.scan = some x ∧ x.step = 0 ∧ x.before = true ∧ x.auto = true ∧ x.flight = none) ∧
          t.dio.supMask = false ∧ ∀ n, n < 24 → t.dout n = { s.dout n with fq := 0 })) ∧
    (s.dio.scan.isSome = true →
      (s.dio.fio = false → s.fioNow = true → exec (.fioFaultRise dt) s = .next ((s.elapse dt).onDio fun t => { t with fio := true })) ∧
      (s.dio.fio = true → s.fioNow = false → exec (.fioFaultFall dt) s = .next ((s.elapse dt).onDio fun t => { t with fio := false }))) ∧
    (s.dio.fio = true → s.fioNow = false → s.dio.scan = none →
      ∃ t, exec (.fioFaultFall dt) s = .next t ∧ t.dio = { s.dio with fio := false } ∧
        t.quiet.but [.dio] = (s.elapse dt).quiet.but [.dio]) ∧
    (∀ m, s.dio.fio = true → s.dio.scan = none → s.parN 0x9211 = 1 → s.dio.scanEnd = some m →
      ((s.elapse dt).now < m + 10 * Config.sec → exec (.faultScanRepeat dt) s = .next (s.elapse dt)) ∧
      (m + 10 * Config.sec ≤ (s.elapse dt).now →
        ∃ t x, exec (.faultScanRepeat dt) s = .next t ∧ t.dio.scan = some x ∧ x.step = 0 ∧ x.before = true ∧
          sameBut [.dio] (s.elapse dt) t)) ∧
    (∀ x, s.dio.scan = some x → (s.elapse dt).now < x.endMt + 30000 → exec (.faultScanStep dt) s = .next (s.elapse dt)) ∧
    (∀ x, s.dio.scan = some x → x.endMt + 30000 ≤ (s.elapse dt).now →
      ∃ t, exec (.faultScanStep dt) s = .next t ∧
        (x.step = 0 → (∀ n, n < 24 → (s.dout n).fq = 0) → s.dio.supMask = false →
          (∃ y, t.dio.scan = some y ∧ y.step = 1 ∧ y.supply = s.dio.supply ∧ y.ovl = x.ovl ∧ y.therm = x.therm ∧ y.opn = x.opn) ∧
          t.dio.supMask = true ∧ (t.dout 0).fq = 1 ∧ ∀ n, 0 < n → n < 24 → (t.dout n).fq = 0) ∧
        (∀ k c q, x.step = k → 0 < k → k < 73 → c = (k - 1) % 24 → q = (k - 1) / 24 + 1 →
          (∀ n, n < 24 → (s.dout n).fq = if n = c then q else 0) → s.dio.supMask = true →
          (∃ y, t.dio.scan = some y ∧ y.step = k + 1 ∧ y.endMt = (s.elapse dt).now ∧ y.supply = x.supply ∧
            y.ovl = x.ovl + (if q = 1 ∧ (s.dout c).ovl = true then 2 ^ c else 0) ∧
            y.therm = x.therm + (if q = 2 ∧ (s.dout c).therm = true then 2 ^ c else 0) ∧
            y.opn = x.opn + (if q = 3 ∧ (s.dout c).opn = true then 2 ^ c else 0)) ∧
          (∀ n, n < 24 → (t.dout n).fq = if k = 72 then 4 else if n = k % 24 then k / 24 + 1 else 0) ∧
          t.dio.supMask = decide (k < 72) ∧ sameBut [.dio] (s.elapse dt) t) ∧
        (∀ a, x.step = 73 → a = (s.dio.supply || s.dio.outs.any fun d => d.ovl || d.therm || d.opn) →
          t.dio.last.ovl = x.ovl ∧ t.dio.last.therm = x.therm ∧ t.dio.last.opn = x.opn ∧ t.dio.last.supply = x.supply ∧
          t.dio.last.before = x.before ∧ t.dio.last.after = a ∧ t.dio.last.endMt = (s.elapse dt).now ∧ t.dio.fio = a ∧
          ((a = x.before ∨ a = false) → t.dio.scan = none ∧ t.dio.scanned = true ∧ t.dio.supMask = false ∧
            ∀ n, n < 24 → (t.dout n).fq = 4) ∧
          (a = true → x.before = false → t.dio.fioSeen = true ∧ (t.dio.scan.isSome = true ↔ s.parN 0x9211 = 1)) ∧
          (∀ f, x.flight = some f → t.flight? f = none) ∧
          (x.flight = none → t.quiet.but [.dio] = (s.elapse dt).quiet.but [.dio]))) ∧
    ∀ f fl, s.flight? f = some fl → ready fl 0x60 = true → fl.f = f →
      (argB fl.e 0 = 0 → exec (.dioFaultScan dt f) s = .next ((s.elapse dt).complete f sOK (s.scanResult s.dio.last))) ∧
      (argB fl.e 0 = 1 → s.dio.scan ≠ none → exec (.dioFaultScan dt f) s = .next ((s.elapse dt).complete f sBUSY [])) ∧
      (argB fl.e 0 = 1 → s.dio.scan = none → ∃ t x, exec (.dioFaultScan dt f) s = .next t ∧ t.dio.scan = some x ∧
        x.flight = some f ∧ x.step = 0 ∧ sameBut [.dio, .host] (s.elapse dt) t) ∧
      (1 < argB fl.e 0 → exec (.dioFaultScan dt f) s = .next ((s.elapse dt).complete f sBAD []))

/-- The high limit: trips and their filter, the permit and the heartbeat, the weld, the key, HL_RESET and PCHAIN (12 R294,
12 R295, 12 R296, 12 R297, 12 R298, 12 R299, 12 R300, 12 R301, 12 R302, 12 R305, 12 R307, 12 R315). A channel is OVER
from the resistance of its strapped threshold on, OPEN above 3,000 ohm, SHORT below 800 ohm; any of them starts the
filter, none stops it, and a temperature shows only without OPEN and SHORT. 40 ms of it set the latch with its cause
and open both contacts, and stop no fan or valve. A contact closed 100 ms after its relay released latches WELD. The
heartbeat sets HL_FWP in RUN while no selected condition holds; more than 5 ms old, HL_FWP clears and the contacts
open. A key press and HL_RESET clear latch and causes only with every channel below its reset point, readbacks
agreeing and no PROOF cause; else latch and causes stay. A press held for more than 10 s is stuck, and a stuck key
resets nothing. A contact that stays open for 2 s under the permit reports PCHAIN. -/
def Obligations.HighLimitTripsAndResets : Prop :=
  ∀ (dt : Nat) (s : State) (h : HlSt) (adm : Bool), s.hl = h → h.chs.length = 2 → h.temps.length = 2 → h.rb.length = 2 →
    adm = (h.chs.all (fun c => !(c.overT || c.opn || c.short) && c.resetOk) && h.rb.all (· = h.drive) && !bitOf h.cause 2) →
    (∀ (ch : Nat) (m : HlMeas) c th, ch < 2 → h.chs.getD ch {} = c → th = s.hlThreshold ch →
      ∃ t y, exec (.hlThresholdCrossing dt ch m) s = .next t ∧ t.hl.chs.getD ch {} = y ∧ sameBut [.hl] (s.elapse dt) t ∧
        y.overT = rtdAtLeast m.r th ∧ y.opn = decide (300000 < m.r) ∧ y.short = decide (m.r < 80000) ∧
        y.resetOk = rtdAtMost m.r (th - 5) ∧
        y.since = (if y.overT || y.opn || y.short then some (c.since.getD (s.elapse dt).now) else none) ∧
        t.hl.chs.getD (1 - ch) {} = h.chs.getD (1 - ch) {} ∧ t.hl.temps.getD (1 - ch) none = h.temps.getD (1 - ch) none ∧
        t.hl.temps.getD ch none = (if y.opn || y.short then none else some (clamp (-32767) 32767 m.temp)) ∧
        t.hl = { h with chs := t.hl.chs, temps := t.hl.temps }) ∧
    (∀ ch, ch < 2 → (h.chs.getD ch {}).since = none → exec (.hlTrip dt ch) s = .next (s.elapse dt)) ∧
    (∀ (ch : Nat) (m : Int), ch < 2 → (h.chs.getD ch {}).since = some m →
      (((s.elapse dt).now : Int) < m + (40 * Config.ms : Nat) → exec (.hlTrip dt ch) s = .next (s.elapse dt)) ∧
      (m + (40 * Config.ms : Nat) ≤ ((s.elapse dt).now : Int) → ∃ t, exec (.hlTrip dt ch) s = .next t ∧ t.hl.latch = true ∧
        t.hl.cause = setBit h.cause ch ∧ t.hl.drive = false ∧
        (h.latch = false → t.hl.first = ch ∧ t.hl.tmt = (s.elapse dt).now % 2 ^ 48) ∧
        (h.latch = true → t.hl.first = h.first ∧ t.hl.tmt = h.tmt) ∧
        (h.drive = true → t.hl.rb = [false, false]) ∧
        t.quiet.but [.hl, .cle, .lane] = (s.elapse dt).quiet.but [.hl, .cle, .lane])) ∧
    (∀ r, r < 2 → h.drive = false → h.deMt + 100 * Config.ms ≤ (s.elapse dt).now →
      ∃ t, exec (.contactWeld dt r) s = .next t ∧ t.hl.latch = true ∧ t.hl.cause = setBit h.cause 3 ∧ t.hl.rb = h.rb.set r true ∧
        t.quiet.but [.hl, .cle, .lane] = (s.elapse dt).quiet.but [.hl, .cle, .lane]) ∧
    (s.isSt .update = false → s.power.debug = false → s.power.cur < 2 → ∃ t, exec (.supervisorHeartbeat dt) s = .next t ∧
      t.power.beat = (s.elapse dt).now ∧ t.hl.fwp = (s.isSt .run && !s.fwpBlocked) ∧ t.hl.latch = h.latch ∧
      (h.drive = true → t.hl.fwp = false → t.hl.rb = [false, false]) ∧ sameBut [.power, .hl] (s.elapse dt) t) ∧
    (s.power.beat + 5 * Config.ms < (s.elapse dt).now → ∃ t, exec (.heartbeatStale dt) s = .next t ∧ t.hl.fwp = false ∧
      t.hl.drive = false ∧ (h.drive = true → t.hl.rb = [false, false]) ∧ t.hl.latch = h.latch ∧ sameBut [.hl] (s.elapse dt) t) ∧
    ((s.elapse dt).now ≤ s.power.beat + 5 * Config.ms → exec (.heartbeatStale dt) s = .next (s.elapse dt)) ∧
    (∀ rel, (h.keyStuck = true → rel < Config.sec → exec (.limitResetKey dt rel) s = .next (s.elapse dt)) ∧
      (h.keyStuck = false ∨ Config.sec ≤ rel → ∃ t, exec (.limitResetKey dt rel) s = .next t ∧
        t.quiet.but [.hl, .lane] = (s.elapse dt).quiet.but [.hl, .lane] ∧ t.hl.keyStuck = false ∧
        t.hl.keyMt = some (((s.elapse dt).now : Int) - (200 * Config.ms : Nat)) ∧
        (adm = true → t.hl.latch = false ∧ t.hl.cause = 0) ∧
        (adm = false → t.hl.latch = h.latch ∧ t.hl.cause = h.cause ∧
          t.hl.refused = if h.latch then (h.refused + 1) % 2 ^ 8 else h.refused))) ∧
    (∀ f fl, s.flight? f = some fl → ready fl 0x68 = true →
      (adm = true → ∃ u res, exec (.hlReset dt f) s = .next (State.complete u f sOK res) ∧ u.hl.latch = false ∧ u.hl.cause = 0 ∧
        u.quiet.but [.hl, .lane] = (s.elapse dt).quiet.but [.hl, .lane]) ∧
      (adm = false → h.latch = false → ∃ res, exec (.hlReset dt f) s = .next ((s.elapse dt).complete f sOK res)) ∧
      (adm = false → h.latch = true → ∃ u res, exec (.hlReset dt f) s = .next (State.complete u f sTRIP res) ∧
        u.hl = { h with refused := (h.refused + 1) % 2 ^ 8 } ∧ u.quiet.but [.hl] = (s.elapse dt).quiet.but [.hl])) ∧
    (∀ m : Int, h.keyStuck = false → h.keyMt = some m → m + (10 * Config.sec : Nat) < ((s.elapse dt).now : Int) → ∃ t, exec (.keyStuck dt) s = .next t ∧ t.hl = { h with key := true, keyStuck := true } ∧
      t.quiet.but [.hl] = (s.elapse dt).quiet.but [.hl]) ∧
    (h.keyMt = none → exec (.keyStuck dt) s = .next (s.elapse dt)) ∧
    (∀ m, h.pchainMt = some m → h.pchain = false →
      ((s.elapse dt).now < m + 2 * Config.sec → exec (.pchain dt) s = .next (s.elapse dt)) ∧
      (m + 2 * Config.sec ≤ (s.elapse dt).now → ∃ t, exec (.pchain dt) s = .next t ∧ t.hl = { h with pchain := true } ∧ t.quiet.but [.hl] = (s.elapse dt).quiet.but [.hl]))

/-- POWER_ON, POWER_FAIL, RIDE_THROUGH, POWER_COMMIT, SUPERVISOR_WATCHDOG, VIN_RANGE_CHANGE, T_INT_THRESHOLD, OVERTEMP,
DEBUG rows (13 R316, 13 R318, 13 R319, 13 R320, 13 R322, 13 R323, 13 R324, 13 R333, 12 R297, 12 R311, 04 R107).
Power-on starts PROOF from reset values with the straps read anew, and counts; the latch, formes and live parameters
are kept. VIN below 15.6 V starts the ride-through, with the relays released; VIN back within it ends it; past it, or
at the hold-up reserve, sessions are lost and the logic is off. A heartbeat older than 1 s, or 900 s in UPDATE, resets
the unit. The VIN and HOT flags follow their thresholds with hysteresis; 10 s at 85.00 degrees C ends RUN. A debug
halt moves SRC 0 timers to the slow clock. -/
def Obligations.SupplyTemperatureAndResets : Prop :=
  ∀ (dt : Nat) (s : State),
    (∀ st, ∃ t, exec (.powerOn dt st) s = .next t ∧ t.isSt .proof = true ∧ t.now = 0 ∧ t.power.on = true ∧
      t.power.kind = (if s.power.committed then 1 else 0) ∧ t.power.resets = incW 8 s.power.resets ∧
      t.power.boot = incW 16 s.power.boot ∧ t.unit.straps = st ∧ t.hl.latch = s.hl.latch ∧ t.hl.cause = s.hl.cause ∧
      t.hl.first = s.hl.first ∧ t.hl.drive = false ∧ t.host.sessions = [] ∧ t.sup.forme = s.sup.forme ∧ t.sup.gen = s.sup.gen ∧
      t.sup.live = s.sup.live ∧ t.sup.archive = s.sup.archive ∧ t.sup.openF = none ∧ t.pending = s.pending ∧
      t.host.queues = [] ∧ t.host.flights = [] ∧ t.host.iface = (List.range 9).map (fun i => s.parN (0xD000 + i)) ∧
      t.fan.drives = State.reset.fan.drives ∧ t.fan.groups = State.reset.fan.groups ∧ t.fan.coolRun = 7 ∧
      t.quiet.but [.time, .fan, .valve, .hl, .power, .unit, .host, .sup, .store, .lane, .free, .pending] =
        State.reset.quiet.but [.time, .fan, .valve, .hl, .power, .unit, .host, .sup, .store, .lane, .free, .pending]) ∧
    (∀ vin, vin < 1560 → s.power.pfail = false → s.power.on = true → ∃ t, exec (.powerFail dt vin) s = .next t ∧
      t.power.pfail = true ∧ t.power.ride = true ∧ t.power.pfailMt = (s.elapse dt).now ∧ t.power.pfailVin = vin ∧
      t.hl.vinLost = true ∧ t.hl.drive = false ∧ (s.hl.drive = true → t.hl.rb = [false, false]) ∧ t.hl.latch = s.hl.latch ∧
      t.quiet.but [.power, .hl, .fan] = (s.elapse dt).quiet.but [.power, .hl, .fan] ∧ t.fan.drives = s.fan.drives) ∧
    (∀ vin, 1680 ≤ vin → vin ≤ 10000 → s.power.pfail = true → s.power.on = true →
      ((s.elapse dt).now < s.power.pfailMt + s.parN 0xA000 * Config.ms → ∃ t, exec (.rideThrough dt vin) s = .next t ∧
        t.power.pfail = false ∧ t.power.ride = false ∧ t.hl.vinLost = false ∧ t.hl.latch = s.hl.latch ∧
        t.quiet.but [.power, .hl, .fan] = (s.elapse dt).quiet.but [.power, .hl, .fan]) ∧
      (s.power.pfailMt + s.parN 0xA000 * Config.ms ≤ (s.elapse dt).now → exec (.rideThrough dt vin) s = .next (s.elapse dt))) ∧
    (∀ v, s.power.pfail = true → s.power.on = true →
      ((s.power.pfailMt + s.parN 0xA000 * Config.ms ≤ (s.elapse dt).now ∨ v ≤ Config.holdupReserve) →
        ∃ t, exec (.powerCommit dt v) s = .next t ∧ t.power.on = false ∧ t.power.committed = true ∧ t.host.sessions = [] ∧
          t.host.queues = [] ∧ t.hl.latch = s.hl.latch ∧ t.sup.forme = s.sup.forme ∧ t.sup.openF = none ∧ t.store.staging = []) ∧
      ((s.elapse dt).now < s.power.pfailMt + s.parN 0xA000 * Config.ms → Config.holdupReserve < v →
        exec (.powerCommit dt v) s = .next (s.elapse dt))) ∧
    (∀ lim, lim = (if s.isSt .update then 900 * Config.sec else Config.sec) → s.power.on = true → s.power.debug = false →
      s.power.dark = false → s.power.cur < 2 →
      (max s.power.beat s.power.wdMt + lim < (s.elapse dt).now → ∃ t, exec (.supervisorWatchdog dt) s = .next t ∧
        t.isSt .proof = true ∧ t.power.kind = 3 ∧ t.now = 0 ∧ t.hl.latch = s.hl.latch ∧ t.sup.forme = s.sup.forme) ∧
      ((s.elapse dt).now ≤ max s.power.beat s.power.wdMt + lim → exec (.supervisorWatchdog dt) s = .next (s.elapse dt))) ∧
    (∀ vin, (10000 < vin → exec (.vinRangeChange dt vin) s = .fault .outsideOperatingConditions) ∧
      (vin ≤ 10000 → ∃ t, exec (.vinRangeChange dt vin) s = .next t ∧ t.power = { (s.elapse dt).power with
          vin := vin, vinUv := decide (vin < 2000)
          vinLow := decide (vin < 3600) || (s.power.vinLow && decide (vin < 3650))
          vinHigh := decide (8050 ≤ vin) || (s.power.vinHigh && decide (8000 < vin)) } ∧
        t.quiet.but [.power] = (s.elapse dt).quiet.but [.power])) ∧
    (∀ temp d, d = s.derate → ∃ t, exec (.tIntThreshold dt temp) s = .next t ∧ t.power.tInt = temp ∧
      t.power.hot = (decide (7500 - d ≤ temp) || (s.power.hot && decide (7000 - d < temp))) ∧
      t.power.overtemp = (s.power.overtemp && decide (8000 - d < temp)) ∧
      t.quiet.but [.power, .fan] = (s.elapse dt).quiet.but [.power, .fan]) ∧
    (∀ temp m, 8500 - s.derate ≤ temp → s.power.overtemp = false → s.power.hotMt = some m → m + 10 * Config.sec ≤ (s.elapse dt).now →
      ∃ t, exec (.overtemp dt temp) s = .next t ∧ t.power.overtemp = true ∧
        t.unit.st = if s.isSt .run then .standby else s.unit.st) ∧
    (∃ t, exec (.debugHalt dt) s = .next t ∧ t.power.debug = true ∧ sameBut [.power, .timers] (s.elapse dt) t ∧
      ∀ x ∈ t.timers, x.lf = true) ∧
    (s.power.debug = true → s.power.cur < 2 → ∃ t, exec (.debugRelease dt) s = .next t ∧ t.power.debug = false ∧
      t.power.wdMt = (s.elapse dt).now ∧ sameBut [.power, .timers] (s.elapse dt) t ∧
      ∀ x ∈ t.timers, x.lf = false)

/-- PROOF_STAGE_END, PROOF_VIN_READY and PROOF_VIN_TIMEOUT run proof to STANDBY, PROOF_HOLD or a dark unit (13 R326, 13
R327, 13 R328, 13 R329, 10 R250, 12 R303, 01 R24). A stage's result, item and time are kept and the next stage runs; a
failed stage 0 leaves the unit dark, a failed stage 1 or 2 stops proof in PROOF_HOLD, a later one is noted and proof
goes on; after stage 8 the unit is in STANDBY if none has failed, else in PROOF_HOLD. Stage 4 reports C, which must
lie in 300 to 360 uF, and waits while VIN is below 22.0 V, at most 60 s. Stage 5 takes the high-limit channels as they
stand, and clears the PROOF cause or sets the latch with it. -/
def Obligations.ProofRunsItsStages : Prop :=
  ∀ (dt k item time meas : Nat) (h0 h1 : HlMeas) (s : State), s.power.res.length = 9 → s.isSt .proof = true → s.power.on = true → s.power.dark = false →
    s.power.stage = k → k < 9 →
    (s.power.waitVin = false → ∀ pass ok, ok = (pass && (decide (k ≠ 4) || decide (3000 ≤ meas ∧ meas ≤ 3600))) →
      ∃ t, exec (.proofStageEnd dt pass item time meas h0 h1) s = .next t ∧
        t.power.res = s.power.res.set k (ProofRes.mk (if ok then 0 else 1)
          (if ok then 0xFF else if k = 4 ∧ pass = true then 16 else item % 256) (time % 65536)) ∧
        t.power.failed = (if ok then s.power.failed else setBit s.power.failed k) ∧
        (k = 0 → ok = false → t.power.dark = true ∧ t.isSt .proof = true) ∧
        ((k = 1 ∨ k = 2) → ok = false → t.isSt .proofHold = true ∧ t.power.fail = true) ∧
        (k < 8 → (ok = true ∨ 2 < k) → t.isSt .proof = true ∧ t.power.stage = k + 1 ∧
          t.power.waitVin = decide (k = 3 ∧ (s.power.vinUv = true ∨ s.power.pfail = true ∨ 0 < s.power.vin ∧ s.power.vin < 2200)) ∧
          (k ≠ 4 → k ≠ 5 → sameBut [.power] (s.elapse dt) t) ∧
          (k = 4 → t.valve.c = meas % 65536 ∧ sameBut [.power, .valve] (s.elapse dt) t)) ∧
        (k = 5 → (s.hl.chs.length = 2 → ∀ ch, ch < 2 → (t.hl.chs.getD ch {}).overT = rtdAtLeast (if ch = 0 then h0 else h1).r (s.hlThreshold ch)) ∧
          (ok = true → t.hl.latch = s.hl.latch ∧ t.hl.cause = clrBit s.hl.cause 2) ∧
          (ok = false → t.hl.latch = true ∧ t.hl.cause = setBit s.hl.cause 2 ∧ t.hl.drive = false)) ∧
        (k = 8 → t.power.pass = decide (t.power.failed = 0) ∧ t.isSt .standby = decide (t.power.failed = 0) ∧
          t.isSt .proofHold = decide (t.power.failed ≠ 0))) ∧
    (s.power.waitVin = true →
      (∀ pass, exec (.proofStageEnd dt pass item time meas h0 h1) s = .next (s.elapse dt)) ∧
      (∀ vin, 2200 ≤ vin → vin ≤ 10000 → ∃ t, exec (.proofVinReady dt vin) s = .next t ∧ t.power.waitVin = false ∧
        t.power.vin = vin ∧ t.power.stage = k ∧ t.quiet.but [.power] = (s.elapse dt).quiet.but [.power]) ∧
      (k = 4 → s.power.waitMt + 60 * Config.sec < (s.elapse dt).now → ∃ t, exec (.proofVinTimeout dt) s = .next t ∧
        t.power.failed = setBit s.power.failed 4 ∧ (t.power.res.getD 4 {}).item = 16 ∧ t.power.stage = 5 ∧ t.isSt .proof = true) ∧
      ((s.elapse dt).now ≤ s.power.waitMt + 60 * Config.sec → exec (.proofVinTimeout dt) s = .next (s.elapse dt)))

/-- POWER_STATE_ENTRY, PLANNED_WAKE, WAKE and LATENCY_SET: the unit never goes deeper than every condition and contract
permits (13 R334, 13 R336, 13 R337, 13 R338, 13 R339, 13 R340, 13 R345, 13 Table 13.8, 13 Table 13.9). The chosen
state is the deepest that every condition of Table 13.9 permits, and the reason is the first condition that stops the
unit there. An entry takes the unit to a chosen or shallower state only when every known item is at least its shortest
stay ahead, and counts it; else the state stays. A wake, planned or by a source that can wake the state, brings P0
back. LATENCY_SET stores or withdraws the session's contract, and the tolerance in effect is the least of default and
contracts. -/
def Obligations.PowerStatesFollowTheChoice : Prop :=
  ∀ (dt : Nat) (s : State),
    (∃ t, exec (.powerStateEntry dt) s = .next t ∧ (∀ c ∈ (s.elapse dt).powerConds, t.power.chosen ≤ c.2.2) ∧
      (t.power.chosen < 3 → ∃ c ∈ (s.elapse dt).powerConds, c.2.2 = t.power.chosen ∧ c.1 = t.power.reason) ∧
      (t.power.cur = s.power.cur ∨ s.power.cur < t.power.cur ∧ t.power.cur ≤ t.power.chosen ∧
        (∀ m ∈ (s.elapse dt).items, (s.elapse dt).now + pmin t.power.cur ≤ m) ∧
        t.power.cnt = s.power.cnt.modify t.power.cur (incW 32)) ∧
      (s.power.on = true → ∀ k, 0 < k → k ≤ t.power.chosen → s.power.cur < k → (s.elapse dt).fitsState k = true → k ≤ t.power.cur) ∧
      (t.power.cur ≤ 2 → t.quiet.but [.power, .timers] = (s.elapse dt).quiet.but [.power, .timers])) ∧
    (∀ c, (∃ src, src ≤ 8 ∧ (src = 5 → s.power.cur ≠ 3) ∧ c = .wake dt src) ∨
        c = .plannedWake dt ∧ (∃ m ∈ (s.elapse dt).items, m ≤ (s.elapse dt).now + wakeLat s.power.cur + 10000) →
      ∃ t, exec c s = .next t ∧ t.power.cur = 0 ∧ (s.power.cur = 0 → t = s.elapse dt) ∧
        (0 < s.power.cur → t.power.cnt = s.power.cnt.modify 0 (incW 32)) ∧
        sameBut [.power, .timers, .cols] (s.elapse dt) t) ∧
    (s.power.cur = 3 → exec (.wake dt 5) s = .next (s.elapse dt)) ∧
    ∀ f fl x op, s.flight? f = some fl → ready fl 0x70 = true → s.session? fl.sid = some x → argB fl.e 0 = op →
      (2 < op → exec (.latencySet dt f) s = .next ((s.elapse dt).complete f sBAD [])) ∧
      (op ≤ 2 → ∃ u res, exec (.latencySet dt f) s = .next (State.complete u f sOK res) ∧
        (op = 0 → u.session? fl.sid = some x) ∧
        (op = 1 →
          u.session? fl.sid = some { x with contract := some (Contract.mk (argN fl.e 4 4) (argN fl.e 8 4) (argN fl.e 12 4)) } ∧
          u.tlEff 0xA001 (·.control) ≤ argN fl.e 4 4) ∧
        (op = 2 → u.session? fl.sid = some { x with contract := none }) ∧
        u.tlEff 0xA001 (·.control) ≤ s.parN 0xA001 ∧ (∀ c ∈ u.powerConds, u.power.chosen ≤ c.2.2) ∧
        (∀ id, id ≠ fl.sid → u.session? id = s.session? id))

/-- NOP, IDENTIFY, GET_STATE, PARAM_READ and PARAM_WRITE, and the rows of the service block (15 R381, 15 R382, 15 R385, 15
R386, 15 R388, 15 R390, 13 R332, 18 R451, 18 R454, 18 R455, 18 R457, 18 R460). NOP changes nothing; IDENTIFY and
GET_STATE report identity and unit state. PARAM_READ of view 0 answers the value in force; PARAM_WRITE puts a forme
parameter into the open forme and clears its check, gives RUN_REQUEST its change of state, and refuses a value out of
range, for SV_SAFE_I also one above the channel's SV_IMAX. An ACK press counts and clears the FAULT lamp; 3 s of it
light the lamps for 2 s, more than 10 s make it stuck, and stuck it is ignored. A changed strap sets CHANGED once.
TESTMUX_SET needs the test strap and belongs to one session until all is cleared. USB is seen. -/
def Obligations.SupervisorAndServiceRows : Prop :=
  (∀ (dt f : Nat) (s : State) (fl : Flight), s.flight? f = some fl →
    (ready fl 0x01 = true → exec (.nop dt f) s = .next ((s.elapse dt).complete f sOK [])) ∧
    (ready fl 0x02 = true → (argB fl.e 0 = 0 → exec (.identify dt f) s = .next ((s.elapse dt).complete f sOK
        (le 2 0x0960 ++ [b2n s.unit.zType, 0x43, s.unit.fw / 65536 % 256, s.unit.fw / 256 % 256, s.unit.fw % 256, 0] ++
          le 8 s.unit.serial ++ [s.unit.straps.nodeId % 16] ++ le 2 s.unit.rollback))) ∧
      (argB fl.e 0 = 1 → exec (.identify dt f) s = .next ((s.elapse dt).complete f sOK
        (le 4 s.sup.gen ++ le 4 s.sup.crc.toNat ++ [s.formeFlags] ++ le 2 s.opener ++ le 6 s.sup.quoinMt))) ∧
      (1 < argB fl.e 0 → exec (.identify dt f) s = .next ((s.elapse dt).complete f sBAD []))) ∧
    (ready fl 0x03 = true → exec (.getState dt f) s = .next ((s.elapse dt).complete f sOK
      ([uCode s.unit.st, uCode s.unit.prev, b2n s.unit.runReq, s.power.cur] ++ le 6 s.unit.stMt ++ [s.stateFlags]))) ∧
    (ready fl 0x10 = true → ∀ id, argN fl.e 0 2 = id →
      (paramInfo id = none → exec (.paramRead dt f) s = .next ((s.elapse dt).complete f sBAD [])) ∧
      (∀ p, paramInfo id = some p → p.forme = true → argB fl.e 2 = 0 → exec (.paramRead dt f) s = .next ((s.elapse dt).complete f sOK
        (le 2 id ++ [1 + 2 * b2n (decide (p.role = 0xFF)) + 4 * b2n p.signed + 8 * b2n p.nv, p.role] ++ leI 4 (s.sup.forme.par id))))) ∧
    (ready fl 0x11 = true → ∀ id p v, argN fl.e 0 2 = id → paramInfo id = some p → p.role ≠ 0xFF →
      v = (if p.signed then argI fl.e 4 4 else (argN fl.e 4 4 : Int)) →
      (parInRange id p v = false ∨ s.safeFits id v = false → exec (.paramWrite dt f) s = .next ((s.elapse dt).complete f sBAD [])) ∧
      (parInRange id p v = true → s.safeFits id v = true → p.forme = true →
        (s.sup.openF = none → exec (.paramWrite dt f) s = .next ((s.elapse dt).complete f sNOTST [])) ∧
        (∀ o, s.sup.openF = some o → s.sup.quoin = none → o.forme.params.Pairwise (fun a b => a.1 < b.1) →
          ∃ u o', exec (.paramWrite dt f) s = .next (State.complete u f sOK (le 2 id ++ [1, 0] ++ leI 4 v)) ∧ u.sup.openF = some o' ∧
            o'.checked = none ∧ o'.forme.par id = v ∧ (∀ k, k ≠ id → o'.forme.par k = o.forme.par k) ∧ o'.forme.recs = o.forme.recs ∧
            sameBut [.sup] (s.elapse dt) u)) ∧
      (id = 0x10 → v = 1 → s.isSt .standby = true → s.sup.gen ≠ 0 → s.power.overtemp = false →
        ∃ u res, exec (.paramWrite dt f) s = .next (State.complete u f sOK res) ∧ u.isSt .run = true ∧ u.unit.runReq = true ∧
          u.unit.prev = .standby) ∧
      (id = 0x10 → v = 0 → s.isSt .run = true →
        ∃ u res, exec (.paramWrite dt f) s = .next (State.complete u f sOK res) ∧ u.isSt .standby = true ∧ u.unit.runReq = false) ∧
      (id = 0x10 → v = 1 → s.isSt .standby = true → s.sup.gen = 0 →
        exec (.paramWrite dt f) s = .next ((s.elapse dt).complete f sFORME [])))) ∧
  ∀ (dt : Nat) (s : State) (v : SvcSt), s.svc = v →
    (∀ rel, (v.ackStuck = true → rel < Config.sec → exec (.ackKey dt rel) s = .next (s.elapse dt)) ∧
      (v.ackStuck = false ∨ Config.sec ≤ rel → ∃ t, exec (.ackKey dt rel) s = .next t ∧ t.svc = { v with
          ack := true, ackMt := (s.elapse dt).now, ackStuck := false, ackCnt := (v.ackCnt + 1) % 2 ^ 16, faultLed := false } ∧
        t.quiet.but [.svc] = (s.elapse dt).quiet.but [.svc])) ∧
    (v.ack = true → v.ackStuck = false →
      (v.ackMt + 3 * Config.sec ≤ (s.elapse dt).now + 50 * Config.ms → exec (.lampTest dt) s =
        .next ((s.elapse dt).onSvc fun x => { x with lamp := true, lampMt := (s.elapse dt).now })) ∧
      ((s.elapse dt).now + 50 * Config.ms < v.ackMt + 3 * Config.sec → exec (.lampTest dt) s = .next (s.elapse dt)) ∧
      (v.ackMt + 10 * Config.sec < (s.elapse dt).now + 50 * Config.ms → ∃ t, exec (.ackStuck dt) s = .next t ∧ t.svc.ackStuck = true ∧
        t.quiet.but [.svc] = (s.elapse dt).quiet.but [.svc])) ∧
    (v.lamp = true → v.lampMt + 2 * Config.sec ≤ (s.elapse dt).now → exec (.lampTestEnd dt) s =
      .next ((s.elapse dt).onSvc fun x => { x with lamp := false })) ∧
    (∀ st, s.power.on = true → s.unit.changed = false →
      (strapsWord st ≠ strapsWord s.unit.straps → ∃ t, exec (.strapSample dt st) s = .next t ∧ t.unit = { s.unit with changed := true } ∧
        t.quiet.but [.unit] = (s.elapse dt).quiet.but [.unit]) ∧
      (strapsWord st = strapsWord s.unit.straps → exec (.strapSample dt st) s = .next (s.elapse dt))) ∧
    (∃ t, exec (.usbAttach dt) s = .next t ∧ t.svc = { v with usb := true } ∧ t.power.cur = 0 ∧
      sameBut [.svc, .power, .timers, .cols] (s.elapse dt) t) ∧
    exec (.usbDetach dt) s = .next ((s.elapse dt).onSvc fun x => { x with usb := false }) ∧
    ∀ f fl o c, s.flight? f = some fl → ready fl 0x88 = true → argB fl.e 0 = o → argB fl.e 1 = c → v.sel.length = 6 →
      (muxCodeOk o c = false → exec (.testmuxSet dt f) s = .next ((s.elapse dt).complete f sBAD [])) ∧
      (muxCodeOk o c = true → s.unit.straps.testEn = false → exec (.testmuxSet dt f) s = .next ((s.elapse dt).complete f sNOTST [])) ∧
      (muxCodeOk o c = true → s.unit.straps.testEn = true → (∃ w, v.owner = some w ∧ w ≠ fl.sid) →
        exec (.testmuxSet dt f) s = .next ((s.elapse dt).complete f sBUSY [])) ∧
      (muxCodeOk o c = true → s.unit.straps.testEn = true → (v.owner = none ∨ v.owner = some fl.sid) → o < 6 → c ≠ 0 →
        ∃ u res, exec (.testmuxSet dt f) s = .next (State.complete u f sOK res) ∧ u.svc.sel = v.sel.set o c ∧
          u.svc.owner = some fl.sid ∧ u.quiet.but [.svc, .power] = (s.elapse dt).quiet.but [.svc, .power])

/-- FORME_OPEN, FORME_WRITE, FORME_CHECK, FORME_DISCARD, QUOIN, QUOIN_PRELOAD_DONE, QUOIN_BOUNDARY, STATION_CHANGEOVER,
QUOIN_TIMEOUT (15 R387, 15 R388, 15 R389, 15 R390, 15 R391, 15 R392, 15 Table 15.11). One forme can be open: a copy of
the one in force, or defaults. A write puts its bytes into the record and clears the check, and is refused where a
byte holds a reserved bit; a check stores the forme's CRC exactly when nothing fails. QUOIN takes only a checked forme
with that CRC, and locks it. At the first boundary after the preload the forme in force is the open one, the
generation counts, it is archived where the store can be written, and stations follow one by one; the last completes
QUOIN. Past the wait without a boundary QUOIN completes TIMEOUT and the forme stays open; a discard drops it. -/
def Obligations.FormesAreCheckedAndComeIntoForce : Prop :=
  (∀ (dt f : Nat) (s : State) (fl : Flight), s.flight? f = some fl →
    (ready fl 0x18 = true →
      (∀ o, s.sup.openF = some o → argB fl.e 0 < 2 →
        exec (.formeOpen dt f) s = .next ((s.elapse dt).complete f sBUSY (le 4 o.baseGen ++ le 2 o.opener))) ∧
      (s.sup.openF = none → argB fl.e 0 < 2 → ∃ u o, exec (.formeOpen dt f) s = .next (State.complete u f sOK (le 4 o.baseGen ++ le 2 fl.sid)) ∧
        u.sup = { s.sup with openF := some o } ∧ o.opener = fl.sid ∧ o.checked = none ∧ sameBut [.sup] (s.elapse dt) u ∧
        ((argB fl.e 0 = 0 ∧ s.sup.gen ≠ 0) → o.forme = s.sup.forme ∧ o.baseGen = s.sup.gen) ∧
        ((argB fl.e 0 = 1 ∨ s.sup.gen = 0) → o.forme = {} ∧ o.baseGen = 0))) ∧
    (ready fl 0x19 = true → ∀ o k i off n size cnt new, s.sup.openF = some o → s.sup.quoin = none → argB fl.e 0 = k →
      argN fl.e 2 2 = i → argN fl.e 4 2 = off → argN fl.e 6 2 = n → 0 < n → n ≤ 48 → recKind k = some (size, cnt) → i < cnt →
      off + n ≤ size → new = putSpan (o.forme.rec_ k i) off (bytesAt fl.e.args 8 n) →
      ((∃ j, j < n ∧ recFits k new (off + j) = false) → exec (.formeWrite dt f) s = .next ((s.elapse dt).complete f sBAD [])) ∧
      ((∀ j, j < n → recFits k new (off + j) = true) → exec (.formeWrite dt f) s = .next (((s.elapse dt).onSup fun u => { u with openF := some (openPutRec o k i new) }).complete f
          sOK ([k, 0] ++ le 2 i ++ le 2 n)))) ∧
    (ready fl 0x1A = true → ∀ o, s.sup.openF = some o → s.sup.quoin = none →
      ∃ u res, exec (.formeCheck dt f) s = .next (State.complete u f (if (s.elapse dt).formeFails o.forme = [] then sOK else sFORME) res) ∧
        u.sup = { s.sup with openF := some { o with
          checked := if (s.elapse dt).formeFails o.forme = [] then some o.forme.code else none } } ∧ sameBut [.sup] (s.elapse dt) u) ∧
    (ready fl 0x1C = true → ∀ o, s.sup.openF = some o → s.sup.quoin = none → exec (.formeDiscard dt f) s =
      .next (((s.elapse dt).onSup fun u => { u with openF := none }).complete f sOK (le 4 o.baseGen ++ [0]))) ∧
    (ready fl 0x1B = true → ∀ o w, argB fl.e 0 = 0 → argB fl.e 1 < 4 → argN fl.e 2 2 = w → 0 < w → w ≤ 600 → s.sup.quoin = none →
      s.sup.openF = some o → fl.f = f →
      ((∃ k, o.checked = some k ∧ k.toNat = argN fl.e 4 4) → ∃ t q, exec (.quoin dt f) s = .next t ∧ t.sup.quoin = some q ∧
        q.flight = f ∧ q.startMt = (s.elapse dt).now ∧ q.waitMt = (s.elapse dt).now + w * 10000000 ∧ q.boundMt = none ∧
        q.loadedMt = none ∧ t.sup.forme = s.sup.forme ∧ sameBut [.sup, .host] (s.elapse dt) t) ∧
      ((∀ k, o.checked = some k → k.toNat ≠ argN fl.e 4 4) → exec (.quoin dt f) s = .next ((s.elapse dt).complete f sFORME [])))) ∧
  ∀ (dt : Nat) (s : State) (q : Quoin), s.sup.quoin = some q →
    (q.loadedMt = none → q.boundary = 0 → ∃ t, exec (.quoinPreloadDone dt) s = .next t ∧
      t = (s.elapse dt).onSup fun u => { u with quoin := some { q with loadedMt := some (s.elapse dt).now, target := 0 } }) ∧
    (∀ l o k, q.boundMt = none → q.loadedMt = some l → q.boundary = 0 → s.sup.openF = some o → o.checked = some k →
      ((s.elapse dt).now < (l / 100000 + 1) * 100000 → exec (.quoinBoundary dt) s = .next (s.elapse dt)) ∧
      ((l / 100000 + 1) * 100000 ≤ (s.elapse dt).now → (l / 100000 + 1) * 100000 ≤ q.waitMt →
        ∃ t q', exec (.quoinBoundary dt) s = .next t ∧ t.sup.forme = o.forme ∧ t.sup.gen = (s.sup.gen + 1) % 2 ^ 32 ∧ t.sup.crc = k ∧
          t.sup.openF = none ∧ t.sup.applied = true ∧ t.sup.archive = (if s.store.mounted && !s.store.readOnly then
            ((t.sup.gen, o.forme) :: s.sup.archive).take 64 else s.sup.archive) ∧
          t.sup.quoinMt = (l / 100000 + 1) * 100000 % 2 ^ 48 ∧ t.sup.quoin = some q' ∧ q'.boundMt = some ((l / 100000 + 1) * 100000) ∧
          q'.old = s.sup.forme ∧ q'.left = [5, 6, 7, 8, 9, 4, 0x0B, 0x11, 0x12] ∧
          (s.store.reprint = none → t.formeOf 1 = o.forme ∧ t.formeOf 0x12 = s.sup.forme))) ∧
    (∀ b st rest, q.boundMt = some b → q.left = st :: rest → ∃ t, exec (.stationChangeover dt) s = .next t ∧
      t.sup.forme = s.sup.forme ∧ t.sup.gen = s.sup.gen ∧ (rest ≠ [] → t.sup.quoin = some { q with left := rest }) ∧
      (rest = [] → t.sup.quoin = none ∧ t.flight? q.flight = none)) ∧
    (q.boundMt = none → q.waitMt ≤ (s.elapse dt).now → exec (.quoinTimeout dt) s =
      .next (((s.elapse dt).onSup fun u => { u with quoin := none }).complete q.flight sTMO [])) ∧
    ((s.elapse dt).now < q.waitMt → exec (.quoinTimeout dt) s = .next (s.elapse dt))

/-- STATION_RESET, STATION_RETURN, UNIT_RESET, and UPDATE_STAGE, CHECK, COMMIT, ABORT, UPDATE_RESTART, SUPERVISOR_RETURN
(15 R383, 15 R384, 15 R393, 15 R394, 15 R395, 15 R396, 14 R371, 14 R374, 13 R324, 13 Table 13.6). A station reset
takes its station out until STATION_RETURN, which counts its epoch modulo 256 and completes the command; during a
QUOIN it is BUSY. UNIT_RESET with its key ends in PROOF with kind 2. Staging takes bytes in order from 0; a check
stores its verdict; only a VALID image can be committed, at most an hour ahead; abort drops it. At the commit's MT the
sessions end and the unit is in UPDATE; the supervisor returns with the new version, a higher epoch, and never a lower
rollback counter. -/
def Obligations.ResetsAndUpdates : Prop :=
  (∀ (dt f : Nat) (s : State) (fl : Flight), s.flight? f = some fl → fl.f = f →
    (ready fl 0x89 = true → (s.sup.quoin ≠ none → exec (.stationReset dt f) s = .next ((s.elapse dt).complete f sBUSY [])) ∧
      (s.sup.quoin = none → ∃ t, exec (.stationReset dt f) s = .next t ∧ t.isResetting fl.e.target = true ∧
        t.unit.epochs = s.unit.epochs ∧ (fl.e.target = 3 → ∀ n, n < 32 → (t.timer n).st = .stopped))) ∧
    (∀ st r, s.sup.resets = [r] → r.station = st → r.flight = some f → st < 22 → s.unit.epochs.length = 22 →
      ∃ u res, exec (.stationReturn dt st) s = .next (State.complete u f sOK res) ∧ u.isResetting st = false ∧
        u.epochOf st = (s.unit.epochs.getD st 0 + 1) % 256 ∧ (∀ k, k ≠ st → u.unit.epochs.getD k 0 = s.unit.epochs.getD k 0) ∧
        res.take 2 = [r.oldEpoch, u.epochOf st]) ∧
    (ready fl 0x8A = true → (argN fl.e 0 2 ≠ 0xA5C3 → exec (.unitReset dt f) s = .next ((s.elapse dt).complete f sBAD [])) ∧
      (argN fl.e 0 2 = 0xA5C3 → ∃ t, exec (.unitReset dt f) s = .next t ∧ t.isSt .proof = true ∧ t.now = 0 ∧ t.power.kind = 2 ∧
        t.host.sessions = [] ∧ t.sup.forme = s.sup.forme ∧ t.sup.live = s.sup.live ∧ t.hl.latch = s.hl.latch)) ∧
    (fl.e.target = 0 →
      (ready fl 0x90 = true → ∀ off n, argN fl.e 0 4 = off → argN fl.e 4 2 = n →
        (off ≠ 0 → off ≠ s.sup.staged.bytes → exec (.updateStage dt f) s = .next ((s.elapse dt).complete f sBAD [])) ∧
        (0 < n → n ≤ 48 → (off = 0 ∨ off = s.sup.staged.bytes) → off + n ≤ 33554432 → s.sup.commit = none →
          ∃ u : State, exec (.updateStage dt f) s = .next (u.complete f sOK []) ∧ u.sup = { s.sup with staged := { bytes := off + n } } ∧
            sameBut [.sup] (s.elapse dt) u)) ∧
      (ready fl 0x91 = true → ∀ img, ∃ u v res, exec (.updateCheck dt f img) s = .next (State.complete u f sOK (v :: res)) ∧
        u.sup = { s.sup with staged := { s.sup.staged with verdict := some v, img := img } } ∧ sameBut [.sup] (s.elapse dt) u ∧
        (v = 0 ↔ s.sup.staged.bytes ≠ 0 ∧ img.formatOk = true ∧ img.targetOk = true ∧ img.complete = true ∧ img.sigOk = true ∧
          s.unit.rollback ≤ img.rollback ∧ img.hwOk = true)) ∧
      (ready fl 0x92 = true → ∀ m, m = (if bitOf (argB fl.e 0) 0 then argN fl.e 8 8 else (s.elapse dt).now) →
        ((s.sup.staged.verdict ≠ some 0 ∨ (s.elapse dt).now + 3600 * Config.sec < m) →
          exec (.updateCommit dt f) s = .next ((s.elapse dt).complete f sBAD [])) ∧
        (s.sup.staged.verdict = some 0 → m ≤ (s.elapse dt).now + 3600 * Config.sec → s.sup.quoin = none → s.sup.commit = none →
          ∃ t, exec (.updateCommit dt f) s = .next t ∧ t.sup.commit = some (m, f) ∧ sameBut [.sup, .host] (s.elapse dt) t)) ∧
      (ready fl 0x93 = true → s.sup.commit = none → exec (.updateAbort dt f) s =
        .next (((s.elapse dt).onSup fun u => { u with staged := {} }).complete f sOK [])))) ∧
  ∀ (dt : Nat) (s : State),
    (∀ m f, s.sup.commit = some (m, f) →
      ((s.elapse dt).now < m → exec (.updateRestart dt) s = .next (s.elapse dt)) ∧
      (m ≤ (s.elapse dt).now → s.sup.quoin = none → (s.isSt .standby = true ∨ s.isSt .run = true ∨ s.isSt .proofHold = true) →
        ∃ t, exec (.updateRestart dt) s = .next t ∧ t.isSt .update = true ∧ t.sup.commit = none ∧ t.host.sessions = [] ∧
          t.sup.openF = none ∧ t.power.updMt = (s.elapse dt).now ∧ t.unit.updHold = s.isSt .proofHold ∧ t.unit.fw = s.unit.fw)) ∧
    (s.isSt .update = true → 0 < s.unit.epochs.length → ∃ t, exec (.supervisorReturn dt) s = .next t ∧
      t.isSt .proof = s.unit.updHold ∧ t.isSt .standby = !s.unit.updHold ∧ t.unit.fw = s.sup.staged.img.version ∧
      t.unit.rollback = max s.unit.rollback s.sup.staged.img.rollback ∧ t.sup.staged = {} ∧
      t.epochOf 0 = (s.unit.epochs.getD 0 0 + 1) % 256 ∧ t.host.flights = [] ∧ (∀ q ∈ t.host.queues, q.orphan = true))

/-- UNIT_PROGRAM_DONE, FLUSH_TIMER, KEYFRAME_TIMER, LOG_READ, LOG_COPY_RESUME, RECORD_MARK and the REPRINT rows (16 R402,
16 R404, 16 R406, 16 R409, 16 R411, 16 R413, 16 R414, 16 R416, 16 R417, 16 R424, 16 Table 16.12). A log unit done
moves its slugs from staging to the open log folio, an input unit its records from the buffer; a failed one leaves the
slugs staged and its folio BAD. A partial unit starts once REC_FLUSH_T has run. A keyframe holds the state of that
instant. LOG_READ reports, and copies slugs into the EQ in order. A mark answers the next SEQ and MT. A reprint starts
from the latest keyframe before its start only if nothing keeps the span from being reproduced, delivers one record a
step, and its end brings the saved live state back in STANDBY. -/
def Obligations.RecordStoreProgramsAndReprints : Prop :=
  (∀ (dt : Nat) (s : State) (r : RecSt), s.store = r →
    (∀ k n, r.inProg = k → 0 < k → k ≤ r.staging.length → r.logOpen = some n → r.tripQ = [] → r.drops = [0, 0, 0, 0] → r.logUnits < 15 →
      (∃ t, exec (.unitProgramDone dt true) s = .next t ∧ t.store.log = ⟨n, r.logUnits, r.staging.take k⟩ :: r.log ∧
        t.store.staging = r.staging.drop k ∧ t.store.logUnits = r.logUnits + 1 ∧ t.store.logOpen = some n ∧
        t.store.progs = (r.progs + 1) % 2 ^ 32 ∧ sameBut [.store] (s.elapse dt) t) ∧
      (∃ t, exec (.unitProgramDone dt false) s = .next t ∧ t.store.log = r.log ∧ t.store.staging.take k = r.staging.take k ∧
        t.store.badFolios = r.badFolios + 1 ∧ t.store.logOpen = none ∧ (∀ x ∈ t.store.folios, x.num = n → x.st = 4))) ∧
    (∀ k n, r.inProg = 0 → r.bufProg = k → 0 < k → k ≤ r.buf.length → r.inOpen = some n → r.lost = 0 → r.inUnits < 15 →
      ∃ t, exec (.unitProgramDone dt true) s = .next t ∧ t.store.buf = r.buf.drop k ∧
        t.store.input = ⟨n, r.inUnits, s.power.boot, r.recIdx - r.buf.length, r.buf.take k⟩ :: r.input ∧
        sameBut [.store] (s.elapse dt) t) ∧
    (r.mounted = true → r.readOnly = false → r.inProg = 0 → r.bufProg = 0 → r.proofHeld = false →
      (∀ m, 0 < r.staging.length → r.staging.length < 64 → r.partMt = some m → m + s.parN 0xB001 * Config.ms ≤ (s.elapse dt).now →
        exec (.flushTimer dt) s = .next ((s.elapse dt).onStore fun x => { x with inProg := r.staging.length, partMt := none })) ∧
      (r.staging = [] → r.buf = [] → exec (.flushTimer dt) s = .next (s.elapse dt))) ∧
    ((s.elapse dt).now < r.keyMt + s.parN 0xB004 * Config.sec → exec (.keyframeTimer dt) s = .next (s.elapse dt)) ∧
    (s.recording = true → r.keyMt + s.parN 0xB004 * Config.sec ≤ (s.elapse dt).now → ∃ t k rest, exec (.keyframeTimer dt) s = .next t ∧
      t.store.keys = k :: rest ∧ (∀ x ∈ rest, x ∈ r.keys) ∧ k.img = (s.elapse dt).image ∧ k.num = r.keyNum ∧ k.mt = (s.elapse dt).now ∧
      k.runs = s.isSt .run ∧ t.store.keyNum = (r.keyNum + 1) % 2 ^ 32 ∧ sameBut [.store] (s.elapse dt) t) ∧
    (r.copies = [] → exec (.logCopyResume dt) s = .next (s.elapse dt)) ∧
    (∀ c q, r.copies = [c] → s.queue? c.eq = some q → q.ring.length + c.todo.length < q.depth →
      ∃ u res, exec (.logCopyResume dt) s = .next (State.complete u c.flight sOK res) ∧ u.store.copies = [] ∧
        res.take 4 = le 4 (c.queued + c.todo.length) ∧ (u.queue? c.eq).map (·.ring) = some (q.ring ++ c.todo.map QEntry.slug)) ∧
    (r.reprint = none → exec (.reprintRecord dt) s = .next (s.elapse dt)) ∧
    (∀ p, r.reprint = some p → p.held = [] →
      (∀ x rest, p.todo = x :: rest → p.fast = false → (s.elapse dt).now - p.liveMt < x.mt - p.kfMt →
        exec (.reprintRecord dt) s = .next (s.elapse dt)) ∧
      (∀ x rest, p.todo = x :: rest → p.fast = true → p.stopDiff = false → x.typ = 6 → ∃ t p', exec (.reprintRecord dt) s = .next t ∧
        t.store.reprint = some p' ∧ p'.todo = rest ∧ p'.done = p.done + 1 ∧ p'.lastMt = max p.lastMt x.mt ∧ p'.diffs = p.diffs ∧
        sameBut [.store, .cle] (s.elapse dt) t) ∧
      (p.todo = [] → p.fast = true → s.isSt .reprint = true → ∃ t, exec (.reprintRecord dt) s = .next t ∧ t.isSt .standby = true ∧ t.store.reprint = none ∧
        t.cle.loops = p.saved.cle.loops ∧ t.sup.forme = s.sup.forme))) ∧
  ∀ (dt f : Nat) (s : State) (fl : Flight) (r : RecSt), s.flight? f = some fl → fl.f = f → s.store = r →
    (ready fl 0x78 = true → r.copies = [] →
      (argB fl.e 0 = 0 → exec (.logRead dt f) s = .next ((s.elapse dt).complete f sOK (le 4 r.nextSeq ++ le 4 (oldestSeq r) ++
        le 2 r.staging.length ++ le 2 r.hwm ++ le 4 r.dropped ++ [b2n r.readOnly + 2 * b2n r.torn] ++ le 2 s.power.boot))) ∧
      (∀ c q, argB fl.e 0 = 1 → s.ownEq fl.sid (argN fl.e 2 2) = true → 0 < argN fl.e 8 4 → argN fl.e 8 4 ≤ 65536 →
        c = logCopyOf r f (argN fl.e 2 2) (argB fl.e 1) (argN fl.e 4 4) (argN fl.e 8 4) → s.queue? (argN fl.e 2 2) = some q →
        q.ring.length + c.todo.length < q.depth →
        ∃ u : State, exec (.logRead dt f) s = .next (u.complete f sOK (le 4 c.todo.length ++ le 4 c.first ++ le 4 c.last ++ le 4 c.holes)) ∧
          (u.queue? (argN fl.e 2 2)).map (·.ring) = some (q.ring ++ c.todo.map QEntry.slug) ∧
          sameBut [.host] (s.elapse dt) u)) ∧
    (ready fl 0x79 = true → bitOf (argB fl.e 0) 0 = false → ∃ u : State, exec (.recordMark dt f) s =
      .next (u.complete f sOK (le 4 r.nextSeq ++ le 6 (s.elapse dt).now ++ le 4 0xFFFFFFFF)) ∧ u.quiet = (s.elapse dt).quiet) ∧
    (ready fl 0x7A = true → ∀ b m e, argN fl.e 0 2 = b → argN fl.e 4 8 = m → argN fl.e 12 8 = e →
      (s.sup.quoin ≠ none → exec (.reprintStart dt f) s = .next ((s.elapse dt).complete f sBUSY [])) ∧
      (s.sup.quoin = none → e ≤ m → exec (.reprintStart dt f) s = .next ((s.elapse dt).complete f sBAD [])) ∧
      (s.sup.quoin = none → m < e → s.keyAt b m = none → exec (.reprintStart dt f) s = .next ((s.elapse dt).complete f sBAD [1])) ∧
      (∀ k, s.sup.quoin = none → m < e → s.keyAt b m = some k →
        (s.spanDetail (some k) e ≠ 0 → exec (.reprintStart dt f) s = .next ((s.elapse dt).complete f sBAD [s.spanDetail (some k) e])) ∧
        (s.spanDetail (some k) e = 0 → ∃ u res p, exec (.reprintStart dt f) s = .next (State.complete u f sOK res) ∧
          u.isSt .reprint = true ∧ u.store.reprint = some p ∧ p.startMt = m ∧ p.endMt = e ∧ p.kfMt = k.mt ∧ p.done = 0 ∧
          u.cle = k.img.cle ∧ u.cols = k.img.cols ∧ u.now = (s.elapse dt).now ∧ (∀ x ∈ p.todo, x.mt ≤ e)))) ∧
    (ready fl 0x7B = true → (r.reprint = none → exec (.reprintStop dt f) s = .next ((s.elapse dt).complete f sNOTST [])) ∧
      (∀ p, r.reprint = some p → s.isSt .reprint = true → ∃ u : State, exec (.reprintStop dt f) s =
        .next (u.complete f sOK (le 4 p.done ++ p.diffs.map (min 255) ++ le 6 p.lastMt)) ∧ u.isSt .standby = true ∧
        u.store.reprint = none ∧ u.cle.loops = p.saved.cle.loops ∧ u.sup.forme = s.sup.forme))

/-- Module, lane, SYNC, TRIP, peer-token rows and LANE_STATUS: lanes come and go, machine time follows, remote trips act
(17 R426, 17 R427, 17 R432, 17 R434, 17 R437, 17 R438, 17 R439, 17 R444, 17 R445, 17 R450, 02 R36, 02 R38). A lane
with a role, a supported module and proof past stage 7 comes UP; a lane that goes down at its own hop counts a loss,
at a further hop only its BREAK, and a ring is broken on both its lanes. The master sends SYNC every 125 us; a unit
follows the master it has, or one whose MT is higher, and a master never one whose MT is lower. More than MT_STEP
behind it steps once by its offset, else it does not step and counts good cells. A TRIP block of an UP lane holds its
source's bits until the next one and, mapped, latches the drives of the target's mask; a bad one is counted. TRIP,
zone and boost repeats keep their periods, the selected zones' tokens go out, peer tokens end after PEER_TMO, and
LANE_STATUS answers the lane's state. -/
def Obligations.LanesPeersAndMachineTime : Prop :=
  ∀ (dt l : Nat) (s : State), s.lane.lanes.length = 4 →
    (∀ m, exec (.sfpModuleChange dt l m) s = .next ((s.elapse dt).onLaneAt l fun x => { x with sfp := if m.present then m else {} })) ∧
    (l < 4 → (s.laneAt l).up = false →
      ((s.laneRole l ≠ 0 ∧ (s.laneAt l).sfp.present = true ∧ (s.laneAt l).sfp.supported = true ∧ (s.elapse dt).lanesRun = true) →
        ∃ t, exec (.laneUp dt l) s = .next t ∧ (t.laneAt l).up = true ∧ (t.laneAt l).lock = true ∧ (t.laneAt l).brk = 0xFF ∧
          (t.laneAt l).ring = s.ringOn l ∧ t.now = (s.elapse dt).now ∧
          t.quiet.but [.lane, .time] = (s.elapse dt).quiet.but [.lane, .time]) ∧
      ((s.laneRole l = 0 ∨ (s.laneAt l).sfp.present = false ∨ (s.laneAt l).sfp.supported = false) →
        exec (.laneUp dt l) s = .next (s.elapse dt))) ∧
    (∀ hop, l < 4 → (s.laneAt l).up = true → hop ≤ 15 → ∃ t, exec (.laneDown dt l hop) s = .next t ∧
      (t.laneAt l).up = decide (hop ≠ 0) ∧ (hop = 0 → (t.laneAt l).lock = false ∧ (t.laneAt l).losses = incW 16 (s.laneAt l).losses) ∧
      (hop ≠ 0 → (t.laneAt l).losses = (s.laneAt l).losses) ∧ (t.laneAt l).brk = hop ∧
      (s.ringOn l = true → (t.laneAt l).broken = true ∧ (t.laneAt (if l % 2 = 0 then l + 1 else l - 1)).broken = true) ∧
      t.quiet.but [.lane, .time] = (s.elapse dt).quiet.but [.lane, .time]) ∧
    (∀ info, l < 4 → s.laneRole l = 2 → (s.laneAt l).up = true → ∃ t, exec (.discoverCell dt l info) s = .next t ∧
      (t.laneAt l).pos = info.hops + 1 ∧ (info.peer = true → (t.laneAt l).head = some info) ∧
      t.quiet.but [.lane, .time] = (s.elapse dt).quiet.but [.lane, .time]) ∧
    ((s.laneAt l).up = true → (s.laneAt l).statMt + Config.ms ≤ (s.elapse dt).now → l < 4 →
      exec (.statusCellSend dt l) s = .next ((s.elapse dt).onLaneAt l fun x => { x with statMt := (s.elapse dt).now })) ∧
    (s.time.sync = .master → (s.elapse dt).lanesRun = true → (s.lane.lanes.any fun x => x.up) = true →
      (s.lane.syncMt + 12500 ≤ (s.elapse dt).now →
        exec (.syncCellSend dt) s = .next ((s.elapse dt).onLane fun y => { y with syncMt := (s.elapse dt).now })) ∧
      ((s.elapse dt).now < s.lane.syncMt + 12500 → exec (.syncCellSend dt) s = .next (s.elapse dt))) ∧
    (∀ (mm mi ser dly : Nat) (off : Int), (s.elapse dt).lanesRun = true → (s.laneAt l).up = true →
      (∀ m, m = (s.elapse dt).follows mm (mi, ser) → (s.time.sync = .master → mm < (s.elapse dt).now → m = false) ∧
        (s.time.sync = .master → (s.elapse dt).now < mm → m = true) ∧
        (s.time.sync ≠ .master → s.time.masterId = mi → s.lane.masterSer = ser → m = true)) ∧
      ((s.elapse dt).follows mm (mi, ser) = false →
        ∃ t, exec (.syncCellReceive dt l mm mi ser off dly) s = .next t ∧ sameBut [.lane] (s.elapse dt) t) ∧
      ((s.elapse dt).follows mm (mi, ser) = true → ∃ t, exec (.syncCellReceive dt l mm mi ser off dly) s = .next t ∧
        t.lane.masterSer = ser ∧
        (off < -((s.parN 0x1200 * 1000 : Nat) : Int) → t.now = (s.elapse dt).now + (rdiv (-off) 10).toNat) ∧
        (-((s.parN 0x1200 * 1000 : Nat) : Int) ≤ off → t.now = (s.elapse dt).now ∧ -20000 ≤ t.time.trim ∧ t.time.trim ≤ 20000 ∧
          t.time.masterId = mi % 16 ∧ t.time.syncGood = (if -100 ≤ off ∧ off ≤ 100 then min 16 (s.time.syncGood + 1) else 0) ∧
          (t.time.syncGood = 16 → t.time.sync = .locked ∧ t.time.nosync = false) ∧
          t.but [.time, .lane, .free] = (s.elapse dt).but [.time, .lane, .free]))) ∧
    (∀ st bits seq, (s.laneAt l).up = true → l < 4 →
      exec (.tripBlockReceive dt l st bits seq false) s = .next ((s.elapse dt).onLaneAt l fun x => { x with err := incW 16 x.err }) ∧
      (bits < 16 → ∃ t, exec (.tripBlockReceive dt l st bits seq true) s = .next t ∧ t.rtripBits st = bits ∧
        (∀ o, o ≠ st → t.rtripBits o = s.rtripBits o) ∧ (t.laneAt l).tripCnt = incW 16 (s.laneAt l).tripCnt ∧
        (∀ i n, i < 2 → n < 6 → s.fan.drives.length = 6 → s.rtripBits st ≠ bits → t.remoteTrip i = true →
          bitOf (s.ftripMask i) n = true → bitOf (t.drive n).trip (4 + i) = true ∧ bitOf (t.drive n).active (4 + i) = true) ∧
        t.quiet.but [.lane, .fan, .valve, .cle] = (s.elapse dt).quiet.but [.lane, .fan, .valve, .cle])) ∧
    (∀ p, p = (if s.lane.tripSent = 0 then 100000 else 1000) →
      (s.lane.tripMt + p ≤ (s.elapse dt).now →
        exec (.tripBlockRepeat dt) s = .next ((s.elapse dt).onLane fun y => { y with tripMt := (s.elapse dt).now })) ∧
      ((s.elapse dt).now < s.lane.tripMt + p → exec (.tripBlockRepeat dt) s = .next (s.elapse dt))) ∧
    (∀ st r, (s.lane.rtrips.find? fun x => x.station = st) = some r → 0 < r.changes → (∀ bits, bits < 16 →
      ((r.slugMt = none ∨ ∃ m, r.slugMt = some m ∧ m + 10 * Config.ms ≤ (s.elapse dt).now) →
        ∃ t, exec (.tripCellReceive dt st bits) s = .next t ∧
          t.lane.rtrips.find? (fun x => x.station = st) = some { r with changes := 0, slugMt := some (s.elapse dt).now } ∧
          t.quiet.but [.lane] = (s.elapse dt).quiet.but [.lane]) ∧
      (∀ m, r.slugMt = some m → (s.elapse dt).now < m + 10 * Config.ms →
        exec (.tripCellReceive dt st bits) s = .next (s.elapse dt)))) ∧
    (s.lane.tripCell = true → s.lane.tripCellMt + Config.ms ≤ (s.elapse dt).now →
      exec (.tripCellRepeat dt) s = .next ((s.elapse dt).onLane fun y => { y with tripCellMt := (s.elapse dt).now })) ∧
    (s.lane.exportMt + 10000000 ≤ (s.elapse dt).now → s.isSt .reprint = false → s.recordRuns = true →
      ∃ t, exec (.peerZoneExport dt) s = .next t ∧ t.lane.exportMt = (s.elapse dt).now ∧ t.lane.exported.length = 16 ∧
        (∀ z, z < 16 → t.lane.exported.getD z none = if bitOf (s.parN 0xC006) z then some ((s.elapse dt).zoneNow z) else none) ∧
        (∀ z, ((s.elapse dt).zoneNow z).st = (s.zone z).st) ∧
        sameBut [.lane] (s.elapse dt) t) ∧
    (∀ g, g < 4 → s.fan.groups.length = 4 → s.isSt .reprint = false → s.recordRuns = true → bitOf (s.pFg g 7) 0 = true →
      (s.fg g).sentMt + 10000000 ≤ (s.elapse dt).now → ∃ t, exec (.peerBoostSend dt g) s = .next t ∧ (t.fg g).sentMt = (s.elapse dt).now ∧
        (t.fg g).sentB = ((s.fg g).boost && (s.fgMembers g).any fun n => driveFailed (s.drive n)) ∧ sameBut [.fan] (s.elapse dt) t) ∧
    (∀ id, ∃ t, exec (.peerTimeout dt id) s = .next t ∧
      t.lane.peerZones = s.lane.peerZones.filter (fun x => !(x.nodeId = id && decide (x.mt + s.parN 0xC005 * Config.ms ≤ (s.elapse dt).now))) ∧
      t.lane.peerBoosts = s.lane.peerBoosts.filter (fun x => !(x.nodeId = id && decide (x.mt + s.parN 0xC005 * Config.ms ≤ (s.elapse dt).now))) ∧
      sameBut [.lane, .fan] (s.elapse dt) t) ∧
    ∀ f fl a, s.flight? f = some fl → ready fl 0x80 = true → argB fl.e 0 = a →
      (3 < a → exec (.laneStatus dt f) s = .next ((s.elapse dt).complete f sBAD [])) ∧
      (a ≤ 3 → argB fl.e 1 = 0 → exec (.laneStatus dt f) s = .next ((s.elapse dt).complete f sOK
        (le 4 ((s.elapse dt).lnStat a) ++ le 4 (lnErr (s.laneAt a)) ++ le 4 (s.laneAt a).lost ++ le 4 (s.laneAt a).delay)))

/-- STATUS, CONTROL, BULK and RECORD cells, NODE_LOST, NODE_UPDATE_TIMEOUT and NODE_RESET serve the node stations (17
R431, 17 R440, 17 R441, 17 R442, 17 R443, 17 R444, 17 R450, 17 Table 17.2, 17 Table 17.4, 14 R371, 15 R393). A STATUS
cell of position p of HEAD lane l maps the node to station 0x20 + 15 l + (p - 1), or leaves it MISMATCH where another
serial is expected, and no other node changes. A CONTROL cell completes the command it answers with its status, and a
late one is counted; an unanswered cell goes out again, and the ninth time the node is LOST. A BULK cell counts the
image's bytes. A mapped node without a STATUS cell for 20 ms is LOST and its executing commands end. NODE_RESET of an
ONLINE node puts it in RESETTING. A RECORD cell counts its gap and a peer's token takes its place. -/
def Obligations.NodesJoinServeAndAreLost : Prop :=
  ∀ (dt : Nat) (s : State), s.lane.lanes.length = 4 → s.lane.nodes.Pairwise (fun a b => a.1 < b.1) → s.isResetting 0x15 = false →
    (s.elapse dt).isResetting 0x15 = false →
    (∀ l pos info st, l < 4 → s.ringOn l = false → 1 ≤ pos → pos ≤ 15 → s.laneRole l = 1 → (s.laneAt l).up = true →
      st = 0x20 + 15 * l + (pos - 1) → (s.node st).flight = none → info.state = 2 →
      ∃ t, exec (.statusCell dt l pos info) s = .next t ∧ (t.node st).seenMt = (s.elapse dt).now ∧
        (t.laneAt l).found = max (s.laneAt l).found pos ∧ (∀ o, o ≠ st → t.node o = s.node o) ∧
        ((s.expectSerial l pos = 0 ∨ s.expectSerial l pos = info.serial) →
          (t.node st).mapped = true ∧ (t.node st).st = .online ∧ (t.node st).info = info) ∧
        (s.expectSerial l pos ≠ 0 → s.expectSerial l pos ≠ info.serial → (t.node st).mapped = false ∧ (t.node st).st = .mismatch) ∧
        t.quiet.but [.lane, .time, .host] = (s.elapse dt).quiet.but [.lane, .time, .host]) ∧
    (∀ st cseq status res, cseq < 65536 → s.controlRuns = true →
      (∀ c f, (s.lane.cells.find? fun x => x.station = st && x.cseq = cseq && !x.bulk) = some c → c.flight = some f →
        exec (.controlCell dt st cseq status res) s = .next (((s.elapse dt).onLane fun y =>
          { y with cells := y.cells.filter fun x => !(x.station = st && x.cseq = cseq) }).complete f (status % 256) (padTo 19 res))) ∧
      ((s.lane.cells.find? fun x => x.station = st && x.cseq = cseq && !x.bulk) = none →
        exec (.controlCell dt st cseq status res) s = .next ((s.elapse dt).onLane fun y => { y with lateComp := incW 32 y.lateComp }))) ∧
    (∀ st c, s.controlRuns = true → (s.lane.cells.find? fun x => x.station = st && decide (x.sentMt + Config.ms ≤ (s.elapse dt).now)) = some c →
      ∃ t, exec (.controlCellRetransmit dt st) s = .next t ∧
        (c.tries < 8 → t.lane.cells = (s.lane.cells.map fun x =>
            if x.station = st ∧ x.cseq = c.cseq then { x with sentMt := (s.elapse dt).now, tries := x.tries + 1 } else x) ∧
          (laneOf st < 4 → (t.laneAt (laneOf st)).retx = incW 32 (s.laneAt (laneOf st)).retx) ∧ sameBut [.lane] (s.elapse dt) t) ∧
        (8 ≤ c.tries → (t.node st).st = .lost ∧ ∀ x ∈ t.lane.cells, x.station ≠ st)) ∧
    (∀ st c f fl, s.controlRuns = true → (s.lane.cells.find? fun x => x.station = st && x.bulk) = some c → c.flight = some f → s.flight? f = some fl →
      exec (.bulkCell dt st) s = .next ((((s.elapse dt).onLane fun y =>
        { y with cells := y.cells.filter fun x => !(x.station = st && x.cseq = c.cseq) }).onSup fun u =>
          { u with nodeImg := spPut u.nodeImg st { bytes := argN fl.e 0 4 + argN fl.e 4 2 } }).complete fl.f sOK)) ∧
    (∀ st, (s.node st).mapped = true → (s.elapse dt).nodeSt st = .online →
      ((s.node st).seenMt + 20 * Config.ms ≤ (s.elapse dt).now → ∃ t, exec (.nodeLost dt st) s = .next t ∧ (t.node st).st = .lost ∧
        (t.node st).flight = none ∧ (∀ x ∈ t.lane.cells, x.station ≠ st) ∧ (∀ o, o ≠ st → t.node o = s.node o) ∧
        ∀ fl ∈ t.host.flights, fl.started = true → fl.e.target ≠ st) ∧
      ((s.elapse dt).now < (s.node st).seenMt + 20 * Config.ms → exec (.nodeLost dt st) s = .next (s.elapse dt))) ∧
    (∀ st f, (s.node st).flight = some f → (s.node st).st = .updating → (spGet s.sup.nodeImg st).isSome = true →
      ((s.node st).sinceMt + 60 * Config.sec ≤ (s.elapse dt).now → ∃ t, exec (.nodeUpdateTimeout dt st) s = .next t ∧
        (t.node st).st = .lost ∧ t.flight? f = none) ∧
      ((s.elapse dt).now < (s.node st).sinceMt + 60 * Config.sec → exec (.nodeUpdateTimeout dt st) s = .next (s.elapse dt))) ∧
    (∀ st epoch seq tok n, s.node st = n → n.mapped = true → n.st = .online → s.recordRuns = true →
      ∃ t, exec (.recordCell dt st epoch seq tok) s = .next t ∧ (t.node st).recSeq = some (seq % 65536) ∧
        (laneOf st < 4 → (t.laneAt (laneOf st)).lost =
          ((s.laneAt (laneOf st)).lost + match n.recSeq with | some q => uw 16 ((seq : Int) - q - 1) | none => 0) % 2 ^ 32) ∧
        (epoch ≠ n.info.epoch → sameBut [.lane] (s.elapse dt) t) ∧
        (∀ id z zs v d, tok = .zone id z zs v d → epoch = n.info.epoch → n.info.peer = true → s.isSt .reprint = false →
          s.time.dupId = false → (PeerTok.mk id z d false (s.elapse dt).now) ∈ t.lane.peerZones ∧
            t.quiet.but [.lane, .fan] = (s.elapse dt).quiet.but [.lane, .fan])) ∧
    ∀ f fl st n, s.flight? f = some fl → ready fl 0x81 = true → fl.e.target = st → s.node st = n →
      ((n.mapped = false ∨ n.info.peer = true) → exec (.nodeReset dt f) s = .next ((s.elapse dt).complete f sBAD [])) ∧
      (n.mapped = true → n.info.peer = false → n.st ≠ .online →
        exec (.nodeReset dt f) s = .next ((s.elapse dt).complete f sNOTST [])) ∧
      (n.mapped = true → n.info.peer = false → n.st = .online → ∃ t, exec (.nodeReset dt f) s = .next t ∧
        t.node st = { n with st := .resetting, sinceMt := (s.elapse dt).now, wasEpoch := n.info.epoch, flight := some fl.f } ∧
        (∀ o, o ≠ st → t.node o = s.node o) ∧ t.flight? f ≠ none)

/-- Over every command, the high-limit latch is set only by a trip, a weld or a failed proof, and cleared only by an
admitted reset (12 R296, 12 R297, 12 R301, 12 R303, 12 R311, 13 R324). Whatever command runs, power-on, unit-level
resets, restarts and power commits among them: a set latch stays set with FIRST, its MT and every cause but PROOF, and
both relays stay de-energised, unless the command is HL_RESET or LIMIT_RESET_KEY; those two clear it only where the
hardware admits a reset. A clear latch stays clear unless the command is HL_TRIP, CONTACT_WELD or PROOF_STAGE_END. -/
def Obligations.OnlyAnAdmittedResetClearsTheLatch : Prop :=
  ∀ (c : Instr) (s t : State), exec c s = .next t →
    (s.hl.latch = true → (∀ dt f, c ≠ .hlReset dt f) → (∀ dt r, c ≠ .limitResetKey dt r) →
      t.hl.latch = true ∧ t.hl.drive = false ∧ t.hl.first = s.hl.first ∧ t.hl.tmt = s.hl.tmt ∧
      ∀ b, b ≠ 2 → bitOf s.hl.cause b = true → bitOf t.hl.cause b = true) ∧
    (s.hl.latch = true → t.hl.latch = false → s.hl.admits = true ∧ t.hl.cause = 0) ∧
    (s.hl.latch = false → t.hl.latch = true → (∃ dt ch, c = .hlTrip dt ch) ∨ (∃ dt r, c = .contactWeld dt r) ∨
      ∃ dt p i tm m h0 h1, c = .proofStageEnd dt p i tm m h0 h1)

/-- Every step keeps the unit's invariant, takes one command from the queue, and MT never decreases but for a restart
from 0 (02 R34, 03 R77, 03 R79, 14 R351, 01 R20, 13 R324). From every state that meets the invariant (the tables of
live and saved states have their sizes, windows at most 32 slots and the dispatch queue at most 256, epochs 8 bits,
at most 16 sessions in roles 0 to 3, slot, node and parameter tables in order), a step that answers a next state
keeps it, leaves the queue's rest, and either MT has not decreased, or it is 0 and the unit is in PROOF (power-on,
power commit, UNIT_RESET, the supervisor's watchdog). -/
def Obligations.EveryStepKeepsTheUnitInForm : Prop :=
  ∀ s t : State, s.wf → step s = .next t →
    t.wf ∧ t.pending = s.pending.tail ∧ (s.now ≤ t.now ∨ t.now = 0 ∧ t.isSt .proof = true)

/-- The state right after reset meets the invariant and holds the power-on values (02 R34, 01 R23, 12 R298, 13 R326, 20
Table 20.2, 20 Table 20.6). After reset the invariant holds; the unit is in PROOF at stage 0 with MT 0 and every
epoch 0; no command waits and no session, queue or flight exists; the high-limit relays are de-energised; every
drive is OFF, every timer stopped, every slot disabled, and no firing, forme, reset or reprint is in progress. -/
def Obligations.ResetLeavesThePowerOnValues : Prop :=
  State.reset.wf ∧ State.reset.isSt .proof = true ∧ State.reset.power.stage = 0 ∧ State.reset.now = 0 ∧
    (∀ e ∈ State.reset.unit.epochs, e = 0) ∧ State.reset.pending = [] ∧ State.reset.host.sessions = [] ∧
    State.reset.host.queues = [] ∧ State.reset.host.flights = [] ∧ State.reset.hl.drive = false ∧
    (∀ n, (State.reset.drive n).st = .off) ∧ (∀ n, (State.reset.timer n).st = .stopped) ∧
    (∀ n, (State.reset.slotLive n).st = .disabled) ∧ State.reset.imp.queue = [] ∧ State.reset.sup.openF = none ∧
    State.reset.sup.quoin = none ∧ State.reset.sup.resets = [] ∧ State.reset.store.reprint = none
end

