-- ==== Sys2Proof/Laws/State.lean ====
section
/-! SUPPORT. One lemma for each part of the state under each update: the part that the update names is the new value,
every other part is as before. -/

namespace Sys2Proof.Machine

@[simp] theorem State.onTime_time (s : State) (f : TimeSt → TimeSt) : (s.onTime f).time = f s.time := rfl
@[simp] theorem State.onTime_imp (s : State) (f : TimeSt → TimeSt) : (s.onTime f).imp = s.imp := rfl
@[simp] theorem State.onTime_timers (s : State) (f : TimeSt → TimeSt) : (s.onTime f).timers = s.timers := rfl
@[simp] theorem State.onTime_cols (s : State) (f : TimeSt → TimeSt) : (s.onTime f).cols = s.cols := rfl
@[simp] theorem State.onTime_probe (s : State) (f : TimeSt → TimeSt) : (s.onTime f).probe = s.probe := rfl
@[simp] theorem State.onTime_pica (s : State) (f : TimeSt → TimeSt) : (s.onTime f).pica = s.pica := rfl
@[simp] theorem State.onTime_toks (s : State) (f : TimeSt → TimeSt) : (s.onTime f).toks = s.toks := rfl
@[simp] theorem State.onTime_cle (s : State) (f : TimeSt → TimeSt) : (s.onTime f).cle = s.cle := rfl
@[simp] theorem State.onTime_fan (s : State) (f : TimeSt → TimeSt) : (s.onTime f).fan = s.fan := rfl
@[simp] theorem State.onTime_valve (s : State) (f : TimeSt → TimeSt) : (s.onTime f).valve = s.valve := rfl
@[simp] theorem State.onTime_dio (s : State) (f : TimeSt → TimeSt) : (s.onTime f).dio = s.dio := rfl
@[simp] theorem State.onTime_hl (s : State) (f : TimeSt → TimeSt) : (s.onTime f).hl = s.hl := rfl
@[simp] theorem State.onTime_power (s : State) (f : TimeSt → TimeSt) : (s.onTime f).power = s.power := rfl
@[simp] theorem State.onTime_unit (s : State) (f : TimeSt → TimeSt) : (s.onTime f).unit = s.unit := rfl
@[simp] theorem State.onTime_host (s : State) (f : TimeSt → TimeSt) : (s.onTime f).host = s.host := rfl
@[simp] theorem State.onTime_sup (s : State) (f : TimeSt → TimeSt) : (s.onTime f).sup = s.sup := rfl
@[simp] theorem State.onTime_store (s : State) (f : TimeSt → TimeSt) : (s.onTime f).store = s.store := rfl
@[simp] theorem State.onTime_lane (s : State) (f : TimeSt → TimeSt) : (s.onTime f).lane = s.lane := rfl
@[simp] theorem State.onTime_svc (s : State) (f : TimeSt → TimeSt) : (s.onTime f).svc = s.svc := rfl
@[simp] theorem State.onTime_free (s : State) (f : TimeSt → TimeSt) : (s.onTime f).free = s.free := rfl
@[simp] theorem State.onTime_pending (s : State) (f : TimeSt → TimeSt) : (s.onTime f).pending = s.pending := rfl
@[simp] theorem State.onImp_time (s : State) (f : ImpSt → ImpSt) : (s.onImp f).time = s.time := rfl
@[simp] theorem State.onImp_imp (s : State) (f : ImpSt → ImpSt) : (s.onImp f).imp = f s.imp := rfl
@[simp] theorem State.onImp_timers (s : State) (f : ImpSt → ImpSt) : (s.onImp f).timers = s.timers := rfl
@[simp] theorem State.onImp_cols (s : State) (f : ImpSt → ImpSt) : (s.onImp f).cols = s.cols := rfl
@[simp] theorem State.onImp_probe (s : State) (f : ImpSt → ImpSt) : (s.onImp f).probe = s.probe := rfl
@[simp] theorem State.onImp_pica (s : State) (f : ImpSt → ImpSt) : (s.onImp f).pica = s.pica := rfl
@[simp] theorem State.onImp_toks (s : State) (f : ImpSt → ImpSt) : (s.onImp f).toks = s.toks := rfl
@[simp] theorem State.onImp_cle (s : State) (f : ImpSt → ImpSt) : (s.onImp f).cle = s.cle := rfl
@[simp] theorem State.onImp_fan (s : State) (f : ImpSt → ImpSt) : (s.onImp f).fan = s.fan := rfl
@[simp] theorem State.onImp_valve (s : State) (f : ImpSt → ImpSt) : (s.onImp f).valve = s.valve := rfl
@[simp] theorem State.onImp_dio (s : State) (f : ImpSt → ImpSt) : (s.onImp f).dio = s.dio := rfl
@[simp] theorem State.onImp_hl (s : State) (f : ImpSt → ImpSt) : (s.onImp f).hl = s.hl := rfl
@[simp] theorem State.onImp_power (s : State) (f : ImpSt → ImpSt) : (s.onImp f).power = s.power := rfl
@[simp] theorem State.onImp_unit (s : State) (f : ImpSt → ImpSt) : (s.onImp f).unit = s.unit := rfl
@[simp] theorem State.onImp_host (s : State) (f : ImpSt → ImpSt) : (s.onImp f).host = s.host := rfl
@[simp] theorem State.onImp_sup (s : State) (f : ImpSt → ImpSt) : (s.onImp f).sup = s.sup := rfl
@[simp] theorem State.onImp_store (s : State) (f : ImpSt → ImpSt) : (s.onImp f).store = s.store := rfl
@[simp] theorem State.onImp_lane (s : State) (f : ImpSt → ImpSt) : (s.onImp f).lane = s.lane := rfl
@[simp] theorem State.onImp_svc (s : State) (f : ImpSt → ImpSt) : (s.onImp f).svc = s.svc := rfl
@[simp] theorem State.onImp_free (s : State) (f : ImpSt → ImpSt) : (s.onImp f).free = s.free := rfl
@[simp] theorem State.onImp_pending (s : State) (f : ImpSt → ImpSt) : (s.onImp f).pending = s.pending := rfl
@[simp] theorem State.onProbe_time (s : State) (f : ProbeSt → ProbeSt) : (s.onProbe f).time = s.time := rfl
@[simp] theorem State.onProbe_imp (s : State) (f : ProbeSt → ProbeSt) : (s.onProbe f).imp = s.imp := rfl
@[simp] theorem State.onProbe_timers (s : State) (f : ProbeSt → ProbeSt) : (s.onProbe f).timers = s.timers := rfl
@[simp] theorem State.onProbe_cols (s : State) (f : ProbeSt → ProbeSt) : (s.onProbe f).cols = s.cols := rfl
@[simp] theorem State.onProbe_probe (s : State) (f : ProbeSt → ProbeSt) : (s.onProbe f).probe = f s.probe := rfl
@[simp] theorem State.onProbe_pica (s : State) (f : ProbeSt → ProbeSt) : (s.onProbe f).pica = s.pica := rfl
@[simp] theorem State.onProbe_toks (s : State) (f : ProbeSt → ProbeSt) : (s.onProbe f).toks = s.toks := rfl
@[simp] theorem State.onProbe_cle (s : State) (f : ProbeSt → ProbeSt) : (s.onProbe f).cle = s.cle := rfl
@[simp] theorem State.onProbe_fan (s : State) (f : ProbeSt → ProbeSt) : (s.onProbe f).fan = s.fan := rfl
@[simp] theorem State.onProbe_valve (s : State) (f : ProbeSt → ProbeSt) : (s.onProbe f).valve = s.valve := rfl
@[simp] theorem State.onProbe_dio (s : State) (f : ProbeSt → ProbeSt) : (s.onProbe f).dio = s.dio := rfl
@[simp] theorem State.onProbe_hl (s : State) (f : ProbeSt → ProbeSt) : (s.onProbe f).hl = s.hl := rfl
@[simp] theorem State.onProbe_power (s : State) (f : ProbeSt → ProbeSt) : (s.onProbe f).power = s.power := rfl
@[simp] theorem State.onProbe_unit (s : State) (f : ProbeSt → ProbeSt) : (s.onProbe f).unit = s.unit := rfl
@[simp] theorem State.onProbe_host (s : State) (f : ProbeSt → ProbeSt) : (s.onProbe f).host = s.host := rfl
@[simp] theorem State.onProbe_sup (s : State) (f : ProbeSt → ProbeSt) : (s.onProbe f).sup = s.sup := rfl
@[simp] theorem State.onProbe_store (s : State) (f : ProbeSt → ProbeSt) : (s.onProbe f).store = s.store := rfl
@[simp] theorem State.onProbe_lane (s : State) (f : ProbeSt → ProbeSt) : (s.onProbe f).lane = s.lane := rfl
@[simp] theorem State.onProbe_svc (s : State) (f : ProbeSt → ProbeSt) : (s.onProbe f).svc = s.svc := rfl
@[simp] theorem State.onProbe_free (s : State) (f : ProbeSt → ProbeSt) : (s.onProbe f).free = s.free := rfl
@[simp] theorem State.onProbe_pending (s : State) (f : ProbeSt → ProbeSt) : (s.onProbe f).pending = s.pending := rfl
@[simp] theorem State.onPica_time (s : State) (f : PicaSt → PicaSt) : (s.onPica f).time = s.time := rfl
@[simp] theorem State.onPica_imp (s : State) (f : PicaSt → PicaSt) : (s.onPica f).imp = s.imp := rfl
@[simp] theorem State.onPica_timers (s : State) (f : PicaSt → PicaSt) : (s.onPica f).timers = s.timers := rfl
@[simp] theorem State.onPica_cols (s : State) (f : PicaSt → PicaSt) : (s.onPica f).cols = s.cols := rfl
@[simp] theorem State.onPica_probe (s : State) (f : PicaSt → PicaSt) : (s.onPica f).probe = s.probe := rfl
@[simp] theorem State.onPica_pica (s : State) (f : PicaSt → PicaSt) : (s.onPica f).pica = f s.pica := rfl
@[simp] theorem State.onPica_toks (s : State) (f : PicaSt → PicaSt) : (s.onPica f).toks = s.toks := rfl
@[simp] theorem State.onPica_cle (s : State) (f : PicaSt → PicaSt) : (s.onPica f).cle = s.cle := rfl
@[simp] theorem State.onPica_fan (s : State) (f : PicaSt → PicaSt) : (s.onPica f).fan = s.fan := rfl
@[simp] theorem State.onPica_valve (s : State) (f : PicaSt → PicaSt) : (s.onPica f).valve = s.valve := rfl
@[simp] theorem State.onPica_dio (s : State) (f : PicaSt → PicaSt) : (s.onPica f).dio = s.dio := rfl
@[simp] theorem State.onPica_hl (s : State) (f : PicaSt → PicaSt) : (s.onPica f).hl = s.hl := rfl
@[simp] theorem State.onPica_power (s : State) (f : PicaSt → PicaSt) : (s.onPica f).power = s.power := rfl
@[simp] theorem State.onPica_unit (s : State) (f : PicaSt → PicaSt) : (s.onPica f).unit = s.unit := rfl
@[simp] theorem State.onPica_host (s : State) (f : PicaSt → PicaSt) : (s.onPica f).host = s.host := rfl
@[simp] theorem State.onPica_sup (s : State) (f : PicaSt → PicaSt) : (s.onPica f).sup = s.sup := rfl
@[simp] theorem State.onPica_store (s : State) (f : PicaSt → PicaSt) : (s.onPica f).store = s.store := rfl
@[simp] theorem State.onPica_lane (s : State) (f : PicaSt → PicaSt) : (s.onPica f).lane = s.lane := rfl
@[simp] theorem State.onPica_svc (s : State) (f : PicaSt → PicaSt) : (s.onPica f).svc = s.svc := rfl
@[simp] theorem State.onPica_free (s : State) (f : PicaSt → PicaSt) : (s.onPica f).free = s.free := rfl
@[simp] theorem State.onPica_pending (s : State) (f : PicaSt → PicaSt) : (s.onPica f).pending = s.pending := rfl
@[simp] theorem State.onCle_time (s : State) (f : CleSt → CleSt) : (s.onCle f).time = s.time := rfl
@[simp] theorem State.onCle_imp (s : State) (f : CleSt → CleSt) : (s.onCle f).imp = s.imp := rfl
@[simp] theorem State.onCle_timers (s : State) (f : CleSt → CleSt) : (s.onCle f).timers = s.timers := rfl
@[simp] theorem State.onCle_cols (s : State) (f : CleSt → CleSt) : (s.onCle f).cols = s.cols := rfl
@[simp] theorem State.onCle_probe (s : State) (f : CleSt → CleSt) : (s.onCle f).probe = s.probe := rfl
@[simp] theorem State.onCle_pica (s : State) (f : CleSt → CleSt) : (s.onCle f).pica = s.pica := rfl
@[simp] theorem State.onCle_toks (s : State) (f : CleSt → CleSt) : (s.onCle f).toks = s.toks := rfl
@[simp] theorem State.onCle_cle (s : State) (f : CleSt → CleSt) : (s.onCle f).cle = f s.cle := rfl
@[simp] theorem State.onCle_fan (s : State) (f : CleSt → CleSt) : (s.onCle f).fan = s.fan := rfl
@[simp] theorem State.onCle_valve (s : State) (f : CleSt → CleSt) : (s.onCle f).valve = s.valve := rfl
@[simp] theorem State.onCle_dio (s : State) (f : CleSt → CleSt) : (s.onCle f).dio = s.dio := rfl
@[simp] theorem State.onCle_hl (s : State) (f : CleSt → CleSt) : (s.onCle f).hl = s.hl := rfl
@[simp] theorem State.onCle_power (s : State) (f : CleSt → CleSt) : (s.onCle f).power = s.power := rfl
@[simp] theorem State.onCle_unit (s : State) (f : CleSt → CleSt) : (s.onCle f).unit = s.unit := rfl
@[simp] theorem State.onCle_host (s : State) (f : CleSt → CleSt) : (s.onCle f).host = s.host := rfl
@[simp] theorem State.onCle_sup (s : State) (f : CleSt → CleSt) : (s.onCle f).sup = s.sup := rfl
@[simp] theorem State.onCle_store (s : State) (f : CleSt → CleSt) : (s.onCle f).store = s.store := rfl
@[simp] theorem State.onCle_lane (s : State) (f : CleSt → CleSt) : (s.onCle f).lane = s.lane := rfl
@[simp] theorem State.onCle_svc (s : State) (f : CleSt → CleSt) : (s.onCle f).svc = s.svc := rfl
@[simp] theorem State.onCle_free (s : State) (f : CleSt → CleSt) : (s.onCle f).free = s.free := rfl
@[simp] theorem State.onCle_pending (s : State) (f : CleSt → CleSt) : (s.onCle f).pending = s.pending := rfl
@[simp] theorem State.onFan_time (s : State) (f : FanSt → FanSt) : (s.onFan f).time = s.time := rfl
@[simp] theorem State.onFan_imp (s : State) (f : FanSt → FanSt) : (s.onFan f).imp = s.imp := rfl
@[simp] theorem State.onFan_timers (s : State) (f : FanSt → FanSt) : (s.onFan f).timers = s.timers := rfl
@[simp] theorem State.onFan_cols (s : State) (f : FanSt → FanSt) : (s.onFan f).cols = s.cols := rfl
@[simp] theorem State.onFan_probe (s : State) (f : FanSt → FanSt) : (s.onFan f).probe = s.probe := rfl
@[simp] theorem State.onFan_pica (s : State) (f : FanSt → FanSt) : (s.onFan f).pica = s.pica := rfl
@[simp] theorem State.onFan_toks (s : State) (f : FanSt → FanSt) : (s.onFan f).toks = s.toks := rfl
@[simp] theorem State.onFan_cle (s : State) (f : FanSt → FanSt) : (s.onFan f).cle = s.cle := rfl
@[simp] theorem State.onFan_fan (s : State) (f : FanSt → FanSt) : (s.onFan f).fan = f s.fan := rfl
@[simp] theorem State.onFan_valve (s : State) (f : FanSt → FanSt) : (s.onFan f).valve = s.valve := rfl
@[simp] theorem State.onFan_dio (s : State) (f : FanSt → FanSt) : (s.onFan f).dio = s.dio := rfl
@[simp] theorem State.onFan_hl (s : State) (f : FanSt → FanSt) : (s.onFan f).hl = s.hl := rfl
@[simp] theorem State.onFan_power (s : State) (f : FanSt → FanSt) : (s.onFan f).power = s.power := rfl
@[simp] theorem State.onFan_unit (s : State) (f : FanSt → FanSt) : (s.onFan f).unit = s.unit := rfl
@[simp] theorem State.onFan_host (s : State) (f : FanSt → FanSt) : (s.onFan f).host = s.host := rfl
@[simp] theorem State.onFan_sup (s : State) (f : FanSt → FanSt) : (s.onFan f).sup = s.sup := rfl
@[simp] theorem State.onFan_store (s : State) (f : FanSt → FanSt) : (s.onFan f).store = s.store := rfl
@[simp] theorem State.onFan_lane (s : State) (f : FanSt → FanSt) : (s.onFan f).lane = s.lane := rfl
@[simp] theorem State.onFan_svc (s : State) (f : FanSt → FanSt) : (s.onFan f).svc = s.svc := rfl
@[simp] theorem State.onFan_free (s : State) (f : FanSt → FanSt) : (s.onFan f).free = s.free := rfl
@[simp] theorem State.onFan_pending (s : State) (f : FanSt → FanSt) : (s.onFan f).pending = s.pending := rfl
@[simp] theorem State.onValve_time (s : State) (f : ValveSt → ValveSt) : (s.onValve f).time = s.time := rfl
@[simp] theorem State.onValve_imp (s : State) (f : ValveSt → ValveSt) : (s.onValve f).imp = s.imp := rfl
@[simp] theorem State.onValve_timers (s : State) (f : ValveSt → ValveSt) : (s.onValve f).timers = s.timers := rfl
@[simp] theorem State.onValve_cols (s : State) (f : ValveSt → ValveSt) : (s.onValve f).cols = s.cols := rfl
@[simp] theorem State.onValve_probe (s : State) (f : ValveSt → ValveSt) : (s.onValve f).probe = s.probe := rfl
@[simp] theorem State.onValve_pica (s : State) (f : ValveSt → ValveSt) : (s.onValve f).pica = s.pica := rfl
@[simp] theorem State.onValve_toks (s : State) (f : ValveSt → ValveSt) : (s.onValve f).toks = s.toks := rfl
@[simp] theorem State.onValve_cle (s : State) (f : ValveSt → ValveSt) : (s.onValve f).cle = s.cle := rfl
@[simp] theorem State.onValve_fan (s : State) (f : ValveSt → ValveSt) : (s.onValve f).fan = s.fan := rfl
@[simp] theorem State.onValve_valve (s : State) (f : ValveSt → ValveSt) : (s.onValve f).valve = f s.valve := rfl
@[simp] theorem State.onValve_dio (s : State) (f : ValveSt → ValveSt) : (s.onValve f).dio = s.dio := rfl
@[simp] theorem State.onValve_hl (s : State) (f : ValveSt → ValveSt) : (s.onValve f).hl = s.hl := rfl
@[simp] theorem State.onValve_power (s : State) (f : ValveSt → ValveSt) : (s.onValve f).power = s.power := rfl
@[simp] theorem State.onValve_unit (s : State) (f : ValveSt → ValveSt) : (s.onValve f).unit = s.unit := rfl
@[simp] theorem State.onValve_host (s : State) (f : ValveSt → ValveSt) : (s.onValve f).host = s.host := rfl
@[simp] theorem State.onValve_sup (s : State) (f : ValveSt → ValveSt) : (s.onValve f).sup = s.sup := rfl
@[simp] theorem State.onValve_store (s : State) (f : ValveSt → ValveSt) : (s.onValve f).store = s.store := rfl
@[simp] theorem State.onValve_lane (s : State) (f : ValveSt → ValveSt) : (s.onValve f).lane = s.lane := rfl
@[simp] theorem State.onValve_svc (s : State) (f : ValveSt → ValveSt) : (s.onValve f).svc = s.svc := rfl
@[simp] theorem State.onValve_free (s : State) (f : ValveSt → ValveSt) : (s.onValve f).free = s.free := rfl
@[simp] theorem State.onValve_pending (s : State) (f : ValveSt → ValveSt) : (s.onValve f).pending = s.pending := rfl
@[simp] theorem State.onDio_time (s : State) (f : DioSt → DioSt) : (s.onDio f).time = s.time := rfl
@[simp] theorem State.onDio_imp (s : State) (f : DioSt → DioSt) : (s.onDio f).imp = s.imp := rfl
@[simp] theorem State.onDio_timers (s : State) (f : DioSt → DioSt) : (s.onDio f).timers = s.timers := rfl
@[simp] theorem State.onDio_cols (s : State) (f : DioSt → DioSt) : (s.onDio f).cols = s.cols := rfl
@[simp] theorem State.onDio_probe (s : State) (f : DioSt → DioSt) : (s.onDio f).probe = s.probe := rfl
@[simp] theorem State.onDio_pica (s : State) (f : DioSt → DioSt) : (s.onDio f).pica = s.pica := rfl
@[simp] theorem State.onDio_toks (s : State) (f : DioSt → DioSt) : (s.onDio f).toks = s.toks := rfl
@[simp] theorem State.onDio_cle (s : State) (f : DioSt → DioSt) : (s.onDio f).cle = s.cle := rfl
@[simp] theorem State.onDio_fan (s : State) (f : DioSt → DioSt) : (s.onDio f).fan = s.fan := rfl
@[simp] theorem State.onDio_valve (s : State) (f : DioSt → DioSt) : (s.onDio f).valve = s.valve := rfl
@[simp] theorem State.onDio_dio (s : State) (f : DioSt → DioSt) : (s.onDio f).dio = f s.dio := rfl
@[simp] theorem State.onDio_hl (s : State) (f : DioSt → DioSt) : (s.onDio f).hl = s.hl := rfl
@[simp] theorem State.onDio_power (s : State) (f : DioSt → DioSt) : (s.onDio f).power = s.power := rfl
@[simp] theorem State.onDio_unit (s : State) (f : DioSt → DioSt) : (s.onDio f).unit = s.unit := rfl
@[simp] theorem State.onDio_host (s : State) (f : DioSt → DioSt) : (s.onDio f).host = s.host := rfl
@[simp] theorem State.onDio_sup (s : State) (f : DioSt → DioSt) : (s.onDio f).sup = s.sup := rfl
@[simp] theorem State.onDio_store (s : State) (f : DioSt → DioSt) : (s.onDio f).store = s.store := rfl
@[simp] theorem State.onDio_lane (s : State) (f : DioSt → DioSt) : (s.onDio f).lane = s.lane := rfl
@[simp] theorem State.onDio_svc (s : State) (f : DioSt → DioSt) : (s.onDio f).svc = s.svc := rfl
@[simp] theorem State.onDio_free (s : State) (f : DioSt → DioSt) : (s.onDio f).free = s.free := rfl
@[simp] theorem State.onDio_pending (s : State) (f : DioSt → DioSt) : (s.onDio f).pending = s.pending := rfl
@[simp] theorem State.onHl_time (s : State) (f : HlSt → HlSt) : (s.onHl f).time = s.time := rfl
@[simp] theorem State.onHl_imp (s : State) (f : HlSt → HlSt) : (s.onHl f).imp = s.imp := rfl
@[simp] theorem State.onHl_timers (s : State) (f : HlSt → HlSt) : (s.onHl f).timers = s.timers := rfl
@[simp] theorem State.onHl_cols (s : State) (f : HlSt → HlSt) : (s.onHl f).cols = s.cols := rfl
@[simp] theorem State.onHl_probe (s : State) (f : HlSt → HlSt) : (s.onHl f).probe = s.probe := rfl
@[simp] theorem State.onHl_pica (s : State) (f : HlSt → HlSt) : (s.onHl f).pica = s.pica := rfl
@[simp] theorem State.onHl_toks (s : State) (f : HlSt → HlSt) : (s.onHl f).toks = s.toks := rfl
@[simp] theorem State.onHl_cle (s : State) (f : HlSt → HlSt) : (s.onHl f).cle = s.cle := rfl
@[simp] theorem State.onHl_fan (s : State) (f : HlSt → HlSt) : (s.onHl f).fan = s.fan := rfl
@[simp] theorem State.onHl_valve (s : State) (f : HlSt → HlSt) : (s.onHl f).valve = s.valve := rfl
@[simp] theorem State.onHl_dio (s : State) (f : HlSt → HlSt) : (s.onHl f).dio = s.dio := rfl
@[simp] theorem State.onHl_hl (s : State) (f : HlSt → HlSt) : (s.onHl f).hl = f s.hl := rfl
@[simp] theorem State.onHl_power (s : State) (f : HlSt → HlSt) : (s.onHl f).power = s.power := rfl
@[simp] theorem State.onHl_unit (s : State) (f : HlSt → HlSt) : (s.onHl f).unit = s.unit := rfl
@[simp] theorem State.onHl_host (s : State) (f : HlSt → HlSt) : (s.onHl f).host = s.host := rfl
@[simp] theorem State.onHl_sup (s : State) (f : HlSt → HlSt) : (s.onHl f).sup = s.sup := rfl
@[simp] theorem State.onHl_store (s : State) (f : HlSt → HlSt) : (s.onHl f).store = s.store := rfl
@[simp] theorem State.onHl_lane (s : State) (f : HlSt → HlSt) : (s.onHl f).lane = s.lane := rfl
@[simp] theorem State.onHl_svc (s : State) (f : HlSt → HlSt) : (s.onHl f).svc = s.svc := rfl
@[simp] theorem State.onHl_free (s : State) (f : HlSt → HlSt) : (s.onHl f).free = s.free := rfl
@[simp] theorem State.onHl_pending (s : State) (f : HlSt → HlSt) : (s.onHl f).pending = s.pending := rfl
@[simp] theorem State.onPower_time (s : State) (f : PowerSt → PowerSt) : (s.onPower f).time = s.time := rfl
@[simp] theorem State.onPower_imp (s : State) (f : PowerSt → PowerSt) : (s.onPower f).imp = s.imp := rfl
@[simp] theorem State.onPower_timers (s : State) (f : PowerSt → PowerSt) : (s.onPower f).timers = s.timers := rfl
@[simp] theorem State.onPower_cols (s : State) (f : PowerSt → PowerSt) : (s.onPower f).cols = s.cols := rfl
@[simp] theorem State.onPower_probe (s : State) (f : PowerSt → PowerSt) : (s.onPower f).probe = s.probe := rfl
@[simp] theorem State.onPower_pica (s : State) (f : PowerSt → PowerSt) : (s.onPower f).pica = s.pica := rfl
@[simp] theorem State.onPower_toks (s : State) (f : PowerSt → PowerSt) : (s.onPower f).toks = s.toks := rfl
@[simp] theorem State.onPower_cle (s : State) (f : PowerSt → PowerSt) : (s.onPower f).cle = s.cle := rfl
@[simp] theorem State.onPower_fan (s : State) (f : PowerSt → PowerSt) : (s.onPower f).fan = s.fan := rfl
@[simp] theorem State.onPower_valve (s : State) (f : PowerSt → PowerSt) : (s.onPower f).valve = s.valve := rfl
@[simp] theorem State.onPower_dio (s : State) (f : PowerSt → PowerSt) : (s.onPower f).dio = s.dio := rfl
@[simp] theorem State.onPower_hl (s : State) (f : PowerSt → PowerSt) : (s.onPower f).hl = s.hl := rfl
@[simp] theorem State.onPower_power (s : State) (f : PowerSt → PowerSt) : (s.onPower f).power = f s.power := rfl
@[simp] theorem State.onPower_unit (s : State) (f : PowerSt → PowerSt) : (s.onPower f).unit = s.unit := rfl
@[simp] theorem State.onPower_host (s : State) (f : PowerSt → PowerSt) : (s.onPower f).host = s.host := rfl
@[simp] theorem State.onPower_sup (s : State) (f : PowerSt → PowerSt) : (s.onPower f).sup = s.sup := rfl
@[simp] theorem State.onPower_store (s : State) (f : PowerSt → PowerSt) : (s.onPower f).store = s.store := rfl
@[simp] theorem State.onPower_lane (s : State) (f : PowerSt → PowerSt) : (s.onPower f).lane = s.lane := rfl
@[simp] theorem State.onPower_svc (s : State) (f : PowerSt → PowerSt) : (s.onPower f).svc = s.svc := rfl
@[simp] theorem State.onPower_free (s : State) (f : PowerSt → PowerSt) : (s.onPower f).free = s.free := rfl
@[simp] theorem State.onPower_pending (s : State) (f : PowerSt → PowerSt) : (s.onPower f).pending = s.pending := rfl
@[simp] theorem State.onUnit_time (s : State) (f : UnitSt → UnitSt) : (s.onUnit f).time = s.time := rfl
@[simp] theorem State.onUnit_imp (s : State) (f : UnitSt → UnitSt) : (s.onUnit f).imp = s.imp := rfl
@[simp] theorem State.onUnit_timers (s : State) (f : UnitSt → UnitSt) : (s.onUnit f).timers = s.timers := rfl
@[simp] theorem State.onUnit_cols (s : State) (f : UnitSt → UnitSt) : (s.onUnit f).cols = s.cols := rfl
@[simp] theorem State.onUnit_probe (s : State) (f : UnitSt → UnitSt) : (s.onUnit f).probe = s.probe := rfl
@[simp] theorem State.onUnit_pica (s : State) (f : UnitSt → UnitSt) : (s.onUnit f).pica = s.pica := rfl
@[simp] theorem State.onUnit_toks (s : State) (f : UnitSt → UnitSt) : (s.onUnit f).toks = s.toks := rfl
@[simp] theorem State.onUnit_cle (s : State) (f : UnitSt → UnitSt) : (s.onUnit f).cle = s.cle := rfl
@[simp] theorem State.onUnit_fan (s : State) (f : UnitSt → UnitSt) : (s.onUnit f).fan = s.fan := rfl
@[simp] theorem State.onUnit_valve (s : State) (f : UnitSt → UnitSt) : (s.onUnit f).valve = s.valve := rfl
@[simp] theorem State.onUnit_dio (s : State) (f : UnitSt → UnitSt) : (s.onUnit f).dio = s.dio := rfl
@[simp] theorem State.onUnit_hl (s : State) (f : UnitSt → UnitSt) : (s.onUnit f).hl = s.hl := rfl
@[simp] theorem State.onUnit_power (s : State) (f : UnitSt → UnitSt) : (s.onUnit f).power = s.power := rfl
@[simp] theorem State.onUnit_unit (s : State) (f : UnitSt → UnitSt) : (s.onUnit f).unit = f s.unit := rfl
@[simp] theorem State.onUnit_host (s : State) (f : UnitSt → UnitSt) : (s.onUnit f).host = s.host := rfl
@[simp] theorem State.onUnit_sup (s : State) (f : UnitSt → UnitSt) : (s.onUnit f).sup = s.sup := rfl
@[simp] theorem State.onUnit_store (s : State) (f : UnitSt → UnitSt) : (s.onUnit f).store = s.store := rfl
@[simp] theorem State.onUnit_lane (s : State) (f : UnitSt → UnitSt) : (s.onUnit f).lane = s.lane := rfl
@[simp] theorem State.onUnit_svc (s : State) (f : UnitSt → UnitSt) : (s.onUnit f).svc = s.svc := rfl
@[simp] theorem State.onUnit_free (s : State) (f : UnitSt → UnitSt) : (s.onUnit f).free = s.free := rfl
@[simp] theorem State.onUnit_pending (s : State) (f : UnitSt → UnitSt) : (s.onUnit f).pending = s.pending := rfl
@[simp] theorem State.onHost_time (s : State) (f : HostSt → HostSt) : (s.onHost f).time = s.time := rfl
@[simp] theorem State.onHost_imp (s : State) (f : HostSt → HostSt) : (s.onHost f).imp = s.imp := rfl
@[simp] theorem State.onHost_timers (s : State) (f : HostSt → HostSt) : (s.onHost f).timers = s.timers := rfl
@[simp] theorem State.onHost_cols (s : State) (f : HostSt → HostSt) : (s.onHost f).cols = s.cols := rfl
@[simp] theorem State.onHost_probe (s : State) (f : HostSt → HostSt) : (s.onHost f).probe = s.probe := rfl
@[simp] theorem State.onHost_pica (s : State) (f : HostSt → HostSt) : (s.onHost f).pica = s.pica := rfl
@[simp] theorem State.onHost_toks (s : State) (f : HostSt → HostSt) : (s.onHost f).toks = s.toks := rfl
@[simp] theorem State.onHost_cle (s : State) (f : HostSt → HostSt) : (s.onHost f).cle = s.cle := rfl
@[simp] theorem State.onHost_fan (s : State) (f : HostSt → HostSt) : (s.onHost f).fan = s.fan := rfl
@[simp] theorem State.onHost_valve (s : State) (f : HostSt → HostSt) : (s.onHost f).valve = s.valve := rfl
@[simp] theorem State.onHost_dio (s : State) (f : HostSt → HostSt) : (s.onHost f).dio = s.dio := rfl
@[simp] theorem State.onHost_hl (s : State) (f : HostSt → HostSt) : (s.onHost f).hl = s.hl := rfl
@[simp] theorem State.onHost_power (s : State) (f : HostSt → HostSt) : (s.onHost f).power = s.power := rfl
@[simp] theorem State.onHost_unit (s : State) (f : HostSt → HostSt) : (s.onHost f).unit = s.unit := rfl
@[simp] theorem State.onHost_host (s : State) (f : HostSt → HostSt) : (s.onHost f).host = f s.host := rfl
@[simp] theorem State.onHost_sup (s : State) (f : HostSt → HostSt) : (s.onHost f).sup = s.sup := rfl
@[simp] theorem State.onHost_store (s : State) (f : HostSt → HostSt) : (s.onHost f).store = s.store := rfl
@[simp] theorem State.onHost_lane (s : State) (f : HostSt → HostSt) : (s.onHost f).lane = s.lane := rfl
@[simp] theorem State.onHost_svc (s : State) (f : HostSt → HostSt) : (s.onHost f).svc = s.svc := rfl
@[simp] theorem State.onHost_free (s : State) (f : HostSt → HostSt) : (s.onHost f).free = s.free := rfl
@[simp] theorem State.onHost_pending (s : State) (f : HostSt → HostSt) : (s.onHost f).pending = s.pending := rfl
@[simp] theorem State.onSup_time (s : State) (f : SupSt → SupSt) : (s.onSup f).time = s.time := rfl
@[simp] theorem State.onSup_imp (s : State) (f : SupSt → SupSt) : (s.onSup f).imp = s.imp := rfl
@[simp] theorem State.onSup_timers (s : State) (f : SupSt → SupSt) : (s.onSup f).timers = s.timers := rfl
@[simp] theorem State.onSup_cols (s : State) (f : SupSt → SupSt) : (s.onSup f).cols = s.cols := rfl
@[simp] theorem State.onSup_probe (s : State) (f : SupSt → SupSt) : (s.onSup f).probe = s.probe := rfl
@[simp] theorem State.onSup_pica (s : State) (f : SupSt → SupSt) : (s.onSup f).pica = s.pica := rfl
@[simp] theorem State.onSup_toks (s : State) (f : SupSt → SupSt) : (s.onSup f).toks = s.toks := rfl
@[simp] theorem State.onSup_cle (s : State) (f : SupSt → SupSt) : (s.onSup f).cle = s.cle := rfl
@[simp] theorem State.onSup_fan (s : State) (f : SupSt → SupSt) : (s.onSup f).fan = s.fan := rfl
@[simp] theorem State.onSup_valve (s : State) (f : SupSt → SupSt) : (s.onSup f).valve = s.valve := rfl
@[simp] theorem State.onSup_dio (s : State) (f : SupSt → SupSt) : (s.onSup f).dio = s.dio := rfl
@[simp] theorem State.onSup_hl (s : State) (f : SupSt → SupSt) : (s.onSup f).hl = s.hl := rfl
@[simp] theorem State.onSup_power (s : State) (f : SupSt → SupSt) : (s.onSup f).power = s.power := rfl
@[simp] theorem State.onSup_unit (s : State) (f : SupSt → SupSt) : (s.onSup f).unit = s.unit := rfl
@[simp] theorem State.onSup_host (s : State) (f : SupSt → SupSt) : (s.onSup f).host = s.host := rfl
@[simp] theorem State.onSup_sup (s : State) (f : SupSt → SupSt) : (s.onSup f).sup = f s.sup := rfl
@[simp] theorem State.onSup_store (s : State) (f : SupSt → SupSt) : (s.onSup f).store = s.store := rfl
@[simp] theorem State.onSup_lane (s : State) (f : SupSt → SupSt) : (s.onSup f).lane = s.lane := rfl
@[simp] theorem State.onSup_svc (s : State) (f : SupSt → SupSt) : (s.onSup f).svc = s.svc := rfl
@[simp] theorem State.onSup_free (s : State) (f : SupSt → SupSt) : (s.onSup f).free = s.free := rfl
@[simp] theorem State.onSup_pending (s : State) (f : SupSt → SupSt) : (s.onSup f).pending = s.pending := rfl
@[simp] theorem State.onStore_time (s : State) (f : RecSt → RecSt) : (s.onStore f).time = s.time := rfl
@[simp] theorem State.onStore_imp (s : State) (f : RecSt → RecSt) : (s.onStore f).imp = s.imp := rfl
@[simp] theorem State.onStore_timers (s : State) (f : RecSt → RecSt) : (s.onStore f).timers = s.timers := rfl
@[simp] theorem State.onStore_cols (s : State) (f : RecSt → RecSt) : (s.onStore f).cols = s.cols := rfl
@[simp] theorem State.onStore_probe (s : State) (f : RecSt → RecSt) : (s.onStore f).probe = s.probe := rfl
@[simp] theorem State.onStore_pica (s : State) (f : RecSt → RecSt) : (s.onStore f).pica = s.pica := rfl
@[simp] theorem State.onStore_toks (s : State) (f : RecSt → RecSt) : (s.onStore f).toks = s.toks := rfl
@[simp] theorem State.onStore_cle (s : State) (f : RecSt → RecSt) : (s.onStore f).cle = s.cle := rfl
@[simp] theorem State.onStore_fan (s : State) (f : RecSt → RecSt) : (s.onStore f).fan = s.fan := rfl
@[simp] theorem State.onStore_valve (s : State) (f : RecSt → RecSt) : (s.onStore f).valve = s.valve := rfl
@[simp] theorem State.onStore_dio (s : State) (f : RecSt → RecSt) : (s.onStore f).dio = s.dio := rfl
@[simp] theorem State.onStore_hl (s : State) (f : RecSt → RecSt) : (s.onStore f).hl = s.hl := rfl
@[simp] theorem State.onStore_power (s : State) (f : RecSt → RecSt) : (s.onStore f).power = s.power := rfl
@[simp] theorem State.onStore_unit (s : State) (f : RecSt → RecSt) : (s.onStore f).unit = s.unit := rfl
@[simp] theorem State.onStore_host (s : State) (f : RecSt → RecSt) : (s.onStore f).host = s.host := rfl
@[simp] theorem State.onStore_sup (s : State) (f : RecSt → RecSt) : (s.onStore f).sup = s.sup := rfl
@[simp] theorem State.onStore_store (s : State) (f : RecSt → RecSt) : (s.onStore f).store = f s.store := rfl
@[simp] theorem State.onStore_lane (s : State) (f : RecSt → RecSt) : (s.onStore f).lane = s.lane := rfl
@[simp] theorem State.onStore_svc (s : State) (f : RecSt → RecSt) : (s.onStore f).svc = s.svc := rfl
@[simp] theorem State.onStore_free (s : State) (f : RecSt → RecSt) : (s.onStore f).free = s.free := rfl
@[simp] theorem State.onStore_pending (s : State) (f : RecSt → RecSt) : (s.onStore f).pending = s.pending := rfl
@[simp] theorem State.onLane_time (s : State) (f : LaneSt → LaneSt) : (s.onLane f).time = s.time := rfl
@[simp] theorem State.onLane_imp (s : State) (f : LaneSt → LaneSt) : (s.onLane f).imp = s.imp := rfl
@[simp] theorem State.onLane_timers (s : State) (f : LaneSt → LaneSt) : (s.onLane f).timers = s.timers := rfl
@[simp] theorem State.onLane_cols (s : State) (f : LaneSt → LaneSt) : (s.onLane f).cols = s.cols := rfl
@[simp] theorem State.onLane_probe (s : State) (f : LaneSt → LaneSt) : (s.onLane f).probe = s.probe := rfl
@[simp] theorem State.onLane_pica (s : State) (f : LaneSt → LaneSt) : (s.onLane f).pica = s.pica := rfl
@[simp] theorem State.onLane_toks (s : State) (f : LaneSt → LaneSt) : (s.onLane f).toks = s.toks := rfl
@[simp] theorem State.onLane_cle (s : State) (f : LaneSt → LaneSt) : (s.onLane f).cle = s.cle := rfl
@[simp] theorem State.onLane_fan (s : State) (f : LaneSt → LaneSt) : (s.onLane f).fan = s.fan := rfl
@[simp] theorem State.onLane_valve (s : State) (f : LaneSt → LaneSt) : (s.onLane f).valve = s.valve := rfl
@[simp] theorem State.onLane_dio (s : State) (f : LaneSt → LaneSt) : (s.onLane f).dio = s.dio := rfl
@[simp] theorem State.onLane_hl (s : State) (f : LaneSt → LaneSt) : (s.onLane f).hl = s.hl := rfl
@[simp] theorem State.onLane_power (s : State) (f : LaneSt → LaneSt) : (s.onLane f).power = s.power := rfl
@[simp] theorem State.onLane_unit (s : State) (f : LaneSt → LaneSt) : (s.onLane f).unit = s.unit := rfl
@[simp] theorem State.onLane_host (s : State) (f : LaneSt → LaneSt) : (s.onLane f).host = s.host := rfl
@[simp] theorem State.onLane_sup (s : State) (f : LaneSt → LaneSt) : (s.onLane f).sup = s.sup := rfl
@[simp] theorem State.onLane_store (s : State) (f : LaneSt → LaneSt) : (s.onLane f).store = s.store := rfl
@[simp] theorem State.onLane_lane (s : State) (f : LaneSt → LaneSt) : (s.onLane f).lane = f s.lane := rfl
@[simp] theorem State.onLane_svc (s : State) (f : LaneSt → LaneSt) : (s.onLane f).svc = s.svc := rfl
@[simp] theorem State.onLane_free (s : State) (f : LaneSt → LaneSt) : (s.onLane f).free = s.free := rfl
@[simp] theorem State.onLane_pending (s : State) (f : LaneSt → LaneSt) : (s.onLane f).pending = s.pending := rfl
@[simp] theorem State.onSvc_time (s : State) (f : SvcSt → SvcSt) : (s.onSvc f).time = s.time := rfl
@[simp] theorem State.onSvc_imp (s : State) (f : SvcSt → SvcSt) : (s.onSvc f).imp = s.imp := rfl
@[simp] theorem State.onSvc_timers (s : State) (f : SvcSt → SvcSt) : (s.onSvc f).timers = s.timers := rfl
@[simp] theorem State.onSvc_cols (s : State) (f : SvcSt → SvcSt) : (s.onSvc f).cols = s.cols := rfl
@[simp] theorem State.onSvc_probe (s : State) (f : SvcSt → SvcSt) : (s.onSvc f).probe = s.probe := rfl
@[simp] theorem State.onSvc_pica (s : State) (f : SvcSt → SvcSt) : (s.onSvc f).pica = s.pica := rfl
@[simp] theorem State.onSvc_toks (s : State) (f : SvcSt → SvcSt) : (s.onSvc f).toks = s.toks := rfl
@[simp] theorem State.onSvc_cle (s : State) (f : SvcSt → SvcSt) : (s.onSvc f).cle = s.cle := rfl
@[simp] theorem State.onSvc_fan (s : State) (f : SvcSt → SvcSt) : (s.onSvc f).fan = s.fan := rfl
@[simp] theorem State.onSvc_valve (s : State) (f : SvcSt → SvcSt) : (s.onSvc f).valve = s.valve := rfl
@[simp] theorem State.onSvc_dio (s : State) (f : SvcSt → SvcSt) : (s.onSvc f).dio = s.dio := rfl
@[simp] theorem State.onSvc_hl (s : State) (f : SvcSt → SvcSt) : (s.onSvc f).hl = s.hl := rfl
@[simp] theorem State.onSvc_power (s : State) (f : SvcSt → SvcSt) : (s.onSvc f).power = s.power := rfl
@[simp] theorem State.onSvc_unit (s : State) (f : SvcSt → SvcSt) : (s.onSvc f).unit = s.unit := rfl
@[simp] theorem State.onSvc_host (s : State) (f : SvcSt → SvcSt) : (s.onSvc f).host = s.host := rfl
@[simp] theorem State.onSvc_sup (s : State) (f : SvcSt → SvcSt) : (s.onSvc f).sup = s.sup := rfl
@[simp] theorem State.onSvc_store (s : State) (f : SvcSt → SvcSt) : (s.onSvc f).store = s.store := rfl
@[simp] theorem State.onSvc_lane (s : State) (f : SvcSt → SvcSt) : (s.onSvc f).lane = s.lane := rfl
@[simp] theorem State.onSvc_svc (s : State) (f : SvcSt → SvcSt) : (s.onSvc f).svc = f s.svc := rfl
@[simp] theorem State.onSvc_free (s : State) (f : SvcSt → SvcSt) : (s.onSvc f).free = s.free := rfl
@[simp] theorem State.onSvc_pending (s : State) (f : SvcSt → SvcSt) : (s.onSvc f).pending = s.pending := rfl
@[simp] theorem State.onToks_time (s : State) (f : List VTok → List VTok) : (s.onToks f).time = s.time := rfl
@[simp] theorem State.onToks_imp (s : State) (f : List VTok → List VTok) : (s.onToks f).imp = s.imp := rfl
@[simp] theorem State.onToks_timers (s : State) (f : List VTok → List VTok) : (s.onToks f).timers = s.timers := rfl
@[simp] theorem State.onToks_cols (s : State) (f : List VTok → List VTok) : (s.onToks f).cols = s.cols := rfl
@[simp] theorem State.onToks_probe (s : State) (f : List VTok → List VTok) : (s.onToks f).probe = s.probe := rfl
@[simp] theorem State.onToks_pica (s : State) (f : List VTok → List VTok) : (s.onToks f).pica = s.pica := rfl
@[simp] theorem State.onToks_toks (s : State) (f : List VTok → List VTok) : (s.onToks f).toks = f s.toks := rfl
@[simp] theorem State.onToks_cle (s : State) (f : List VTok → List VTok) : (s.onToks f).cle = s.cle := rfl
@[simp] theorem State.onToks_fan (s : State) (f : List VTok → List VTok) : (s.onToks f).fan = s.fan := rfl
@[simp] theorem State.onToks_valve (s : State) (f : List VTok → List VTok) : (s.onToks f).valve = s.valve := rfl
@[simp] theorem State.onToks_dio (s : State) (f : List VTok → List VTok) : (s.onToks f).dio = s.dio := rfl
@[simp] theorem State.onToks_hl (s : State) (f : List VTok → List VTok) : (s.onToks f).hl = s.hl := rfl
@[simp] theorem State.onToks_power (s : State) (f : List VTok → List VTok) : (s.onToks f).power = s.power := rfl
@[simp] theorem State.onToks_unit (s : State) (f : List VTok → List VTok) : (s.onToks f).unit = s.unit := rfl
@[simp] theorem State.onToks_host (s : State) (f : List VTok → List VTok) : (s.onToks f).host = s.host := rfl
@[simp] theorem State.onToks_sup (s : State) (f : List VTok → List VTok) : (s.onToks f).sup = s.sup := rfl
@[simp] theorem State.onToks_store (s : State) (f : List VTok → List VTok) : (s.onToks f).store = s.store := rfl
@[simp] theorem State.onToks_lane (s : State) (f : List VTok → List VTok) : (s.onToks f).lane = s.lane := rfl
@[simp] theorem State.onToks_svc (s : State) (f : List VTok → List VTok) : (s.onToks f).svc = s.svc := rfl
@[simp] theorem State.onToks_free (s : State) (f : List VTok → List VTok) : (s.onToks f).free = s.free := rfl
@[simp] theorem State.onToks_pending (s : State) (f : List VTok → List VTok) : (s.onToks f).pending = s.pending := rfl
@[simp] theorem State.onTimer_time (s : State) (n : Nat) (f : Timer → Timer) : (s.onTimer n f).time = s.time := rfl
@[simp] theorem State.onTimer_imp (s : State) (n : Nat) (f : Timer → Timer) : (s.onTimer n f).imp = s.imp := rfl
@[simp] theorem State.onTimer_timers (s : State) (n : Nat) (f : Timer → Timer) : (s.onTimer n f).timers = s.timers.modify n f := rfl
@[simp] theorem State.onTimer_cols (s : State) (n : Nat) (f : Timer → Timer) : (s.onTimer n f).cols = s.cols := rfl
@[simp] theorem State.onTimer_probe (s : State) (n : Nat) (f : Timer → Timer) : (s.onTimer n f).probe = s.probe := rfl
@[simp] theorem State.onTimer_pica (s : State) (n : Nat) (f : Timer → Timer) : (s.onTimer n f).pica = s.pica := rfl
@[simp] theorem State.onTimer_toks (s : State) (n : Nat) (f : Timer → Timer) : (s.onTimer n f).toks = s.toks := rfl
@[simp] theorem State.onTimer_cle (s : State) (n : Nat) (f : Timer → Timer) : (s.onTimer n f).cle = s.cle := rfl
@[simp] theorem State.onTimer_fan (s : State) (n : Nat) (f : Timer → Timer) : (s.onTimer n f).fan = s.fan := rfl
@[simp] theorem State.onTimer_valve (s : State) (n : Nat) (f : Timer → Timer) : (s.onTimer n f).valve = s.valve := rfl
@[simp] theorem State.onTimer_dio (s : State) (n : Nat) (f : Timer → Timer) : (s.onTimer n f).dio = s.dio := rfl
@[simp] theorem State.onTimer_hl (s : State) (n : Nat) (f : Timer → Timer) : (s.onTimer n f).hl = s.hl := rfl
@[simp] theorem State.onTimer_power (s : State) (n : Nat) (f : Timer → Timer) : (s.onTimer n f).power = s.power := rfl
@[simp] theorem State.onTimer_unit (s : State) (n : Nat) (f : Timer → Timer) : (s.onTimer n f).unit = s.unit := rfl
@[simp] theorem State.onTimer_host (s : State) (n : Nat) (f : Timer → Timer) : (s.onTimer n f).host = s.host := rfl
@[simp] theorem State.onTimer_sup (s : State) (n : Nat) (f : Timer → Timer) : (s.onTimer n f).sup = s.sup := rfl
@[simp] theorem State.onTimer_store (s : State) (n : Nat) (f : Timer → Timer) : (s.onTimer n f).store = s.store := rfl
@[simp] theorem State.onTimer_lane (s : State) (n : Nat) (f : Timer → Timer) : (s.onTimer n f).lane = s.lane := rfl
@[simp] theorem State.onTimer_svc (s : State) (n : Nat) (f : Timer → Timer) : (s.onTimer n f).svc = s.svc := rfl
@[simp] theorem State.onTimer_free (s : State) (n : Nat) (f : Timer → Timer) : (s.onTimer n f).free = s.free := rfl
@[simp] theorem State.onTimer_pending (s : State) (n : Nat) (f : Timer → Timer) : (s.onTimer n f).pending = s.pending := rfl
@[simp] theorem State.onCol_time (s : State) (n : Nat) (f : Column → Column) : (s.onCol n f).time = s.time := rfl
@[simp] theorem State.onCol_imp (s : State) (n : Nat) (f : Column → Column) : (s.onCol n f).imp = s.imp := rfl
@[simp] theorem State.onCol_timers (s : State) (n : Nat) (f : Column → Column) : (s.onCol n f).timers = s.timers := rfl
@[simp] theorem State.onCol_cols (s : State) (n : Nat) (f : Column → Column) : (s.onCol n f).cols = s.cols.modify n f := rfl
@[simp] theorem State.onCol_probe (s : State) (n : Nat) (f : Column → Column) : (s.onCol n f).probe = s.probe := rfl
@[simp] theorem State.onCol_pica (s : State) (n : Nat) (f : Column → Column) : (s.onCol n f).pica = s.pica := rfl
@[simp] theorem State.onCol_toks (s : State) (n : Nat) (f : Column → Column) : (s.onCol n f).toks = s.toks := rfl
@[simp] theorem State.onCol_cle (s : State) (n : Nat) (f : Column → Column) : (s.onCol n f).cle = s.cle := rfl
@[simp] theorem State.onCol_fan (s : State) (n : Nat) (f : Column → Column) : (s.onCol n f).fan = s.fan := rfl
@[simp] theorem State.onCol_valve (s : State) (n : Nat) (f : Column → Column) : (s.onCol n f).valve = s.valve := rfl
@[simp] theorem State.onCol_dio (s : State) (n : Nat) (f : Column → Column) : (s.onCol n f).dio = s.dio := rfl
@[simp] theorem State.onCol_hl (s : State) (n : Nat) (f : Column → Column) : (s.onCol n f).hl = s.hl := rfl
@[simp] theorem State.onCol_power (s : State) (n : Nat) (f : Column → Column) : (s.onCol n f).power = s.power := rfl
@[simp] theorem State.onCol_unit (s : State) (n : Nat) (f : Column → Column) : (s.onCol n f).unit = s.unit := rfl
@[simp] theorem State.onCol_host (s : State) (n : Nat) (f : Column → Column) : (s.onCol n f).host = s.host := rfl
@[simp] theorem State.onCol_sup (s : State) (n : Nat) (f : Column → Column) : (s.onCol n f).sup = s.sup := rfl
@[simp] theorem State.onCol_store (s : State) (n : Nat) (f : Column → Column) : (s.onCol n f).store = s.store := rfl
@[simp] theorem State.onCol_lane (s : State) (n : Nat) (f : Column → Column) : (s.onCol n f).lane = s.lane := rfl
@[simp] theorem State.onCol_svc (s : State) (n : Nat) (f : Column → Column) : (s.onCol n f).svc = s.svc := rfl
@[simp] theorem State.onCol_free (s : State) (n : Nat) (f : Column → Column) : (s.onCol n f).free = s.free := rfl
@[simp] theorem State.onCol_pending (s : State) (n : Nat) (f : Column → Column) : (s.onCol n f).pending = s.pending := rfl
@[simp] theorem State.onWheel_time (s : State) (n : Nat) (f : Wheel → Wheel) : (s.onWheel n f).time = { s.time with wheels := s.time.wheels.modify n f } := rfl
@[simp] theorem State.onWheel_imp (s : State) (n : Nat) (f : Wheel → Wheel) : (s.onWheel n f).imp = s.imp := rfl
@[simp] theorem State.onWheel_timers (s : State) (n : Nat) (f : Wheel → Wheel) : (s.onWheel n f).timers = s.timers := rfl
@[simp] theorem State.onWheel_cols (s : State) (n : Nat) (f : Wheel → Wheel) : (s.onWheel n f).cols = s.cols := rfl
@[simp] theorem State.onWheel_probe (s : State) (n : Nat) (f : Wheel → Wheel) : (s.onWheel n f).probe = s.probe := rfl
@[simp] theorem State.onWheel_pica (s : State) (n : Nat) (f : Wheel → Wheel) : (s.onWheel n f).pica = s.pica := rfl
@[simp] theorem State.onWheel_toks (s : State) (n : Nat) (f : Wheel → Wheel) : (s.onWheel n f).toks = s.toks := rfl
@[simp] theorem State.onWheel_cle (s : State) (n : Nat) (f : Wheel → Wheel) : (s.onWheel n f).cle = s.cle := rfl
@[simp] theorem State.onWheel_fan (s : State) (n : Nat) (f : Wheel → Wheel) : (s.onWheel n f).fan = s.fan := rfl
@[simp] theorem State.onWheel_valve (s : State) (n : Nat) (f : Wheel → Wheel) : (s.onWheel n f).valve = s.valve := rfl
@[simp] theorem State.onWheel_dio (s : State) (n : Nat) (f : Wheel → Wheel) : (s.onWheel n f).dio = s.dio := rfl
@[simp] theorem State.onWheel_hl (s : State) (n : Nat) (f : Wheel → Wheel) : (s.onWheel n f).hl = s.hl := rfl
@[simp] theorem State.onWheel_power (s : State) (n : Nat) (f : Wheel → Wheel) : (s.onWheel n f).power = s.power := rfl
@[simp] theorem State.onWheel_unit (s : State) (n : Nat) (f : Wheel → Wheel) : (s.onWheel n f).unit = s.unit := rfl
@[simp] theorem State.onWheel_host (s : State) (n : Nat) (f : Wheel → Wheel) : (s.onWheel n f).host = s.host := rfl
@[simp] theorem State.onWheel_sup (s : State) (n : Nat) (f : Wheel → Wheel) : (s.onWheel n f).sup = s.sup := rfl
@[simp] theorem State.onWheel_store (s : State) (n : Nat) (f : Wheel → Wheel) : (s.onWheel n f).store = s.store := rfl
@[simp] theorem State.onWheel_lane (s : State) (n : Nat) (f : Wheel → Wheel) : (s.onWheel n f).lane = s.lane := rfl
@[simp] theorem State.onWheel_svc (s : State) (n : Nat) (f : Wheel → Wheel) : (s.onWheel n f).svc = s.svc := rfl
@[simp] theorem State.onWheel_free (s : State) (n : Nat) (f : Wheel → Wheel) : (s.onWheel n f).free = s.free := rfl
@[simp] theorem State.onWheel_pending (s : State) (n : Nat) (f : Wheel → Wheel) : (s.onWheel n f).pending = s.pending := rfl
@[simp] theorem State.onChan_time (s : State) (n : Nat) (f : Chan → Chan) : (s.onChan n f).time = s.time := rfl
@[simp] theorem State.onChan_imp (s : State) (n : Nat) (f : Chan → Chan) : (s.onChan n f).imp = s.imp := rfl
@[simp] theorem State.onChan_timers (s : State) (n : Nat) (f : Chan → Chan) : (s.onChan n f).timers = s.timers := rfl
@[simp] theorem State.onChan_cols (s : State) (n : Nat) (f : Chan → Chan) : (s.onChan n f).cols = s.cols := rfl
@[simp] theorem State.onChan_probe (s : State) (n : Nat) (f : Chan → Chan) : (s.onChan n f).probe = { s.probe with chans := s.probe.chans.modify n f } := rfl
@[simp] theorem State.onChan_pica (s : State) (n : Nat) (f : Chan → Chan) : (s.onChan n f).pica = s.pica := rfl
@[simp] theorem State.onChan_toks (s : State) (n : Nat) (f : Chan → Chan) : (s.onChan n f).toks = s.toks := rfl
@[simp] theorem State.onChan_cle (s : State) (n : Nat) (f : Chan → Chan) : (s.onChan n f).cle = s.cle := rfl
@[simp] theorem State.onChan_fan (s : State) (n : Nat) (f : Chan → Chan) : (s.onChan n f).fan = s.fan := rfl
@[simp] theorem State.onChan_valve (s : State) (n : Nat) (f : Chan → Chan) : (s.onChan n f).valve = s.valve := rfl
@[simp] theorem State.onChan_dio (s : State) (n : Nat) (f : Chan → Chan) : (s.onChan n f).dio = s.dio := rfl
@[simp] theorem State.onChan_hl (s : State) (n : Nat) (f : Chan → Chan) : (s.onChan n f).hl = s.hl := rfl
@[simp] theorem State.onChan_power (s : State) (n : Nat) (f : Chan → Chan) : (s.onChan n f).power = s.power := rfl
@[simp] theorem State.onChan_unit (s : State) (n : Nat) (f : Chan → Chan) : (s.onChan n f).unit = s.unit := rfl
@[simp] theorem State.onChan_host (s : State) (n : Nat) (f : Chan → Chan) : (s.onChan n f).host = s.host := rfl
@[simp] theorem State.onChan_sup (s : State) (n : Nat) (f : Chan → Chan) : (s.onChan n f).sup = s.sup := rfl
@[simp] theorem State.onChan_store (s : State) (n : Nat) (f : Chan → Chan) : (s.onChan n f).store = s.store := rfl
@[simp] theorem State.onChan_lane (s : State) (n : Nat) (f : Chan → Chan) : (s.onChan n f).lane = s.lane := rfl
@[simp] theorem State.onChan_svc (s : State) (n : Nat) (f : Chan → Chan) : (s.onChan n f).svc = s.svc := rfl
@[simp] theorem State.onChan_free (s : State) (n : Nat) (f : Chan → Chan) : (s.onChan n f).free = s.free := rfl
@[simp] theorem State.onChan_pending (s : State) (n : Nat) (f : Chan → Chan) : (s.onChan n f).pending = s.pending := rfl
@[simp] theorem State.onGroup_time (s : State) (n : Nat) (f : Group → Group) : (s.onGroup n f).time = s.time := rfl
@[simp] theorem State.onGroup_imp (s : State) (n : Nat) (f : Group → Group) : (s.onGroup n f).imp = s.imp := rfl
@[simp] theorem State.onGroup_timers (s : State) (n : Nat) (f : Group → Group) : (s.onGroup n f).timers = s.timers := rfl
@[simp] theorem State.onGroup_cols (s : State) (n : Nat) (f : Group → Group) : (s.onGroup n f).cols = s.cols := rfl
@[simp] theorem State.onGroup_probe (s : State) (n : Nat) (f : Group → Group) : (s.onGroup n f).probe = { s.probe with groups := s.probe.groups.modify n f } := rfl
@[simp] theorem State.onGroup_pica (s : State) (n : Nat) (f : Group → Group) : (s.onGroup n f).pica = s.pica := rfl
@[simp] theorem State.onGroup_toks (s : State) (n : Nat) (f : Group → Group) : (s.onGroup n f).toks = s.toks := rfl
@[simp] theorem State.onGroup_cle (s : State) (n : Nat) (f : Group → Group) : (s.onGroup n f).cle = s.cle := rfl
@[simp] theorem State.onGroup_fan (s : State) (n : Nat) (f : Group → Group) : (s.onGroup n f).fan = s.fan := rfl
@[simp] theorem State.onGroup_valve (s : State) (n : Nat) (f : Group → Group) : (s.onGroup n f).valve = s.valve := rfl
@[simp] theorem State.onGroup_dio (s : State) (n : Nat) (f : Group → Group) : (s.onGroup n f).dio = s.dio := rfl
@[simp] theorem State.onGroup_hl (s : State) (n : Nat) (f : Group → Group) : (s.onGroup n f).hl = s.hl := rfl
@[simp] theorem State.onGroup_power (s : State) (n : Nat) (f : Group → Group) : (s.onGroup n f).power = s.power := rfl
@[simp] theorem State.onGroup_unit (s : State) (n : Nat) (f : Group → Group) : (s.onGroup n f).unit = s.unit := rfl
@[simp] theorem State.onGroup_host (s : State) (n : Nat) (f : Group → Group) : (s.onGroup n f).host = s.host := rfl
@[simp] theorem State.onGroup_sup (s : State) (n : Nat) (f : Group → Group) : (s.onGroup n f).sup = s.sup := rfl
@[simp] theorem State.onGroup_store (s : State) (n : Nat) (f : Group → Group) : (s.onGroup n f).store = s.store := rfl
@[simp] theorem State.onGroup_lane (s : State) (n : Nat) (f : Group → Group) : (s.onGroup n f).lane = s.lane := rfl
@[simp] theorem State.onGroup_svc (s : State) (n : Nat) (f : Group → Group) : (s.onGroup n f).svc = s.svc := rfl
@[simp] theorem State.onGroup_free (s : State) (n : Nat) (f : Group → Group) : (s.onGroup n f).free = s.free := rfl
@[simp] theorem State.onGroup_pending (s : State) (n : Nat) (f : Group → Group) : (s.onGroup n f).pending = s.pending := rfl
@[simp] theorem State.onPort_time (s : State) (n : Nat) (f : Port → Port) : (s.onPort n f).time = s.time := rfl
@[simp] theorem State.onPort_imp (s : State) (n : Nat) (f : Port → Port) : (s.onPort n f).imp = s.imp := rfl
@[simp] theorem State.onPort_timers (s : State) (n : Nat) (f : Port → Port) : (s.onPort n f).timers = s.timers := rfl
@[simp] theorem State.onPort_cols (s : State) (n : Nat) (f : Port → Port) : (s.onPort n f).cols = s.cols := rfl
@[simp] theorem State.onPort_probe (s : State) (n : Nat) (f : Port → Port) : (s.onPort n f).probe = s.probe := rfl
@[simp] theorem State.onPort_pica (s : State) (n : Nat) (f : Port → Port) : (s.onPort n f).pica = { s.pica with ports := s.pica.ports.modify n f } := rfl
@[simp] theorem State.onPort_toks (s : State) (n : Nat) (f : Port → Port) : (s.onPort n f).toks = s.toks := rfl
@[simp] theorem State.onPort_cle (s : State) (n : Nat) (f : Port → Port) : (s.onPort n f).cle = s.cle := rfl
@[simp] theorem State.onPort_fan (s : State) (n : Nat) (f : Port → Port) : (s.onPort n f).fan = s.fan := rfl
@[simp] theorem State.onPort_valve (s : State) (n : Nat) (f : Port → Port) : (s.onPort n f).valve = s.valve := rfl
@[simp] theorem State.onPort_dio (s : State) (n : Nat) (f : Port → Port) : (s.onPort n f).dio = s.dio := rfl
@[simp] theorem State.onPort_hl (s : State) (n : Nat) (f : Port → Port) : (s.onPort n f).hl = s.hl := rfl
@[simp] theorem State.onPort_power (s : State) (n : Nat) (f : Port → Port) : (s.onPort n f).power = s.power := rfl
@[simp] theorem State.onPort_unit (s : State) (n : Nat) (f : Port → Port) : (s.onPort n f).unit = s.unit := rfl
@[simp] theorem State.onPort_host (s : State) (n : Nat) (f : Port → Port) : (s.onPort n f).host = s.host := rfl
@[simp] theorem State.onPort_sup (s : State) (n : Nat) (f : Port → Port) : (s.onPort n f).sup = s.sup := rfl
@[simp] theorem State.onPort_store (s : State) (n : Nat) (f : Port → Port) : (s.onPort n f).store = s.store := rfl
@[simp] theorem State.onPort_lane (s : State) (n : Nat) (f : Port → Port) : (s.onPort n f).lane = s.lane := rfl
@[simp] theorem State.onPort_svc (s : State) (n : Nat) (f : Port → Port) : (s.onPort n f).svc = s.svc := rfl
@[simp] theorem State.onPort_free (s : State) (n : Nat) (f : Port → Port) : (s.onPort n f).free = s.free := rfl
@[simp] theorem State.onPort_pending (s : State) (n : Nat) (f : Port → Port) : (s.onPort n f).pending = s.pending := rfl
@[simp] theorem State.onZone_time (s : State) (n : Nat) (f : Zone → Zone) : (s.onZone n f).time = s.time := rfl
@[simp] theorem State.onZone_imp (s : State) (n : Nat) (f : Zone → Zone) : (s.onZone n f).imp = s.imp := rfl
@[simp] theorem State.onZone_timers (s : State) (n : Nat) (f : Zone → Zone) : (s.onZone n f).timers = s.timers := rfl
@[simp] theorem State.onZone_cols (s : State) (n : Nat) (f : Zone → Zone) : (s.onZone n f).cols = s.cols := rfl
@[simp] theorem State.onZone_probe (s : State) (n : Nat) (f : Zone → Zone) : (s.onZone n f).probe = s.probe := rfl
@[simp] theorem State.onZone_pica (s : State) (n : Nat) (f : Zone → Zone) : (s.onZone n f).pica = { s.pica with zones := s.pica.zones.modify n f } := rfl
@[simp] theorem State.onZone_toks (s : State) (n : Nat) (f : Zone → Zone) : (s.onZone n f).toks = s.toks := rfl
@[simp] theorem State.onZone_cle (s : State) (n : Nat) (f : Zone → Zone) : (s.onZone n f).cle = s.cle := rfl
@[simp] theorem State.onZone_fan (s : State) (n : Nat) (f : Zone → Zone) : (s.onZone n f).fan = s.fan := rfl
@[simp] theorem State.onZone_valve (s : State) (n : Nat) (f : Zone → Zone) : (s.onZone n f).valve = s.valve := rfl
@[simp] theorem State.onZone_dio (s : State) (n : Nat) (f : Zone → Zone) : (s.onZone n f).dio = s.dio := rfl
@[simp] theorem State.onZone_hl (s : State) (n : Nat) (f : Zone → Zone) : (s.onZone n f).hl = s.hl := rfl
@[simp] theorem State.onZone_power (s : State) (n : Nat) (f : Zone → Zone) : (s.onZone n f).power = s.power := rfl
@[simp] theorem State.onZone_unit (s : State) (n : Nat) (f : Zone → Zone) : (s.onZone n f).unit = s.unit := rfl
@[simp] theorem State.onZone_host (s : State) (n : Nat) (f : Zone → Zone) : (s.onZone n f).host = s.host := rfl
@[simp] theorem State.onZone_sup (s : State) (n : Nat) (f : Zone → Zone) : (s.onZone n f).sup = s.sup := rfl
@[simp] theorem State.onZone_store (s : State) (n : Nat) (f : Zone → Zone) : (s.onZone n f).store = s.store := rfl
@[simp] theorem State.onZone_lane (s : State) (n : Nat) (f : Zone → Zone) : (s.onZone n f).lane = s.lane := rfl
@[simp] theorem State.onZone_svc (s : State) (n : Nat) (f : Zone → Zone) : (s.onZone n f).svc = s.svc := rfl
@[simp] theorem State.onZone_free (s : State) (n : Nat) (f : Zone → Zone) : (s.onZone n f).free = s.free := rfl
@[simp] theorem State.onZone_pending (s : State) (n : Nat) (f : Zone → Zone) : (s.onZone n f).pending = s.pending := rfl
@[simp] theorem State.onLoop_time (s : State) (n : Nat) (f : Loop → Loop) : (s.onLoop n f).time = s.time := rfl
@[simp] theorem State.onLoop_imp (s : State) (n : Nat) (f : Loop → Loop) : (s.onLoop n f).imp = s.imp := rfl
@[simp] theorem State.onLoop_timers (s : State) (n : Nat) (f : Loop → Loop) : (s.onLoop n f).timers = s.timers := rfl
@[simp] theorem State.onLoop_cols (s : State) (n : Nat) (f : Loop → Loop) : (s.onLoop n f).cols = s.cols := rfl
@[simp] theorem State.onLoop_probe (s : State) (n : Nat) (f : Loop → Loop) : (s.onLoop n f).probe = s.probe := rfl
@[simp] theorem State.onLoop_pica (s : State) (n : Nat) (f : Loop → Loop) : (s.onLoop n f).pica = s.pica := rfl
@[simp] theorem State.onLoop_toks (s : State) (n : Nat) (f : Loop → Loop) : (s.onLoop n f).toks = s.toks := rfl
@[simp] theorem State.onLoop_cle (s : State) (n : Nat) (f : Loop → Loop) : (s.onLoop n f).cle = { s.cle with loops := s.cle.loops.modify n f } := rfl
@[simp] theorem State.onLoop_fan (s : State) (n : Nat) (f : Loop → Loop) : (s.onLoop n f).fan = s.fan := rfl
@[simp] theorem State.onLoop_valve (s : State) (n : Nat) (f : Loop → Loop) : (s.onLoop n f).valve = s.valve := rfl
@[simp] theorem State.onLoop_dio (s : State) (n : Nat) (f : Loop → Loop) : (s.onLoop n f).dio = s.dio := rfl
@[simp] theorem State.onLoop_hl (s : State) (n : Nat) (f : Loop → Loop) : (s.onLoop n f).hl = s.hl := rfl
@[simp] theorem State.onLoop_power (s : State) (n : Nat) (f : Loop → Loop) : (s.onLoop n f).power = s.power := rfl
@[simp] theorem State.onLoop_unit (s : State) (n : Nat) (f : Loop → Loop) : (s.onLoop n f).unit = s.unit := rfl
@[simp] theorem State.onLoop_host (s : State) (n : Nat) (f : Loop → Loop) : (s.onLoop n f).host = s.host := rfl
@[simp] theorem State.onLoop_sup (s : State) (n : Nat) (f : Loop → Loop) : (s.onLoop n f).sup = s.sup := rfl
@[simp] theorem State.onLoop_store (s : State) (n : Nat) (f : Loop → Loop) : (s.onLoop n f).store = s.store := rfl
@[simp] theorem State.onLoop_lane (s : State) (n : Nat) (f : Loop → Loop) : (s.onLoop n f).lane = s.lane := rfl
@[simp] theorem State.onLoop_svc (s : State) (n : Nat) (f : Loop → Loop) : (s.onLoop n f).svc = s.svc := rfl
@[simp] theorem State.onLoop_free (s : State) (n : Nat) (f : Loop → Loop) : (s.onLoop n f).free = s.free := rfl
@[simp] theorem State.onLoop_pending (s : State) (n : Nat) (f : Loop → Loop) : (s.onLoop n f).pending = s.pending := rfl
@[simp] theorem State.onGal_time (s : State) (n : Nat) (f : Galley → Galley) : (s.onGal n f).time = s.time := rfl
@[simp] theorem State.onGal_imp (s : State) (n : Nat) (f : Galley → Galley) : (s.onGal n f).imp = s.imp := rfl
@[simp] theorem State.onGal_timers (s : State) (n : Nat) (f : Galley → Galley) : (s.onGal n f).timers = s.timers := rfl
@[simp] theorem State.onGal_cols (s : State) (n : Nat) (f : Galley → Galley) : (s.onGal n f).cols = s.cols := rfl
@[simp] theorem State.onGal_probe (s : State) (n : Nat) (f : Galley → Galley) : (s.onGal n f).probe = s.probe := rfl
@[simp] theorem State.onGal_pica (s : State) (n : Nat) (f : Galley → Galley) : (s.onGal n f).pica = s.pica := rfl
@[simp] theorem State.onGal_toks (s : State) (n : Nat) (f : Galley → Galley) : (s.onGal n f).toks = s.toks := rfl
@[simp] theorem State.onGal_cle (s : State) (n : Nat) (f : Galley → Galley) : (s.onGal n f).cle = { s.cle with galleys := s.cle.galleys.modify n f } := rfl
@[simp] theorem State.onGal_fan (s : State) (n : Nat) (f : Galley → Galley) : (s.onGal n f).fan = s.fan := rfl
@[simp] theorem State.onGal_valve (s : State) (n : Nat) (f : Galley → Galley) : (s.onGal n f).valve = s.valve := rfl
@[simp] theorem State.onGal_dio (s : State) (n : Nat) (f : Galley → Galley) : (s.onGal n f).dio = s.dio := rfl
@[simp] theorem State.onGal_hl (s : State) (n : Nat) (f : Galley → Galley) : (s.onGal n f).hl = s.hl := rfl
@[simp] theorem State.onGal_power (s : State) (n : Nat) (f : Galley → Galley) : (s.onGal n f).power = s.power := rfl
@[simp] theorem State.onGal_unit (s : State) (n : Nat) (f : Galley → Galley) : (s.onGal n f).unit = s.unit := rfl
@[simp] theorem State.onGal_host (s : State) (n : Nat) (f : Galley → Galley) : (s.onGal n f).host = s.host := rfl
@[simp] theorem State.onGal_sup (s : State) (n : Nat) (f : Galley → Galley) : (s.onGal n f).sup = s.sup := rfl
@[simp] theorem State.onGal_store (s : State) (n : Nat) (f : Galley → Galley) : (s.onGal n f).store = s.store := rfl
@[simp] theorem State.onGal_lane (s : State) (n : Nat) (f : Galley → Galley) : (s.onGal n f).lane = s.lane := rfl
@[simp] theorem State.onGal_svc (s : State) (n : Nat) (f : Galley → Galley) : (s.onGal n f).svc = s.svc := rfl
@[simp] theorem State.onGal_free (s : State) (n : Nat) (f : Galley → Galley) : (s.onGal n f).free = s.free := rfl
@[simp] theorem State.onGal_pending (s : State) (n : Nat) (f : Galley → Galley) : (s.onGal n f).pending = s.pending := rfl
@[simp] theorem State.onDrive_time (s : State) (n : Nat) (f : Drive → Drive) : (s.onDrive n f).time = s.time := rfl
@[simp] theorem State.onDrive_imp (s : State) (n : Nat) (f : Drive → Drive) : (s.onDrive n f).imp = s.imp := rfl
@[simp] theorem State.onDrive_timers (s : State) (n : Nat) (f : Drive → Drive) : (s.onDrive n f).timers = s.timers := rfl
@[simp] theorem State.onDrive_cols (s : State) (n : Nat) (f : Drive → Drive) : (s.onDrive n f).cols = s.cols := rfl
@[simp] theorem State.onDrive_probe (s : State) (n : Nat) (f : Drive → Drive) : (s.onDrive n f).probe = s.probe := rfl
@[simp] theorem State.onDrive_pica (s : State) (n : Nat) (f : Drive → Drive) : (s.onDrive n f).pica = s.pica := rfl
@[simp] theorem State.onDrive_toks (s : State) (n : Nat) (f : Drive → Drive) : (s.onDrive n f).toks = s.toks := rfl
@[simp] theorem State.onDrive_cle (s : State) (n : Nat) (f : Drive → Drive) : (s.onDrive n f).cle = s.cle := rfl
@[simp] theorem State.onDrive_fan (s : State) (n : Nat) (f : Drive → Drive) : (s.onDrive n f).fan = { s.fan with drives := s.fan.drives.modify n f } := rfl
@[simp] theorem State.onDrive_valve (s : State) (n : Nat) (f : Drive → Drive) : (s.onDrive n f).valve = s.valve := rfl
@[simp] theorem State.onDrive_dio (s : State) (n : Nat) (f : Drive → Drive) : (s.onDrive n f).dio = s.dio := rfl
@[simp] theorem State.onDrive_hl (s : State) (n : Nat) (f : Drive → Drive) : (s.onDrive n f).hl = s.hl := rfl
@[simp] theorem State.onDrive_power (s : State) (n : Nat) (f : Drive → Drive) : (s.onDrive n f).power = s.power := rfl
@[simp] theorem State.onDrive_unit (s : State) (n : Nat) (f : Drive → Drive) : (s.onDrive n f).unit = s.unit := rfl
@[simp] theorem State.onDrive_host (s : State) (n : Nat) (f : Drive → Drive) : (s.onDrive n f).host = s.host := rfl
@[simp] theorem State.onDrive_sup (s : State) (n : Nat) (f : Drive → Drive) : (s.onDrive n f).sup = s.sup := rfl
@[simp] theorem State.onDrive_store (s : State) (n : Nat) (f : Drive → Drive) : (s.onDrive n f).store = s.store := rfl
@[simp] theorem State.onDrive_lane (s : State) (n : Nat) (f : Drive → Drive) : (s.onDrive n f).lane = s.lane := rfl
@[simp] theorem State.onDrive_svc (s : State) (n : Nat) (f : Drive → Drive) : (s.onDrive n f).svc = s.svc := rfl
@[simp] theorem State.onDrive_free (s : State) (n : Nat) (f : Drive → Drive) : (s.onDrive n f).free = s.free := rfl
@[simp] theorem State.onDrive_pending (s : State) (n : Nat) (f : Drive → Drive) : (s.onDrive n f).pending = s.pending := rfl
@[simp] theorem State.onFg_time (s : State) (n : Nat) (f : FanGroup → FanGroup) : (s.onFg n f).time = s.time := rfl
@[simp] theorem State.onFg_imp (s : State) (n : Nat) (f : FanGroup → FanGroup) : (s.onFg n f).imp = s.imp := rfl
@[simp] theorem State.onFg_timers (s : State) (n : Nat) (f : FanGroup → FanGroup) : (s.onFg n f).timers = s.timers := rfl
@[simp] theorem State.onFg_cols (s : State) (n : Nat) (f : FanGroup → FanGroup) : (s.onFg n f).cols = s.cols := rfl
@[simp] theorem State.onFg_probe (s : State) (n : Nat) (f : FanGroup → FanGroup) : (s.onFg n f).probe = s.probe := rfl
@[simp] theorem State.onFg_pica (s : State) (n : Nat) (f : FanGroup → FanGroup) : (s.onFg n f).pica = s.pica := rfl
@[simp] theorem State.onFg_toks (s : State) (n : Nat) (f : FanGroup → FanGroup) : (s.onFg n f).toks = s.toks := rfl
@[simp] theorem State.onFg_cle (s : State) (n : Nat) (f : FanGroup → FanGroup) : (s.onFg n f).cle = s.cle := rfl
@[simp] theorem State.onFg_fan (s : State) (n : Nat) (f : FanGroup → FanGroup) : (s.onFg n f).fan = { s.fan with groups := s.fan.groups.modify n f } := rfl
@[simp] theorem State.onFg_valve (s : State) (n : Nat) (f : FanGroup → FanGroup) : (s.onFg n f).valve = s.valve := rfl
@[simp] theorem State.onFg_dio (s : State) (n : Nat) (f : FanGroup → FanGroup) : (s.onFg n f).dio = s.dio := rfl
@[simp] theorem State.onFg_hl (s : State) (n : Nat) (f : FanGroup → FanGroup) : (s.onFg n f).hl = s.hl := rfl
@[simp] theorem State.onFg_power (s : State) (n : Nat) (f : FanGroup → FanGroup) : (s.onFg n f).power = s.power := rfl
@[simp] theorem State.onFg_unit (s : State) (n : Nat) (f : FanGroup → FanGroup) : (s.onFg n f).unit = s.unit := rfl
@[simp] theorem State.onFg_host (s : State) (n : Nat) (f : FanGroup → FanGroup) : (s.onFg n f).host = s.host := rfl
@[simp] theorem State.onFg_sup (s : State) (n : Nat) (f : FanGroup → FanGroup) : (s.onFg n f).sup = s.sup := rfl
@[simp] theorem State.onFg_store (s : State) (n : Nat) (f : FanGroup → FanGroup) : (s.onFg n f).store = s.store := rfl
@[simp] theorem State.onFg_lane (s : State) (n : Nat) (f : FanGroup → FanGroup) : (s.onFg n f).lane = s.lane := rfl
@[simp] theorem State.onFg_svc (s : State) (n : Nat) (f : FanGroup → FanGroup) : (s.onFg n f).svc = s.svc := rfl
@[simp] theorem State.onFg_free (s : State) (n : Nat) (f : FanGroup → FanGroup) : (s.onFg n f).free = s.free := rfl
@[simp] theorem State.onFg_pending (s : State) (n : Nat) (f : FanGroup → FanGroup) : (s.onFg n f).pending = s.pending := rfl
@[simp] theorem State.onSv_time (s : State) (n : Nat) (f : Valve → Valve) : (s.onSv n f).time = s.time := rfl
@[simp] theorem State.onSv_imp (s : State) (n : Nat) (f : Valve → Valve) : (s.onSv n f).imp = s.imp := rfl
@[simp] theorem State.onSv_timers (s : State) (n : Nat) (f : Valve → Valve) : (s.onSv n f).timers = s.timers := rfl
@[simp] theorem State.onSv_cols (s : State) (n : Nat) (f : Valve → Valve) : (s.onSv n f).cols = s.cols := rfl
@[simp] theorem State.onSv_probe (s : State) (n : Nat) (f : Valve → Valve) : (s.onSv n f).probe = s.probe := rfl
@[simp] theorem State.onSv_pica (s : State) (n : Nat) (f : Valve → Valve) : (s.onSv n f).pica = s.pica := rfl
@[simp] theorem State.onSv_toks (s : State) (n : Nat) (f : Valve → Valve) : (s.onSv n f).toks = s.toks := rfl
@[simp] theorem State.onSv_cle (s : State) (n : Nat) (f : Valve → Valve) : (s.onSv n f).cle = s.cle := rfl
@[simp] theorem State.onSv_fan (s : State) (n : Nat) (f : Valve → Valve) : (s.onSv n f).fan = s.fan := rfl
@[simp] theorem State.onSv_valve (s : State) (n : Nat) (f : Valve → Valve) : (s.onSv n f).valve = { s.valve with svs := s.valve.svs.modify n f } := rfl
@[simp] theorem State.onSv_dio (s : State) (n : Nat) (f : Valve → Valve) : (s.onSv n f).dio = s.dio := rfl
@[simp] theorem State.onSv_hl (s : State) (n : Nat) (f : Valve → Valve) : (s.onSv n f).hl = s.hl := rfl
@[simp] theorem State.onSv_power (s : State) (n : Nat) (f : Valve → Valve) : (s.onSv n f).power = s.power := rfl
@[simp] theorem State.onSv_unit (s : State) (n : Nat) (f : Valve → Valve) : (s.onSv n f).unit = s.unit := rfl
@[simp] theorem State.onSv_host (s : State) (n : Nat) (f : Valve → Valve) : (s.onSv n f).host = s.host := rfl
@[simp] theorem State.onSv_sup (s : State) (n : Nat) (f : Valve → Valve) : (s.onSv n f).sup = s.sup := rfl
@[simp] theorem State.onSv_store (s : State) (n : Nat) (f : Valve → Valve) : (s.onSv n f).store = s.store := rfl
@[simp] theorem State.onSv_lane (s : State) (n : Nat) (f : Valve → Valve) : (s.onSv n f).lane = s.lane := rfl
@[simp] theorem State.onSv_svc (s : State) (n : Nat) (f : Valve → Valve) : (s.onSv n f).svc = s.svc := rfl
@[simp] theorem State.onSv_free (s : State) (n : Nat) (f : Valve → Valve) : (s.onSv n f).free = s.free := rfl
@[simp] theorem State.onSv_pending (s : State) (n : Nat) (f : Valve → Valve) : (s.onSv n f).pending = s.pending := rfl
@[simp] theorem State.onDin_time (s : State) (n : Nat) (f : Din → Din) : (s.onDin n f).time = s.time := rfl
@[simp] theorem State.onDin_imp (s : State) (n : Nat) (f : Din → Din) : (s.onDin n f).imp = s.imp := rfl
@[simp] theorem State.onDin_timers (s : State) (n : Nat) (f : Din → Din) : (s.onDin n f).timers = s.timers := rfl
@[simp] theorem State.onDin_cols (s : State) (n : Nat) (f : Din → Din) : (s.onDin n f).cols = s.cols := rfl
@[simp] theorem State.onDin_probe (s : State) (n : Nat) (f : Din → Din) : (s.onDin n f).probe = s.probe := rfl
@[simp] theorem State.onDin_pica (s : State) (n : Nat) (f : Din → Din) : (s.onDin n f).pica = s.pica := rfl
@[simp] theorem State.onDin_toks (s : State) (n : Nat) (f : Din → Din) : (s.onDin n f).toks = s.toks := rfl
@[simp] theorem State.onDin_cle (s : State) (n : Nat) (f : Din → Din) : (s.onDin n f).cle = s.cle := rfl
@[simp] theorem State.onDin_fan (s : State) (n : Nat) (f : Din → Din) : (s.onDin n f).fan = s.fan := rfl
@[simp] theorem State.onDin_valve (s : State) (n : Nat) (f : Din → Din) : (s.onDin n f).valve = s.valve := rfl
@[simp] theorem State.onDin_dio (s : State) (n : Nat) (f : Din → Din) : (s.onDin n f).dio = { s.dio with ins := s.dio.ins.modify n f } := rfl
@[simp] theorem State.onDin_hl (s : State) (n : Nat) (f : Din → Din) : (s.onDin n f).hl = s.hl := rfl
@[simp] theorem State.onDin_power (s : State) (n : Nat) (f : Din → Din) : (s.onDin n f).power = s.power := rfl
@[simp] theorem State.onDin_unit (s : State) (n : Nat) (f : Din → Din) : (s.onDin n f).unit = s.unit := rfl
@[simp] theorem State.onDin_host (s : State) (n : Nat) (f : Din → Din) : (s.onDin n f).host = s.host := rfl
@[simp] theorem State.onDin_sup (s : State) (n : Nat) (f : Din → Din) : (s.onDin n f).sup = s.sup := rfl
@[simp] theorem State.onDin_store (s : State) (n : Nat) (f : Din → Din) : (s.onDin n f).store = s.store := rfl
@[simp] theorem State.onDin_lane (s : State) (n : Nat) (f : Din → Din) : (s.onDin n f).lane = s.lane := rfl
@[simp] theorem State.onDin_svc (s : State) (n : Nat) (f : Din → Din) : (s.onDin n f).svc = s.svc := rfl
@[simp] theorem State.onDin_free (s : State) (n : Nat) (f : Din → Din) : (s.onDin n f).free = s.free := rfl
@[simp] theorem State.onDin_pending (s : State) (n : Nat) (f : Din → Din) : (s.onDin n f).pending = s.pending := rfl
@[simp] theorem State.onDout_time (s : State) (n : Nat) (f : Dout → Dout) : (s.onDout n f).time = s.time := rfl
@[simp] theorem State.onDout_imp (s : State) (n : Nat) (f : Dout → Dout) : (s.onDout n f).imp = s.imp := rfl
@[simp] theorem State.onDout_timers (s : State) (n : Nat) (f : Dout → Dout) : (s.onDout n f).timers = s.timers := rfl
@[simp] theorem State.onDout_cols (s : State) (n : Nat) (f : Dout → Dout) : (s.onDout n f).cols = s.cols := rfl
@[simp] theorem State.onDout_probe (s : State) (n : Nat) (f : Dout → Dout) : (s.onDout n f).probe = s.probe := rfl
@[simp] theorem State.onDout_pica (s : State) (n : Nat) (f : Dout → Dout) : (s.onDout n f).pica = s.pica := rfl
@[simp] theorem State.onDout_toks (s : State) (n : Nat) (f : Dout → Dout) : (s.onDout n f).toks = s.toks := rfl
@[simp] theorem State.onDout_cle (s : State) (n : Nat) (f : Dout → Dout) : (s.onDout n f).cle = s.cle := rfl
@[simp] theorem State.onDout_fan (s : State) (n : Nat) (f : Dout → Dout) : (s.onDout n f).fan = s.fan := rfl
@[simp] theorem State.onDout_valve (s : State) (n : Nat) (f : Dout → Dout) : (s.onDout n f).valve = s.valve := rfl
@[simp] theorem State.onDout_dio (s : State) (n : Nat) (f : Dout → Dout) : (s.onDout n f).dio = { s.dio with outs := s.dio.outs.modify n f } := rfl
@[simp] theorem State.onDout_hl (s : State) (n : Nat) (f : Dout → Dout) : (s.onDout n f).hl = s.hl := rfl
@[simp] theorem State.onDout_power (s : State) (n : Nat) (f : Dout → Dout) : (s.onDout n f).power = s.power := rfl
@[simp] theorem State.onDout_unit (s : State) (n : Nat) (f : Dout → Dout) : (s.onDout n f).unit = s.unit := rfl
@[simp] theorem State.onDout_host (s : State) (n : Nat) (f : Dout → Dout) : (s.onDout n f).host = s.host := rfl
@[simp] theorem State.onDout_sup (s : State) (n : Nat) (f : Dout → Dout) : (s.onDout n f).sup = s.sup := rfl
@[simp] theorem State.onDout_store (s : State) (n : Nat) (f : Dout → Dout) : (s.onDout n f).store = s.store := rfl
@[simp] theorem State.onDout_lane (s : State) (n : Nat) (f : Dout → Dout) : (s.onDout n f).lane = s.lane := rfl
@[simp] theorem State.onDout_svc (s : State) (n : Nat) (f : Dout → Dout) : (s.onDout n f).svc = s.svc := rfl
@[simp] theorem State.onDout_free (s : State) (n : Nat) (f : Dout → Dout) : (s.onDout n f).free = s.free := rfl
@[simp] theorem State.onDout_pending (s : State) (n : Nat) (f : Dout → Dout) : (s.onDout n f).pending = s.pending := rfl
@[simp] theorem State.onQueue_time (s : State) (n : Nat) (f : Queue → Queue) : (s.onQueue n f).time = s.time := rfl
@[simp] theorem State.onQueue_imp (s : State) (n : Nat) (f : Queue → Queue) : (s.onQueue n f).imp = s.imp := rfl
@[simp] theorem State.onQueue_timers (s : State) (n : Nat) (f : Queue → Queue) : (s.onQueue n f).timers = s.timers := rfl
@[simp] theorem State.onQueue_cols (s : State) (n : Nat) (f : Queue → Queue) : (s.onQueue n f).cols = s.cols := rfl
@[simp] theorem State.onQueue_probe (s : State) (n : Nat) (f : Queue → Queue) : (s.onQueue n f).probe = s.probe := rfl
@[simp] theorem State.onQueue_pica (s : State) (n : Nat) (f : Queue → Queue) : (s.onQueue n f).pica = s.pica := rfl
@[simp] theorem State.onQueue_toks (s : State) (n : Nat) (f : Queue → Queue) : (s.onQueue n f).toks = s.toks := rfl
@[simp] theorem State.onQueue_cle (s : State) (n : Nat) (f : Queue → Queue) : (s.onQueue n f).cle = s.cle := rfl
@[simp] theorem State.onQueue_fan (s : State) (n : Nat) (f : Queue → Queue) : (s.onQueue n f).fan = s.fan := rfl
@[simp] theorem State.onQueue_valve (s : State) (n : Nat) (f : Queue → Queue) : (s.onQueue n f).valve = s.valve := rfl
@[simp] theorem State.onQueue_dio (s : State) (n : Nat) (f : Queue → Queue) : (s.onQueue n f).dio = s.dio := rfl
@[simp] theorem State.onQueue_hl (s : State) (n : Nat) (f : Queue → Queue) : (s.onQueue n f).hl = s.hl := rfl
@[simp] theorem State.onQueue_power (s : State) (n : Nat) (f : Queue → Queue) : (s.onQueue n f).power = s.power := rfl
@[simp] theorem State.onQueue_unit (s : State) (n : Nat) (f : Queue → Queue) : (s.onQueue n f).unit = s.unit := rfl
@[simp] theorem State.onQueue_host (s : State) (n : Nat) (f : Queue → Queue) : (s.onQueue n f).host = { s.host with queues := s.host.queues.map fun x => if x.num = n then f x else x } := rfl
@[simp] theorem State.onQueue_sup (s : State) (n : Nat) (f : Queue → Queue) : (s.onQueue n f).sup = s.sup := rfl
@[simp] theorem State.onQueue_store (s : State) (n : Nat) (f : Queue → Queue) : (s.onQueue n f).store = s.store := rfl
@[simp] theorem State.onQueue_lane (s : State) (n : Nat) (f : Queue → Queue) : (s.onQueue n f).lane = s.lane := rfl
@[simp] theorem State.onQueue_svc (s : State) (n : Nat) (f : Queue → Queue) : (s.onQueue n f).svc = s.svc := rfl
@[simp] theorem State.onQueue_free (s : State) (n : Nat) (f : Queue → Queue) : (s.onQueue n f).free = s.free := rfl
@[simp] theorem State.onQueue_pending (s : State) (n : Nat) (f : Queue → Queue) : (s.onQueue n f).pending = s.pending := rfl
@[simp] theorem State.onSession_time (s : State) (n : Nat) (f : Session → Session) : (s.onSession n f).time = s.time := rfl
@[simp] theorem State.onSession_imp (s : State) (n : Nat) (f : Session → Session) : (s.onSession n f).imp = s.imp := rfl
@[simp] theorem State.onSession_timers (s : State) (n : Nat) (f : Session → Session) : (s.onSession n f).timers = s.timers := rfl
@[simp] theorem State.onSession_cols (s : State) (n : Nat) (f : Session → Session) : (s.onSession n f).cols = s.cols := rfl
@[simp] theorem State.onSession_probe (s : State) (n : Nat) (f : Session → Session) : (s.onSession n f).probe = s.probe := rfl
@[simp] theorem State.onSession_pica (s : State) (n : Nat) (f : Session → Session) : (s.onSession n f).pica = s.pica := rfl
@[simp] theorem State.onSession_toks (s : State) (n : Nat) (f : Session → Session) : (s.onSession n f).toks = s.toks := rfl
@[simp] theorem State.onSession_cle (s : State) (n : Nat) (f : Session → Session) : (s.onSession n f).cle = s.cle := rfl
@[simp] theorem State.onSession_fan (s : State) (n : Nat) (f : Session → Session) : (s.onSession n f).fan = s.fan := rfl
@[simp] theorem State.onSession_valve (s : State) (n : Nat) (f : Session → Session) : (s.onSession n f).valve = s.valve := rfl
@[simp] theorem State.onSession_dio (s : State) (n : Nat) (f : Session → Session) : (s.onSession n f).dio = s.dio := rfl
@[simp] theorem State.onSession_hl (s : State) (n : Nat) (f : Session → Session) : (s.onSession n f).hl = s.hl := rfl
@[simp] theorem State.onSession_power (s : State) (n : Nat) (f : Session → Session) : (s.onSession n f).power = s.power := rfl
@[simp] theorem State.onSession_unit (s : State) (n : Nat) (f : Session → Session) : (s.onSession n f).unit = s.unit := rfl
@[simp] theorem State.onSession_host (s : State) (n : Nat) (f : Session → Session) : (s.onSession n f).host = { s.host with sessions := s.host.sessions.map fun x => if x.sid = n then f x else x } := rfl
@[simp] theorem State.onSession_sup (s : State) (n : Nat) (f : Session → Session) : (s.onSession n f).sup = s.sup := rfl
@[simp] theorem State.onSession_store (s : State) (n : Nat) (f : Session → Session) : (s.onSession n f).store = s.store := rfl
@[simp] theorem State.onSession_lane (s : State) (n : Nat) (f : Session → Session) : (s.onSession n f).lane = s.lane := rfl
@[simp] theorem State.onSession_svc (s : State) (n : Nat) (f : Session → Session) : (s.onSession n f).svc = s.svc := rfl
@[simp] theorem State.onSession_free (s : State) (n : Nat) (f : Session → Session) : (s.onSession n f).free = s.free := rfl
@[simp] theorem State.onSession_pending (s : State) (n : Nat) (f : Session → Session) : (s.onSession n f).pending = s.pending := rfl
@[simp] theorem State.onFlight_time (s : State) (n : Nat) (f : Flight → Flight) : (s.onFlight n f).time = s.time := rfl
@[simp] theorem State.onFlight_imp (s : State) (n : Nat) (f : Flight → Flight) : (s.onFlight n f).imp = s.imp := rfl
@[simp] theorem State.onFlight_timers (s : State) (n : Nat) (f : Flight → Flight) : (s.onFlight n f).timers = s.timers := rfl
@[simp] theorem State.onFlight_cols (s : State) (n : Nat) (f : Flight → Flight) : (s.onFlight n f).cols = s.cols := rfl
@[simp] theorem State.onFlight_probe (s : State) (n : Nat) (f : Flight → Flight) : (s.onFlight n f).probe = s.probe := rfl
@[simp] theorem State.onFlight_pica (s : State) (n : Nat) (f : Flight → Flight) : (s.onFlight n f).pica = s.pica := rfl
@[simp] theorem State.onFlight_toks (s : State) (n : Nat) (f : Flight → Flight) : (s.onFlight n f).toks = s.toks := rfl
@[simp] theorem State.onFlight_cle (s : State) (n : Nat) (f : Flight → Flight) : (s.onFlight n f).cle = s.cle := rfl
@[simp] theorem State.onFlight_fan (s : State) (n : Nat) (f : Flight → Flight) : (s.onFlight n f).fan = s.fan := rfl
@[simp] theorem State.onFlight_valve (s : State) (n : Nat) (f : Flight → Flight) : (s.onFlight n f).valve = s.valve := rfl
@[simp] theorem State.onFlight_dio (s : State) (n : Nat) (f : Flight → Flight) : (s.onFlight n f).dio = s.dio := rfl
@[simp] theorem State.onFlight_hl (s : State) (n : Nat) (f : Flight → Flight) : (s.onFlight n f).hl = s.hl := rfl
@[simp] theorem State.onFlight_power (s : State) (n : Nat) (f : Flight → Flight) : (s.onFlight n f).power = s.power := rfl
@[simp] theorem State.onFlight_unit (s : State) (n : Nat) (f : Flight → Flight) : (s.onFlight n f).unit = s.unit := rfl
@[simp] theorem State.onFlight_host (s : State) (n : Nat) (f : Flight → Flight) : (s.onFlight n f).host = { s.host with flights := s.host.flights.map fun x => if x.f = n then f x else x } := rfl
@[simp] theorem State.onFlight_sup (s : State) (n : Nat) (f : Flight → Flight) : (s.onFlight n f).sup = s.sup := rfl
@[simp] theorem State.onFlight_store (s : State) (n : Nat) (f : Flight → Flight) : (s.onFlight n f).store = s.store := rfl
@[simp] theorem State.onFlight_lane (s : State) (n : Nat) (f : Flight → Flight) : (s.onFlight n f).lane = s.lane := rfl
@[simp] theorem State.onFlight_svc (s : State) (n : Nat) (f : Flight → Flight) : (s.onFlight n f).svc = s.svc := rfl
@[simp] theorem State.onFlight_free (s : State) (n : Nat) (f : Flight → Flight) : (s.onFlight n f).free = s.free := rfl
@[simp] theorem State.onFlight_pending (s : State) (n : Nat) (f : Flight → Flight) : (s.onFlight n f).pending = s.pending := rfl
@[simp] theorem State.onNode_time (s : State) (n : Nat) (f : Node → Node) : (s.onNode n f).time = s.time := rfl
@[simp] theorem State.onNode_imp (s : State) (n : Nat) (f : Node → Node) : (s.onNode n f).imp = s.imp := rfl
@[simp] theorem State.onNode_timers (s : State) (n : Nat) (f : Node → Node) : (s.onNode n f).timers = s.timers := rfl
@[simp] theorem State.onNode_cols (s : State) (n : Nat) (f : Node → Node) : (s.onNode n f).cols = s.cols := rfl
@[simp] theorem State.onNode_probe (s : State) (n : Nat) (f : Node → Node) : (s.onNode n f).probe = s.probe := rfl
@[simp] theorem State.onNode_pica (s : State) (n : Nat) (f : Node → Node) : (s.onNode n f).pica = s.pica := rfl
@[simp] theorem State.onNode_toks (s : State) (n : Nat) (f : Node → Node) : (s.onNode n f).toks = s.toks := rfl
@[simp] theorem State.onNode_cle (s : State) (n : Nat) (f : Node → Node) : (s.onNode n f).cle = s.cle := rfl
@[simp] theorem State.onNode_fan (s : State) (n : Nat) (f : Node → Node) : (s.onNode n f).fan = s.fan := rfl
@[simp] theorem State.onNode_valve (s : State) (n : Nat) (f : Node → Node) : (s.onNode n f).valve = s.valve := rfl
@[simp] theorem State.onNode_dio (s : State) (n : Nat) (f : Node → Node) : (s.onNode n f).dio = s.dio := rfl
@[simp] theorem State.onNode_hl (s : State) (n : Nat) (f : Node → Node) : (s.onNode n f).hl = s.hl := rfl
@[simp] theorem State.onNode_power (s : State) (n : Nat) (f : Node → Node) : (s.onNode n f).power = s.power := rfl
@[simp] theorem State.onNode_unit (s : State) (n : Nat) (f : Node → Node) : (s.onNode n f).unit = s.unit := rfl
@[simp] theorem State.onNode_host (s : State) (n : Nat) (f : Node → Node) : (s.onNode n f).host = s.host := rfl
@[simp] theorem State.onNode_sup (s : State) (n : Nat) (f : Node → Node) : (s.onNode n f).sup = s.sup := rfl
@[simp] theorem State.onNode_store (s : State) (n : Nat) (f : Node → Node) : (s.onNode n f).store = s.store := rfl
@[simp] theorem State.onNode_lane (s : State) (n : Nat) (f : Node → Node) : (s.onNode n f).lane = { s.lane with nodes := spSet {} s.lane.nodes n (f (spGetD {} s.lane.nodes n)) } := rfl
@[simp] theorem State.onNode_svc (s : State) (n : Nat) (f : Node → Node) : (s.onNode n f).svc = s.svc := rfl
@[simp] theorem State.onNode_free (s : State) (n : Nat) (f : Node → Node) : (s.onNode n f).free = s.free := rfl
@[simp] theorem State.onNode_pending (s : State) (n : Nat) (f : Node → Node) : (s.onNode n f).pending = s.pending := rfl
@[simp] theorem State.elapse_time (s : State) (dt : Nat) :
    (s.elapse dt).time = { s.time with mt := if s.power.on then s.mtAfter dt else s.time.mt } := by
  unfold State.elapse; split <;> rfl
@[simp] theorem State.elapse_imp (s : State) (dt : Nat) : (s.elapse dt).imp = s.imp := by
  unfold State.elapse; split <;> rfl
@[simp] theorem State.elapse_timers (s : State) (dt : Nat) : (s.elapse dt).timers = s.timers := by
  unfold State.elapse; split <;> rfl
@[simp] theorem State.elapse_cols (s : State) (dt : Nat) : (s.elapse dt).cols = s.cols := by
  unfold State.elapse; split <;> rfl
@[simp] theorem State.elapse_probe (s : State) (dt : Nat) : (s.elapse dt).probe = s.probe := by
  unfold State.elapse; split <;> rfl
@[simp] theorem State.elapse_pica (s : State) (dt : Nat) : (s.elapse dt).pica = s.pica := by
  unfold State.elapse; split <;> rfl
@[simp] theorem State.elapse_toks (s : State) (dt : Nat) : (s.elapse dt).toks = s.toks := by
  unfold State.elapse; split <;> rfl
@[simp] theorem State.elapse_cle (s : State) (dt : Nat) : (s.elapse dt).cle = s.cle := by
  unfold State.elapse; split <;> rfl
@[simp] theorem State.elapse_fan (s : State) (dt : Nat) : (s.elapse dt).fan = s.fan := by
  unfold State.elapse; split <;> rfl
@[simp] theorem State.elapse_valve (s : State) (dt : Nat) : (s.elapse dt).valve = s.valve := by
  unfold State.elapse; split <;> rfl
@[simp] theorem State.elapse_dio (s : State) (dt : Nat) : (s.elapse dt).dio = s.dio := by
  unfold State.elapse; split <;> rfl
@[simp] theorem State.elapse_hl (s : State) (dt : Nat) : (s.elapse dt).hl = s.hl := by
  unfold State.elapse; split <;> rfl
@[simp] theorem State.elapse_power (s : State) (dt : Nat) :
    (s.elapse dt).power = { s.power with
      time := if s.power.on then s.power.time.modify s.power.cur (· + dt) else s.power.time
      lfReal := if s.power.on then s.power.lfReal + dt else s.power.lfReal } := by
  unfold State.elapse; split <;> rfl
@[simp] theorem State.elapse_unit (s : State) (dt : Nat) : (s.elapse dt).unit = s.unit := by
  unfold State.elapse; split <;> rfl
@[simp] theorem State.elapse_host (s : State) (dt : Nat) : (s.elapse dt).host = s.host := by
  unfold State.elapse; split <;> rfl
@[simp] theorem State.elapse_sup (s : State) (dt : Nat) : (s.elapse dt).sup = s.sup := by
  unfold State.elapse; split <;> rfl
@[simp] theorem State.elapse_store (s : State) (dt : Nat) : (s.elapse dt).store = s.store := by
  unfold State.elapse; split <;> rfl
@[simp] theorem State.elapse_lane (s : State) (dt : Nat) : (s.elapse dt).lane = s.lane := by
  unfold State.elapse; split <;> rfl
@[simp] theorem State.elapse_svc (s : State) (dt : Nat) : (s.elapse dt).svc = s.svc := by
  unfold State.elapse; split <;> rfl
@[simp] theorem State.elapse_free (s : State) (dt : Nat) : (s.elapse dt).free = s.free := by
  unfold State.elapse; split <;> rfl
@[simp] theorem State.elapse_pending (s : State) (dt : Nat) : (s.elapse dt).pending = s.pending := by
  unfold State.elapse; split <;> rfl
@[simp] theorem State.fresh_time (s : State) : s.fresh.2.time = s.time := rfl
@[simp] theorem State.fresh_imp (s : State) : s.fresh.2.imp = s.imp := rfl
@[simp] theorem State.fresh_timers (s : State) : s.fresh.2.timers = s.timers := rfl
@[simp] theorem State.fresh_cols (s : State) : s.fresh.2.cols = s.cols := rfl
@[simp] theorem State.fresh_probe (s : State) : s.fresh.2.probe = s.probe := rfl
@[simp] theorem State.fresh_pica (s : State) : s.fresh.2.pica = s.pica := rfl
@[simp] theorem State.fresh_toks (s : State) : s.fresh.2.toks = s.toks := rfl
@[simp] theorem State.fresh_cle (s : State) : s.fresh.2.cle = s.cle := rfl
@[simp] theorem State.fresh_fan (s : State) : s.fresh.2.fan = s.fan := rfl
@[simp] theorem State.fresh_valve (s : State) : s.fresh.2.valve = s.valve := rfl
@[simp] theorem State.fresh_dio (s : State) : s.fresh.2.dio = s.dio := rfl
@[simp] theorem State.fresh_hl (s : State) : s.fresh.2.hl = s.hl := rfl
@[simp] theorem State.fresh_power (s : State) : s.fresh.2.power = s.power := rfl
@[simp] theorem State.fresh_unit (s : State) : s.fresh.2.unit = s.unit := rfl
@[simp] theorem State.fresh_host (s : State) : s.fresh.2.host = s.host := rfl
@[simp] theorem State.fresh_sup (s : State) : s.fresh.2.sup = s.sup := rfl
@[simp] theorem State.fresh_store (s : State) : s.fresh.2.store = s.store := rfl
@[simp] theorem State.fresh_lane (s : State) : s.fresh.2.lane = s.lane := rfl
@[simp] theorem State.fresh_svc (s : State) : s.fresh.2.svc = s.svc := rfl
@[simp] theorem State.fresh_free (s : State) : s.fresh.2.free = s.free + 1 := rfl
@[simp] theorem State.fresh_pending (s : State) : s.fresh.2.pending = s.pending := rfl

end Sys2Proof.Machine
end

