-- ==== Sys2Proof/Laws/Ops.lean ====
section
/-! SUPPORT. What the shared operations can do: the parts of the state that a slug, an input record, a stream entry and
a completion leave alone, and what they write in the others. -/

namespace Sys2Proof.Machine

@[simp] theorem State.putSlug_time (s : State) (sl : Slug) (eq : Option Nat) :
    (s.putSlug sl eq).time = s.time := rfl
@[simp] theorem State.putSlug_imp (s : State) (sl : Slug) (eq : Option Nat) :
    (s.putSlug sl eq).imp = s.imp := rfl
@[simp] theorem State.putSlug_timers (s : State) (sl : Slug) (eq : Option Nat) :
    (s.putSlug sl eq).timers = s.timers := rfl
@[simp] theorem State.putSlug_cols (s : State) (sl : Slug) (eq : Option Nat) :
    (s.putSlug sl eq).cols = s.cols := rfl
@[simp] theorem State.putSlug_probe (s : State) (sl : Slug) (eq : Option Nat) :
    (s.putSlug sl eq).probe = s.probe := rfl
@[simp] theorem State.putSlug_pica (s : State) (sl : Slug) (eq : Option Nat) :
    (s.putSlug sl eq).pica = s.pica := rfl
@[simp] theorem State.putSlug_toks (s : State) (sl : Slug) (eq : Option Nat) :
    (s.putSlug sl eq).toks = s.toks := rfl
@[simp] theorem State.putSlug_cle (s : State) (sl : Slug) (eq : Option Nat) :
    (s.putSlug sl eq).cle = s.cle := rfl
@[simp] theorem State.putSlug_fan (s : State) (sl : Slug) (eq : Option Nat) :
    (s.putSlug sl eq).fan = s.fan := rfl
@[simp] theorem State.putSlug_valve (s : State) (sl : Slug) (eq : Option Nat) :
    (s.putSlug sl eq).valve = s.valve := rfl
@[simp] theorem State.putSlug_dio (s : State) (sl : Slug) (eq : Option Nat) :
    (s.putSlug sl eq).dio = s.dio := rfl
@[simp] theorem State.putSlug_hl (s : State) (sl : Slug) (eq : Option Nat) :
    (s.putSlug sl eq).hl = s.hl := rfl
@[simp] theorem State.putSlug_power (s : State) (sl : Slug) (eq : Option Nat) :
    (s.putSlug sl eq).power = s.power := rfl
@[simp] theorem State.putSlug_unit (s : State) (sl : Slug) (eq : Option Nat) :
    (s.putSlug sl eq).unit = s.unit := rfl
@[simp] theorem State.putSlug_sup (s : State) (sl : Slug) (eq : Option Nat) :
    (s.putSlug sl eq).sup = s.sup := rfl
@[simp] theorem State.putSlug_lane (s : State) (sl : Slug) (eq : Option Nat) :
    (s.putSlug sl eq).lane = s.lane := rfl
@[simp] theorem State.putSlug_free (s : State) (sl : Slug) (eq : Option Nat) :
    (s.putSlug sl eq).free = s.free := rfl
@[simp] theorem State.putSlug_pending (s : State) (sl : Slug) (eq : Option Nat) :
    (s.putSlug sl eq).pending = s.pending := rfl
@[simp] theorem State.slug_time (s : State) (src kind : Nat) (cls : SlugClass) (obj after before : Nat) (v1 v2 : Int) (rel : Nat) (bytes : List Nat)
    (eq : Option Nat) (audit : Bool) (at_ : Option Nat) (live : Bool) :
    (s.slug src kind cls obj after before v1 v2 rel bytes eq audit at_ live).time = s.time := by
  unfold State.slug; split <;> rfl
@[simp] theorem State.slug_imp (s : State) (src kind : Nat) (cls : SlugClass) (obj after before : Nat) (v1 v2 : Int) (rel : Nat) (bytes : List Nat)
    (eq : Option Nat) (audit : Bool) (at_ : Option Nat) (live : Bool) :
    (s.slug src kind cls obj after before v1 v2 rel bytes eq audit at_ live).imp = s.imp := by
  unfold State.slug; split <;> rfl
@[simp] theorem State.slug_timers (s : State) (src kind : Nat) (cls : SlugClass) (obj after before : Nat) (v1 v2 : Int) (rel : Nat) (bytes : List Nat)
    (eq : Option Nat) (audit : Bool) (at_ : Option Nat) (live : Bool) :
    (s.slug src kind cls obj after before v1 v2 rel bytes eq audit at_ live).timers = s.timers := by
  unfold State.slug; split <;> rfl
@[simp] theorem State.slug_cols (s : State) (src kind : Nat) (cls : SlugClass) (obj after before : Nat) (v1 v2 : Int) (rel : Nat) (bytes : List Nat)
    (eq : Option Nat) (audit : Bool) (at_ : Option Nat) (live : Bool) :
    (s.slug src kind cls obj after before v1 v2 rel bytes eq audit at_ live).cols = s.cols := by
  unfold State.slug; split <;> rfl
@[simp] theorem State.slug_probe (s : State) (src kind : Nat) (cls : SlugClass) (obj after before : Nat) (v1 v2 : Int) (rel : Nat) (bytes : List Nat)
    (eq : Option Nat) (audit : Bool) (at_ : Option Nat) (live : Bool) :
    (s.slug src kind cls obj after before v1 v2 rel bytes eq audit at_ live).probe = s.probe := by
  unfold State.slug; split <;> rfl
@[simp] theorem State.slug_pica (s : State) (src kind : Nat) (cls : SlugClass) (obj after before : Nat) (v1 v2 : Int) (rel : Nat) (bytes : List Nat)
    (eq : Option Nat) (audit : Bool) (at_ : Option Nat) (live : Bool) :
    (s.slug src kind cls obj after before v1 v2 rel bytes eq audit at_ live).pica = s.pica := by
  unfold State.slug; split <;> rfl
@[simp] theorem State.slug_toks (s : State) (src kind : Nat) (cls : SlugClass) (obj after before : Nat) (v1 v2 : Int) (rel : Nat) (bytes : List Nat)
    (eq : Option Nat) (audit : Bool) (at_ : Option Nat) (live : Bool) :
    (s.slug src kind cls obj after before v1 v2 rel bytes eq audit at_ live).toks = s.toks := by
  unfold State.slug; split <;> rfl
@[simp] theorem State.slug_cle (s : State) (src kind : Nat) (cls : SlugClass) (obj after before : Nat) (v1 v2 : Int) (rel : Nat) (bytes : List Nat)
    (eq : Option Nat) (audit : Bool) (at_ : Option Nat) (live : Bool) :
    (s.slug src kind cls obj after before v1 v2 rel bytes eq audit at_ live).cle = s.cle := by
  unfold State.slug; split <;> rfl
@[simp] theorem State.slug_fan (s : State) (src kind : Nat) (cls : SlugClass) (obj after before : Nat) (v1 v2 : Int) (rel : Nat) (bytes : List Nat)
    (eq : Option Nat) (audit : Bool) (at_ : Option Nat) (live : Bool) :
    (s.slug src kind cls obj after before v1 v2 rel bytes eq audit at_ live).fan = s.fan := by
  unfold State.slug; split <;> rfl
@[simp] theorem State.slug_valve (s : State) (src kind : Nat) (cls : SlugClass) (obj after before : Nat) (v1 v2 : Int) (rel : Nat) (bytes : List Nat)
    (eq : Option Nat) (audit : Bool) (at_ : Option Nat) (live : Bool) :
    (s.slug src kind cls obj after before v1 v2 rel bytes eq audit at_ live).valve = s.valve := by
  unfold State.slug; split <;> rfl
@[simp] theorem State.slug_dio (s : State) (src kind : Nat) (cls : SlugClass) (obj after before : Nat) (v1 v2 : Int) (rel : Nat) (bytes : List Nat)
    (eq : Option Nat) (audit : Bool) (at_ : Option Nat) (live : Bool) :
    (s.slug src kind cls obj after before v1 v2 rel bytes eq audit at_ live).dio = s.dio := by
  unfold State.slug; split <;> rfl
@[simp] theorem State.slug_hl (s : State) (src kind : Nat) (cls : SlugClass) (obj after before : Nat) (v1 v2 : Int) (rel : Nat) (bytes : List Nat)
    (eq : Option Nat) (audit : Bool) (at_ : Option Nat) (live : Bool) :
    (s.slug src kind cls obj after before v1 v2 rel bytes eq audit at_ live).hl = s.hl := by
  unfold State.slug; split <;> rfl
@[simp] theorem State.slug_power (s : State) (src kind : Nat) (cls : SlugClass) (obj after before : Nat) (v1 v2 : Int) (rel : Nat) (bytes : List Nat)
    (eq : Option Nat) (audit : Bool) (at_ : Option Nat) (live : Bool) :
    (s.slug src kind cls obj after before v1 v2 rel bytes eq audit at_ live).power = s.power := by
  unfold State.slug; split <;> rfl
@[simp] theorem State.slug_unit (s : State) (src kind : Nat) (cls : SlugClass) (obj after before : Nat) (v1 v2 : Int) (rel : Nat) (bytes : List Nat)
    (eq : Option Nat) (audit : Bool) (at_ : Option Nat) (live : Bool) :
    (s.slug src kind cls obj after before v1 v2 rel bytes eq audit at_ live).unit = s.unit := by
  unfold State.slug; split <;> rfl
@[simp] theorem State.slug_sup (s : State) (src kind : Nat) (cls : SlugClass) (obj after before : Nat) (v1 v2 : Int) (rel : Nat) (bytes : List Nat)
    (eq : Option Nat) (audit : Bool) (at_ : Option Nat) (live : Bool) :
    (s.slug src kind cls obj after before v1 v2 rel bytes eq audit at_ live).sup = s.sup := by
  unfold State.slug; split <;> rfl
@[simp] theorem State.slug_lane (s : State) (src kind : Nat) (cls : SlugClass) (obj after before : Nat) (v1 v2 : Int) (rel : Nat) (bytes : List Nat)
    (eq : Option Nat) (audit : Bool) (at_ : Option Nat) (live : Bool) :
    (s.slug src kind cls obj after before v1 v2 rel bytes eq audit at_ live).lane = s.lane := by
  unfold State.slug; split <;> rfl
@[simp] theorem State.slug_free (s : State) (src kind : Nat) (cls : SlugClass) (obj after before : Nat) (v1 v2 : Int) (rel : Nat) (bytes : List Nat)
    (eq : Option Nat) (audit : Bool) (at_ : Option Nat) (live : Bool) :
    (s.slug src kind cls obj after before v1 v2 rel bytes eq audit at_ live).free = s.free := by
  unfold State.slug; split <;> rfl
@[simp] theorem State.slug_pending (s : State) (src kind : Nat) (cls : SlugClass) (obj after before : Nat) (v1 v2 : Int) (rel : Nat) (bytes : List Nat)
    (eq : Option Nat) (audit : Bool) (at_ : Option Nat) (live : Bool) :
    (s.slug src kind cls obj after before v1 v2 rel bytes eq audit at_ live).pending = s.pending := by
  unfold State.slug; split <;> rfl
@[simp] theorem State.audit_time (s : State) (sid role fp status op target : Nat) (items : List Nat) :
    (s.audit sid role fp status op target items).time = s.time := by
  simp [State.audit]
@[simp] theorem State.audit_imp (s : State) (sid role fp status op target : Nat) (items : List Nat) :
    (s.audit sid role fp status op target items).imp = s.imp := by
  simp [State.audit]
@[simp] theorem State.audit_timers (s : State) (sid role fp status op target : Nat) (items : List Nat) :
    (s.audit sid role fp status op target items).timers = s.timers := by
  simp [State.audit]
@[simp] theorem State.audit_cols (s : State) (sid role fp status op target : Nat) (items : List Nat) :
    (s.audit sid role fp status op target items).cols = s.cols := by
  simp [State.audit]
@[simp] theorem State.audit_probe (s : State) (sid role fp status op target : Nat) (items : List Nat) :
    (s.audit sid role fp status op target items).probe = s.probe := by
  simp [State.audit]
@[simp] theorem State.audit_pica (s : State) (sid role fp status op target : Nat) (items : List Nat) :
    (s.audit sid role fp status op target items).pica = s.pica := by
  simp [State.audit]
@[simp] theorem State.audit_toks (s : State) (sid role fp status op target : Nat) (items : List Nat) :
    (s.audit sid role fp status op target items).toks = s.toks := by
  simp [State.audit]
@[simp] theorem State.audit_cle (s : State) (sid role fp status op target : Nat) (items : List Nat) :
    (s.audit sid role fp status op target items).cle = s.cle := by
  simp [State.audit]
@[simp] theorem State.audit_fan (s : State) (sid role fp status op target : Nat) (items : List Nat) :
    (s.audit sid role fp status op target items).fan = s.fan := by
  simp [State.audit]
@[simp] theorem State.audit_valve (s : State) (sid role fp status op target : Nat) (items : List Nat) :
    (s.audit sid role fp status op target items).valve = s.valve := by
  simp [State.audit]
@[simp] theorem State.audit_dio (s : State) (sid role fp status op target : Nat) (items : List Nat) :
    (s.audit sid role fp status op target items).dio = s.dio := by
  simp [State.audit]
@[simp] theorem State.audit_hl (s : State) (sid role fp status op target : Nat) (items : List Nat) :
    (s.audit sid role fp status op target items).hl = s.hl := by
  simp [State.audit]
@[simp] theorem State.audit_power (s : State) (sid role fp status op target : Nat) (items : List Nat) :
    (s.audit sid role fp status op target items).power = s.power := by
  simp [State.audit]
@[simp] theorem State.audit_unit (s : State) (sid role fp status op target : Nat) (items : List Nat) :
    (s.audit sid role fp status op target items).unit = s.unit := by
  simp [State.audit]
@[simp] theorem State.audit_sup (s : State) (sid role fp status op target : Nat) (items : List Nat) :
    (s.audit sid role fp status op target items).sup = s.sup := by
  simp [State.audit]
@[simp] theorem State.audit_lane (s : State) (sid role fp status op target : Nat) (items : List Nat) :
    (s.audit sid role fp status op target items).lane = s.lane := by
  simp [State.audit]
@[simp] theorem State.audit_free (s : State) (sid role fp status op target : Nat) (items : List Nat) :
    (s.audit sid role fp status op target items).free = s.free := by
  simp [State.audit]
@[simp] theorem State.audit_pending (s : State) (sid role fp status op target : Nat) (items : List Nat) :
    (s.audit sid role fp status op target items).pending = s.pending := by
  simp [State.audit]
@[simp] theorem State.auditCmd_time (s : State) (fl : Flight) (status : Nat) :
    (s.auditCmd fl status).time = s.time := by
  unfold State.auditCmd; split <;> simp
@[simp] theorem State.auditCmd_imp (s : State) (fl : Flight) (status : Nat) :
    (s.auditCmd fl status).imp = s.imp := by
  unfold State.auditCmd; split <;> simp
@[simp] theorem State.auditCmd_timers (s : State) (fl : Flight) (status : Nat) :
    (s.auditCmd fl status).timers = s.timers := by
  unfold State.auditCmd; split <;> simp
@[simp] theorem State.auditCmd_cols (s : State) (fl : Flight) (status : Nat) :
    (s.auditCmd fl status).cols = s.cols := by
  unfold State.auditCmd; split <;> simp
@[simp] theorem State.auditCmd_probe (s : State) (fl : Flight) (status : Nat) :
    (s.auditCmd fl status).probe = s.probe := by
  unfold State.auditCmd; split <;> simp
@[simp] theorem State.auditCmd_pica (s : State) (fl : Flight) (status : Nat) :
    (s.auditCmd fl status).pica = s.pica := by
  unfold State.auditCmd; split <;> simp
@[simp] theorem State.auditCmd_toks (s : State) (fl : Flight) (status : Nat) :
    (s.auditCmd fl status).toks = s.toks := by
  unfold State.auditCmd; split <;> simp
@[simp] theorem State.auditCmd_cle (s : State) (fl : Flight) (status : Nat) :
    (s.auditCmd fl status).cle = s.cle := by
  unfold State.auditCmd; split <;> simp
@[simp] theorem State.auditCmd_fan (s : State) (fl : Flight) (status : Nat) :
    (s.auditCmd fl status).fan = s.fan := by
  unfold State.auditCmd; split <;> simp
@[simp] theorem State.auditCmd_valve (s : State) (fl : Flight) (status : Nat) :
    (s.auditCmd fl status).valve = s.valve := by
  unfold State.auditCmd; split <;> simp
@[simp] theorem State.auditCmd_dio (s : State) (fl : Flight) (status : Nat) :
    (s.auditCmd fl status).dio = s.dio := by
  unfold State.auditCmd; split <;> simp
@[simp] theorem State.auditCmd_hl (s : State) (fl : Flight) (status : Nat) :
    (s.auditCmd fl status).hl = s.hl := by
  unfold State.auditCmd; split <;> simp
@[simp] theorem State.auditCmd_power (s : State) (fl : Flight) (status : Nat) :
    (s.auditCmd fl status).power = s.power := by
  unfold State.auditCmd; split <;> simp
@[simp] theorem State.auditCmd_unit (s : State) (fl : Flight) (status : Nat) :
    (s.auditCmd fl status).unit = s.unit := by
  unfold State.auditCmd; split <;> simp
@[simp] theorem State.auditCmd_sup (s : State) (fl : Flight) (status : Nat) :
    (s.auditCmd fl status).sup = s.sup := by
  unfold State.auditCmd; split <;> simp
@[simp] theorem State.auditCmd_lane (s : State) (fl : Flight) (status : Nat) :
    (s.auditCmd fl status).lane = s.lane := by
  unfold State.auditCmd; split <;> simp
@[simp] theorem State.auditCmd_free (s : State) (fl : Flight) (status : Nat) :
    (s.auditCmd fl status).free = s.free := by
  unfold State.auditCmd; split <;> simp
@[simp] theorem State.auditCmd_pending (s : State) (fl : Flight) (status : Nat) :
    (s.auditCmd fl status).pending = s.pending := by
  unfold State.auditCmd; split <;> simp
@[simp] theorem State.complete_time (s : State) (f status : Nat) (res : List Nat) :
    (s.complete f status res).time = s.time := by
  unfold State.complete; split <;> simp; split <;> simp
@[simp] theorem State.complete_imp (s : State) (f status : Nat) (res : List Nat) :
    (s.complete f status res).imp = s.imp := by
  unfold State.complete; split <;> simp; split <;> simp
@[simp] theorem State.complete_timers (s : State) (f status : Nat) (res : List Nat) :
    (s.complete f status res).timers = s.timers := by
  unfold State.complete; split <;> simp; split <;> simp
@[simp] theorem State.complete_cols (s : State) (f status : Nat) (res : List Nat) :
    (s.complete f status res).cols = s.cols := by
  unfold State.complete; split <;> simp; split <;> simp
@[simp] theorem State.complete_probe (s : State) (f status : Nat) (res : List Nat) :
    (s.complete f status res).probe = s.probe := by
  unfold State.complete; split <;> simp; split <;> simp
@[simp] theorem State.complete_pica (s : State) (f status : Nat) (res : List Nat) :
    (s.complete f status res).pica = s.pica := by
  unfold State.complete; split <;> simp; split <;> simp
@[simp] theorem State.complete_toks (s : State) (f status : Nat) (res : List Nat) :
    (s.complete f status res).toks = s.toks := by
  unfold State.complete; split <;> simp; split <;> simp
@[simp] theorem State.complete_cle (s : State) (f status : Nat) (res : List Nat) :
    (s.complete f status res).cle = s.cle := by
  unfold State.complete; split <;> simp; split <;> simp
@[simp] theorem State.complete_fan (s : State) (f status : Nat) (res : List Nat) :
    (s.complete f status res).fan = s.fan := by
  unfold State.complete; split <;> simp; split <;> simp
@[simp] theorem State.complete_valve (s : State) (f status : Nat) (res : List Nat) :
    (s.complete f status res).valve = s.valve := by
  unfold State.complete; split <;> simp; split <;> simp
@[simp] theorem State.complete_dio (s : State) (f status : Nat) (res : List Nat) :
    (s.complete f status res).dio = s.dio := by
  unfold State.complete; split <;> simp; split <;> simp
@[simp] theorem State.complete_hl (s : State) (f status : Nat) (res : List Nat) :
    (s.complete f status res).hl = s.hl := by
  unfold State.complete; split <;> simp; split <;> simp
@[simp] theorem State.complete_power (s : State) (f status : Nat) (res : List Nat) :
    (s.complete f status res).power = s.power := by
  unfold State.complete; split <;> simp; split <;> simp
@[simp] theorem State.complete_unit (s : State) (f status : Nat) (res : List Nat) :
    (s.complete f status res).unit = s.unit := by
  unfold State.complete; split <;> simp; split <;> simp
@[simp] theorem State.complete_sup (s : State) (f status : Nat) (res : List Nat) :
    (s.complete f status res).sup = s.sup := by
  unfold State.complete; split <;> simp; split <;> simp
@[simp] theorem State.complete_lane (s : State) (f status : Nat) (res : List Nat) :
    (s.complete f status res).lane = s.lane := by
  unfold State.complete; split <;> simp; split <;> simp
@[simp] theorem State.complete_free (s : State) (f status : Nat) (res : List Nat) :
    (s.complete f status res).free = s.free := by
  unfold State.complete; split <;> simp; split <;> simp
@[simp] theorem State.complete_pending (s : State) (f status : Nat) (res : List Nat) :
    (s.complete f status res).pending = s.pending := by
  unfold State.complete; split <;> simp; split <;> simp
@[simp] theorem State.record_time (s : State) (typ index : Nat) (pay : List Int) (at_ : Option Nat) :
    (s.record typ index pay at_).time = s.time := by
  unfold State.record; split <;> (try split) <;> simp
@[simp] theorem State.record_imp (s : State) (typ index : Nat) (pay : List Int) (at_ : Option Nat) :
    (s.record typ index pay at_).imp = s.imp := by
  unfold State.record; split <;> (try split) <;> simp
@[simp] theorem State.record_timers (s : State) (typ index : Nat) (pay : List Int) (at_ : Option Nat) :
    (s.record typ index pay at_).timers = s.timers := by
  unfold State.record; split <;> (try split) <;> simp
@[simp] theorem State.record_cols (s : State) (typ index : Nat) (pay : List Int) (at_ : Option Nat) :
    (s.record typ index pay at_).cols = s.cols := by
  unfold State.record; split <;> (try split) <;> simp
@[simp] theorem State.record_probe (s : State) (typ index : Nat) (pay : List Int) (at_ : Option Nat) :
    (s.record typ index pay at_).probe = s.probe := by
  unfold State.record; split <;> (try split) <;> simp
@[simp] theorem State.record_pica (s : State) (typ index : Nat) (pay : List Int) (at_ : Option Nat) :
    (s.record typ index pay at_).pica = s.pica := by
  unfold State.record; split <;> (try split) <;> simp
@[simp] theorem State.record_toks (s : State) (typ index : Nat) (pay : List Int) (at_ : Option Nat) :
    (s.record typ index pay at_).toks = s.toks := by
  unfold State.record; split <;> (try split) <;> simp
@[simp] theorem State.record_cle (s : State) (typ index : Nat) (pay : List Int) (at_ : Option Nat) :
    (s.record typ index pay at_).cle = s.cle := by
  unfold State.record; split <;> (try split) <;> simp
@[simp] theorem State.record_fan (s : State) (typ index : Nat) (pay : List Int) (at_ : Option Nat) :
    (s.record typ index pay at_).fan = s.fan := by
  unfold State.record; split <;> (try split) <;> simp
@[simp] theorem State.record_valve (s : State) (typ index : Nat) (pay : List Int) (at_ : Option Nat) :
    (s.record typ index pay at_).valve = s.valve := by
  unfold State.record; split <;> (try split) <;> simp
@[simp] theorem State.record_dio (s : State) (typ index : Nat) (pay : List Int) (at_ : Option Nat) :
    (s.record typ index pay at_).dio = s.dio := by
  unfold State.record; split <;> (try split) <;> simp
@[simp] theorem State.record_hl (s : State) (typ index : Nat) (pay : List Int) (at_ : Option Nat) :
    (s.record typ index pay at_).hl = s.hl := by
  unfold State.record; split <;> (try split) <;> simp
@[simp] theorem State.record_power (s : State) (typ index : Nat) (pay : List Int) (at_ : Option Nat) :
    (s.record typ index pay at_).power = s.power := by
  unfold State.record; split <;> (try split) <;> simp
@[simp] theorem State.record_unit (s : State) (typ index : Nat) (pay : List Int) (at_ : Option Nat) :
    (s.record typ index pay at_).unit = s.unit := by
  unfold State.record; split <;> (try split) <;> simp
@[simp] theorem State.record_host (s : State) (typ index : Nat) (pay : List Int) (at_ : Option Nat) :
    (s.record typ index pay at_).host = s.host := by
  unfold State.record; split <;> (try split) <;> simp
@[simp] theorem State.record_sup (s : State) (typ index : Nat) (pay : List Int) (at_ : Option Nat) :
    (s.record typ index pay at_).sup = s.sup := by
  unfold State.record; split <;> (try split) <;> simp
@[simp] theorem State.record_lane (s : State) (typ index : Nat) (pay : List Int) (at_ : Option Nat) :
    (s.record typ index pay at_).lane = s.lane := by
  unfold State.record; split <;> (try split) <;> simp
@[simp] theorem State.record_svc (s : State) (typ index : Nat) (pay : List Int) (at_ : Option Nat) :
    (s.record typ index pay at_).svc = s.svc := by
  unfold State.record; split <;> (try split) <;> simp
@[simp] theorem State.record_free (s : State) (typ index : Nat) (pay : List Int) (at_ : Option Nat) :
    (s.record typ index pay at_).free = s.free := by
  unfold State.record; split <;> (try split) <;> simp
@[simp] theorem State.record_pending (s : State) (typ index : Nat) (pay : List Int) (at_ : Option Nat) :
    (s.record typ index pay at_).pending = s.pending := by
  unfold State.record; split <;> (try split) <;> simp
@[simp] theorem State.recHost_time (s : State) (sid op id : Nat) (v : Int) (accN : Nat) (args : List Nat) :
    (s.recHost sid op id v accN args).time = s.time := by
  simp [State.recHost]
@[simp] theorem State.recHost_imp (s : State) (sid op id : Nat) (v : Int) (accN : Nat) (args : List Nat) :
    (s.recHost sid op id v accN args).imp = s.imp := by
  simp [State.recHost]
@[simp] theorem State.recHost_timers (s : State) (sid op id : Nat) (v : Int) (accN : Nat) (args : List Nat) :
    (s.recHost sid op id v accN args).timers = s.timers := by
  simp [State.recHost]
@[simp] theorem State.recHost_cols (s : State) (sid op id : Nat) (v : Int) (accN : Nat) (args : List Nat) :
    (s.recHost sid op id v accN args).cols = s.cols := by
  simp [State.recHost]
@[simp] theorem State.recHost_probe (s : State) (sid op id : Nat) (v : Int) (accN : Nat) (args : List Nat) :
    (s.recHost sid op id v accN args).probe = s.probe := by
  simp [State.recHost]
@[simp] theorem State.recHost_pica (s : State) (sid op id : Nat) (v : Int) (accN : Nat) (args : List Nat) :
    (s.recHost sid op id v accN args).pica = s.pica := by
  simp [State.recHost]
@[simp] theorem State.recHost_toks (s : State) (sid op id : Nat) (v : Int) (accN : Nat) (args : List Nat) :
    (s.recHost sid op id v accN args).toks = s.toks := by
  simp [State.recHost]
@[simp] theorem State.recHost_cle (s : State) (sid op id : Nat) (v : Int) (accN : Nat) (args : List Nat) :
    (s.recHost sid op id v accN args).cle = s.cle := by
  simp [State.recHost]
@[simp] theorem State.recHost_fan (s : State) (sid op id : Nat) (v : Int) (accN : Nat) (args : List Nat) :
    (s.recHost sid op id v accN args).fan = s.fan := by
  simp [State.recHost]
@[simp] theorem State.recHost_valve (s : State) (sid op id : Nat) (v : Int) (accN : Nat) (args : List Nat) :
    (s.recHost sid op id v accN args).valve = s.valve := by
  simp [State.recHost]
@[simp] theorem State.recHost_dio (s : State) (sid op id : Nat) (v : Int) (accN : Nat) (args : List Nat) :
    (s.recHost sid op id v accN args).dio = s.dio := by
  simp [State.recHost]
@[simp] theorem State.recHost_hl (s : State) (sid op id : Nat) (v : Int) (accN : Nat) (args : List Nat) :
    (s.recHost sid op id v accN args).hl = s.hl := by
  simp [State.recHost]
@[simp] theorem State.recHost_power (s : State) (sid op id : Nat) (v : Int) (accN : Nat) (args : List Nat) :
    (s.recHost sid op id v accN args).power = s.power := by
  simp [State.recHost]
@[simp] theorem State.recHost_unit (s : State) (sid op id : Nat) (v : Int) (accN : Nat) (args : List Nat) :
    (s.recHost sid op id v accN args).unit = s.unit := by
  simp [State.recHost]
@[simp] theorem State.recHost_host (s : State) (sid op id : Nat) (v : Int) (accN : Nat) (args : List Nat) :
    (s.recHost sid op id v accN args).host = s.host := by
  simp [State.recHost]
@[simp] theorem State.recHost_sup (s : State) (sid op id : Nat) (v : Int) (accN : Nat) (args : List Nat) :
    (s.recHost sid op id v accN args).sup = s.sup := by
  simp [State.recHost]
@[simp] theorem State.recHost_lane (s : State) (sid op id : Nat) (v : Int) (accN : Nat) (args : List Nat) :
    (s.recHost sid op id v accN args).lane = s.lane := by
  simp [State.recHost]
@[simp] theorem State.recHost_svc (s : State) (sid op id : Nat) (v : Int) (accN : Nat) (args : List Nat) :
    (s.recHost sid op id v accN args).svc = s.svc := by
  simp [State.recHost]
@[simp] theorem State.recHost_free (s : State) (sid op id : Nat) (v : Int) (accN : Nat) (args : List Nat) :
    (s.recHost sid op id v accN args).free = s.free := by
  simp [State.recHost]
@[simp] theorem State.recHost_pending (s : State) (sid op id : Nat) (v : Int) (accN : Nat) (args : List Nat) :
    (s.recHost sid op id v accN args).pending = s.pending := by
  simp [State.recHost]
@[simp] theorem State.stream_time (s : State) (q : Nat) (rec_ : List Nat) (source kind epoch : Nat) :
    (s.stream q rec_ source kind epoch).time = s.time := rfl
@[simp] theorem State.stream_imp (s : State) (q : Nat) (rec_ : List Nat) (source kind epoch : Nat) :
    (s.stream q rec_ source kind epoch).imp = s.imp := rfl
@[simp] theorem State.stream_timers (s : State) (q : Nat) (rec_ : List Nat) (source kind epoch : Nat) :
    (s.stream q rec_ source kind epoch).timers = s.timers := rfl
@[simp] theorem State.stream_cols (s : State) (q : Nat) (rec_ : List Nat) (source kind epoch : Nat) :
    (s.stream q rec_ source kind epoch).cols = s.cols := rfl
@[simp] theorem State.stream_probe (s : State) (q : Nat) (rec_ : List Nat) (source kind epoch : Nat) :
    (s.stream q rec_ source kind epoch).probe = s.probe := rfl
@[simp] theorem State.stream_pica (s : State) (q : Nat) (rec_ : List Nat) (source kind epoch : Nat) :
    (s.stream q rec_ source kind epoch).pica = s.pica := rfl
@[simp] theorem State.stream_toks (s : State) (q : Nat) (rec_ : List Nat) (source kind epoch : Nat) :
    (s.stream q rec_ source kind epoch).toks = s.toks := rfl
@[simp] theorem State.stream_cle (s : State) (q : Nat) (rec_ : List Nat) (source kind epoch : Nat) :
    (s.stream q rec_ source kind epoch).cle = s.cle := rfl
@[simp] theorem State.stream_fan (s : State) (q : Nat) (rec_ : List Nat) (source kind epoch : Nat) :
    (s.stream q rec_ source kind epoch).fan = s.fan := rfl
@[simp] theorem State.stream_valve (s : State) (q : Nat) (rec_ : List Nat) (source kind epoch : Nat) :
    (s.stream q rec_ source kind epoch).valve = s.valve := rfl
@[simp] theorem State.stream_dio (s : State) (q : Nat) (rec_ : List Nat) (source kind epoch : Nat) :
    (s.stream q rec_ source kind epoch).dio = s.dio := rfl
@[simp] theorem State.stream_hl (s : State) (q : Nat) (rec_ : List Nat) (source kind epoch : Nat) :
    (s.stream q rec_ source kind epoch).hl = s.hl := rfl
@[simp] theorem State.stream_power (s : State) (q : Nat) (rec_ : List Nat) (source kind epoch : Nat) :
    (s.stream q rec_ source kind epoch).power = s.power := rfl
@[simp] theorem State.stream_unit (s : State) (q : Nat) (rec_ : List Nat) (source kind epoch : Nat) :
    (s.stream q rec_ source kind epoch).unit = s.unit := rfl
@[simp] theorem State.stream_sup (s : State) (q : Nat) (rec_ : List Nat) (source kind epoch : Nat) :
    (s.stream q rec_ source kind epoch).sup = s.sup := rfl
@[simp] theorem State.stream_store (s : State) (q : Nat) (rec_ : List Nat) (source kind epoch : Nat) :
    (s.stream q rec_ source kind epoch).store = s.store := rfl
@[simp] theorem State.stream_lane (s : State) (q : Nat) (rec_ : List Nat) (source kind epoch : Nat) :
    (s.stream q rec_ source kind epoch).lane = s.lane := rfl
@[simp] theorem State.stream_svc (s : State) (q : Nat) (rec_ : List Nat) (source kind epoch : Nat) :
    (s.stream q rec_ source kind epoch).svc = s.svc := rfl
@[simp] theorem State.stream_free (s : State) (q : Nat) (rec_ : List Nat) (source kind epoch : Nat) :
    (s.stream q rec_ source kind epoch).free = s.free := rfl
@[simp] theorem State.stream_pending (s : State) (q : Nat) (rec_ : List Nat) (source kind epoch : Nat) :
    (s.stream q rec_ source kind epoch).pending = s.pending := rfl

/-- What `quiet` keeps is what it was. -/
theorem quiet_parts {s t : State} (h : t.quiet = s.quiet) :
    t.time = s.time ∧ t.imp = s.imp ∧ t.timers = s.timers ∧ t.cols = s.cols ∧ t.probe = s.probe ∧ t.pica = s.pica ∧
    t.toks = s.toks ∧ t.cle = s.cle ∧ t.fan = s.fan ∧ t.valve = s.valve ∧ t.dio = s.dio ∧ t.hl = s.hl ∧
    t.power = s.power ∧ t.unit = s.unit ∧ t.sup = s.sup ∧ t.lane = s.lane ∧ t.free = s.free ∧ t.pending = s.pending := by
  simp only [State.quiet, State.mk.injEq] at h
  tauto

@[simp] theorem qPush_num (q : Queue) (e : QEntry) (n : Nat) : (qPush q e n).num = q.num := by
  unfold qPush; split <;> rfl

@[simp] theorem liveCopies_notEq (qs : List Queue) (sl : Slug) (eq : Option Nat) (n : Nat) :
    (liveCopies qs sl eq n).filter notEq = qs.filter notEq := by
  unfold liveCopies
  induction qs with
  | nil => rfl
  | cons q r ih =>
    simp only [List.map_cons, List.filter_cons, ih]
    by_cases h : 768 ≤ q.num ∧ q.num < 896
    · have h1 : notEq q = false := by simp [notEq]; omega
      have h2 : notEq (qPush q (.slug sl) n) = false := by simp [notEq]; omega
      split <;> simp_all
    · have hn : ¬(768 ≤ q.num ∧ q.num < 896 ∧ (bitOf q.cls (clsIdx sl.cls) = true ∨ eq = some q.num)) :=
        fun hh => h ⟨hh.1, hh.2.1⟩
      simp only [if_neg hn]

/-- Of the store, what filing a slug may touch is what `quiet` blanks: the staging buffer and the live counters. -/
theorem RecSt.file_quiet (r : RecSt) (sl : Slug) (n : Nat) : (startProgram (stageSlug r sl n)).quiet = r.quiet := by
  have started : ∀ x : RecSt, (startProgram x).quiet = x.quiet := fun x => by
    unfold startProgram; repeat' split
    all_goals rfl
  rw [started]
  unfold stageSlug; repeat' split
  all_goals rfl

/-- A slug leaves the quiet state alone. -/
@[simp] theorem State.putSlug_quiet (s : State) (sl : Slug) (eq : Option Nat) : (s.putSlug sl eq).quiet = s.quiet := by
  simp only [State.putSlug, State.quiet, RecSt.file_quiet, liveCopies_notEq]
  split <;> rfl

@[simp] theorem State.slug_quiet (s : State) (src kind : Nat) (cls : SlugClass) (obj after before : Nat) (v1 v2 : Int)
    (rel : Nat) (bytes : List Nat) (eq : Option Nat) (audit : Bool) (at_ : Option Nat) (live : Bool) :
    (s.slug src kind cls obj after before v1 v2 rel bytes eq audit at_ live).quiet = s.quiet := by
  unfold State.slug; split <;> simp

@[simp] theorem State.audit_quiet (s : State) (sid role fp status op target : Nat) (items : List Nat) :
    (s.audit sid role fp status op target items).quiet = s.quiet := by simp [State.audit]

@[simp] theorem State.auditCmd_quiet (s : State) (fl : Flight) (status : Nat) : (s.auditCmd fl status).quiet = s.quiet := by
  unfold State.auditCmd; split <;> simp

/-- An input record leaves the quiet state alone. -/
@[simp] theorem State.record_quiet (s : State) (typ index : Nat) (pay : List Int) (at_ : Option Nat) :
    (s.record typ index pay at_).quiet = s.quiet := by
  unfold State.record; split <;> (try split) <;> rfl

@[simp] theorem State.recHost_quiet (s : State) (sid op id : Nat) (v : Int) (accN : Nat) (args : List Nat) :
    (s.recHost sid op id v accN args).quiet = s.quiet := by simp [State.recHost]

/-- A slug changes queues in their rings only: which queues exist, and whose, stays. -/
theorem liveCopies_find (qs : List Queue) (sl : Slug) (eq : Option Nat) (now n : Nat) (hn : n < 768 ∨ 896 ≤ n) :
    (liveCopies qs sl eq now).find? (fun x => x.num = n) = qs.find? fun x => x.num = n := by
  unfold liveCopies
  induction qs with
  | nil => rfl
  | cons q r ih =>
    simp only [List.map_cons, List.find?_cons]
    by_cases h : 768 ≤ q.num ∧ q.num < 896 ∧ (bitOf q.cls (clsIdx sl.cls) ∨ eq = some q.num)
    · rw [if_pos h]
      have : q.num ≠ n := by omega
      simp [this, ih]
    · rw [if_neg h]
      by_cases h2 : q.num = n
      · simp [h2]
      · simp [h2, ih]

@[simp] theorem State.slug_sessions (s : State) (src kind : Nat) (cls : SlugClass) (obj after before : Nat) (v1 v2 : Int)
    (rel : Nat) (bytes : List Nat) (eq : Option Nat) (audit : Bool) (at_ : Option Nat) (live : Bool) :
    (s.slug src kind cls obj after before v1 v2 rel bytes eq audit at_ live).host.sessions = s.host.sessions := by
  unfold State.slug; split <;> rfl
@[simp] theorem State.slug_flights (s : State) (src kind : Nat) (cls : SlugClass) (obj after before : Nat) (v1 v2 : Int)
    (rel : Nat) (bytes : List Nat) (eq : Option Nat) (audit : Bool) (at_ : Option Nat) (live : Bool) :
    (s.slug src kind cls obj after before v1 v2 rel bytes eq audit at_ live).host.flights = s.host.flights := by
  unfold State.slug; split <;> rfl

/-- A step takes the command in front, and only it. -/
theorem step_cons (c : Instr) (r : List Instr) (s : State) (h : s.pending = c :: r) :
    step s = exec c { s with pending := r } := by simp [step, h]

/-- What a running command does: its body, then its completion or its wait. -/
theorem runCmd_ready {op f : Nat} {fl : Flight} {s : State} (body : Flight → State → Ans) (h : s.flight? f = some fl)
    (hr : ready fl op = true) :
    runCmd op f body s = match body fl s with
      | .done s' st res => s'.complete f st res
      | .later s' => s'.onFlight f fun x => { x with deferred := true } := by
  unfold runCmd
  rw [h]
  exact if_pos hr

/-- A command that is not in flight runs nothing. -/
theorem runCmd_absent {op f : Nat} {s : State} (body : Flight → State → Ans) (h : s.flight? f = none) :
    runCmd op f body s = s := by simp [runCmd, h]

@[simp] theorem State.elapse_now (s : State) (dt : Nat) : (s.elapse dt).now = if s.power.on then s.mtAfter dt else s.now := by
  simp [State.now]
@[simp] theorem State.elapse_flight (s : State) (dt f : Nat) : (s.elapse dt).flight? f = s.flight? f := by
  simp [State.flight?]
@[simp] theorem State.elapse_session (s : State) (dt n : Nat) : (s.elapse dt).session? n = s.session? n := by
  simp [State.session?]
@[simp] theorem State.elapse_queue (s : State) (dt n : Nat) : (s.elapse dt).queue? n = s.queue? n := by
  simp [State.queue?]
@[simp] theorem State.elapse_isSt (s : State) (dt : Nat) (u : UState) : (s.elapse dt).isSt u = s.isSt u := by
  simp [State.isSt]

@[simp] theorem State.onTime_quiet (s : State) (f : TimeSt → TimeSt) : (s.onTime f).quiet = s.quiet.onTime f := rfl
@[simp] theorem State.onImp_quiet (s : State) (f : ImpSt → ImpSt) : (s.onImp f).quiet = s.quiet.onImp f := rfl
@[simp] theorem State.onProbe_quiet (s : State) (f : ProbeSt → ProbeSt) : (s.onProbe f).quiet = s.quiet.onProbe f := rfl
@[simp] theorem State.onPica_quiet (s : State) (f : PicaSt → PicaSt) : (s.onPica f).quiet = s.quiet.onPica f := rfl
@[simp] theorem State.onCle_quiet (s : State) (f : CleSt → CleSt) : (s.onCle f).quiet = s.quiet.onCle f := rfl
@[simp] theorem State.onFan_quiet (s : State) (f : FanSt → FanSt) : (s.onFan f).quiet = s.quiet.onFan f := rfl
@[simp] theorem State.onValve_quiet (s : State) (f : ValveSt → ValveSt) : (s.onValve f).quiet = s.quiet.onValve f := rfl
@[simp] theorem State.onDio_quiet (s : State) (f : DioSt → DioSt) : (s.onDio f).quiet = s.quiet.onDio f := rfl
@[simp] theorem State.onHl_quiet (s : State) (f : HlSt → HlSt) : (s.onHl f).quiet = s.quiet.onHl f := rfl
@[simp] theorem State.onPower_quiet (s : State) (f : PowerSt → PowerSt) : (s.onPower f).quiet = s.quiet.onPower f := rfl
@[simp] theorem State.onUnit_quiet (s : State) (f : UnitSt → UnitSt) : (s.onUnit f).quiet = s.quiet.onUnit f := rfl
@[simp] theorem State.onSup_quiet (s : State) (f : SupSt → SupSt) : (s.onSup f).quiet = s.quiet.onSup f := rfl
@[simp] theorem State.onLane_quiet (s : State) (f : LaneSt → LaneSt) : (s.onLane f).quiet = s.quiet.onLane f := rfl
@[simp] theorem State.onToks_quiet (s : State) (f : List VTok → List VTok) : (s.onToks f).quiet = s.quiet.onToks f := rfl
@[simp] theorem State.onTimer_quiet (s : State) (n : Nat) (f : Timer → Timer) : (s.onTimer n f).quiet = s.quiet.onTimer n f := rfl
@[simp] theorem State.onCol_quiet (s : State) (n : Nat) (f : Column → Column) : (s.onCol n f).quiet = s.quiet.onCol n f := rfl
@[simp] theorem State.onWheel_quiet (s : State) (n : Nat) (f : Wheel → Wheel) : (s.onWheel n f).quiet = s.quiet.onWheel n f := rfl
@[simp] theorem State.onChan_quiet (s : State) (n : Nat) (f : Chan → Chan) : (s.onChan n f).quiet = s.quiet.onChan n f := rfl
@[simp] theorem State.onGroup_quiet (s : State) (n : Nat) (f : Group → Group) : (s.onGroup n f).quiet = s.quiet.onGroup n f := rfl
@[simp] theorem State.onPort_quiet (s : State) (n : Nat) (f : Port → Port) : (s.onPort n f).quiet = s.quiet.onPort n f := rfl
@[simp] theorem State.onZone_quiet (s : State) (n : Nat) (f : Zone → Zone) : (s.onZone n f).quiet = s.quiet.onZone n f := rfl
@[simp] theorem State.onLoop_quiet (s : State) (n : Nat) (f : Loop → Loop) : (s.onLoop n f).quiet = s.quiet.onLoop n f := rfl
@[simp] theorem State.onGal_quiet (s : State) (n : Nat) (f : Galley → Galley) : (s.onGal n f).quiet = s.quiet.onGal n f := rfl
@[simp] theorem State.onDrive_quiet (s : State) (n : Nat) (f : Drive → Drive) : (s.onDrive n f).quiet = s.quiet.onDrive n f := rfl
@[simp] theorem State.onFg_quiet (s : State) (n : Nat) (f : FanGroup → FanGroup) : (s.onFg n f).quiet = s.quiet.onFg n f := rfl
@[simp] theorem State.onSv_quiet (s : State) (n : Nat) (f : Valve → Valve) : (s.onSv n f).quiet = s.quiet.onSv n f := rfl
@[simp] theorem State.onDin_quiet (s : State) (n : Nat) (f : Din → Din) : (s.onDin n f).quiet = s.quiet.onDin n f := rfl
@[simp] theorem State.onDout_quiet (s : State) (n : Nat) (f : Dout → Dout) : (s.onDout n f).quiet = s.quiet.onDout n f := rfl
@[simp] theorem State.onNode_quiet (s : State) (n : Nat) (f : Node → Node) : (s.onNode n f).quiet = s.quiet.onNode n f := rfl

end Sys2Proof.Machine
end

