-- ==== Sys2Proof/Laws/Sparse.lean ====
section
/-! SUPPORT. The tables kept by key: what a read gives after a write and after a removal, and that every update keeps
the keys rising. -/

namespace Sys2Proof.Machine

variable {α : Type}

@[simp] theorem spGet_nil (k : Nat) : spGet ([] : Sparse α) k = none := rfl

theorem keysRise_tail {p : Nat × α} {t : Sparse α} (h : keysRise (p :: t)) : keysRise t := (List.pairwise_cons.1 h).2

theorem keysRise_head {p : Nat × α} {t : Sparse α} (h : keysRise (p :: t)) : ∀ q ∈ t, p.1 < q.1 := (List.pairwise_cons.1 h).1

/-- A key below every key of a table is not in it. -/
theorem spGet_of_lt (k : Nat) : ∀ (t : Sparse α), (∀ q ∈ t, k < q.1) → spGet t k = none
  | [], _ => rfl
  | (a, v) :: r, h => by
    have h1 : k < a := h (a, v) (List.mem_cons_self ..)
    simp only [spGet, if_neg (Nat.ne_of_gt h1)]
    exact spGet_of_lt k r fun q hq => h q (List.mem_cons_of_mem _ hq)

@[simp] theorem spGet_spPut_self (k : Nat) (x : α) : ∀ t : Sparse α, spGet (spPut t k x) k = some x
  | [] => by simp [spPut, spGet]
  | (a, v) :: r => by
    unfold spPut
    split
    · simp [spGet]
    · split
      · simp [spGet]
      · rename_i h1 h2
        simp only [spGet, if_neg h1]
        exact spGet_spPut_self k x r

@[simp] theorem spGet_spPut_ne {k j : Nat} (x : α) (hj : j ≠ k) : ∀ t : Sparse α, spGet (spPut t k x) j = spGet t j
  | [] => by simp [spPut, spGet, Ne.symm hj]
  | (a, v) :: r => by
    unfold spPut
    split
    · rename_i h1
      subst h1
      simp [spGet, Ne.symm hj]
    · split
      · simp [spGet, Ne.symm hj]
      · simp only [spGet]
        split
        · rfl
        · exact spGet_spPut_ne x hj r

/-- The entries of a table after a write: the new one and some of the old. -/
theorem mem_spPut {k : Nat} {x : α} {q : Nat × α} (t : Sparse α) (hq : q ∈ spPut t k x) : q = (k, x) ∨ q ∈ t := by
  fun_induction spPut t k x <;> grind

/-- A removal adds no entry. -/
theorem mem_spErase {k : Nat} {q : Nat × α} (t : Sparse α) (hq : q ∈ spErase t k) : q ∈ t := by
  fun_induction spErase t k <;> grind

/-- Writing an entry keeps the keys rising. -/
theorem keysRise_spPut (k : Nat) (x : α) {t : Sparse α} (ht : keysRise t) : keysRise (spPut t k x) := by
  induction t with
  | nil => simp [spPut, keysRise]
  | cons p r ih =>
    have low := keysRise_head ht
    have rest : keysRise (spPut r k x) := ih (keysRise_tail ht)
    have new : ∀ q ∈ spPut r k x, q = (k, x) ∨ p.1 < q.1 := fun q hq => (mem_spPut r hq).imp_right (low q)
    unfold keysRise at *
    unfold spPut
    split_ifs <;> simp only [List.pairwise_cons] at ht ⊢ <;> grind

/-- Removing an entry keeps the keys rising. -/
theorem keysRise_spErase (k : Nat) {t : Sparse α} (ht : keysRise t) : keysRise (spErase t k) := by
  induction t with
  | nil => simp [spErase, keysRise]
  | cons p r ih =>
    have rest : keysRise (spErase r k) := ih (keysRise_tail ht)
    have low : ∀ q ∈ spErase r k, p.1 < q.1 := fun q hq => keysRise_head ht q (mem_spErase r hq)
    unfold keysRise at *
    unfold spErase
    split_ifs <;> simp only [List.pairwise_cons] at ht ⊢ <;> tauto

@[simp] theorem spGet_spErase_self (k : Nat) : ∀ {t : Sparse α}, keysRise t → spGet (spErase t k) k = none
  | [], _ => rfl
  | (a, v) :: r, h => by
    unfold spErase
    split
    · rename_i h1
      subst h1
      exact spGet_of_lt a r (keysRise_head h)
    · split
      · rename_i h1 h2
        refine spGet_of_lt k _ fun q hq => ?_
        rcases List.mem_cons.1 hq with hq | hq
        · exact hq ▸ h2
        · exact Nat.lt_trans h2 (keysRise_head h q hq)
      · rename_i h1 h2
        simp only [spGet, if_neg h1]
        exact spGet_spErase_self k (keysRise_tail h)

@[simp] theorem spGet_spErase_ne {k j : Nat} (hj : j ≠ k) : ∀ t : Sparse α, spGet (spErase t k) j = spGet t j
  | [] => rfl
  | (a, v) :: r => by
    unfold spErase
    split
    · rename_i h1
      subst h1
      simp [spGet, Ne.symm hj]
    · split
      · rfl
      · simp only [spGet]
        split
        · rfl
        · exact spGet_spErase_ne hj r

variable [DecidableEq α]

/-- Writing an entry or its default keeps the keys rising. -/
theorem keysRise_spSet (d : α) (k : Nat) (x : α) {t : Sparse α} (h : keysRise t) : keysRise (spSet d t k x) := by
  unfold spSet
  split
  · exact keysRise_spErase k h
  · exact keysRise_spPut k x h

/-- A read after a write to the same key. -/
theorem spGetD_spSet_self (d : α) (k : Nat) (x : α) {t : Sparse α} (h : keysRise t) : spGetD d (spSet d t k x) k = x := by
  unfold spGetD spSet
  split
  · rename_i h1
    simp [h, h1]
  · simp

/-- A write leaves every other key alone. -/
@[simp] theorem spGetD_spSet_ne (d : α) {k j : Nat} (x : α) (t : Sparse α) (hj : j ≠ k) :
    spGetD d (spSet d t k x) j = spGetD d t j := by
  unfold spGetD spSet
  split <;> simp [hj]

end Sys2Proof.Machine
end

