-- ==== Sys2Proof/WellFormed.lean ====
section
/-! DEFINITION. Which commands are well formed: every index an object of the unit has (01 R16, R17 and the
chapters' index ranges), every 32-bit word below 2^32. A command that is not well formed names no object; its
meaning then changes nothing but the time (log 4). -/

namespace Sys2Proof

/-- Below 2 to the power of `w`. -/
def fits (w n : Nat) : Bool := decide (n < 2 ^ w)

/-- The index ranges of the commands' objects. -/
def Instr.wellFormed : Instr → Bool
  | .registerWrite _ sid addr val => fits 16 sid && fits 16 addr && fits 32 val
  | .loWordRead _ sid addr => fits 16 sid && fits 16 addr
  | .gstart _ sid mask => fits 16 sid && fits 32 mask
  | .gstop _ sid mask => fits 16 sid && fits 32 mask
  | .cntClr _ sid => fits 16 sid
  | .latClr _ sid => fits 16 sid
  | .wdRel _ sid => fits 16 sid
  | .loopRegisterWrite _ sid l off val => fits 16 sid && decide (l < 48) && decide (off < 10) && fits 32 val
  | .sqDoorbellWrite _ sid q idx => fits 16 sid && decide (q < 512) && fits 32 idx
  | .headDoorbellWrite _ sid q idx => fits 16 sid && decide (512 ≤ q ∧ q < 1024) && fits 32 idx
  | .toothEdge _ w => decide (w < 4)
  | .toothSynth _ w => decide (w < 4)
  | .twInterpAdvance _ w => decide (w < 4)
  | .twStopTimeout _ w => decide (w < 4)
  | .maLock _ errs ext _ => decide (errs.length = 5) && fits 48 ext
  | .maSlotCrossing _ ext _ => fits 48 ext
  | .maRefLost _ ext _ => fits 48 ext
  | .mainsEventStart _ ev ph _ ext _ => decide (ev < 5) && decide (ph < 3) && fits 48 ext
  | .mainsEventEnd _ ev ph _ => decide (ev < 5) && decide (ph < 3)
  | .windowRefill _ b => decide (b < 6)
  | .timerStart _ n => decide (n < 32)
  | .timerStop _ n => decide (n < 32)
  | .timerExpiry _ n => decide (n < 32)
  | .timerMatch _ n => decide (n < 32)
  | .ledgerShift _ c => decide (c < 4)
  | .parcelClose _ c => decide (c < 4)
  | .ledgerSample _ c => decide (c < 4)
  | .batchTmax _ c => decide (c < 4)
  | .seqTrig _ g => decide (g < 4)
  | .settleEnd _ g _ _ => decide (g < 4)
  | .conversionSlotEnd _ g _ => decide (g < 4)
  | .channelStale _ ch => decide (ch < 64)
  | .picaScanPeriod _ p => decide (p < 8)
  | .picaReadSlotEnd _ p _ => decide (p < 8)
  | .picaEnumEnd _ p found => decide (p < 8) && found.all fun x => fits 48 x.id
  | .portOpen _ p => decide (p < 8)
  | .portShort _ p => decide (p < 8)
  | .portShortRetry _ p => decide (p < 8)
  | .picaPointStale _ p i => decide (p < 488) && decide (i < 64)
  | .picaConvertWaitEnd _ p => decide (p < 8)
  | .portFaultClear _ p => decide (p < 8)
  | .zoneEvaluate _ z => decide (z < 16)
  | .zoneHoldTimeout _ z => decide (z < 16)
  | .loopEval _ l => decide (l < 48)
  | .cleValueToken _ l => decide (l < 48)
  | .loopEvalComplete _ l => decide (l < 48)
  | .loopDeadline _ l => decide (l < 48)
  | .setpointCopy _ l => decide (l < 48)
  | .galleySnap _ g => decide (g < 8)
  | .galleyCopy _ g => decide (g < 8)
  | .driveRefTick _ m => decide (m.length = 6)
  | .kickCatchEnd _ n _ => decide (n < 6)
  | .kickPulsesCounted _ n _ => decide (n < 6)
  | .kickTimeout _ n => decide (n < 6)
  | .stall _ n _ => decide (n < 6)
  | .retryAttempt _ n => decide (n < 6)
  | .retryCountReset _ n => decide (n < 6)
  | .i2tExhausted _ n => decide (n < 6)
  | .driveTrip _ n src => decide (n < 6) && decide (src < 6)
  | .ftripInput _ i _ => decide (i < 2)
  | .internalFanFail _ fan => decide (fan < 3)
  | .governorTick _ imeas _ full => decide (imeas.length = 8 ∧ full < 256)
  | .pullinPeak _ n _ _ => decide (n < 8)
  | .peakTimeEnd _ n => decide (n < 8)
  | .valveTrip _ n src => decide (n < 8) && decide (src < 4)
  | .coilOpen _ n => decide (n < 8)
  | .diFilterStep _ n _ => decide (n < 32)
  | .doSet _ n => decide (n < 24)
  | .doClear _ n => decide (n < 24)
  | .doPulse _ n => decide (n < 24)
  | .doPulseEnd _ n => decide (n < 24)
  | .tpropPeriodStart _ n => decide (n < 24)
  | .tpropOnEnd _ n => decide (n < 24)
  | .freqHalfPeriod _ n => decide (n < 24)
  | .doWatchdogExpiry _ n => decide (n < 24)
  | .fieldFault _ n cls _ => decide (n < 24) && decide (cls < 4)
  | .ovlRetry _ n => decide (n < 24)
  | .couplerFault _ n out => if out then decide (n < 24) else decide (n < 32)
  | .hlTrip _ ch => decide (ch < 2)
  | .contactWeld _ relay => decide (relay < 2)
  | .hlThresholdCrossing _ ch _ => decide (ch < 2)
  | .tripSourceClear _ valve n src => if valve then decide (n < 8) && decide (src < 4) else decide (n < 6) && decide (src < 6)
  | .stationReturn _ st => decide (st < 0x16)
  | .sfpModuleChange _ l _ => decide (l < 4)
  | .laneUp _ l => decide (l < 4)
  | .laneDown _ l _ => decide (l < 4)
  | .discoverCell _ l _ => decide (l < 4)
  | .statusCell _ l pos _ => decide (l < 4) && decide (1 ≤ pos)
  | .statusCellSend _ l => decide (l < 4)
  | .tripBlockReceive _ l _ bits _ _ => decide (l < 4) && fits 4 bits
  | .tripCellReceive _ _ bits => fits 4 bits
  | .peerBoostSend _ g => decide (g < 4)
  | .ethernetLinkChange _ port _ speed => decide (port < 2) && decide (speed < 3)
  | .qCreate _ _ q .. => fits 16 q
  | .deliver _ q => decide (512 ≤ q ∧ q < 1024)
  | .commandFetch _ sq => decide (sq < 512)
  | .submit _ _ sq .. => fits 16 sq
  | .maCoastEnd .. | .maRefReturn .. | .tbStatus .. | .slotWrite .. | .slotRead ..
  | .slotEnable .. | .mtSlotCrossing .. | .actionDispatch .. | .heatIntegralTick .. | .batchConditionTick ..
  | .ledgerRead .. | .batchStep .. | .seqTrigger .. | .sampleRead .. | .streamOpen .. | .zoneAgeingTick ..
  | .picaScan .. | .picaEnum .. | .loopEvalStart .. | .loopHold .. | .loopRelease .. | .galleyArm ..
  | .galleyDump .. | .powerLimitTick .. | .powerLimitReduce .. | .vinUndervolt .. | .vinRecover ..
  | .autonomyExpiry .. | .fanCmd .. | .fanClearTrip .. | .fanRetryNow .. | .fanUnlock .. | .clamp ..
  | .govClampClear .. | .burnerPermitChange .. | .vbFault .. | .valveCmd .. | .valveLearnL ..
  | .dioUpdateFrame .. | .supervisorHeartbeat .. | .fioFaultRise .. | .fioFaultFall .. | .faultScanRepeat ..
  | .faultScanStep .. | .dioFaultScan .. | .heartbeatStale .. | .limitResetKey .. | .keyStuck .. | .hlReset ..
  | .pchain .. | .powerOn .. | .powerFail .. | .rideThrough .. | .powerCommit .. | .supervisorWatchdog ..
  | .proofStageEnd .. | .proofVinReady .. | .proofVinTimeout .. | .tIntThreshold .. | .overtemp ..
  | .powerStateEntry .. | .plannedWake .. | .wake .. | .latencySet .. | .clientHello .. | .handshakeDone ..
  | .handshakeTimeout .. | .sessionOpen .. | .sessionOpenTimeout .. | .ack .. | .sessionClose ..
  | .keepalive .. | .regRead .. | .regWrite .. | .qDelete .. | .badFrame .. | .frameRetransmit ..
  | .ackTimer .. | .sessionTimeout .. | .keepaliveSend .. | .commandStart .. | .commandTimeout ..
  | .resetWaitExpiry .. | .lingerExpiry .. | .nop .. | .identify .. | .getState .. | .paramRead ..
  | .paramWrite .. | .formeOpen .. | .formeWrite .. | .formeCheck .. | .quoin .. | .quoinBoundary ..
  | .stationChangeover .. | .quoinTimeout .. | .formeDiscard .. | .stationReset .. | .unitReset ..
  | .updateStage .. | .updateCheck .. | .updateCommit .. | .updateAbort .. | .updateRestart ..
  | .supervisorReturn .. | .unitProgramDone .. | .flushTimer .. | .keyframeTimer .. | .logRead ..
  | .logCopyResume .. | .recordMark .. | .reprintStart .. | .reprintStop .. | .reprintRecord ..
  | .syncCellReceive .. | .syncCellSend .. | .controlCell .. | .controlCellRetransmit .. | .recordCell ..
  | .bulkCell .. | .tripBlockRepeat .. | .tripCellRepeat .. | .nodeLost .. | .nodeUpdateTimeout ..
  | .peerZoneExport .. | .peerTimeout .. | .laneStatus .. | .nodeReset .. | .ackKey .. | .lampTest ..
  | .ackStuck .. | .strapSample .. | .testmuxSet .. | .usbAttach .. | .vinRangeChange .. | .usbDetach ..
  | .lampTestEnd .. | .debugHalt .. | .debugRelease .. | .quoinPreloadDone .. => true

end Sys2Proof
end

