-- ==== Sys2Proof/Tests/Slice0.lean ====
section
/-! SUPPORT. The model's own tests: a state and operands that meet the hypotheses of every statement (wit_), ill-formed
commands that WellFormed refuses (bad_), and steps with results taken from the spec (test_). -/

namespace Sys2Proof.Tests

open Sys2Proof Sys2Proof.Machine

set_option Elab.async false

/-- RUN with one Engineer session 7 on X20, CQ 512, SQ 3 bound to it and an idle XQ 900, MT 10 s. -/
def base : State :=
  { State.reset with
    unit := { st := .run }
    time := { mt := 10 * Config.sec }
    host := {
      sessions := [{ sid := 7, port := 0, assoc := 1, fp := 5, role := 2, rx := 4, rxMt := 10 * Config.sec, txMt := 10 * Config.sec }]
      queues := [
        { num := 512, depth := 16, owner := 7 }, { num := 3, depth := 16, owner := 7, cq := 512 },
        { num := 900, depth := 16, owner := 7, ring := [.comp { tag := 1, status := 0, epoch := 0, sq := 0, result := [], mt := 0 } false] }] } }

def anEntry (op target : Nat) (args : List Nat) : CmdEntry := { op, flags := 0, tag := 9, target, expEpoch := 0, rsv := 0, args }
/-- A started command of session 7, number 1. -/
def aFlight (op target : Nat) (args : List Nat) : Flight :=
  { f := 1, sq := 3, order := 1, sid := 7, role := 2, fp := 5, e := anEntry op target args, fetchMt := 0, tmo := 1000, started := true }
/-- The state with that command in flight. -/
def withCmd (s : State) (op target : Nat) (args : List Nat) : State :=
  s.onHost fun h => { h with flights := [aFlight op target args] }
def aHdr : Hdr := { sid := 7, seq := 5, ack := 0, len := 0 }

-- Registers and host link ---------------------------------------------------------------------------------

theorem wit_step : base.onHost id = base ∧ ({ base with pending := [.lampTest 1] } : State).pending = [.lampTest 1] ∧
    base.pending = [] := by decide +kernel
theorem wit_canWrite : canWrite base 7 1 = true := by decide +kernel
theorem wit_roleRefuses : ∃ x, ({ base with host := { base.host with sessions := [{ sid := 7, port := 0, assoc := 1, fp := 5, role := 1 }] } } : State).session? 7 = some x ∧
    base.power.cur = 0 ∧ ∃ r, accRole (regAcc 0x600) = some r ∧ x.role < r := ⟨_, rfl, rfl, 2, rfl, by decide⟩
theorem wit_doorbells : ∃ y x z, base.session? 7 = some y ∧ base.owns 7 3 = some x ∧ tailOk x x.w 0 = true ∧ tailOk x x.w 5 = false ∧
    base.owns 7 512 = some z ∧ 0 < z.depth ∧ (0 + z.depth - z.head) % z.depth ≤ z.sent ∧ z.sent < (2 + z.depth - z.head) % z.depth ∧
    base.owns 8 3 = none := ⟨_, _, _, rfl, rfl, rfl, rfl, rfl, by decide, by decide, by decide, rfl⟩
theorem wit_latch : ∃ x, base.session? 7 = some x ∧ base.power.cur = 0 ∧ x.latches = [] ∧ isHi 0x301 = true := ⟨_, rfl, rfl, rfl, rfl⟩

/-- A handshake begun at 9 s. -/
def shaking : State := base.onHost fun h => { h with shakes := [{ assoc := 2, port := 2, startMt := 9 * Config.sec, agreed := true }] }
/-- A ClientHello on X20 that has not come back with its cookie. -/
def greeted : State := base.onHost fun h => { h with shakes := [{ assoc := 3, port := 0, startMt := 9 * Config.sec }] }
/-- A handshake done at 9 s, from X22. -/
def shaken : State := base.onHost fun h => { h with shakes := [{ assoc := 2, port := 2, startMt := 9 * Config.sec, fp := 6, doneMt := some (9 * Config.sec) }] }
theorem wit_handshakes : base.linkOpen = true ∧ (base.host.sessions.any fun x => x.assoc = 2) = false ∧
    (shaking.host.shakes.find? fun y => y.assoc = 2 && y.doneMt.isNone && y.agreed).isSome = true ∧
    greeted.linkOpen = true ∧ (greeted.host.sessions.any fun x => x.assoc = 3) = false ∧ (greeted.host.shakes.any fun k => k.assoc = 3) = true ∧ (shaking.elapse 0).now ≤ 9 * Config.sec + 5 * Config.sec ∧
    (shaking.admitRole 2 6).isSome = true ∧ base.trustEmpty = true ∧
    (shaking.host.shakes.any fun k => k.assoc = 2 && k.doneMt.isNone && decide (k.startMt + 5 * Config.sec ≤ (shaking.elapse (4 * Config.sec)).now)) = true := by
  decide +kernel
theorem wit_sessionOpen : shaken.session? 70000 = none ∧ shaken.linkOpen = true ∧ shaken.power.cur = 0 ∧
    (∃ k, (shaken.host.shakes.find? fun y => y.assoc = 2 && y.doneMt.isSome) = some k ∧
      ((shaken.elapse 1).admitRole k.port k.fp).any (fun m => decide (3 ≤ m)) = true ∧ (shaken.elapse 1).openStatus k 4 0 0 8 = sBAD) ∧
    shaken.host.sessions.length < 16 := by
  refine ⟨by decide, by decide, rfl, ⟨_, rfl, by decide, by decide⟩, by decide⟩
theorem wit_frames : ∃ x, base.session? aHdr.sid = some x ∧ base.power.cur = 0 ∧ nextFrame x aHdr = true ∧ x.txq = [] ∧
    base.queue? 700 = none ∧ ringBytes 700 16 ≤ base.ringFree ∧ qFieldsOk 700 0 1 0 0 = true ∧ depthOk 16 = true ∧
    (∃ z, base.owns 7 900 = some z ∧ qKind 900 = 3 ∧ z.bound = false) ∧ (base.store.copies.all fun c => c.eq ≠ 900) = true ∧
    ∃ z, base.owns 7 3 = some z ∧ z.ring.length + 1 ≤ z.depth - 1 :=
  ⟨_, rfl, rfl, by decide, rfl, rfl, by decide, by decide, by decide, ⟨_, rfl, rfl, rfl⟩, by decide, _, rfl, by decide⟩
theorem wit_frameRefused : (((base.onQueue 900 fun x => { x with bound := true }).owns 7 900).any fun z => decide (qKind 900 = 3) && z.bound) = true ∧
    (base.session? 7).any (fun x => nextFrame x aHdr) = true := by decide +kernel
theorem wit_sessionsEnd : ((base.session? 7).any fun x => decide (x.sid = aHdr.sid) && nextFrame x aHdr && decide (x.port ≠ 2) &&
    decide (x.rxMt + x.tmo * Config.sec ≤ (base.elapse (20 * Config.sec)).now) && !base.isSt .update) = true := by decide +kernel
/-- A frame of the session that was sent 8 times, and one sent once. -/
def unacked (k : Nat) : State := base.onSession 7 fun x =>
  { x with unacked := [{ seq := 1, frame := .keepalive, sentMt := 0, tries := k }], ackDue := some 0 }
theorem wit_retransmit : (((unacked 8).session? 7).any fun x => (x.unacked.find? fun w =>
    decide (w.sentMt + x.rto * Config.ms * min 8 (2 ^ w.tries) ≤ ((unacked 8).elapse 0).now)).any fun u => decide (x.retries ≤ u.tries)) = true := by
  decide +kernel
theorem wit_linger : (((base.onHost fun h => { h with lingers := [{ sid := 8, fp := 1, untilMt := 5, len := 1 }] }).host.lingers.any fun l =>
      l.sid = 8 && decide (l.untilMt ≤ (base.elapse 1).now)) = true) ∧
    (shaken.host.shakes.any fun k => k.assoc = 2 && (k.doneMt.any fun m => decide (m + 2 * Config.sec ≤ (shaken.elapse (2 * Config.sec)).now))) = true := by
  decide +kernel
theorem wit_linkTimers : (((unacked 0).session? 7).any fun x => ((x.unacked.find? fun w =>
      decide (w.sentMt + x.rto * Config.ms * min 8 (2 ^ w.tries) ≤ ((unacked 0).elapse 0).now)).any fun u => decide (u.tries < x.retries)) &&
    (x.ackDue.any fun m => decide (m + 2 * Config.ms ≤ ((unacked 0).elapse 0).now)) &&
    decide (3 * x.txMt + x.tmo * Config.sec ≤ 3 * ((unacked 0).elapse (4 * Config.sec)).now ∧ x.txq = [] ∧ x.unacked.length < 32) &&
    ((unacked 0).queue? 900).any fun z => decide (z.owner = x.sid ∧ z.orphan = false ∧ z.sent < z.ring.length ∧
      z.coalN ≤ z.ring.length - z.sent ∧ 0 < z.depth)) = true := by decide +kernel
/-- SQ 3 with one NOP available, and one waiting for a resetting station. -/
def submitted : State := base.onQueue 3 fun x => { x with ring := [.cmd (anEntry 1 0 [])], w := 1, tail := 1 }
def waiting : State := (withCmd base 1 0x12 []).onFlight 1 fun x => { x with started := false }
theorem wit_fetch : ∃ x e rest ses, submitted.queue? 3 = some x ∧ x.orphan = false ∧ submitted.linkOpen = true ∧
    x.ring = .cmd e :: rest ∧ submitted.fetchable x = true ∧ submitted.turn = some 3 ∧ submitted.session? x.owner = some ses :=
  ⟨_, _, _, _, rfl, rfl, by decide, rfl, by decide, by decide, rfl⟩
theorem wit_start : ∃ fl, waiting.flight? 1 = some fl ∧ waiting.startable fl = true ∧ waiting.isSt .update = false ∧
    waiting.power.on = true ∧ stateStatus waiting.unit.st fl.e.op = none ∧ crosses fl.e = false ∧
    (waiting.host.flights.all fun x => !(decide (x.e.target = fl.e.target) && bitOf x.e.flags 2 && waiting.startable x)) = true ∧
    bitOf fl.e.flags 3 = false ∧ waiting.cmdAway fl = false ∧ fl.fetchMt + fl.tmo * Config.ms ≤ (waiting.elapse 0).now :=
  ⟨_, rfl, by decide, by decide, rfl, by decide, by decide, by decide, by decide, by decide, by decide⟩
def nodeNop (st : NState) (flags : Nat) : State :=
  { (withCmd base 1 0x20 []).onFlight 1 fun x => { x with started := false, e := { x.e with flags, expEpoch := 5 } } with
    lane := { base.lane with nodes := [(0x20, { st, mapped := true })] } }
theorem wit_startNode : ((nodeNop .online 0).flight? 1).any (fun fl => (nodeNop .online 0).startable fl && crosses fl.e && !bitOf fl.e.flags 3) = true ∧
    ((nodeNop .online 8).flight? 1).any (fun fl => (nodeNop .online 8).startable fl && bitOf fl.e.flags 3 &&
      decide (fl.e.expEpoch ≠ (nodeNop .online 8).epochOf fl.e.target)) = true ∧
    ((nodeNop .lost 0).flight? 1).any (fun fl => (nodeNop .lost 0).cmdAway fl && !fl.started &&
      decide (max fl.fetchMt ((nodeNop .lost 0).node 0x20).sinceMt + 50 * Config.ms ≤ ((nodeNop .lost 0).elapse 0).now)) = true ∧
    stateStatus .proof 0x22 ≠ none := by decide +kernel
theorem wit_resetWait : (((waiting.onSup fun u =>
    { u with resets := [{ station := 0x12, startMt := 0, oldEpoch := 0, flight := none }] }).sup.resets.find? fun y =>
    y.station = 0x12).any fun r => decide (r.startMt + 50 * Config.ms ≤ (waiting.elapse 0).now)) = true := by decide +kernel
theorem wit_complete : ∃ fl sq cq, (withCmd base 1 0 []).flight? 1 = some fl ∧ (withCmd base 1 0 []).queue? fl.sq = some sq ∧
    (withCmd base 1 0 []).queue? sq.cq = some cq ∧ sq.cq < 768 ∧ cq.ring.length + 1 < cq.depth := ⟨_, _, _, rfl, rfl, rfl, by decide, by decide⟩

-- Time bases, imposition, timers --------------------------------------------------------------------------

/-- A wheel that turns in LOCKED: Tp 16 ms, last edge at 10 s, pitch 19. -/
def aWheel : Wheel :=
  { st := .locked, pos := 256 * 19, count := 256 * 19, pitch := 19, tp := 16 * Config.ms, tBound := 10 * Config.sec, anchor := 10 * Config.sec
    tReal := 10 * Config.sec, tLast := 10 * Config.sec, sinceRef := 20, tRej := 10 * Config.sec }
def turning (x : Wheel) : State := base.onWheel 0 fun _ => x

theorem wit_position : ((turning aWheel).pTw 0 4 ≤ 255 ∧ (turning aWheel).pTw 0 5 ≤ 2 ∧ aWheel.pos < 2 ^ 48 ∧ aWheel.acq < 2 ^ 30 ∧
    diff48 (wheelE aWheel) aWheel.pos < 2 ^ 40 ∧ -(2 ^ 40) < diff48 (wheelE aWheel) aWheel.pos ∧ aWheel.sinceRef < 2 ^ 30 ∧ aWheel.sinceReal < 2 ^ 30) ∧
    ∃ t, exec (.toothEdge (16 * Config.ms) 0) (turning aWheel) = .next t := by
  refine ⟨by decide +kernel, ?_⟩
  simp only [exec, execToothEdge]
  split <;> exact ⟨_, rfl⟩
theorem wit_window : (turning aWheel).store.reprint = none ∧ (turning aWheel).isSt .reprint = false ∧ (turning aWheel).wheel 0 = aWheel ∧
    0 < (turning aWheel).time.wheels.length ∧ aWheel.absorb = false ∧
    (turning aWheel).pTw 0 6 * aWheel.tp ≤ 1000 * (((turning aWheel).elapse (16 * Config.ms)).now - aWheel.tBound) ∧
    2 * (((turning aWheel).elapse (16 * Config.ms)).now - aWheel.tBound) < (2 * (turning aWheel).pTw 0 5 + 1) * aWheel.tp ∧
    inZone ((turning aWheel).pTw 0 4) ((turning aWheel).pTw 0 5) ((turning aWheel).pTw 0 11) aWheel.pitch = false ∧
    1000 * (((turning aWheel).elapse Config.ms).now - aWheel.tBound) < (turning aWheel).pTw 0 6 * aWheel.tp ∧
    aWheel.rejRun + 1 < (turning aWheel).pTw 0 10 ∧ (turning { aWheel with rejRun := 2 }).pTw 0 10 ≤ 2 + 1 := by decide +kernel
theorem wit_windowGap : 0 < (turning { aWheel with pitch := 58 }).pTw 0 5 ∧
    (2 * (turning { aWheel with pitch := 58 }).pTw 0 5 + 1) * aWheel.tp ≤
      2 * (((turning { aWheel with pitch := 58 }).elapse (32 * Config.ms)).now - aWheel.tBound) ∧
    inZone ((turning aWheel).pTw 0 4) ((turning aWheel).pTw 0 5) ((turning aWheel).pTw 0 11) 58 = true ∧
    1000 * (((turning { aWheel with absorb := true, tSynth := 10 * Config.sec }).elapse Config.ms).now - 10 * Config.sec) ≤
      (turning aWheel).pTw 0 8 * aWheel.tp := by decide +kernel
theorem wit_between : aWheel.tBound + cdiv ((turning aWheel).wheelPar 0 0 * aWheel.tp) 1000 < ((turning aWheel).elapse (27 * Config.ms)).now ∧
    aWheel.synthRow < (turning aWheel).wheelPar 0 1 ∧
    inZone ((turning aWheel).pTw 0 4) ((turning aWheel).pTw 0 5) ((turning aWheel).wheelPar 0 2) aWheel.pitch = false ∧
    aWheel.anchor + cdiv ((aWheel.interp + 1) * aWheel.tp) 256 ≤ ((turning aWheel).elapse Config.ms).now ∧ aWheel.interp < 255 ∧
    aWheel.tLast + (turning aWheel).wheelPar 0 3 * 10000000 ≤ ((turning aWheel).elapse (60 * Config.sec)).now ∧
    (turning aWheel).store.reprint = none ∧ aWheel.restart = 0 ∧ 0 < aWheel.tp := by decide +kernel
def mains (m : MState) : State := base.onTime fun t => { t with ma := m, freq := 50 * 65536, coastLeft := 10, coastMt := 10 * Config.sec }
theorem wit_mains : (mains .coast).isSt .reprint = false ∧ (mains .coast).store.reprint = none ∧ [1, 2, 3, 4, 5].all (· < 91) = true ∧
    freqOk (50 * 65536) = true ∧ bitOf (base.time.active.getD 2 0) refPhase = false ∧ (mains .acquire).time.ma = .acquire ∧
    (mains .coast).time.steer = false ∧ ((mains .coast).onTime fun t => { t with steer := true }).time.steer = true ∧
    coastEndMt (mains .coast).time ≤ ((mains .coast).elapse Config.sec).now ∧ (mains .invalid).time.ma = .invalid ∧
    base.time.active.length = 5 ∧ bitOf (base.time.active.getD 2 0) 1 = false ∧ base.mainsPast 2 10 false = true ∧
    bitOf (base.time.active.getD 4 0) 0 = false ∧ base.mainsPast 4 0 false = true ∧ freqOk 0 = false ∧
    bitOf ((base.onTime fun t => { t with active := [0, 0, 2, 0, 0] }).time.active.getD 2 0) 1 = true ∧ base.mainsPast 2 4000 true = false ∧
    [0, 3, 4, 5, 6].all (fun b => ((withCmd base 0x28 1 [b]).flight? 1).any fun fl => ready fl 0x28 && decide (argB fl.e 0 = b)) = true ∧
    ((withCmd base 0x28 1 [3, 1]).flight? 1).any (fun fl => bitOf (argB fl.e 1) 0) = true := by decide +kernel

/-- A forme with one slot, number 20, on a base: its target and REPEAT. -/
def slotForme (rep : Nat) (base_ : Nat := 0) (target : Nat := 100) : Forme :=
  { recs := [(0x20 * 65536 + 20, le 8 target ++ le 8 rep ++ [0, 0, base_, 1] ++ List.replicate 12 0)] }
def slotted (rep : Nat) (wins : List Nat) : State :=
  { base with sup := { base.sup with forme := slotForme rep }
              imp := { slots := [(20, { st := .armed, next := 10 * Config.sec })], wins := [wins, [], [], [], [], []] } }
theorem wit_repeat : (slotted 1000 [20]).win 0 = [20] ∧ ((slotted 1000 [20]).slotEntry 20).base = 0 ∧
    ((slotted 1000 [20]).slotEntry 20).count = 0 ∧ ((slotted 1000 [20]).slotLive 20).next ≤ ((slotted 1000 [20]).elapse 7).now ∧
    ((slotted 1000 [20]).elapse 7).now < ((slotted 1000 [20]).slotLive 20).next + ((slotted 1000 [20]).slotEntry 20).rep ∧
    0 < ((slotted 1000 [20]).slotEntry 20).rep ∧ ((slotted 0 [20]).slotEntry 20).rep = 0 ∧
    ((slotted 0 [20]).slotEntry 20).base = 0 := by decide +kernel
def aFiring (action : Nat) : Firing := { slot := 20, base := 0, target := 5, mt := 5, occ := 1, marks := 0, action, index := 0, argA := 0, argB := 0 }
def queued (action : Nat) : State := base.onImp fun i => { i with queue := [aFiring action] }
theorem wit_imposition : (mains .locked).win 1 = [] ∧ 0 ≤ diff48 500 (mains .locked).time.ext ∧ (slotted 1000 []).imp.wins.length = 6 ∧
    baseDiff 0 ((slotted 1000 []).elapse 0).now (10 * Config.sec + 1) < 0 ∧ (queued 6).isResetting 3 = false ∧
    (withCmd (slotted 1000 [20]) 0x22 2 [20, 0, 1, 0, 0]).imp.slots.Pairwise (fun a b => a.1 < b.1) ∧
    ((withCmd (slotted 1000 [20]) 0x22 2 [20, 0, 1, 0, 0]).flight? 1).any (fun fl => ready fl 0x22 && decide (argN fl.e 0 2 = 20 ∧ argN fl.e 2 2 = 1 ∧ argB fl.e 4 = 0)) = true ∧
    ((withCmd base 0x21 2 [20, 0, 0]).flight? 1).any (fun fl => ready fl 0x21 && decide (argN fl.e 0 2 ≤ 4095 ∧ argB fl.e 2 = 0)) = true ∧
    ((withCmd (base.onSup fun u => { u with openF := some { forme := {}, baseGen := 0, opener := 7 } }) 0x20 2 ([20, 0, 0, 0] ++ le 8 100)).flight? 1).any
      (fun fl => ready fl 0x20 && slotReservedOk (slotOf (bytesAt fl.e.args 4 32))) = true := by decide +kernel
def maSlotted : State :=
  { mains .locked with
    sup := { base.sup with forme := slotForme 0 1 }
    imp := { slots := [(20, { st := .armed, next := 100 })], wins := [[], [20], [], [], [], []] } }
def disarmed : State := { slotted 0 [] with sup := { base.sup with forme := slotForme 0 0 (20 * Config.sec) }, imp := {} }
theorem wit_maSlot : maSlotted.win 1 = [20] ∧ (maSlotted.slotEntry 20).base = 1 ∧ (maSlotted.slotEntry 20).rep = 0 ∧
    (maSlotted.slotEntry 20).count ≤ 1 ∧ (maSlotted.slotLive 20).remaining = (maSlotted.slotEntry 20).count ∧ maSlotted.imp.wins.length = 6 ∧
    0 ≤ diff48 100 (maSlotted.slotLive 20).next ∧ 0 ≤ diff48 100 maSlotted.time.ext ∧
    0 ≤ baseDiff 0 ((slotted 0 []).elapse 0).now ((slotted 0 []).slotLive 20).next ∧ (queued 0).imp.held = [] ∧
    (disarmed.slotLive 20).st = .disabled ∧ (disarmed.slotEntry 20).rel = false ∧
    baseDiff 0 (disarmed.elapse 0).now (disarmed.slotEntry 20).target < 0 ∧
    ((withCmd disarmed 0x22 2 [20, 0, 1, 0, 1]).flight? 1).any (fun fl => ready fl 0x22 && decide (argB fl.e 4 = 1)) = true := by decide +kernel

/-- TM0 with a reload of 1,000 in a mode, running from 10 s, and an action for it in the inbox. -/
def timed (mode action : Nat) : State :=
  { base with
    sup := { base.sup with forme := { ws := [(0x500, mode), (0x501, 1000)] } }
    timers := base.timers.modify 0 fun t => { t with st := .running, cnt := if mode = 2 then 0 else 1000, anchor := 10 * Config.sec }
    imp := { base.imp with inbox := [aFiring action] } }
theorem wit_timers : 0 < (timed 0 6).timers.length ∧ ((timed 0 6).tmCfg 0).src = 0 ∧ ((timed 0 6).timer 0).lf = false ∧ 0 < (timed 0 6).tmReload 0 ∧
    ((timed 0 7).elapse 9).now < ((timed 0 7).timer 0).anchor + ((timed 0 7).timer 0).cnt * (((timed 0 7).tmCfg 0).presc + 1) ∧
    ((timed 1 7).timer 0).anchor + ((timed 1 7).timer 0).cnt * (((timed 1 7).tmCfg 0).presc + 1) ≤ ((timed 1 7).elapse 1000).now ∧
    ((timed 2 7).tmCfg 0).mode = 2 ∧ ((timed 2 7).timer 0).cnt < (timed 2 7).tmReload 0 ∧
    ((timed 2 7).timer 0).anchor + ((timed 2 7).tmReload 0 - ((timed 2 7).timer 0).cnt) * (((timed 2 7).tmCfg 0).presc + 1) ≤ ((timed 2 7).elapse 1000).now := by
  decide +kernel
theorem wit_timerClauses : (tmSignalMt ((timed 0 7).tmCfg 0) ((timed 0 7).tmReload 0) (((timed 0 7).elapse 9).tmNow 0)).all
      (fun m => decide (((timed 0 7).elapse 9).now < m)) = true ∧
    ((timed 0 7).timer 0).due = [] ∧ ((timed 0 7).timer 0).unit_ = none ∧ ((timed 1 7).tmCfg 0).mode = 1 ∧
    lfTick ((timed 1 7).timer 0).lfMt (((timed 1 7).timer 0).anchor + 1000) ≤ ((timed 1 7).elapse (10 * Config.sec)).now ∧
    (timed 2 7).tmReload 0 < 2 ^ 32 ∧ ((timed 0 7).tmCfg 0).src ≠ 3 ∧
    (let s := (timed 0 7).onTimer 0 fun t => { t with due := [5] }
     (s.timer 0).due.headD 0 ≤ (s.elapse 0).now ∧ (s.timer 0).unit_ = none) := by decide +kernel
theorem wit_group : canWrite (timed 0 6) 7 1 = true ∧ (timed 0 6).timers.length = 32 ∧ (List.range 32).all (fun n => decide ((base.timer n).st ≠ .running)) = true ∧
    ((base.onSession 7 fun x => { x with role := 0 }).session? 7).any (fun x => decide (x.role = 0)) = true := by decide +kernel

-- Ledger and batch ----------------------------------------------------------------------------------------

/-- Column C0 of the example in 05: depth 42, heat section 0 to 30, outlet 41, lead 1, LDG_KD 1,325, target 1,500;
`mode` 1 or 2; batch steps 0 HEAT with condition A ELAPSED 1 s and 1 COOL. -/
def ledgerForme (mode : Nat) : Forme :=
  { params := [(0x3000, mode), (0x3002, 42), (0x3004, 0), (0x3005, 30), (0x3006, 41), (0x3007, 1), (0x300E, 1325), (0x3010, 1500), (0x3017, 6)]
    recs := [(0x30 * 65536, [2, 0, 1, 1, 255, 127, 0, 0, 6, 0, 0, 0, 1, 0, 0, 0, 10, 0, 0, 0] ++ List.replicate 8 0 ++ [2, 0, 0, 0]),
      (0x30 * 65536 + 1, [4, 0, 0, 0, 255, 127, 0, 0, 2, 0, 0, 0] ++ List.replicate 16 0 ++ [2, 0, 0, 0])] }
def wetParcel : Parcel := { seq := 5120, mIn := some 2640, flags := 0 }
/-- The column with S = 11,400,000,000, B = 12 and the wet parcel at index `i`. -/
def ledger (mode i : Nat) (bst : BState) : State :=
  { base with
    sup := { base.sup with forme := ledgerForme mode }
    power := { base.power with heatMs := 10000, batchMs := 10000 }
    imp := { base.imp with inbox := [{ aFiring 8 with index := 0, target := 640000 * 7 }] }
    cols := base.cols.modify 0 fun x => { x with
      parcels := (List.replicate 42 ({} : Parcel)).set i wetParcel, nextSeq := 5150, s := 11400000000, bias := 12
      plen := some (9500, 9 * Config.sec), bst, entryMt := 9 * Config.sec } }
theorem wit_heat : (ledger 1 3 .idle).cols.length = 4 ∧ (ledger 1 3 .idle).store.reprint = none ∧ ((ledger 1 3 .idle).geo 0).mode ≠ 0 ∧
    (ledger 1 3 .idle).power.heatMs < ((ledger 1 3 .idle).elapse (7 * Config.ms)).now / 100000 ∧
    ((ledger 1 3 .idle).elapse (7 * Config.ms)).now / 100000 * 100000 ≤ 9 * Config.sec + (ledger 1 3 .idle).pLdg 0 0x0D * 10000000 ∧
    3 * Config.sec + base.pLdg 0 0x0D * 10000000 < (14000 + 1) * 100000 ∧ ((ledger 1 3 .idle).col 0).s < 2 ^ 64 := by decide +kernel
theorem wit_shift : ((ledger 1 29 .idle).geo 0).mode = 1 ∧ ((ledger 1 29 .idle).elapse 5).now / 100000 ≤ (ledger 1 29 .idle).power.heatMs ∧
    ((ledger 1 29 .idle).col 0).parcels.length = ((ledger 1 29 .idle).geo 0).depth ∧ ((ledger 1 29 .idle).geo 0).he < ((ledger 1 29 .idle).geo 0).depth ∧
    ((ledger 1 29 .idle).geo 0).out < ((ledger 1 29 .idle).geo 0).depth ∧ ((ledger 2 29 .idle).geo 0).mode ≠ 1 ∧
    ((ledger 1 29 .idle).geo 0).ff < ((ledger 1 29 .idle).geo 0).depth ∧ 48 ≤ (ledger 1 29 .idle).pLdg 0 8 ∧ (aFiring 8).occ = 1 ∧
    (aFiring 8).pended = false ∧ (ledger 1 29 .idle).imp.slots.Pairwise (fun a b => a.1 < b.1) := by decide +kernel
/-- 05 Table 5.10, 1,160 s: the wet parcel leaves the heat section with DOSE 11,400,000 and M_PRED 1,752. -/
theorem test_wetParcelPredicted : (match exec (.ledgerShift 0 0) (ledger 1 29 .idle) with
    | .next t => decide (((t.col 0).at_ 30).dose = 11400000 ∧ ((t.col 0).at_ 30).mPred = some 1752 ∧ ((t.col 0).at_ 30).seq = 5120)
    | _ => false) = true := by decide +kernel
def aTok (code : SCode) (role : Nat := 0) : VTok :=
  { kind := 0, index := 0, station := 5, epoch := 0, code, value := some 2640, stamp := 9 * Config.sec, cons := 1, obj := 0, role }
def closingLedger : State := (ledger 1 42 .idle).onCol 0 fun x =>
  { x with parcels := x.parcels ++ [{ wetParcel with mPred := some 1752, sumOut := 9 * 1760, cntOut := 9 }]
           closing := [{ at_ := 10 * Config.sec + 10000, cross := 10 * Config.sec, out := 41 }] }
theorem wit_samples : (aTok .ok 3).epoch = ((ledger 1 3 .idle).onToks fun _ => [aTok .ok]).epochOf 5 ∧
    (((ledger 1 3 .idle).elapse 0).now + diff48 (aTok .ok).stamp (((ledger 1 3 .idle).elapse 0).now % 2 ^ 48)).toNat = 9 * Config.sec ∧
    ((ledger 1 3 .idle).elapse 0).now / 100000 ≤ (ledger 1 3 .idle).power.heatMs ∧
    ((ledger 1 3 .idle).col 0).closing = [] ∧ ((ledger 1 3 .idle).col 0).closedMt ≤ 9 * Config.sec ∧
    9 * Config.sec < (((ledger 1 3 .idle).onCol 0 fun x => { x with closedMt := 10 * Config.sec }).col 0).closedMt ∧
    closingLedger.cols.length = 4 ∧ (closingLedger.col 0).closing.all (fun cl => decide (9 * Config.sec < cl.cross)) = true ∧
    (((ledger 2 3 .running).onCol 0 fun x => { x with phases := [(8 * Config.sec, 2)], recMt := 7 * Config.sec }).col 0).phases = [(8 * Config.sec, 2)] ∧
    bitOf 2 1 = true ∧ (((ledger 1 3 .idle).col 0).at_ 0).voidIn = false ∧
    (closingLedger.elapse 9).now < 10 * Config.sec + 10000 ∧ 10 * Config.sec + 10000 ≤ (closingLedger.elapse 10000).now ∧
    41 < (closingLedger.geo 0).depth := by decide +kernel
/-- 05 Table 5.10, 1,652 s: M_OUT closes at 1,760 and B becomes 12 + round(8 / 8) = 13. -/
theorem test_biasLearns : (match exec (.parcelClose 10000 0) closingLedger with | .next t => decide ((t.col 0).bias = 13) | _ => false) = true := by
  decide +kernel
theorem wit_batch : ((ledger 2 3 .running).col 0).bst = .running ∧ ((ledger 2 3 .running).geo 0).mode = 2 ∧
    (ledger 2 3 .running).power.batchMs < ((ledger 2 3 .running).elapse Config.ms).now / 100000 ∧
    ((ledger 2 3 .running).elapse Config.ms).batchCond 0 ((ledger 2 3 .running).bstep 0 0).a = true ∧
    ((ledger 2 3 .running).bstep 0 0).nextA = 1 ∧ ((ledger 2 3 .running).bstep 0 1).typ = 4 ∧ ((ledger 2 3 .running).bstep 0 0).typ = 2 ∧
    ((ledger 2 3 .running).elapse Config.ms).batchCond 0 ((ledger 2 3 .running).bstep 0 0).b = false ∧
    (((ledger 2 3 .running).onCol 0 fun x => { x with entryMt := 10 * Config.sec }).elapse Config.ms).batchCond 0
      ((ledger 2 3 .running).bstep 0 0).a = false ∧
    (List.range 4).all (fun k => k = 0 || decide (((ledger 2 3 .running).col k).bst ≠ .running)) = true ∧
    (ledger 2 3 .running).cle.loops.length = 48 ∧ 0 < ((ledger 2 3 .running).bstep 0 0).tmax ∧
    (ledger 2 3 .running).isSt .run = true ∧ ((ledger 2 3 .running).bstep 0 2).typ = 0 := by decide +kernel
theorem wit_batchTmax :
    let s := ((ledger 2 3 .running).onCol 0 fun x => { x with entryMt := 7 * Config.sec, step := 1 })
    (s.elapse Config.ms).batchCond 0 (s.bstep 0 1).a = false ∧ (s.elapse Config.ms).batchCond 0 (s.bstep 0 1).b = false ∧
    (s.bstep 0 1).tmax = 2 ∧ 7 * Config.sec + 2 * 100000000 ≤ (s.elapse Config.ms).now := by decide +kernel
theorem wit_batchStep : ((withCmd (ledger 2 3 .paused) 0x31 4 [0, 3, 1]).flight? 1).any
      (fun fl => ready fl 0x31 && decide (argB fl.e 0 = 0 ∧ argB fl.e 1 = 3 ∧ argB fl.e 2 = 1)) = true ∧
    ((ledger 2 3 .paused).elapse 5).now / 100000 ≤ (ledger 2 3 .paused).power.batchMs ∧
    ((withCmd (ledger 2 3 .paused) 0x30 4 [0, 0]).flight? 1).any (fun fl => ready fl 0x30 && decide (argB fl.e 1 = 0)) = true := by decide +kernel

-- Probe inputs, Pica, zones -------------------------------------------------------------------------------

/-- PC0 VOLT and PC1 MA in list order, SQ_POLICY `pol`; PC32 MOIST on grain table 3 of the example in 06, compensated by
PC34. -/
def probeForme (pol len : Nat) : Forme :=
  { params := [(0x4000, 4), (0x4010, 5), (0x4015, 0), (0x4200, 6), (0x4204, 1), (0x420B, 3), (0x420C, 34), (0x4400, pol), (0x4403, len),
      (0x4410, 0), (0x4411, 1), (0x4412, 2), (0x4413, 3), (0x4020, 1), (0x4021, 3), (0x4030, 4), (0x4034, 2), (0x48C0, 5), (0x48C1, 2000), (0x48C2, 60), (0x48D0, 12000), (0x48D1, 15000), (0x48D2, 18000), (0x48D3, 21000),
      (0x48D4, 24000), (0x48E0, 1200), (0x48E1, 1600), (0x48E2, 2000), (0x48E3, 2400), (0x48E4, 2800)] }
def probing (pol len : Nat) (x : Group) : State :=
  { base with
    sup := { base.sup with forme := probeForme pol len }
    imp := { base.imp with inbox := [{ aFiring 1 with index := 0, marks := 8 }] }
    probe := { base.probe with
      groups := base.probe.groups.modify 0 fun _ => x
      chans := base.probe.chans.modify 34 fun c => { c with okVal := some (3100, 10 * Config.sec) } } }
theorem wit_triggers : (probing 0 2 {}).probe.groups.length = 4 ∧ (probing 0 2 {}).pSq 0 3 ≠ 0 ∧ (probing 0 0 {}).pSq 0 3 = 0 ∧
    (probing 1 2 {}).pSq 0 0 = 1 ∧ (probing 2 2 {}).pSq 0 0 = 2 ∧ (probing 0 2 {}).pSq 0 1 ≠ 1 ∧ ((probing 0 2 {}).group 0).phase = .idle ∧
    ((probing 0 2 { phase := .settling }).group 0).phase ≠ .idle ∧ (probing 0 2 {}).imp.slots.Pairwise (fun a b => a.1 < b.1) ∧
    ((withCmd (probing 0 2 {}) 0x38 5 []).flight? 1).any (fun fl => ready fl 0x38 && decide (fl.e.target = 5)) = true := by decide +kernel
theorem wit_triggerClauses : ((probing 0 2 { phase := .settling, pended := some (0, 8) }).group 0).pended ≠ none ∧ (probing 0 2 {}).converting = true ∧
    (probing 0 2 {}).isResetting 5 = false ∧ ((probing 0 2 {}).onSup fun u =>
      { u with resets := [{ station := 5, startMt := 0, oldEpoch := 0, flight := none }] }).isResetting 5 = true ∧
    ({ probing 0 2 {} with sup := { base.sup with forme := { params := [(0x4401, 1), (0x4403, 2)] } } } : State).pSq 0 1 = 1 := by decide +kernel
theorem wit_grain : (probing 0 2 {}).pCh 32 11 = 3 ∧ ((probing 0 2 {}).formeOf 7).parN 0x48C0 = 5 ∧
    (List.range 4).all (fun i => decide (((probing 0 2 {}).formeOf 7).par (0x48D0 + i) < ((probing 0 2 {}).formeOf 7).par (0x48D0 + i + 1))) = true ∧
    ((probing 0 2 {}).formeOf 7).par 0x48C3 = 0 := by decide +kernel
/-- 06, the example: 216.60 pF at 31.00 °C is 24.22 %. -/
theorem test_moisture : (probing 0 2 {}).compTemp 32 = some 3100 ∧ ((probing 0 2 {}).moist 32 21660).value = some 2422 ∧
    ((probing 0 2 {}).moist 32 21660).code = .ok := by decide +kernel
theorem wit_conversions : (probing 0 2 {}).store.reprint = none ∧ (probing 0 2 {}).converting = true ∧
    ((probing 0 2 { phase := .settling }).group 0).phase = .settling ∧ (probing 0 2 {}).pSq 0 0x10 = 0 ∧ (probing 0 2 {}).pSq 0 0x11 = 1 ∧
    (probing 0 2 {}).pCh 0 3 = 20 ∧ 20000 ≤ ((probing 0 2 {}).elapse 0).now ∧
    ((probing 0 2 {}).elapse 0).now < ((probing 0 2 { phase := .settling, slotMt := 10 * Config.sec - 19999 }).group 0).slotMt + 20000 ∧
    (probing 0 2 {}).pCh 0 6 = 20 ∧ (probing 0 2 {}).lic 0 = true ∧ (probing 0 2 {}).lic 1 = false ∧ (probing 0 2 {}).probe.chans.length = 64 ∧
    ((probing 0 2 {}).chan 0).lastMt + (probing 0 2 {}).pCh 0 13 * 10000000 ≤ ((probing 0 2 {}).elapse 0).now ∧
    ((probing 0 2 {}).elapse 0).now < (({ probing 0 2 {} with probe := { base.probe with
      chans := base.probe.chans.modify 0 fun c => { c with lastMt := 10 * Config.sec } } } : State).chan 0).lastMt + (probing 0 2 {}).pCh 0 13 * 10000000 := by
  decide +kernel
theorem wit_conversionSlots : ((probing 0 2 { phase := .integrating, slotMt := 7 }).group 0).phase = .integrating ∧
    7 + 20000 + 1 * (probing 0 2 {}).integration 0 + 4000 ≤ ((probing 0 2 {}).elapse 0).now ∧ (probing 0 4 {}).pCh 2 1 = 3 ∧
    (probing 0 2 {}).chMode 0 = 4 ∧ (probing 0 2 {}).chMode 1 = 5 ∧ (probing 0 4 {}).chMode 2 = 1 ∧ (probing 0 2 {}).pCh 0 4 = 1 ∧
    (probing 0 4 {}).pSq 0 0x12 = 2 ∧ (probing 0 4 {}).pSq 0 0x13 = 3 ∧ (probing 0 4 {}).chMode 3 = 4 ∧ (probing 0 4 {}).pCh 3 4 = 2 ∧
    ((probing 0 4 {}).chan 3).blkN + 1 < 2 ∧ (probing 0 4 {}).pCh 1 4 = 1 ∧ (probing 0 4 {}).pCh 2 4 = 1 ∧ rtdTemp 100 10000 = 0 ∧
    ((probing 0 2 {}).group 0).idx + 1 < (probing 0 2 {}).pSq 0 3 ∧ (probing 0 2 {}).pSq 0 3 ≤ ((probing 0 2 { idx := 1 }).group 0).idx + 1 ∧
    ((probing 0 2 { idx := 1, pended := some (1, 3) }).group 0).pended = some (1, 3) ∧
    ({ probing 0 2 {} with sup := { base.sup with forme := { params := [(0x4401, 1), (0x4403, 1)] } } } : State).pSq 0 3 = 1 := by decide +kernel
theorem wit_blockEnds : ({ probing 0 4 {} with probe := { base.probe with chans := base.probe.chans.modify 3 fun c =>
    { c with blkN := 1, blkOk := 0, blkSum := 7 } } } : State).chan 3 = { blkN := 1, blkOk := 0, blkSum := 7 } ∧
    2 ≤ 2 * (0 + 1) := by decide +kernel
theorem wit_sampleCmds : ((withCmd base 0x39 5 [3, 0]).flight? 1).any (fun fl => ready fl 0x39 && decide (argB fl.e 0 / 16 + 5 = fl.e.target)) = true ∧
    ((withCmd base 0x39 5 [16, 1]).flight? 1).any (fun fl => ready fl 0x39 && decide (argB fl.e 0 / 16 + 5 ≠ fl.e.target ∧ argB fl.e 1 = 1)) = true ∧
    ((withCmd base 0x3A 5 [127, 3, 1, 0, 2, 0]).flight? 1).any (fun fl => ready fl 0x3A && decide (argN fl.e 0 2 < 896)) = true ∧
    ((withCmd base 0x3A 5 [132, 3, 1, 0, 2, 0]).flight? 1).any (fun fl => ready fl 0x3A && decide (argN fl.e 0 2 = 900 ∧ argB fl.e 4 ≠ 0)) = true ∧
    ((withCmd base 0x3A 5 [132, 3, 1, 0, 2, 1]).flight? 1).any (fun fl => ready fl 0x3A && decide (argN fl.e 0 2 = 900 ∧ argB fl.e 5 = 1)) = true ∧
    (base.queue? 900).any (fun q => decide (q.owner = 7 ∧ q.orphan = false ∧ q.bound = false)) = true ∧
    ((base.onQueue 900 fun q => { q with bound := true }).queue? 900).any (fun q => decide (q.owner = 7 ∧ q.bound = true)) = true := by
  decide +kernel

/-- CB0 with a map of two IDs, and zone Z4 of the example in 07 over points of CB3. -/
def picaForme : Forme :=
  { params := [(0x5003, 2 * 256 + 3), (0x5900, 1), (0x5901, 6), (0x5902, 4), (0x5903, 1800), (0x5908, 1500), (0x5909, 2500), (0x5910, 3000), (0x5911, 10000)] ++
      (List.range 6).map fun i => (0x5920 + i, ((0x20090300 + 8 + 4 * i : Nat) : Int))
    recs := [(0x51 * 65536, le 6 500 ++ le 6 300 ++ List.replicate 372 0)] }
def aPort : Port := { table := [{ id := 500, mapped := true, found := true }, { id := 300, mapped := true, found := true, misses := 2 }], nextMt := 70 * Config.sec }
def bussed (x : Port) : State :=
  { base with
    sup := { base.sup with forme := picaForme }
    pica := { base.pica with ports := base.pica.ports.modify 0 fun _ => x } }
theorem wit_scans : (bussed aPort).pica.ports.length = 8 ∧ (bussed aPort).isResetting 9 = false ∧ (bussed aPort).portOn 0 = true ∧
    (bussed aPort).converting = true ∧ 0 < (bussed aPort).pPc 0 1 ∧ aPort.nextMt ≤ ((bussed aPort).elapse (60 * Config.sec)).now ∧
    aPort.scanning = false ∧ aPort.pendScan = false ∧ aPort.enumF = none ∧
    ((withCmd (bussed aPort) 0x40 9 [0, 0]).flight? 1).any (fun fl => ready fl 0x40 && decide (argB fl.e 1 = 0)) = true ∧
    ((withCmd (bussed aPort) 0x40 9 [1, 0, 1]).flight? 1).any (fun fl => ready fl 0x40 && decide (argB fl.e 0 = 1 ∧ argB fl.e 2 < aPort.table.length)) = true ∧
    ((withCmd (bussed aPort) 0x41 9 [0, 0]).flight? 1).any (fun fl => ready fl 0x41 && decide (fl.f = 1)) = true ∧
    ((bussed { aPort with scanning := true, pendScan := true }).port 0).pendScan = true ∧
    ((bussed { aPort with enumg := true, enumF := some 4 }).port 0).enumF.isSome = true ∧
    ((bussed aPort).formeOf 9).picaMap 0 = [500, 300] := by decide +kernel
theorem wit_readSlots : 10 * Config.sec + 50000000 ≤ ((bussed { aPort with startMt := 10 * Config.sec }).elapse (Config.sec / 2)).now ∧
    ((bussed { aPort with startMt := 10 * Config.sec }).elapse 49999999).now < 10 * Config.sec + 50000000 ∧
    10 * Config.sec + 50000000 + 1562500 * (1 + 1) ≤ ((bussed aPort).elapse Config.sec).now ∧ 1 < aPort.table.length ∧
    min 15 (((bussed aPort).point 0 1).misses + 1) = 3 ∧ (bussed aPort).missN 0 = 3 ∧ crc8 [1, 2, 3, 4, 5] = 104 ∧
    bitOf ([1, 2, 3, 4, 5].getD 0 0) 0 = true ∧ bitOf ([2, 2, 3, 4, 5].getD 0 0) 1 = true := by decide +kernel
def nodePorted : State :=
  { bussed aPort with
    sup := { base.sup with forme := { params := [(0x5020, 1), (0x5022, 10)] } }
    pica := { base.pica with nodePts := [(64 * 8 + 5, { id := 6 })] } }
theorem wit_portFaults : 0 < aPort.table.length ∧ 5 * Config.sec + 5 * Config.sec ≤ ((bussed aPort).elapse 0).now ∧
    ((bussed aPort).elapse 3).now < 9 * Config.sec + 5 * Config.sec ∧
    ((bussed aPort).point 0 0).lastMt + (bussed aPort).pPc 0 2 * 10000000 ≤ ((bussed aPort).elapse (300 * Config.sec)).now ∧
    (nodePorted.pica.nodePts.Pairwise fun a b => a.1 < b.1) ∧ (64 * 8 + 5, ({ id := 6 } : Point)) ∈ nodePorted.pica.nodePts ∧
    nodePorted.portOn 8 = true ∧
    (nodePorted.point 8 5).lastMt + nodePorted.pPc 8 2 * 10000000 ≤ (nodePorted.elapse (300 * Config.sec)).now := by decide +kernel
/-- Z4 with its six sources at the example's temperatures. -/
def zoned (st : ZState) : State := (bussed aPort).onZone 4 fun z => { z with
  st, srcs := [(0, ⟨.ok, 0, 9, some 1450, 10 * Config.sec⟩), (1, ⟨.ok, 0, 9, some 1525, 10 * Config.sec⟩), (2, ⟨.ok, 0, 9, some 1613, 10 * Config.sec⟩),
    (3, ⟨.ok, 0, 9, some 1594, 10 * Config.sec⟩), (4, ⟨.suspect, 0, 9, none, 10 * Config.sec⟩)], value := some 1631, demand := 3917 }
def zoneTok (code : SCode) : VTok :=
  { kind := 1, index := 3 * 64 + 20, station := 9, epoch := 0, code, value := if code = .ok then some 1631 else none, stamp := 10 * Config.sec, cons := 0, obj := 4, role := 3 }
theorem wit_zones : (zoned .ok).zonesRun = true ∧ (zoned .ok).store.reprint = none ∧ (zoned .ok).pica.zones.length = 16 ∧ (zoned .ok).pZn 4 0 ≠ 0 ∧ (zoneTok .ok).epoch = (zoned .ok).epochOf 9 ∧
    ((zoned .ok).pica.ageMt / 10000000 + 1) * 10000000 ≤ ((zoned .ok).elapse 5).now ∧ ((zoned .hold).zone 4).st = .hold ∧
    ((zoned .hold).zone 4).holdMt + (zoned .hold).pZn 4 3 * 10000000 ≤ ((zoned .hold).elapse (180 * Config.sec)).now ∧
    (zoned .ok).pZn 4 5 = 2 ∧ (zoned .ok).par 0x5908 = 1500 ∧ (zoned .ok).par 0x5909 = 2500 := by decide +kernel
/-- 07, the example: 16.31 °C demands 39.17 %, 16.13 °C 37.91 %. -/
theorem test_zoneDemand : (zoned .ok).zoneCurve 4 1631 = 3917 ∧ (zoned .ok).zoneCurve 4 1613 = 3791 := by decide +kernel
/-- 07 Table 7.11, 828.125 ms: index 20 SUSPECT leaves five sources, below four the zone is FAILED at 100 %. -/
theorem test_zoneFails : (match exec (.zoneEvaluate 5 4) ((zoned .ok).onToks fun _ => [zoneTok .suspect]) with
    | .next t => decide ((t.zone 4).st = .failed ∧ (t.zone 4).demand = 10000) | _ => false) = true := by decide +kernel

-- Control engine ------------------------------------------------------------------------------------------

/-- L1 of the example in 08, with Y 9,450; its next evaluation is not a first one. -/
def aLoop : Loop :=
  { kp := 96, ki := 5, shift := 4 + 32 * 8, sp := 9500, umin := 2000, umax := 18000, iacc := 2560000, shiLast := 8, first := false, out := 10300 }
def aSnap (dl : Option Nat) : Snap :=
  { trigMt := 10 * Config.sec, inMt := 10 * Config.sec, y := 9450, yOk := true, yStamp := 0, f := 0, fOk := true, fStamp := 0, sp := 9500, kp := 96
    ki := 5, kd := 0, kff := 0, shift := 4 + 32 * 8, umin := 2000, umax := 18000, held := false, holdVal := none, bump := false
    acc := .accepted, accN := 1, dl, n := 0 }
/-- The loop enabled in DEADLINE mode with destination SETPOINT of L2. -/
def looped (x : Loop) : State :=
  { base with
    sup := { base.sup with live := [(0x6050, 1), (0x6051, 4 * 4096), (0x6053, 5 * 4096 + 2), (0x6054, 1)] }
    cle := { base.cle with loops := base.cle.loops.modify 1 fun _ => x } }
theorem wit_evaluation : (looped { aLoop with busy := some (aSnap none) }).cle.loops.length = 48 ∧
    (looped aLoop).cle.busyMt + 50 ≤ ((looped aLoop).elapse 50).now ∧ (looped aLoop).isSt .reprint = false ∧
    10 * Config.sec + 40 < ((looped aLoop).elapse 50).now ∧ ((looped aLoop).elapse 50).now ≤ 10 * Config.sec + 5000 ∧
    (looped aLoop).pL 1 0x19 = 0 ∧ (aSnap none).yOk = true ∧ (aSnap none).held = false ∧ (aSnap none).bump = false := by decide +kernel
theorem wit_evaluationClauses : ((looped { aLoop with busy := some { aSnap none with yOk := false } }).loop 1).busy ≠ none ∧
    ({ aSnap none with held := true, holdVal := some 3000 } : Snap).held = true ∧ (looped aLoop).store.reprint = none ∧
    ({ looped aLoop with cle := { (looped aLoop).cle with busyMt := 10 * Config.sec } } : State).cle.busyMt + 50 > ((looped aLoop).elapse 49).now ∧
    ({ looped aLoop with sup := { base.sup with live := [(0x6059, 1)] } } : State).pL 1 0x19 = 1 ∧ (aSnap none).shift / 32 % 32 = aLoop.shiLast := by
  decide +kernel
/-- 08 Table 8.12, 0.000 and 0.050 ms: U 10,300 waits for the deadline and I_ACC becomes 2,560,250. -/
theorem test_evaluation : (match exec (.loopEvalComplete 50 1) (looped { aLoop with busy := some (aSnap (some (10 * Config.sec + 5000))) }) with
    | .next t => decide ((t.loop 1).iacc = 2560250 ∧ (t.loop 1).outs = [(10 * Config.sec + 5000, 10300)]) | _ => false) = true := by decide +kernel
/-- 08 Table 8.12, 100 ms: KP 160 with SHP 4 gives raw 10,481. -/
theorem test_mixture : (evaluate { aLoop with iacc := 2560250 } { aSnap none with kp := 160, y := 9452 } false).raw = 10481 := by decide +kernel
def trigTok : VTok := { kind := 9, index := 1, station := 10, epoch := 0, code := .ok, value := some 1000000000, stamp := 10 * Config.sec, cons := 4, obj := 1, role := 1 }
def yTok : VTok := { kind := 0, index := 3, station := 5, epoch := 0, code := .ok, value := some 9450, stamp := 10 * Config.sec, cons := 2, obj := 1, role := 0 }
theorem wit_loopTriggers : (looped aLoop).loopEn 1 = true ∧ (looped aLoop).isResetting 0x0A = false ∧ (looped aLoop).pL 1 0x16 = 0 ∧
    yTok.epoch = (looped aLoop).epochOf yTok.station ∧ (looped aLoop).cle.loops.all (fun x => x.busy.isNone) = true ∧
    (looped aLoop).cle.accepted = 0 ∧ ((looped { aLoop with queued := some (aSnap none) }).loop 2).queued = none ∧
    10 * Config.sec + 3 ≤ ((looped aLoop).elapse 5).now := by decide +kernel
theorem wit_loopPolicies : ({ trigTok with epoch := 3 }).epoch ≠ (looped aLoop).epochOf trigTok.station ∧
    trigTok.epoch = (looped aLoop).epochOf trigTok.station ∧ (looped aLoop).isSt .run = true ∧ base.loopEn 1 = false ∧
    ({ looped aLoop with sup := { base.sup with live := [(0x6056, 1)] } } : State).pL 1 0x16 = 1 ∧
    ({ looped aLoop with sup := { base.sup with live := [(0x6056, 2)] } } : State).pL 1 0x16 = 2 ∧
    ((looped { aLoop with queued := some (aSnap none), pend := some { aSnap none with n := 1 } }).loop 1).pend ≠ none ∧
    ({ aFiring 2 with index := 1 }).action = 2 ∧ ({ trigTok with role := 0 }).role = 0 ∧ ({ yTok with cons := 3 }).cons = 3 ∧
    ({ yTok with kind := 3, station := 4 }).epoch = (looped aLoop).epochOf 4 ∧
    (({ looped aLoop with cle := { (looped aLoop).cle with accepted := 4, busyMt := 10 * Config.sec } } : State).elapse 49).now < 10 * Config.sec + 50 ∧
    ((looped { aLoop with outs := [(10 * Config.sec + 3, 7)] }).elapse 2).now < 10 * Config.sec + 3 ∧ aLoop.outs = [] := by decide +kernel
theorem wit_bumpless : -(2 ^ 63) ≤ (2560000 : Int) * 2 ^ (9 - 8) ∧ (2560000 : Int) * 2 ^ (9 - 8) + 2 ^ (9 - 1) < 2 ^ 63 ∧
    (evaluate aLoop { aSnap none with bump := true } false).p = 300 ∧ (evaluate aLoop { aSnap none with bump := true } false).raw = aLoop.out ∧
    -(2 ^ 63) ≤ (aLoop.out - 300 - 0 - 0) * 2 ^ ((aSnap none).shift / 32 % 32) ∧
    (aLoop.out - 300 - 0 - 0) * 2 ^ ((aSnap none).shift / 32 % 32) < 2 ^ 63 := by decide +kernel
theorem wit_loopWrites : canWrite (looped aLoop) 7 2 = true ∧ (looped aLoop).loopWriteOk 1 0 160 = true ∧ ((looped aLoop).loop 1).umax < sx 32 20000 ∧
    ((withCmd (looped aLoop) 0x48 10 [1, 1, 0, 0, 184, 11]).flight? 1).any (fun fl => ready fl 0x48 && decide (argI fl.e 4 4 = 3000)) = true ∧
    ((withCmd (looped aLoop) 0x49 10 [1, 1]).flight? 1).any (fun fl => ready fl 0x49 && bitOf (argB fl.e 1) 0) = true := by decide +kernel
theorem wit_loopRefusals : canWrite (looped aLoop) 7 1 = true ∧ (looped aLoop).loopEn 1 = true ∧
    inDst (((looped aLoop).elapse 0).wakeUp.pL 1 0x13) (sx 32 20000) = true ∧ inDst (4096 * 2) (sx 32 20000) = false ∧
    sx 32 1000 < ((looped aLoop).loop 1).umin ∧ (looped aLoop).toks = [] ∧ (looped aLoop).pL 1 0x13 % 64 = 2 ∧
    ((looped { aLoop with copyU := [(9000, 5)] }).loop 1).copyU = [(9000, 5)] ∧
    ((withCmd base 0x48 10 [1, 0, 0, 0, 0, 0]).flight? 1).any (fun fl => ready fl 0x48 && !bitOf (argB fl.e 1) 0 && !base.loopEn 1) = true ∧
    ((withCmd (looped aLoop) 0x48 10 [1, 1, 0, 0, 0, 0]).flight? 1).any (fun fl => decide (argI fl.e 4 4 < 2000)) = true ∧
    ((withCmd base 0x49 10 [1, 0]).flight? 1).any (fun fl => ready fl 0x49 && !base.loopEn 1) = true := by decide +kernel
def armCmd (start : Nat) : List Nat := [0, 0, 1, start, 0, 0, 0, 66, 5, 0]
def galleyed (st : GalState) : State :=
  { (looped aLoop) with
    cle := { (looped aLoop).cle with galleys := base.cle.galleys.modify 0 fun g => { g with st, loop := 1, start := 4, stop := 1, copying := true } }
    store := { base.store with mounted := true }
    imp := { base.imp with inbox := [{ aFiring 10 with index := 0 }] } }
theorem wit_galleys : (galleyed .frozen).cle.galleys.length = 8 ∧ ((galleyed .frozen).gal 0).copying = true ∧ (galleyed .frozen).store.readOnly = false ∧
    ((withCmd (galleyed .frozen) 0x4A 10 (armCmd 1)).flight? 1).any (fun fl => ready fl 0x4A && decide (argB fl.e 2 = 1 ∧ argB fl.e 3 = 1 ∧
      argN fl.e 8 2 = 5) && !bitOf (argN fl.e 6 2) 11 && !bitOf (argN fl.e 6 2) 15) = true ∧
    ((withCmd (galleyed .frozen) 0x4A 10 [0, 1]).flight? 1).any (fun fl => ready fl 0x4A && decide (argB fl.e 1 = 1)) = true ∧
    (galleyed .wait).imp.slots.Pairwise (fun a b => a.1 < b.1) ∧
    ((withCmd (galleyed .frozen) 0x4B 10 [0, 0, 132, 3]).flight? 1).any (fun fl => ready fl 0x4B &&
      ((galleyed .frozen).ownXq fl.sid (argN fl.e 2 2)).any fun q => !q.bound) = true := by decide +kernel
theorem wit_galleyClauses : (galleyed .wait).evaluating = true ∧ ((galleyed .wait).gal 0).start = 4 ∧ ((galleyed .recording).gal 0).stop = 1 ∧
    ((galleyed .recording).gal 0).post = 0 ∧ (((galleyed .wait).onGal 0 fun y => { y with start := 2, nodes := 2 ^ 14 }).gal 0).start ≠ 4 ∧
    bitOf (2 ^ 14) 14 = true ∧ (((galleyed .recording).onGal 0 fun y => { y with stop := 3 }).gal 0).stop = 3 ∧
    ((galleyed .frozen).store.mounted = true) ∧ (looped aLoop).store.mounted = false ∧
    ((galleyed .frozen).onQueue 900 fun q => { q with bound := true }).ownXq 7 900 ≠ none := by decide +kernel

-- Fans ----------------------------------------------------------------------------------------------------

/-- FD0 enabled in FG0, with FTRIP0_MASK naming it. -/
def fanForme : Forme := { params := [(0x7000, 1), (0x7302, 1)] }
def fanned (x : Drive) : State :=
  { base with
    sup := { base.sup with forme := fanForme }
    fan := { base.fan with drives := base.fan.drives.modify 0 fun _ => x, groups := base.fan.groups.modify 0 fun g => { g with host := some (7000, 7) } } }
def running : Drive := { st := .run, ref := 5000, pct := 5000, runMt := some 0, gates := true, pwr := 1000 }
theorem wit_references : (fanned running).fan.drives.length = 6 ∧ (fanned running).fan.groups.length = 4 ∧ (fanned running).pFd 0 1 = 0 ∧
    (fanned running).fan.tickMs < ((fanned running).elapse 0).now / 100000 ∧ (fanned running).driveOn 0 = true ∧
    (fanned running).fan.redu = 10000 ∧ (fanned running).isResetting 0x0B = false ∧ (fanned running).skipBands 0 = [] ∧
    (fanned running).isSt .standby = false ∧
    ([(8200, 8800), (1000, 1200)] : List (Nat × Nat)).Pairwise (fun a b => a.2 ≤ b.1 ∨ b.2 ≤ a.1) ∧
    ([(8200, 8800), (1000, 1200)] : List (Nat × Nat)).all (fun b => decide (b.1 < b.2)) = true := by decide +kernel
theorem wit_limits : (((fanned running).onSup fun u => { u with forme := { params := [(0x7000, 1), (0x7014, 4000), (0x7015, 6000)] } }).skipBands 0) = [(4000, 6000)] ∧
    ({ running with pwrLim := true }).pwrLim = true ∧ ((fanned running).onFan fun f => { f with redu := 9500 }).fan.redu < 10000 ∧
    resolveSkip [(4000, 6000)] 5000 5500 = 4000 ∧ ((fanned running).elapse 0).now / 100000 ≤ 10 * 1000 ∧
    ((fanned { st := .kick }).drive 0).st ≠ .run := by decide +kernel
/-- 09 R222 with FD_RAMP_UP 500: 5 % a second is 0.5 of 0.01 % in a millisecond; T is the host's 70.00 % (09 R220, R221). -/
theorem test_ramp : (match exec (.driveRefTick 0 []) (fanned running) with
    | .next t => decide ((t.drive 0).target = 7000 ∧ (t.drive 0).ref = 5000 ∧ (t.drive 0).frac = 500) | _ => false) = true := by decide +kernel
def kicking (drive : Bool) : Drive := { st := .kick, kickDrive := drive, kickMt := 5 * Config.sec, retry := true, pulses := 1 }
theorem wit_kicks : (fanned (kicking true)).driveOn 0 = true ∧ (kicking false).kickMt + 10000000 ≤ ((fanned (kicking false)).elapse 0).now ∧
    (kicking true).kickMt + (fanned (kicking true)).pFd 0 0x0A * 10000000 ≤ ((fanned (kicking true)).elapse 0).now ∧
    (kicking true).pulses < (fanned (kicking true)).pFd 0 9 ∧ (fanned running).pFd 0 3 = 0 ∧ (fanned running).pFg 0 0 = 2 ∧
    0 < (((fanned running).elapse 0).fgView 0).t ∧
    0 + (fanned running).parN 0x7304 * Config.sec ≤ ((fanned running).elapse (600 * Config.sec)).now ∧
    1 * Config.sec + (fanned running).pFd 0 0x19 * 10000000 ≤ ((fanned running).elapse 0).now ∧
    ((withCmd (fanned { st := .wait }) 0x52 11 [0]).flight? 1).any (fun fl => ready fl 0x52 && decide (fl.e.target = 0x0B + 0 ∧ argB fl.e 0 = 0)) = true ∧
    ((withCmd (fanned { st := .lockout }) 0x53 11 [0]).flight? 1).any (fun fl => ready fl 0x53 && decide (argB fl.e 0 = 0)) = true := by decide +kernel
/-- The same drive with FG_STOP 5.00 % and no demand. -/
def idleFan (x : Drive) : State :=
  { fanned x with
    sup := { base.sup with forme := { params := [(0x7000, 1), (0x7204, 500)] } }
    fan := { base.fan with drives := base.fan.drives.modify 0 fun _ => x } }
theorem wit_kickClauses : (fanned running).fansActive = true ∧ (fanned running).power.uv = false ∧
    (((idleFan { st := .wait, nextMt := some 5 }).elapse 0).fgView 0).t = 0 ∧ (idleFan running).driveOn 0 = true ∧
    (fanned running).parN 0x7305 = 20 ∧ ({ running with attempts := 20 }).attempts ≥ 20 ∧ running.runMt = some 0 ∧
    ({ running with slowMt := some (1 * Config.sec) }).slowMt = some (1 * Config.sec) ∧ (1000 : Nat) < 65536 ∧
    ({ st := .off, parked := true, lockout := true } : Drive).parked = true ∧ moving .off = false ∧ moving .lockout = false ∧
    (({ fanned running with sup := { base.sup with forme := { params := [(0x7000, 1), (0x7200, 0)] } } } : State).pFg 0 0 = 0) := by decide +kernel
/-- 09 Table 9.13: the stall of FD2 puts attempt 1 15 s later. -/
theorem test_stall : (match exec (.stall 0 0 true) (fanned running) with
    | .next t => decide ((t.drive 0).st = .wait ∧ (t.drive 0).nextMt = some (25 * Config.sec)) | _ => false) = true := by decide +kernel
def tripped (active : Nat) : Drive := { st := .tripped, trip := 16, active }
theorem wit_trips : (fanned running).fan.ftrip.length = 2 ∧ running.trip < 64 ∧ bitOf ((fanned running).ftripMask 0) 0 = true ∧
    bitOf ((fanned running).ftripMask 0) 1 = false ∧ ((fanned running).elapse 0).remoteTrip 0 = false ∧
    (tripped 16).trip &&& (tripped 16).active ≠ 0 ∧ (tripped 0).trip &&& (tripped 0).active = 0 ∧
    ((withCmd (fanned (tripped 0)) 0x51 11 [0]).flight? 1).any (fun fl => ready fl 0x51 && decide (fl.e.target = 0x0B + 0 ∧ argB fl.e 0 = 0)) = true := by
  decide +kernel
theorem wit_fanPower : (fanned running).fan.groups.length = 4 ∧ 5 * Config.sec + 20 * Config.ms ≤ ((fanned running).elapse 0).now ∧
    (fanned running).power.uv = false ∧ ({ (fanned running) with unit := { st := .update } } : State).isSt .update = true ∧
    (fanned running).power.updMt + (fanned running).parN 0x7301 * Config.sec ≤ ((fanned running).elapse (30 * Config.sec)).now ∧
    (fanned running).fan.coolFail = 0 ∧
    ((withCmd (fanned running) 0x50 11 [2, 0, 88, 27]).flight? 1).any (fun fl => ready fl 0x50 && decide (argN fl.e 2 2 = 7000)) = true ∧
    ((withCmd (fanned running) 0x50 11 [4, 0, 88, 7]).flight? 1).any (fun fl => ready fl 0x50 && decide (argN fl.e 2 2 ≤ 10000)) = true := by decide +kernel
theorem wit_undervolt : (1999 : Nat) < 2000 ∧ ({ fanned running with power := { base.power with uv := true } } : State).power.uv = true ∧
    ((fanned { st := .uv, parked := true }).drive 0).parked = true ∧ ((fanned { st := .uv, parked := true }).drive 0).st = .uv ∧
    ((fanned running).onFan fun f => { f with overMt := some (5 * Config.sec) }).fan.overMt = some (5 * Config.sec) ∧
    ({ running with budget := 0 }).budget = 0 ∧ running.i2tLim = false ∧ ({ base with unit := { st := .proofHold } }).isSt .run = false ∧
    ((withCmd (fanned running) 0x50 11 [3, 0]).flight? 1).any (fun fl => ready fl 0x50 && decide (argB fl.e 0 = 3)) = true ∧
    ((withCmd (fanned running) 0x50 11 [6, 0]).flight? 1).any (fun fl => ready fl 0x50 && decide (argB fl.e 0 = 6 ∧ fl.e.target = 0x0B + 0)) = true ∧
    ((withCmd (fanned running) 0x50 11 [2, 0, 17, 39]).flight? 1).any (fun fl => ready fl 0x50 && decide (10000 < argN fl.e 2 2)) = true := by
  decide +kernel

-- Valves --------------------------------------------------------------------------------------------------

/-- SV0 a PROP coil of 100.0 mH on a host command, SV1 a PH coil of 5.0 mH, SV2 under SV_PERMIT. -/
def svForme : Forme := { params := [(0x8000, 1), (0x8001, 20000), (0x8003, 1000), (0x8020, 2), (0x8023, 50), (0x8040, 1), (0x8043, 1000), (0x804E, 1)] }
def valved (f : ValveSt → ValveSt) : State :=
  { base with
    sup := { base.sup with forme := svForme }
    power := { base.power with vin := 4800 }
    valve := f { base.valve with c := 3300, vb := 1000, svs := base.valve.svs.map fun v => { v with host := some (1, 7) } } }
def sv0 (x : Valve) : State := valved fun v => { v with svs := v.svs.modify 0 fun _ => x }
def sv1 (x : Valve) : State := valved fun v => { v with svs := v.svs.modify 1 fun _ => x }
theorem wit_governor : (valved id).valve.svs.length = 8 ∧ (valved id).isResetting 0x11 = false ∧ 0 < (valved id).valve.c ∧
    (valved id).pSv 0 0 = 1 ∧ (valved id).permitGone 0 = false ∧ (valved id).permitGone 2 = true ∧
    (match exec (.governorTick 0 [] 1000 0) (valved id) with
      | .next t => decide ((t.sv 1).st = .pull ∧ ((valved id).sv 1).st ≠ .pull ∧ 900 < t.valve.tgt) | _ => false) = true ∧
    (match exec (.governorTick 0 [] 1000 0) (valved fun v => { v with vbFault := true }) with
      | .next t => decide ((t.sv 1).st = .pullWait) | _ => false) = true ∧
    ((sv0 { host := some (8000, 7) }).sv 0).ref < (((sv0 { host := some (8000, 7) }).tickProp 0).sv 0).ref := by decide +kernel
theorem wit_governorClauses : ((sv0 { leaving := true }).sv 0).leaving = true ∧ ([0, 11].getD 1 0 % 65536 > 10) ∧
    ((sv0 { ref := 1000 }).sv 0).ref = 1000 ∧ 4 * 249 < 1000 ∧ bitOf 1 0 = true ∧ epcClass (valved id).unit.straps.epc = some 50000 ∧
    (valved id).stepTest 0 = none ∧ ((valved id).onSup fun u => { u with forme := { params := [(0x8000, 1), (0x8004, 2)] } }).pSv 0 4 ≠ 0 ∧ (valved id).pSv 0 7 = 0 ∧ (valved id).power.uv = false ∧
    ((sv0 { trip := 1 }).sv 0).trip ≠ 0 ∧ ({ valved id with power := { base.power with uv := true } } : State).power.uv = true ∧
    ((sv0 {}).sv 0).ref < (((sv0 {}).tickTest 0 1000 2000).sv 0).ref ∧
    ((sv1 { st := .pullWait, phI := 10000 }).sv 1).st ≠ .pull := by decide +kernel
/-- 10 R261: with C at 330 µF the admission limit of R252 is 999,500 µJ. -/
theorem test_admitLimit : admitLimit 3300 = 999500 := by decide +kernel
/-- 10 R253 with EPC 0b00, 50,000 µJ, at L = 100.0 mH: floor(sqrt(2 x 0.05 J / 0.1 H)) = 1.0000 A caps a command of 1.5 A. -/
theorem test_classCap : (match exec (.governorTick 0 [] 1000 0) (sv0 { host := some (15000, 7) }) with
    | .next t => decide ((t.sv 0).ref = 10000 ∧ (t.sv 0).classCap = true ∧ (t.sv 0).e = 50000) | _ => false) = true := by decide +kernel
def pulling : Valve := { st := .pull, phI := 10000, phT := 100, admMt := some (5 * Config.sec), lowMt := some 0 }
theorem wit_pullins : (sv1 pulling).valve.svs.length = 8 ∧ (sv1 pulling).parN 0x8100 = 1 ∧ pullL 1000 60 10000 < 65536 ∧
    5 * Config.sec + pulling.phT * Config.ms ≤ ((sv1 pulling).elapse 0).now ∧
    0 + (sv1 pulling).pSv 1 0x10 * Config.ms ≤ ((sv1 pulling).elapse 0).now ∧
    (valved id).valve.clampMt + 10 * Config.sec ≤ ((valved id).elapse 0).now ∧
    5 * Config.sec + 100 * Config.ms ≤ ((valved fun v => { v with lowMt := some (5 * Config.sec) }).elapse 0).now ∧
    (valved id).pSv 2 0x0E = 1 ∧ (valved id).pSv 2 0 = 1 ∧ (valved id).pSv 1 0x0E = 0 ∧ (valved id).hl.permit = !true ∧
    ({ valved id with hl := { (valved id).hl with permit := true } } : State).hl.permit = !false := by decide +kernel
theorem wit_pullinClauses : ((sv1 pulling).sv 1).st = .pull ∧ 0 < pulling.phI ∧ pulling.trip < 16 ∧ bitOf pulling.trip 0 = false ∧
    pulling.opened = false ∧ (valved id).valve.vbFault = false ∧ ((sv0 { eMt := 10 * Config.sec - 9 * Config.ms }).elapse 0).now <
      10 * Config.sec - 9 * Config.ms + 10 * Config.ms ∧ ((sv1 { trip := 1, active := 1, st := .tripped }).sv 1).active = 1 := by decide +kernel
/-- 10 R254: 100.0 V over 60 µs for a rise of 0.6 A (20 % to 80 % of 1 A) is 10.0 mH. -/
theorem test_pullL : pullL 1000 60 10000 = 100 := by decide +kernel
theorem wit_valveCmd : ((withCmd (valved id) 0x58 0x11 [1, 0, 64, 31]).flight? 1).any (fun fl => ready fl 0x58 &&
      decide (argB fl.e 0 = 1 ∧ argB fl.e 1 = 0 ∧ argN fl.e 2 2 = 8000 ∧ 8000 ≤ (valved id).pSv 0 1)) = true ∧
    ((withCmd (valved id) 0x58 0x11 [5, 0]).flight? 1).any (fun fl => ready fl 0x58) = true ∧
    ((withCmd { valved id with unit := { st := .standby } } 0x59 0x11 [0, 0, 232, 3, 208, 7]).flight? 1).any (fun fl => ready fl 0x59 &&
      decide (argN fl.e 2 2 = 1000 ∧ argN fl.e 4 2 = 2000 ∧ 2000 ≤ (valved id).pSv 0 1)) = true ∧
    ({ valved id with unit := { st := .standby } } : State).isSt .standby = true ∧ (valved id).loopTo 1 0 = none ∧
    (valved id).power.vin = 4800 ∧ stepL 4800 500 1000 2000 200 = 810 := by decide +kernel
theorem wit_stepTests : ((sv0 { stepped := true }).sv 0).stepped = true ∧ ((sv0 {}).sv 0).force = none ∧ ((sv0 { force := some (1, 7) }).sv 0).force.isSome = true ∧
    ((withCmd (valved id) 0x58 0x11 [7, 0]).flight? 1).any (fun fl => ready fl 0x58 && decide (6 < argB fl.e 0)) = true ∧
    ((withCmd (valved id) 0x58 0x11 [1, 1, 2, 0]).flight? 1).any (fun fl => decide (argN fl.e 2 2 = 2) && decide ((valved id).pSv 1 0 = 2)) = true ∧
    ((withCmd (valved id) 0x59 0x11 [0, 0, 208, 7, 208, 7]).flight? 1).any (fun fl => decide (argN fl.e 4 2 ≤ argN fl.e 2 2)) = true ∧
    ((withCmd (valved id) 0x59 0x11 [0, 0, 0, 0, 208, 7]).flight? 1).any (fun fl => ready fl 0x59 && decide (argN fl.e 2 2 = 0)) = true ∧
    (valved id).isSt .standby = false ∧ ((sv1 { trip := 1, active := 1 }).sv 1).trip &&& 1 ≠ 0 := by decide +kernel

-- Field I/O -----------------------------------------------------------------------------------------------

/-- DO7 SLOT, DO8 TPROP, DO9 FREQ, DO21 HOST; loop 0 to DO8's duty, loop 1 to DO9's frequency; slot 5 an EVENT on DI3. -/
def dioForme : Forme := {
  params := [(0x9138, 1), (0x9140, 3), (0x9148, 4)]
  recs := [(0x200005, [1, 3, 1] ++ List.replicate 15 0 ++ [6])] }
def fielded (f : DioSt → DioSt) : State :=
  { base with
    sup := { base.sup with forme := dioForme, live := [(0x6010, 1), (0x6013, 0x4008), (0x6050, 1), (0x6053, 0x3009)] }
    cle := { base.cle with loops := base.cle.loops.map fun l => { l with out := 2505 } }
    dio := f { base.dio with outs := base.dio.outs.map fun d => { d with fed := 0 } } }
def out (n : Nat) (x : Dout) : State := fielded fun d => { d with outs := d.outs.modify n fun _ => x }
def inp (x : Din) : State := fielded fun d => { d with ins := d.ins.modify 3 fun _ => x }
def eventSlot (s : State) : State := { s with imp := { s.imp with slots := [(5, { st := .armed, next := 0x010301 })] } }
theorem wit_inputs : (inp { preset := false, c := 2 }).dio.ins.length = 32 ∧ (inp {}).isSt .proof = false ∧ (inp {}).isResetting 0x12 = false ∧
    (inp {}).dio.diCpl.getLsbD 3 = false ∧ ((inp {}).din 3).preset = true ∧ (eventSlot (inp {})).slotEntry 5 = slotOf (dioForme.rec_ 0x20 5) ∧
    eventMatch 0x010301 1 3 0 true = true ∧ (inp {}).imp.queue = [] ∧ (inp {}).store.reprint = none ∧
    (fielded fun d => { d with diCpl := 8 }).dio.diCpl.getLsbD 3 = true ∧ ((eventSlot (inp {})).slotEntry 5).base = 6 := by decide +kernel
theorem wit_inputPeriods : 0 + (inp {}).parN (0x9000 + 4 * 3) * 1000 ≤ ((inp {}).elapse 0).now ∧
    ((inp {}).elapse 0).now < 10 * Config.sec - 3 + (inp {}).parN (0x9000 + 4 * 3) * 1000 ∧
    ({ base with unit := { st := .proof } } : State).isSt .proof = true ∧ (inp { st := true, c := 4 }).parN (0x9003 + 4 * 3) = 4 := by decide +kernel
/-- 11 Table 11.5: with the defaults an input switches on the third step; 03 R77: the EVENT slot fires once. -/
theorem test_input : (match exec (.diFilterStep 0 3 true) (eventSlot (inp { preset := false, c := 2 })) with
    | .next t => decide ((t.din 3).st = true ∧ (t.din 3).cnt = 1 ∧ t.imp.queue.map (·.slot) = [5]) | _ => false) = true := by decide +kernel
theorem wit_outputs : (out 7 {}).dio.outs.length = 24 ∧ (out 7 {}).doLead 7 = 7 ∧ (out 7 {}).dio.forceEn.getLsbD 7 = false ∧
    (out 7 {}).pDo 7 0 = 1 ∧ (out 8 {}).pDo 8 0 = 3 ∧ (out 9 {}).pDo 9 0 = 4 ∧ (out 8 {}).loopU 4 8 = some 2505 ∧
    (out 9 {}).loopU 3 9 = some 2505 ∧ 0 + (out 8 {}).pDo 8 3 * Config.ms ≤ ((out 8 {}).elapse 0).now ∧ (250 : Nat) < (out 8 {}).pDo 8 3 ∧
    0 + 250 * Config.ms ≤ ((out 8 {}).elapse 0).now ∧ 0 + 500000000 / 1000 ≤ ((out 9 {}).elapse 0).now ∧
    ({ out 7 {} with imp := { base.imp with inbox := [{ aFiring 5 with index := 7, argA := 300 }] } } : State).imp.inbox.map (·.index) = [7] := by
  decide +kernel
/-- 11 R274: a duty of 25.05 % of 1,000 ms is round(250.5) = 251 ms. -/
theorem test_tprop : (match exec (.tpropPeriodStart 0 8) (out 8 {}) with
    | .next t => decide ((t.dout 8).tpMs = 251 ∧ (t.dout 8).out = true) | _ => false) = true := by decide +kernel
theorem wit_outFrames : 0 + (fielded id).parN 0x9210 * Config.ms ≤ ((fielded id).elapse 0).now ∧ (fielded id).svDark = false ∧
    ((fielded id).elapse 0).now < 10 * Config.sec + (fielded id).parN 0x9210 * Config.ms ∧ (fielded id).doLead 21 < 24 ∧
    (fielded id).pDo 21 0 = 0 ∧ (fielded id).dio.diCpl.getLsbD 3 = false ∧ ({ fielded id with unit := { st := .update } } : State).isSt .update = true ∧
    ({ fielded id with unit := { st := .standby } } : State).isSt .standby = true ∧ (fielded id).pDo 7 0 ≠ 0 ∧
    ((out 7 { framed := true }).dout 7).framed = true ∧ ((out 7 { framed := true }).dout 7).expired = false ∧ ((out 7 {}).dout 7).cpl = false ∧
    (fielded fun d => { d with forceEn := 128 }).dio.forceEn.getLsbD 7 = true ∧ (2 ≤ ({ base with power := { base.power with cur := 2 } } : State).power.cur) := by
  decide +kernel
theorem wit_overloads : driven { ovl := true, del := true } = true ∧ driven {} = false ∧ driven { expired := true, safeSt := true } = true ∧
    ((out 7 { ovl := true, del := true, retryMt := 10 * Config.sec }).dout 7).retryMt ≤ ((out 7 {}).elapse 0).now ∧
    ((out 7 { ovl := true, trying := true, retryMt := 10 * Config.sec + 90 * Config.ms }).dout 7).retryMt ≤ ((out 7 {}).elapse 0).now + 90 * Config.ms ∧
    (fielded id).pDo ((fielded id).doLead 7) 2 ≠ 0 ∧ (fielded fun d => { d with release := true }).dio.release = true := by decide +kernel
def scanning (k : Nat) : State :=
  fielded fun d => { d with
    scan := some { step := k, endMt := 0 }, supMask := decide (k ≠ 0)
    outs := (d.outs.modify 7 fun x => { x with ovl := true, out := true }).mapIdx fun n x => { x with fq := scanFq k n } }
theorem wit_faultScans : (scanning 8).dio.outs.length = 24 ∧ 0 + 30000 ≤ ((scanning 8).elapse 0).now ∧
    ((List.range 24).all fun n => decide (((scanning 8).dout n).fq = if n = 7 then 1 else 0)) = true ∧
    ((List.range 24).all fun n => decide (((scanning 0).dout n).fq = 0)) = true ∧
    (fielded fun d => { d with supply := true }).fioNow = true ∧ (fielded id).fioNow = false ∧ (fielded id).parN 0x9211 = 1 ∧
    (fielded fun d => { d with fio := true, scanEnd := some 0 }).dio.scanEnd = some 0 ∧ 0 + 10 * Config.sec ≤ ((fielded id).elapse 0).now ∧
    ((fielded id).elapse 0).now < 1 + 10 * Config.sec ∧
    ((withCmd (fielded id) 0x60 0x12 [1]).flight? 1).any (fun fl => ready fl 0x60 && decide (fl.f = 1)) = true := by decide +kernel
theorem wit_scanEnds : ((scanning 73).dio.scan.map (·.step)) = some 73 ∧ ((scanning 72).dio.scan.map (·.step)) = some 72 ∧ (scanning 0).dio.supMask = false ∧
    ((List.range 24).all fun n => decide (((scanning 72).dout n).fq = if n = 23 then 3 else 0)) = true ∧
    (fielded fun d => { d with scan := some { step := 3, endMt := 10 * Config.sec - 29999 } }).dio.scan.all (fun x =>
      decide (((fielded id).elapse 0).now < x.endMt + 30000)) = true ∧
    ({ fielded id with sup := { base.sup with forme := { params := [(0x9211, 0)] } } } : State).parN 0x9211 ≠ 1 ∧
    ((withCmd (fielded id) 0x60 0x12 [0]).flight? 1).any (fun fl => ready fl 0x60 && decide (argB fl.e 0 = 0)) = true ∧
    ((withCmd (fielded id) 0x60 0x12 [2]).flight? 1).any (fun fl => decide (1 < argB fl.e 0)) = true := by decide +kernel
/-- 11 Table 11.9: step 8 marks OVL on DO7, mask 0x000080. -/
theorem test_scan : (match exec (.faultScanStep 0) (scanning 8) with
    | .next t => decide (t.dio.scan.map (·.ovl) = some 0x80) | _ => false) = true := by decide +kernel

-- High limit and power ------------------------------------------------------------------------------------

def limited (f : HlSt → HlSt) : State := { base with hl := f { base.hl with fwp := true, rb := [true, true] } }
def cool : HlCh := { resetOk := true }
theorem wit_highLimit : (limited id).hl.chs.length = 2 ∧ (limited id).hl.temps.length = 2 ∧ (limited id).hl.rb.length = 2 ∧
    (limited id).hl.drive = true ∧ 5 * Config.sec + 40 * Config.ms ≤ ((limited id).elapse 0).now ∧
    ((limited id).elapse 0).now < 10 * Config.sec + 40 * Config.ms ∧ (limited fun h => { h with latch := true }).hl.drive = false ∧
    (limited id).hl.deMt + 100 * Config.ms ≤ ((limited id).elapse 0).now ∧ (limited id).isSt .update = false ∧ (limited id).power.debug = false ∧
    (limited id).power.beat + 5 * Config.ms < ((limited id).elapse 0).now ∧ (limited id).power.cur < 2 ∧
    (limited fun h => { h with latch := true, cause := 1, rb := [false, false], chs := [cool, cool] }).hl.admits = true ∧
    (limited fun h => { h with latch := true, cause := 4, rb := [false, false], chs := [cool, cool] }).hl.admits = false ∧
    ((withCmd (limited id) 0x68 0x13 []).flight? 1).any (fun fl => ready fl 0x68) = true ∧
    0 + 2 * Config.sec ≤ ((limited id).elapse 0).now ∧ [false, true].any (! ·) = true := by decide +kernel
theorem wit_highLimitClauses : ((limited fun h => { h with chs := [{}, { since := some (10 * Config.sec - 4000000) }] }).hl.chs.getD 1 {}).since =
      some (10 * Config.sec - 4000000 : Int) ∧ ((limited id).hl.chs.getD 0 {}).since = none ∧ (limited id).hl.latch = false ∧
    ({ limited id with power := { base.power with beat := 10 * Config.sec - 500000 } } : State).elapse 0 ≠ base ∧
    ((limited id).elapse 0).now ≤ 10 * Config.sec - 500000 + 5 * Config.ms ∧ (limited fun h => { h with keyStuck := true }).hl.keyStuck = true ∧
    (limited fun h => { h with keyMt := some (-1) }).hl.keyMt = some (-1 : Int) ∧
    (-1 : Int) + (10 * Config.sec : Nat) < (((limited id).elapse 0).now : Int) ∧ (limited id).hl.keyMt = none ∧
    (limited fun h => { h with pchainMt := some (8 * Config.sec) }).hl.pchainMt = some (8 * Config.sec) ∧
    8 * Config.sec + 2 * Config.sec ≤ ((limited id).elapse 0).now ∧ ((limited id).elapse 0).now < 8 * Config.sec + 1 + 2 * Config.sec ∧
    rtdAtLeast 300001 150 = true ∧ (limited id).hl.pchain = false := by decide +kernel
/-- 12 R296: 40 ms over the threshold open both contacts. -/
theorem test_hlTrip : (match exec (.hlTrip (40 * Config.ms) 1) (limited fun h => { h with chs := [{}, { overT := true, since := some (10 * Config.sec) }] }) with
    | .next t => decide (t.hl.latch = true ∧ t.hl.rb = [false, false] ∧ t.hl.first = 1) | _ => false) = true := by decide +kernel
def powered (f : PowerSt → PowerSt) : State := { base with power := f base.power }
theorem wit_supply : (powered id).power.pfail = false ∧ (powered id).power.on = true ∧
    ((powered id).elapse 0).now < 10 * Config.sec + (powered id).parN 0xA000 * Config.ms ∧
    0 + (powered id).parN 0xA000 * Config.ms ≤ ((powered id).elapse 0).now ∧
    max (powered id).power.beat (powered id).power.wdMt + Config.sec < ((powered id).elapse 0).now ∧ (powered id).power.dark = false ∧
    8500 - (powered id).derate ≤ 8600 ∧ 0 + 10 * Config.sec ≤ ((powered id).elapse 0).now ∧ ((powered id).tmCfg 0).src = 0 ∧
    0 < (powered id).timers.length ∧ (powered id).power.cur < 2 ∧ (powered id).power.overtemp = false := by decide +kernel
theorem wit_supplyClauses : (powered fun p => { p with pfail := true, pfailMt := 10 * Config.sec }).power.pfail = true ∧ (1680 : Nat) ≤ 10000 ∧
    ((powered id).elapse 0).now ≤ max (powered fun p => { p with beat := 9 * Config.sec }).power.beat 0 + Config.sec ∧ (powered id).power.debug = false ∧
    (powered fun p => { p with debug := true }).power.debug = true ∧ (powered fun p => { p with hotMt := some 0 }).power.hotMt = some 0 ∧
    0 ≤ Config.holdupReserve ∧ (10000 : Nat) < 10001 := by decide +kernel
def proofAt (k : Nat) (wait : Bool) : State :=
  { State.reset with time := { mt := 100 * Config.sec }, power := { State.reset.power with stage := k, waitVin := wait } }
theorem wit_proof : (proofAt 4 true).power.res.length = 9 ∧ (proofAt 4 true).isSt .proof = true ∧ (proofAt 4 true).power.on = true ∧
    (proofAt 4 true).power.dark = false ∧ (proofAt 4 true).power.waitMt + 60 * Config.sec < ((proofAt 4 true).elapse 0).now ∧
    (proofAt 4 false).power.waitVin = false ∧ ((proofAt 4 true).elapse 0).now ≤ 50 * Config.sec + 60 * Config.sec := by decide +kernel
theorem wit_proofClauses : (proofAt 0 false).power.stage = 0 ∧ (proofAt 5 false).power.stage = 5 ∧ (proofAt 8 false).power.stage = 8 ∧
    (proofAt 5 false).hl.chs.length = 2 ∧ (3000 ≤ 3300 ∧ 3300 ≤ 3600) ∧ (proofAt 3 false).power.vinUv = false ∧
    (proofAt 4 true).power.waitVin = true ∧ (proofAt 8 false).power.failed = 0 := by decide +kernel
/-- 13 R328: 60 s without VIN fail item 16 and proof goes on. -/
theorem test_vinTimeout : (match exec (.proofVinTimeout 0) (proofAt 4 true) with
    | .next t => decide (t.power.failed = 16 ∧ t.power.stage = 5) | _ => false) = true := by decide +kernel
theorem wit_powerStates : (powered fun p => { p with cur := 1 }).power.cur < 3 ∧
    ((withCmd (powered id) 0x70 0 [1, 0, 0, 0, 9]).flight? 1).any (fun fl => ready fl 0x70 && (base.session? fl.sid).isSome) = true ∧
    (powered fun p => { p with cur := 3 }).power.cur = 3 ∧
    (let s : State := { powered fun p => { p with cur := 2 } with imp := { base.imp with slots := [(4, { st := .armed, next := 10 * Config.sec + 5 })], wins := base.imp.wins.modify 0 fun _ => [4] } }
     (s.elapse 0).items.any fun m => decide (m ≤ (s.elapse 0).now + wakeLat s.power.cur + 10000)) = true := by decide +kernel
theorem wit_powerEntry : ((powered fun p => { p with cur := 1 }).power.on = true) ∧ ({ powered fun p => { p with beat := 10 * Config.sec } with
      sup := { base.sup with forme := { params := (List.range 8).map fun p => (0x5000 + 4 * p, 0) } } } : State).fitsState 1 = true ∧ (powered id).power.cur < 1 ∧
    ((withCmd (powered id) 0x70 0 [2]).flight? 1).any (fun fl => ready fl 0x70 && decide (argB fl.e 0 = 2)) = true ∧
    ((withCmd (powered id) 0x70 0 [3]).flight? 1).any (fun fl => ready fl 0x70 && decide (2 < argB fl.e 0)) = true ∧
    ((withCmd (powered id) 0x70 0 [0]).flight? 1).any (fun fl => ready fl 0x70 && decide (argB fl.e 0 = 0)) = true := by decide +kernel
/-- 13 Table 13.8, RUN (code 4) holds the unit at P1 or above; a contract of 9 µs holds it in P0. -/
theorem test_latencySet : (match exec (.latencySet 0 1) (withCmd (powered id) 0x70 0 [1, 0, 0, 0, 9]) with
    | .next t => decide (t.power.chosen = 0 ∧ t.power.reason = 1) | _ => false) = true := by decide +kernel

-- Supervisor, service -------------------------------------------------------------------------------------

def serviced (f : SvcSt → SvcSt) : State :=
  { base with svc := f base.svc, unit := { base.unit with straps := { base.unit.straps with testEn := true } } }
def forming (o : OpenForme) : State := { base with sup := { base.sup with openF := some o, gen := 3 } }
def anOpen : OpenForme := { forme := fanForme, baseGen := 3, opener := 7 }
theorem wit_supervisor : ((withCmd base 0x01 0 []).flight? 1).any (fun fl => ready fl 0x01) = true ∧
    ((withCmd base 0x02 0 [1]).flight? 1).any (fun fl => ready fl 0x02 && decide (argB fl.e 0 = 1)) = true ∧
    ((withCmd base 0x03 0 []).flight? 1).any (fun fl => ready fl 0x03) = true ∧
    ((withCmd base 0x10 0 [0, 0x70]).flight? 1).any (fun fl => ready fl 0x10 && decide (argN fl.e 0 2 = 0x7000)) = true ∧
    (paramInfo 0x7000).any (fun p => p.forme && decide (p.role ≠ 0xFF) && parInRange 0x7000 p 1 && !parInRange 0x7000 p 99) = true ∧
    (paramInfo 0x10).any (fun p => !p.forme && parInRange 0x10 p 1) = true ∧ paramInfo 0xFFFF = none ∧
    fanForme.params.Pairwise (fun a b => a.1 < b.1) ∧ (forming anOpen).sup.quoin = none ∧
    ({ forming anOpen with unit := { st := .standby } } : State).isSt .standby = true ∧ (forming anOpen).power.overtemp = false ∧
    (forming anOpen).safeFits 0x7000 1 = true ∧ (forming anOpen).safeFits 0x8002 65535 = false ∧ (forming anOpen).sup.gen ≠ 0 ∧ base.sup.gen = 0 ∧
    base.sup.openF = none := by decide +kernel
theorem wit_service : 5 * Config.sec + 3 * Config.sec ≤ ((serviced id).elapse 0).now + 50 * Config.ms ∧
    0 + 10 * Config.sec < ((serviced id).elapse 0).now + 50 * Config.ms ∧ ((serviced id).elapse 0).now + 50 * Config.ms < 10 * Config.sec + 3 * Config.sec ∧
    5 * Config.sec + 2 * Config.sec ≤ ((serviced id).elapse 0).now ∧ (serviced id).power.on = true ∧ (serviced id).unit.changed = false ∧
    strapsWord { base.unit.straps with nodeId := 3 } ≠ strapsWord base.unit.straps ∧ (serviced id).svc.sel.length = 6 ∧ muxCodeOk 0 5 = true ∧
    muxCodeOk 0 0x90 = false ∧ (serviced id).unit.straps.testEn = true ∧ base.unit.straps.testEn = false ∧
    ((withCmd (serviced id) 0x88 0 [0, 5]).flight? 1).any (fun fl => ready fl 0x88 && decide (argB fl.e 1 = 5)) = true := by decide +kernel
def quoined (f : Quoin → Quoin) : State :=
  { forming { anOpen with checked := some 9 } with
    sup := { (forming { anOpen with checked := some 9 }).sup with
      quoin := some (f { flight := 1, boundary := 0, column := 0, startMt := 0, waitMt := 20 * Config.sec, loadedMt := some 0 }) } }
theorem wit_formes : ((withCmd base 0x18 0 [0]).flight? 1).any (fun fl => ready fl 0x18) = true ∧ base.sup.openF = none ∧
    ((withCmd (forming anOpen) 0x19 0 [0x51, 0, 2, 0, 3, 0, 1, 0, 77]).flight? 1).any (fun fl => ready fl 0x19 &&
      decide (argB fl.e 0 = 0x51 ∧ argN fl.e 6 2 = 1)) = true ∧
    ((withCmd (forming anOpen) 0x1A 0 []).flight? 1).any (fun fl => ready fl 0x1A) = true ∧
    ((withCmd (forming anOpen) 0x1C 0 []).flight? 1).any (fun fl => ready fl 0x1C) = true ∧
    ((withCmd (forming { anOpen with checked := some 9 }) 0x1B 0 [0, 0, 5, 0, 9]).flight? 1).any (fun fl => ready fl 0x1B &&
      decide (argN fl.e 2 2 = 5 ∧ argN fl.e 4 4 = 9 ∧ fl.f = 1)) = true ∧
    (0 / 100000 + 1) * 100000 ≤ ((quoined id).elapse 0).now ∧ ((quoined id).elapse 0).now < (10 * Config.sec / 100000 + 1) * 100000 ∧
    (0 / 100000 + 1) * 100000 ≤ 20 * Config.sec ∧ 5 * Config.sec ≤ ((quoined id).elapse 0).now ∧ ((quoined id).elapse 0).now < 20 * Config.sec := by
  decide +kernel
theorem wit_formeClauses : recKind 0x51 = some (384, 488) ∧ recKind 0x20 = some (32, 4096) ∧ recFits 0x51 (putSpan (anOpen.forme.rec_ 0x51 2) 3 [77]) 3 = true ∧
    recFits 0x20 (putSpan (anOpen.forme.rec_ 0x20 2) 19 [255]) 19 = false ∧ (forming anOpen).sup.openF = some anOpen ∧
    ((withCmd (forming { anOpen with checked := some 9 }) 0x1B 0 [0, 0, 5, 0, 8]).flight? 1).any (fun fl => decide (argN fl.e 4 4 ≠ 9)) = true ∧
    ((quoined id).sup.quoin.all fun q => decide (q.loadedMt = some 0 ∧ q.boundary = 0 ∧ q.boundMt = none)) = true ∧
    ((quoined fun q => { q with boundMt := some 100000, left := [5] }).sup.quoin.all fun q => decide (q.left = [5])) = true ∧
    base.store.mounted = false ∧ base.store.readOnly = false := by decide +kernel
def resetting (st : Nat) : State :=
  { withCmd base 0x89 st [] with sup := { base.sup with resets := [{ station := st, startMt := 0, oldEpoch := 0, flight := some 1 }] } }
def updating (f : SupSt → SupSt) : State := { base with sup := f base.sup }
theorem wit_resets : ((withCmd base 0x89 3 []).flight? 1).any (fun fl => ready fl 0x89 && decide (fl.e.target = 3 ∧ fl.f = 1)) = true ∧
    (quoined id).sup.quoin ≠ none ∧ (resetting 3).unit.epochs.length = 22 ∧ (resetting 3).sup.resets.length = 1 ∧
    ((withCmd base 0x8A 0 [0xC3, 0xA5]).flight? 1).any (fun fl => ready fl 0x8A && decide (argN fl.e 0 2 = 0xA5C3)) = true ∧
    ((withCmd base 0x90 0 [0, 0, 0, 0, 9]).flight? 1).any (fun fl => ready fl 0x90 && decide (argN fl.e 4 2 = 9 ∧ fl.e.target = 0)) = true ∧
    ((withCmd base 0x91 0 []).flight? 1).any (fun fl => ready fl 0x91) = true ∧
    ((withCmd base 0x92 0 [0]).flight? 1).any (fun fl => ready fl 0x92 && !bitOf (argB fl.e 0) 0) = true ∧
    (updating fun u => { u with staged := { bytes := 9, verdict := some 0 } }).sup.staged.verdict = some 0 ∧
    ((base.elapse 0).now ≤ (base.elapse 0).now + 3600 * Config.sec) ∧
    ((withCmd base 0x93 0 []).flight? 1).any (fun fl => ready fl 0x93) = true ∧ base.sup.commit = none ∧
    (updating fun u => { u with commit := some (5, 1) }).sup.commit = some (5, 1) ∧ 5 ≤ (base.elapse 0).now ∧
    (base.elapse 0).now < 11 * Config.sec ∧ ({ base with unit := { st := .update } } : State).isSt .update = true := by decide +kernel
theorem wit_resetClauses : ((withCmd base 0x8A 0 [0xC4, 0xA5]).flight? 1).any (fun fl => ready fl 0x8A && decide (argN fl.e 0 2 ≠ 0xA5C3)) = true ∧
    ((withCmd base 0x90 0 [1, 0, 0, 0, 9]).flight? 1).any (fun fl => decide (argN fl.e 0 4 ≠ 0 ∧ argN fl.e 0 4 ≠ base.sup.staged.bytes)) = true ∧
    base.sup.staged.verdict ≠ some 0 ∧ base.isSt .run = true ∧ base.sup.quoin = none ∧ 0 < base.unit.epochs.length ∧
    ((resetting 3).flight? 1).all (fun fl => decide (fl.f = 1)) = true := by decide +kernel
/-- 15 R394: an image with every mark right but a lower rollback counter is refused as ROLLBACK. -/
theorem test_rollback : verdictOf { bytes := 64 } { formatOk := true, targetOk := true, complete := true, sigOk := true, hwOk := true, rollback := 4 } 5 = 3 := by
  decide +kernel

-- Record and reprint --------------------------------------------------------------------------------------

def aSlug (seq : Nat) : Slug :=
  { seq, cls := .info, audit := false, reprint := false, replay := false, source := 4, kind := 0x0401, mt := 5, epoch := 0, obj := 0
    after := 0, before := 0, v1 := 0, v2 := 0, rel := 0, bytes := [] }
def aFolio (num typ st : Nat) : Folio := { num, typ, st, boot := 0, serial := 0, mt0 := 0, first := 0, count := 0, extra := 0 }
def stored (f : RecSt → RecSt) : State :=
  { base with
    host := { base.host with queues := { num := 770, depth := 16, owner := 7 } :: base.host.queues }
    sup := { base.sup with live := [(0xB003, 1)] }
    store := f { base.store with mounted := true, proofHeld := false, logOpen := some 1024, inOpen := some 70000, folios := [aFolio 1024 1 1, aFolio 70000 2 1] } }
def aKey : Keyframe := { num := 0, boot := 0, mt := 5 * Config.sec, pos := 0, folios := [], runs := true, img := base.image }
def aReprint (todo : List InRec) : Reprint :=
  { boot := 0, startMt := 6 * Config.sec, endMt := 8 * Config.sec, kfMt := 5 * Config.sec, liveMt := 10 * Config.sec, fast := true, stopDiff := false
    saved := base.image, kfNum := 0, todo }
def reprinting (todo : List InRec) : State :=
  let s := stored fun r => { r with keys := [aKey], reprint := some (aReprint todo) }
  { s with unit := { s.unit with st := .reprint } }
theorem wit_store : 3 ≤ [aSlug 1, aSlug 2, aSlug 3].length ∧ (stored id).store.logOpen = some 1024 ∧ (stored id).store.drops = [0, 0, 0, 0] ∧
    (stored id).store.lost = 0 ∧ (stored id).store.inOpen = some 70000 ∧
    5 * Config.sec + (stored id).parN 0xB001 * Config.ms ≤ ((stored id).elapse 0).now ∧ (stored id).recording = true ∧
    ((stored id).elapse 0).now < (stored id).store.keyMt + (stored id).parN 0xB004 * Config.sec ∧
    (stored id).store.keyMt + (stored id).parN 0xB004 * Config.sec ≤ ((stored id).elapse (7200 * Config.sec)).now ∧
    ((stored id).queue? 770).isSome = true ∧ (stored id).ownEq 7 770 = true ∧ (stored id).store.copies = [] ∧
    ((withCmd (stored id) 0x78 0x14 [1, 0, 2, 3, 0, 0, 0, 0, 9]).flight? 1).any (fun fl => ready fl 0x78 &&
      decide (argN fl.e 2 2 = 770 ∧ argN fl.e 8 4 = 9 ∧ fl.f = 1)) = true ∧
    ((withCmd (stored id) 0x79 0x14 [0]).flight? 1).any (fun fl => ready fl 0x79 && !bitOf (argB fl.e 0) 0) = true := by decide +kernel
theorem wit_flushes : (stored fun r => { r with staging := [aSlug 1], inProg := 1 }).store.inProg ≤ 1 ∧ (stored id).store.proofHeld = false ∧
    (stored fun r => { r with staging := [aSlug 1], partMt := some 0 }).store.partMt = some 0 ∧ (stored id).store.logUnits < 15 ∧
    (stored id).store.tripQ = [] ∧ (stored id).store.bufProg = 0 ∧ (stored id).store.mounted = true ∧ (stored id).store.inUnits < 15 ∧
    ((stored id).queue? 770).any (fun q => decide (q.ring.length + 1 < q.depth)) = true ∧
    ((withCmd (stored id) 0x78 0x14 [0]).flight? 1).any (fun fl => ready fl 0x78 && decide (argB fl.e 0 = 0)) = true := by decide +kernel
theorem wit_reprint : (reprinting []).isSt .reprint = true ∧ (reprinting []).store.reprint = some (aReprint []) ∧ (aReprint []).fast = true ∧
    ((reprinting []).elapse 0).now - 10 * Config.sec < 6 * Config.sec - 5 * Config.sec ∧
    ((stored fun r => { r with keys := [aKey] }).keyAt 0 (6 * Config.sec)) = some aKey ∧
    (stored fun r => { r with keys := [aKey] }).spanDetail (some aKey) (8 * Config.sec) = 0 ∧
    (stored fun r => { r with keys := [{ aKey with img := { base.image with controlRev := 99 } }] }).spanDetail
      (some { aKey with img := { base.image with controlRev := 99 } }) (8 * Config.sec) = 4 ∧
    ((withCmd (stored id) 0x7A 0x14 ([0, 0, 0, 0] ++ le 8 (6 * Config.sec) ++ le 8 (8 * Config.sec))).flight? 1).any (fun fl =>
      ready fl 0x7A && decide (argN fl.e 4 8 = 6 * Config.sec ∧ argN fl.e 12 8 = 8 * Config.sec)) = true ∧
    ((withCmd (reprinting []) 0x7B 0x14 []).flight? 1).any (fun fl => ready fl 0x7B) = true := by decide +kernel
theorem wit_reprintClauses : (aReprint []).held = [] ∧ (aReprint []).stopDiff = false ∧ base.store.reprint = none ∧
    (stored id).keyAt 0 (6 * Config.sec) = none ∧ (stored id).sup.quoin = none ∧
    ((withCmd (stored id) 0x7A 0x14 ([0, 0, 0, 0] ++ le 8 (8 * Config.sec) ++ le 8 (8 * Config.sec))).flight? 1).any (fun fl =>
      decide (argN fl.e 12 8 ≤ argN fl.e 4 8)) = true := by decide +kernel
-- Lanes -----------------------------------------------------------------------------------------------------

def anUpLane : Lane := { sfp := { present := true, supported := true }, up := true, lock := true }
def laned (role : Nat) (f : LaneSt → LaneSt) : State :=
  { base with
    lane := f { base.lane with lanes := [anUpLane, { anUpLane with up := false }, {}, {}] }
    sup := { base.sup with live := [(0xC000, role), (0xC001, role), (0xC004, 1), (0xC006, 3), (0xC010, 0x812F)] } }
def aNodeInfo : NodeInfo := { peer := false, serial := 77, nodeId := 0, fw := 1, epoch := 4, state := 2, hops := 0, alt := false }
def aNode : Node := { st := .online, info := aNodeInfo, mapped := true, seenMt := 0 }
def noded (f : Node → Node) (cells : List Cell) : State :=
  let s := laned 1 fun l => { l with nodes := [(0x20, f aNode), (0x21, { aNode with info := { aNodeInfo with serial := 78 } })], cells }
  { s with sup := { s.sup with live := [(0xC000, 1)] } }
def aCell (bulk : Bool) (tries : Nat) : Cell := { station := 0x20, cseq := 3, flight := some 1, bulk, sentMt := 0, tries }
theorem wit_lanes : (laned 1 id).lane.lanes.length = 4 ∧ ((laned 1 id).laneAt 0).up = true ∧ ((laned 1 id).laneAt 1).up = false ∧
    (laned 1 id).laneRole 1 ≠ 0 ∧ ((laned 1 id).laneAt 1).sfp.supported = true ∧ ((laned 1 id).elapse 0).lanesRun = true ∧
    (laned 1 id).laneRole 3 = 0 ∧ (laned 1 id).ringOn 0 = true ∧ (laned 2 id).laneRole 0 = 2 ∧
    ((laned 1 id).laneAt 0).statMt + Config.ms ≤ ((laned 1 id).elapse 0).now ∧ (laned 1 id).time.sync = .master ∧
    ((laned 1 id).lane.lanes.any fun x => x.up) = true ∧ (laned 1 id).lane.syncMt + 12500 ≤ ((laned 1 id).elapse 0).now ∧
    ((laned 1 id).elapse 0).now < (laned 1 fun l => { l with syncMt := 10 * Config.sec }).lane.syncMt + 12500 ∧
    (laned 1 id).isSt .reprint = false ∧
    ({ laned 2 id with time := { base.time with sync := .locked } } : State).time.sync ≠ .master ∧
    (-60000 : Int) < -(((laned 1 id).parN 0x1200 * 1000 : Nat) : Int) ∧ -(((laned 1 id).parN 0x1200 * 1000 : Nat) : Int) ≤ 90 ∧
    (laned 1 id).rtripBits 0x2F ≠ 1 ∧ (laned 1 id).fan.drives.length = 6 ∧ (laned 1 id).fan.groups.length = 4 ∧
    (laned 1 id).lane.tripMt + 100000 ≤ ((laned 1 id).elapse 0).now ∧
    (laned 1 fun l => { l with tripCell := true }).lane.tripCell = true ∧ (laned 1 id).recordRuns = true := by decide +kernel
theorem wit_follows : (laned 1 id).follows (9 * Config.sec) (3, 7) = false ∧ (laned 1 id).follows (11 * Config.sec) (3, 7) = true ∧
    ({ laned 2 (fun l => { l with masterSer := 7 }) with time := { base.time with sync := .locked, masterId := 3 } } : State).follows 0 (3, 7) = true ∧
    ((laned 1 id).elapse 0).remoteTrip 0 = false ∧ ((laned 1 id).laneAt 0).sfp.present = true ∧ ((laned 2 id).laneAt 0).up = true ∧
    (laned 1 id).time.syncGood = 0 := by decide +kernel
def peerGroup : State :=
  let s := laned 2 id
  { s with sup := { s.sup with forme := { s.sup.forme with params := [(0x7207, 1)] } } }
theorem wit_peers : bitOf (peerGroup.pFg 0 7) 0 = true ∧ (peerGroup.fg 0).sentMt + 10000000 ≤ (peerGroup.elapse 0).now ∧
    (laned 1 fun l => { l with rtrips := [{ station := 0x2F, bits := 1, changes := 2 }] }).lane.rtrips.find?
      (fun x => x.station = 0x2F) = some { station := 0x2F, bits := 1, changes := 2 } ∧
    (laned 1 id).lane.exportMt + 10000000 ≤ ((laned 1 id).elapse 0).now ∧ 5 * Config.ms + 10 * Config.ms ≤ ((laned 1 id).elapse 0).now ∧
    ((laned 1 id).elapse 0).now < 10 * Config.sec + 10 * Config.ms ∧
    ((withCmd (laned 1 id) 0x80 0x15 [0, 0]).flight? 1).any (fun fl => ready fl 0x80 && decide (argB fl.e 0 ≤ 3 ∧ argB fl.e 1 = 0)) = true ∧
    ((withCmd (laned 1 id) 0x80 0x15 [4, 0]).flight? 1).any (fun fl => ready fl 0x80 && decide (3 < argB fl.e 0)) = true := by decide +kernel
theorem wit_nodes : (noded id []).lane.lanes.length = 4 ∧ (noded id []).lane.nodes.Pairwise (fun a b => a.1 < b.1) ∧
    ((noded id []).elapse 0).isResetting 0x15 = false ∧ (noded id []).ringOn 0 = false ∧ (noded id []).laneRole 0 = 1 ∧
    ((noded id []).laneAt 0).up = true ∧ ((noded id []).node 0x20).flight = none ∧ (noded id []).expectSerial 0 1 = 0 ∧
    ((noded id [aCell false 0]).lane.cells.find? fun x => x.station = 0x20 && x.cseq = 3 && !x.bulk) = some (aCell false 0) ∧
    ((noded id [aCell false 8]).lane.cells.find? fun x =>
      x.station = 0x20 && decide (x.sentMt + Config.ms ≤ ((noded id []).elapse 0).now)) = some (aCell false 8) ∧
    ((noded id [aCell true 0]).lane.cells.find? fun x => x.station = 0x20 && x.bulk) = some (aCell true 0) ∧
    ((withCmd (noded id []) 0x90 0x20 []).flight? 1).isSome = true ∧
    ((noded id []).node 0x20).seenMt + 20 * Config.ms ≤ ((noded id []).elapse 0).now ∧ ((noded id []).node 0x20).mapped = true ∧
    ((noded id []).elapse 0).now < ((noded (fun n => { n with seenMt := 10 * Config.sec }) []).node 0x20).seenMt + 20 * Config.ms ∧
    ((noded (fun n => { n with st := .updating, flight := some 1 }) []).node 0x20).flight = some 1 ∧
    0 + 60 * Config.sec ≤ ((noded id []).elapse (60 * Config.sec)).now ∧ (noded id []).recordRuns = true ∧ (noded id []).time.dupId = false ∧
    ((withCmd (noded id []) 0x81 0x20 []).flight? 1).any (fun fl => ready fl 0x81 && decide (fl.e.target = 0x20)) = true ∧
    ((noded (fun n => { n with mapped := false }) []).node 0x20).mapped = false ∧
    ((noded (fun n => { n with st := .joining }) []).node 0x20).st ≠ .online := by decide +kernel
theorem wit_nodeClauses : (noded id []).controlRuns = true ∧ (noded id []).isResetting 0x15 = false ∧ ((noded id []).elapse 0).nodeSt 0x20 = .online ∧
    ((noded id []).lane.cells.find? fun x => x.station = 0x20 && x.cseq = 3 && !x.bulk) = none ∧
    ({ noded id [] with sup := { (noded id []).sup with live := [(0xC000, 1), (0xC020, 5)] } } : State).elapse 0 ≠ base ∧
    (spGet ({ noded id [] with sup := { base.sup with nodeImg := [(0x20, {})] } } : State).sup.nodeImg 0x20).isSome = true ∧
    ((noded id []).elapse 0).now < 60 * Config.sec := by decide +kernel
/-- 17 R431: position 3 of lane B is station 0x20 + 15 + 2. -/
theorem test_nodeStation : nodeStation 1 3 = 0x31 := by decide
/-- 17 R438: bit 0 of station 0x2F mapped to FTRIP0 trips it, and other bits do not. -/
theorem test_remoteTrip : ((laned 1 fun l => { l with rtrips := [{ station := 0x2F, bits := 1 }] }).ftripOn 0,
    (laned 1 fun l => { l with rtrips := [{ station := 0x2F, bits := 2 }] }).ftripOn 0) = (true, false) := by decide +kernel

-- The whole unit --------------------------------------------------------------------------------------------

theorem base_shaped : base.image.shaped := by
  unfold Image.shaped keysRise; decide +kernel
theorem base_saved : (∀ k ∈ base.store.keys, k.img.shaped) ∧ ∀ r ∈ base.store.reprint.toList, r.saved.shaped :=
  ⟨fun _ h => absurd h List.not_mem_nil, fun _ h => absurd h List.not_mem_nil⟩
theorem base_sessions : base.host.sessions.length ≤ 16 ∧ ∀ x ∈ base.host.sessions, x.role ≤ 3 ∧ keysRise x.latches := by
  refine ⟨by decide +kernel, fun x h => ?_⟩
  obtain rfl := List.mem_singleton.mp h
  exact ⟨by decide, List.Pairwise.nil⟩
theorem wit_form : base.wf :=
  ⟨base_shaped, rfl, rfl, rfl, rfl, rfl, rfl, rfl, rfl, rfl, rfl, List.Pairwise.nil, List.Pairwise.nil,
    fun _ h => absurd h List.not_mem_nil, base_sessions.1, base_sessions.2, base_saved⟩
def latchedUnit : State := limited fun h => { h with latch := true, cause := 1, keyStuck := true }
theorem wit_latchHolds : latchedUnit.hl.latch = true ∧ bitOf latchedUnit.hl.cause 0 = true := by decide +kernel
theorem wit_latchHoldsNext : exec (.keyStuck 0) latchedUnit = .next (latchedUnit.elapse 0) := rfl
theorem wit_formNext : step latchedUnit = .next (latchedUnit.elapse 1) := rfl

-- Ill-formed commands -----------------------------------------------------------------------------------------

theorem bad_1 : [
    (.registerWrite 0 65536 0 0 : Instr), (.registerWrite 0 0 65536 0 : Instr), (.registerWrite 0 0 0 4294967296 : Instr),
    (.loWordRead 0 65536 0 : Instr), (.loWordRead 0 0 65536 : Instr), (.gstart 0 65536 0 : Instr),
    (.gstart 0 0 4294967296 : Instr), (.gstop 0 65536 0 : Instr), (.gstop 0 0 4294967296 : Instr), (.cntClr 0 65536 : Instr),
    (.latClr 0 65536 : Instr), (.wdRel 0 65536 : Instr), (.loopRegisterWrite 0 65536 0 0 0 : Instr),
    (.loopRegisterWrite 0 0 0 0 4294967296 : Instr), (.loopRegisterWrite 0 0 48 0 0 : Instr),
    (.loopRegisterWrite 0 0 0 10 0 : Instr), (.sqDoorbellWrite 0 65536 0 0 : Instr),
    (.sqDoorbellWrite 0 0 0 4294967296 : Instr), (.sqDoorbellWrite 0 0 512 0 : Instr),
    (.headDoorbellWrite 0 65536 512 0 : Instr), (.headDoorbellWrite 0 0 512 4294967296 : Instr),
    (.headDoorbellWrite 0 0 511 0 : Instr), (.headDoorbellWrite 0 0 1024 0 : Instr), (.toothEdge 0 4 : Instr),
    (.toothSynth 0 4 : Instr), (.twInterpAdvance 0 4 : Instr), (.twStopTimeout 0 4 : Instr),
    (.maLock 0 [0, 0, 0, 0, 0] 281474976710656 0 : Instr), (.maLock 0 [0] 0 0 : Instr),
    (.maSlotCrossing 0 281474976710656 0 : Instr), (.maRefLost 0 281474976710656 0 : Instr)].all (fun c => !c.wellFormed) = true := by decide
theorem bad_2 : [
    (.mainsEventStart 0 5 0 0 0 0 : Instr), (.mainsEventStart 0 0 3 0 0 0 : Instr), (.mainsEventStart 0 0 0 0 281474976710656 0 : Instr), (.mainsEventEnd 0 5 0 0 : Instr),
    (.mainsEventEnd 0 0 3 0 : Instr), (.windowRefill 0 6 : Instr), (.timerStart 0 32 : Instr), (.timerStop 0 32 : Instr),
    (.timerExpiry 0 32 : Instr), (.timerMatch 0 32 : Instr), (.ledgerShift 0 4 : Instr), (.parcelClose 0 4 : Instr),
    (.ledgerSample 0 4 : Instr), (.batchTmax 0 4 : Instr), (.seqTrig 0 4 : Instr), (.settleEnd 0 4 0 0 : Instr),
    (.conversionSlotEnd 0 4 ⟨0, 0, 0, false, 0, 0⟩ : Instr), (.channelStale 0 64 : Instr), (.picaScanPeriod 0 8 : Instr),
    (.picaReadSlotEnd 0 8 ⟨[], false, 0, 0⟩ : Instr), (.picaEnumEnd 0 8 [] : Instr),
    (.picaEnumEnd 0 0 [⟨281474976710656, 0, false, false⟩] : Instr), (.portOpen 0 8 : Instr), (.portShort 0 8 : Instr),
    (.portShortRetry 0 8 : Instr), (.picaPointStale 0 488 0 : Instr), (.picaPointStale 0 0 64 : Instr),
    (.picaConvertWaitEnd 0 8 : Instr), (.portFaultClear 0 8 : Instr), (.zoneEvaluate 0 16 : Instr),
    (.zoneHoldTimeout 0 16 : Instr)].all (fun c => !c.wellFormed) = true := by decide
theorem bad_3 : [
    (.loopEval 0 48 : Instr), (.cleValueToken 0 48 : Instr), (.loopEvalComplete 0 48 : Instr), (.loopDeadline 0 48 : Instr),
    (.setpointCopy 0 48 : Instr), (.galleySnap 0 8 : Instr), (.galleyCopy 0 8 : Instr), (.driveRefTick 0 [] : Instr),
    (.kickCatchEnd 0 6 0 : Instr), (.kickPulsesCounted 0 6 0 : Instr), (.kickTimeout 0 6 : Instr),
    (.stall 0 6 false : Instr), (.retryAttempt 0 6 : Instr), (.retryCountReset 0 6 : Instr), (.i2tExhausted 0 6 : Instr),
    (.driveTrip 0 6 0 : Instr), (.driveTrip 0 0 6 : Instr), (.ftripInput 0 2 false : Instr), (.internalFanFail 0 3 : Instr),
    (.governorTick 0 [] 0 0 : Instr), (.governorTick 0 [0, 0, 0, 0, 0, 0, 0, 0] 0 256 : Instr), (.pullinPeak 0 8 0 0 : Instr), (.peakTimeEnd 0 8 : Instr), (.valveTrip 0 8 0 : Instr),
    (.valveTrip 0 0 4 : Instr), (.coilOpen 0 8 : Instr), (.diFilterStep 0 32 false : Instr), (.doSet 0 24 : Instr),
    (.doClear 0 24 : Instr), (.doPulse 0 24 : Instr), (.doPulseEnd 0 24 : Instr)].all (fun c => !c.wellFormed) = true := by decide
theorem bad_4 : [
    (.tpropPeriodStart 0 24 : Instr), (.tpropOnEnd 0 24 : Instr), (.freqHalfPeriod 0 24 : Instr),
    (.doWatchdogExpiry 0 24 : Instr), (.fieldFault 0 24 0 false : Instr), (.fieldFault 0 0 4 false : Instr),
    (.ovlRetry 0 24 : Instr), (.couplerFault 0 24 true : Instr), (.couplerFault 0 32 false : Instr), (.hlTrip 0 2 : Instr),
    (.contactWeld 0 2 : Instr), (.hlThresholdCrossing 0 2 ⟨0, 0⟩ : Instr),
    (.tripSourceClear 0 true 8 0 : Instr), (.tripSourceClear 0 true 0 4 : Instr), (.tripSourceClear 0 false 6 0 : Instr),
    (.tripSourceClear 0 false 0 6 : Instr), (.sfpModuleChange 0 4 {} : Instr), (.laneUp 0 4 : Instr),
    (.laneDown 0 4 0 : Instr), (.discoverCell 0 4 aNodeInfo : Instr), (.statusCell 0 4 1 aNodeInfo : Instr),
    (.statusCell 0 0 0 aNodeInfo : Instr), (.statusCellSend 0 4 : Instr), (.tripBlockReceive 0 0 0 16 0 false : Instr),
    (.tripBlockReceive 0 4 0 0 0 false : Instr), (.tripCellReceive 0 0 16 : Instr), (.peerBoostSend 0 4 : Instr),
    (.ethernetLinkChange 0 2 false 0 : Instr), (.ethernetLinkChange 0 0 false 3 : Instr),
    (.qCreate 0 aHdr 65536 0 0 0 0 0 : Instr)].all (fun c => !c.wellFormed) = true := by decide
theorem bad_5 : [
    (.stationReturn 0 22 : Instr), (.deliver 0 511 : Instr), (.deliver 0 1024 : Instr), (.commandFetch 0 512 : Instr),
    (.submit 0 aHdr 65536 0 0 0 [] : Instr)].all (fun c => !c.wellFormed) = true := by decide


end Sys2Proof.Tests
end

section
/-! PROOFS. Writes of one register word (00 R10, R11; 20 R482, R489): what a wake leaves alone, the order of a write's
checks, and what a refused and a granted write leave behind. -/

namespace Sys2Proof.Machine

-- A wake (13 R335, R339, R340) ------------------------------------------------------------------------------

/-- What a wake catches up lives in the timers, the parcel columns and the power block. -/
def wakeParts : List Part := [.timers, .cols, .power]

theorem sameBut.trans {ps : List Part} {s t u : State} (h : sameBut ps s t) (h' : sameBut ps t u) : sameBut ps s u :=
  Eq.trans h h'

/-- A part that blanking others leaves alone is the same in two states that agree so. -/
theorem sameBut.part_eq {α : Type} {ps : List Part} {s t : State} {p : State → α} (h : sameBut ps s t)
    (hp : ∀ x : State, p (x.but ps) = p x) : p s = p t := by
  rw [← hp s, ← hp t, h]

theorem State.onPower_sameBut (s : State) (f : PowerSt → PowerSt) : sameBut wakeParts (s.onPower f) s := rfl

theorem State.enterPower_zero_sameBut (s : State) : sameBut wakeParts (s.enterPower 0) s := rfl

theorem foldl_onCol_sameBut (f : State → Nat → Column → Column) (cs : List Nat) (s : State) :
    sameBut wakeParts (cs.foldl (fun a c => a.onCol c (f a c)) s) s := by
  induction cs generalizing s with
  | nil => rfl
  | cons c cs ih => exact (ih (s.onCol c (f s c))).trans rfl

theorem State.heat_sameBut (s : State) : sameBut wakeParts s.heat s := by
  unfold State.heat
  dsimp only
  split
  · exact (State.onPower_sameBut _ _).trans (foldl_onCol_sameBut _ _ s)
  · rfl

theorem State.wakeUp_sameBut (s : State) : sameBut wakeParts s.wakeUp s := by
  have woken : sameBut wakeParts (s.enterPower 0).heat s := (State.heat_sameBut _).trans s.enterPower_zero_sameBut
  unfold State.wakeUp
  split
  · rfl
  · dsimp only
    split
    · exact (State.onPower_sameBut _ _).trans woken
    · exact woken

@[simp] theorem State.wakeUp_host (s : State) : s.wakeUp.host = s.host :=
  sameBut.part_eq (p := State.host) s.wakeUp_sameBut (fun _ => rfl)
@[simp] theorem State.wakeUp_unit (s : State) : s.wakeUp.unit = s.unit :=
  sameBut.part_eq (p := State.unit) s.wakeUp_sameBut (fun _ => rfl)
@[simp] theorem State.wakeUp_sup (s : State) : s.wakeUp.sup = s.sup :=
  sameBut.part_eq (p := State.sup) s.wakeUp_sameBut (fun _ => rfl)
@[simp] theorem State.wakeUp_store (s : State) : s.wakeUp.store = s.store :=
  sameBut.part_eq (p := State.store) s.wakeUp_sameBut (fun _ => rfl)

@[simp] theorem State.wakeUp_session (s : State) (sid : Nat) : s.wakeUp.session? sid = s.session? sid := by
  simp [State.session?]

/-- Neither time nor a wake changes who may write. -/
@[simp] theorem canWrite_wakeUp_elapse (s : State) (dt sid role : Nat) :
    canWrite (s.elapse dt).wakeUp sid role = canWrite s sid role := by
  simp [canWrite, State.isSt]

-- The audit slug (14 R353, 16 R404) -------------------------------------------------------------------------

@[simp] theorem startProgram_nextSeq (r : RecSt) : (startProgram r).nextSeq = r.nextSeq := by
  unfold startProgram
  split <;> rfl

/-- Admitted, dropped or displacing, a slug does not move the SEQ counter when it is staged. -/
@[simp] theorem stageSlug_nextSeq (r : RecSt) (sl : Slug) (now : Nat) : (stageSlug r sl now).nextSeq = r.nextSeq := by
  unfold stageSlug
  repeat' split
  all_goals rfl

@[simp] theorem State.putSlug_nextSeq (s : State) (sl : Slug) (eq : Option Nat) :
    (s.putSlug sl eq).store.nextSeq = incW 32 s.store.nextSeq := by
  simp [State.putSlug]

/-- An audit slug is INFO and of station 0, so no REPRINT and no REC_TRACE mask silences it. -/
@[simp] theorem State.audit_nextSeq (s : State) (sid role fp status op target : Nat) (items : List Nat) :
    (s.audit sid role fp status op target items).store.nextSeq = incW 32 s.store.nextSeq := by
  simp [State.audit, State.slug, slugSilent, traceOff]

-- A write's checks (20 R482) --------------------------------------------------------------------------------

/-- The words with a lowest role of their own take neither the way of an unassigned word nor of a doorbell or Q_SEL. -/
theorem State.writeWord_of_accRole {a r : Nat} (hacc : accRole (regAcc a) = some r) (s : State) (x : Session) (v : Nat) :
    s.writeWord x a v =
      if x.role < r then (sDENIED, s)
      else if s.isSt .proofHold then (sHOLD, s)
      else if regStation a ≠ 0 ∧ s.isResetting (regStation a) then (sBUSY, s)
      else s.writeReg x.sid a v := by
  have hro : regAcc a ≠ .ro := fun h => by simp [h, accRole] at hacc
  unfold State.writeWord
  split
  case h_1 h | h_2 h | h_3 h => simp [h, accRole] at hacc
  case h_4 => simp [hacc, hro]

theorem regAcc_ne_ws_of_accRole_one {a : Nat} (hacc : accRole (regAcc a) = some 1) : regAcc a ≠ .ws := by
  intro h
  simp [h, accRole] at hacc

/-- Outside REPRINT an admitted write of a word that is not staged is its block's write, and an input record. -/
theorem State.writeReg_ok {s t : State} {sid a v : Nat} (hws : regAcc a ≠ .ws) (hrep : s.store.reprint = none)
    (h : (if a < 0x800 then s.writeStations a v else s.writeOutputs a v) = (sOK, t)) :
    (s.writeReg sid a v).1 = sOK ∧ (s.writeReg sid a v).2.quiet = t.quiet := by
  have hlive : s.onLiveStations (fun t => t.writeStations a v) = s.writeStations a v := by
    simp [State.onLiveStations, hrep]
  simp only [State.writeReg, if_neg hws, hlive, h]
  split <;> simp

-- One word written by a session (00 R10, R11) ---------------------------------------------------------------

@[simp] theorem State.auditReg_quiet (s : State) (x : Session) (a status : Nat) (vals touched : List Nat) :
    (s.auditReg x a status vals touched).quiet = s.quiet := by
  unfold State.auditReg
  split <;> simp

/-- The reply to the host: the word, its value and its status. -/
def State.reply (s : State) (a v status : Nat) : State :=
  s.onHost fun h => { h with lastWord := some (a, v, status) }

@[simp] theorem State.reply_quiet (s : State) (a v status : Nat) :
    (s.reply a v status).quiet = s.quiet.reply a v status := rfl

theorem State.writeOne_eq {s : State} {sid v : Nat} {x : Session} (hx : s.session? sid = some x) (hv : v < 2 ^ 32)
    (a : Nat) :
    s.writeOne sid a v =
      ((s.writeWord x a v).2.auditReg x a (s.writeWord x a v).1 [v] [a]).reply a v (s.writeWord x a v).1 := by
  simp only [State.writeOne, hx, Nat.mod_eq_of_lt hv, State.reply]

/-- A role too low: the reply and the audit slug are all that is left behind. -/
theorem State.writeOne_denied {s : State} {sid a v r : Nat} {x : Session} (hx : s.session? sid = some x)
    (hv : v < 2 ^ 32) (hacc : accRole (regAcc a) = some r) (hrole : x.role < r) :
    (s.writeOne sid a v).quiet = (s.reply a v sDENIED).quiet ∧
    (s.writeOne sid a v).store.nextSeq = incW 32 s.store.nextSeq := by
  have hw : s.writeWord x a v = (sDENIED, s) := by rw [State.writeWord_of_accRole hacc, if_pos hrole]
  rw [State.writeOne_eq hx hv, hw]
  constructor
  · simp
  · simp [State.reply, State.auditReg]

/-- A granted write of a word of the Operator role has its block's effect, and its reply says OK. -/
theorem State.writeOne_granted {s t : State} {sid a v : Nat} (hcan : canWrite s sid 1 = true) (hv : v < 2 ^ 32)
    (hacc : accRole (regAcc a) = some 1)
    (h : (if a < 0x800 then s.writeStations a v else s.writeOutputs a v) = (sOK, t)) :
    (s.writeOne sid a v).quiet = (t.reply a v sOK).quiet := by
  simp only [canWrite, Bool.and_eq_true, Bool.not_eq_true', Option.any_eq_true, decide_eq_true_eq, List.isEmpty_iff,
    Option.isNone_iff_eq_none] at hcan
  obtain ⟨⟨⟨⟨x, hx, hrole⟩, hhold⟩, hres⟩, hrep⟩ := hcan
  have hw : s.writeWord x a v = s.writeReg x.sid a v := by
    rw [State.writeWord_of_accRole hacc, if_neg (by omega)]
    simp [hhold, State.isResetting, hres]
  obtain ⟨hok, hq⟩ := State.writeReg_ok (sid := x.sid) (regAcc_ne_ws_of_accRole_one hacc) hrep h
  rw [State.writeOne_eq hx hv, hw, hok]
  simp [hq]

-- The obligations -------------------------------------------------------------------------------------------

/-- Settles O3: the role is checked before anything else of an assigned word (00 R11). -/
theorem roleRefusesRegisterWrite : Obligations.RoleRefusesRegisterWrite := by
  rintro dt sid addr v s u x rfl hx hv ⟨r, hacc, hrole⟩
  have hx' : (s.elapse dt).wakeUp.session? sid = some x := by simpa using hx
  obtain ⟨hquiet, hseq⟩ := State.writeOne_denied hx' hv hacc hrole
  exact ⟨_, rfl, hquiet, hseq⟩

/-- Settles O2: each of the four words is an Operator's, and its block's write is the effect named. -/
theorem registerWritesTakeEffectAtOnce : Obligations.RegisterWritesTakeEffectAtOnce := by
  rintro dt sid s u rfl hcan
  have hcan' : canWrite (s.elapse dt).wakeUp sid 1 = true := by simpa using hcan
  refine ⟨fun v hv => ⟨_, rfl, ?maEvt⟩, ⟨_, rfl, ?cntClr⟩, ⟨_, rfl, ?latClr⟩, _, rfl, ?wdRel⟩
  case maEvt => exact State.writeOne_granted (a := 0x307) hcan' hv rfl rfl
  case cntClr => exact State.writeOne_granted (a := 0x400) (v := 1) hcan' (by decide) rfl rfl
  case latClr => exact State.writeOne_granted (a := 0x400) (v := 2) hcan' (by decide) rfl rfl
  case wdRel => exact State.writeOne_granted (a := 0xB09) (v := 1) hcan' (by decide) rfl rfl

end Sys2Proof.Machine
end

section
/-! PROOFS. What the imposition and the timers leave alone (03, 04): frames, slugs and input records aside. -/

namespace Sys2Proof.Machine

variable {ps : List Part} {s t : State}

/-- Two states that agree, slugs and input records aside, agree in a part of their quiet states that the blanked parts do
not touch. -/
theorem sameBut.time_eq (h : sameBut ps s.quiet t.quiet) (hp : .time ∉ ps) : s.time = t.time :=
  h.part_eq (p := State.time) fun x => by simp [State.but, hp]
theorem sameBut.sup_eq (h : sameBut ps s.quiet t.quiet) (hp : .sup ∉ ps) : s.sup = t.sup :=
  h.part_eq (p := State.sup) fun x => by simp [State.but, hp]
theorem sameBut.reprint_eq (h : sameBut ps s.quiet t.quiet) (hp : .store ∉ ps) : s.store.reprint = t.store.reprint :=
  h.part_eq (p := fun x => x.store.reprint) fun x => by simp [State.but, hp]

theorem State.but_but (ps qs : List Part) (s : State) : (s.but ps).but qs = s.but (ps ++ qs) := by
  simp only [State.but, List.mem_append]
  congr 1 <;> split_ifs <;> simp_all
 
theorem State.but_congr {ps qs : List Part} (h : ∀ p, p ∈ ps ↔ p ∈ qs) (s : State) : s.but ps = s.but qs := by
  simp only [State.but, h]

/-- Blanking more parts keeps the agreement. -/
theorem sameBut.mono {qs : List Part} (h : sameBut ps s t) (hsub : ps ⊆ qs) : sameBut qs s t := by
  have blank (x : State) : x.but qs = (x.but ps).but qs := by
    rw [State.but_but]
    exact State.but_congr (fun p => by simp [or_iff_right_of_imp (@hsub p)]) x
  rw [sameBut, blank, h, ← blank]

theorem sameBut_ite {a b s : State} {c : Prop} [Decidable c] (ha : sameBut ps a.quiet s.quiet) (hb : sameBut ps b.quiet s.quiet) :
    sameBut ps (if c then a else b).quiet s.quiet := by
  split
  · exact ha
  · exact hb

theorem foldl_sameBut {α : Type} {f : State → α → State} (hf : ∀ a x, sameBut ps (f a x).quiet a.quiet) (l : List α) (s : State) :
    sameBut ps (l.foldl f s).quiet s.quiet := by
  induction l generalizing s with
  | nil => rfl
  | cons x l ih => exact (ih (f s x)).trans (hf s x)

end Sys2Proof.Machine

namespace Sys2Proof.Machine

variable (s : State)

theorem State.pushFiring_frame (x : Firing) : sameBut [.imp] (s.pushFiring x).quiet s.quiet := by
  unfold State.pushFiring
  dsimp only
  split
  · rw [State.slug_quiet]; rfl
  · rfl

theorem State.lateSlug_quiet (b n : Nat) : (s.lateSlug b n).quiet = s.quiet := by
  unfold State.lateSlug
  split <;> simp

theorem State.crossSlots_frame (b : Nat) (hit : List Nat) (late step : Bool) :
    sameBut [.imp] (s.crossSlots b hit late step).quiet s.quiet := by
  have left (res : List (Nat × List Firing × SlotLive)) (s : State) : sameBut [.imp]
      (res.foldl (fun t r => (t.setSlot r.1 r.2.2).winRemove b r.1) s).quiet s.quiet := by
    refine foldl_sameBut (fun _ _ => ?_) _ _
    rfl
  have back (res : List (Nat × List Firing × SlotLive)) (s : State) : sameBut [.imp]
      (res.foldl (fun t r => if r.2.2.st = .armed then t.winInsert b r.1 else t) s).quiet s.quiet := by
    refine foldl_sameBut (fun _ _ => ?_) _ _
    exact sameBut_ite rfl rfl
  have fired (fs : List Firing) (s : State) : sameBut [.imp] (fs.foldl State.pushFiring s).quiet s.quiet :=
    foldl_sameBut State.pushFiring_frame _ _
  unfold State.crossSlots
  dsimp only
  split
  · rw [State.lateSlug_quiet]
    exact (fired _ _).trans ((back _ _).trans (left _ _))
  · exact (fired _ _).trans ((back _ _).trans (left _ _))

theorem State.crossBase_frame (b : Nat) (step : Bool) : sameBut [.imp] (s.crossBase b step).quiet s.quiet := by
  unfold State.crossBase
  split
  · exact s.crossSlots_frame ..
  · rfl

theorem State.armBehind_frame (n : Nat) (e : SlotEntry) (l : SlotLive) (target : Nat) (rel : Bool) :
    sameBut [.imp] (s.armBehind n e l target rel).1.quiet s.quiet := by
  unfold State.armBehind
  dsimp only
  split
  · split <;> rfl
  · refine (State.pushFiring_frame _ _).trans ?_
    split <;> rfl

theorem State.unholdBase_frame (b : Nat) : sameBut [.imp] (s.unholdBase b).quiet s.quiet := by
  refine foldl_sameBut (fun t n => ?_) _ _
  dsimp only
  split
  · rfl
  · split
    · exact t.armBehind_frame ..
    · rfl

theorem State.holdBase_frame (b : Nat) : sameBut [.imp] (s.holdBase b).quiet s.quiet := by
  refine foldl_sameBut (fun _ _ => ?_) _ _
  rfl

theorem State.eventToken_frame (src idx phase : Nat) (on : Bool) (at_ : Option Nat) :
    sameBut [.imp] (s.eventToken src idx phase on at_).quiet s.quiet := by
  refine foldl_sameBut (fun t n => ?_) _ _
  exact (State.pushFiring_frame _ _).trans rfl

-- timers

theorem State.tmStart_frame (n : Nat) : sameBut [.timers] (s.tmStart n).quiet s.quiet := by
  have started : sameBut [.timers] ((s.tmSettle n).onTimer n (startTm (s.tmCfg n) (s.tmReload n) s.bmt)).quiet s.quiet := rfl
  refine sameBut.trans (foldl_sameBut (fun _ _ => ?_) _ _) started
  exact sameBut_ite rfl rfl

theorem State.tmTeeth_frame (w old new : Nat) : sameBut [.timers] (s.tmTeeth w old new).quiet s.quiet := by
  unfold State.tmTeeth
  dsimp only
  split
  · rfl
  · refine foldl_sameBut (fun _ _ => ?_) _ _
    exact sameBut_ite rfl rfl

theorem State.tmRestart_frame (src idx : Nat) (rising : Bool) : sameBut [.timers] (s.tmRestart src idx rising).quiet s.quiet := by
  refine foldl_sameBut (fun a n => ?_) _ _
  exact sameBut_ite (a.tmStart_frame n) rfl

theorem State.follow_frame (w : Nat) (step : Bool) : sameBut [.imp, .timers] (s.follow w step).quiet (s.onWheel w wheelP).quiet :=
  ((State.crossBase_frame _ _ _).mono (by simp)).trans ((State.tmTeeth_frame _ _ _ _).mono (by simp))

end Sys2Proof.Machine
end

section
/-! PROOFS. The tooth wheels (02 R40 to R55): how an edge is judged, and what happens between edges. -/

namespace Sys2Proof.Machine

-- The parameters in force ------------------------------------------------------------------------------------

theorem sameBut.par_eq {ps : List Part} {s t : State} (h : sameBut ps s.quiet t.quiet) (hs : .store ∉ ps) (hu : .sup ∉ ps)
    (id : Nat) : s.par id = t.par id := by
  simp only [State.par, State.live, State.livePars, State.formeOf, h.reprint_eq hs, h.sup_eq hu]

theorem sameBut.pTw_eq {ps : List Part} {s t : State} (h : sameBut ps s.quiet t.quiet) (hs : .store ∉ ps) (hu : .sup ∉ ps)
    (w o : Nat) : s.pTw w o = t.pTw w o := by
  simp only [State.pTw, State.parN, h.par_eq hs hu]

theorem State.elapse_frame (s : State) (dt : Nat) : sameBut [.time, .power] (s.elapse dt).quiet s.quiet := by
  unfold State.elapse
  split <;> rfl

variable (s : State) (w o : Nat)

@[simp] theorem State.elapse_pTw (dt : Nat) : (s.elapse dt).pTw w o = s.pTw w o :=
  (s.elapse_frame dt).pTw_eq (by decide) (by decide) w o
@[simp] theorem State.onWheel_pTw (v : Nat) (f : Wheel → Wheel) : (s.onWheel v f).pTw w o = s.pTw w o := rfl
@[simp] theorem State.follow_pTw (v : Nat) (step : Bool) : (s.follow v step).pTw w o = s.pTw w o :=
  (s.follow_frame v step).pTw_eq (by decide) (by decide) w o
@[simp] theorem State.record_pTw (typ i : Nat) (pay : List Int) (at_ : Option Nat) : (s.record typ i pay at_).pTw w o = s.pTw w o :=
  sameBut.pTw_eq (ps := []) (congrArg (State.but []) (s.record_quiet ..)) (by decide) (by decide) w o

-- What moves the wheels ------------------------------------------------------------------------------------

theorem State.wheel_congr {s t : State} (h : s.time = t.time) (w : Nat) : s.wheel w = t.wheel w := by
  simp only [State.wheel, h]

@[simp] theorem State.follow_time (step : Bool) : (s.follow w step).time = (s.onWheel w wheelP).time :=
  (s.follow_frame w step).time_eq (by decide)
@[simp] theorem State.tmRestart_wheel (src i : Nat) (rising : Bool) : (s.tmRestart src i rising).wheel w = s.wheel w :=
  State.wheel_congr ((s.tmRestart_frame src i rising).time_eq (by decide)) w
@[simp] theorem State.slug_wheel (src kind : Nat) (cls : SlugClass) (obj after before : Nat) (v1 v2 : Int) (rel : Nat)
    (bytes : List Nat) (eq : Option Nat) (audit : Bool) (at_ : Option Nat) (live : Bool) :
    (s.slug src kind cls obj after before v1 v2 rel bytes eq audit at_ live).wheel w = s.wheel w := by
  simp [State.wheel]
@[simp] theorem State.record_wheel (typ i : Nat) (pay : List Int) (at_ : Option Nat) : (s.record typ i pay at_).wheel w = s.wheel w := by
  simp [State.wheel]
@[simp] theorem State.elapse_wheel (dt : Nat) : (s.elapse dt).wheel w = s.wheel w := by
  simp [State.wheel]

variable {s w}

theorem State.onWheel_wheel_self (hw : w < s.time.wheels.length) (f : Wheel → Wheel) : (s.onWheel w f).wheel w = f (s.wheel w) := by
  simp [State.wheel, State.onWheel, List.getD_eq_getElem?_getD, hw]

theorem State.follow_wheel_self (hw : w < s.time.wheels.length) (step : Bool) : (s.follow w step).wheel w = wheelP (s.wheel w) := by
  rw [State.wheel_congr (s.follow_time w step), State.onWheel_wheel_self hw]

theorem State.ite_wheel {c : Prop} [Decidable c] (a b : State) (w : Nat) :
    (if c then a else b).wheel w = if c then a.wheel w else b.wheel w := apply_ite (State.wheel · w) c a b

/-- Without a reprint the stations run on MT. -/
theorem State.bmt_eq_now (h : s.store.reprint = none) : s.bmt = s.now := by simp [State.bmt, h]

@[simp] theorem State.record_reprint (typ i : Nat) (pay : List Int) (at_ : Option Nat) :
    (s.record typ i pay at_).store.reprint = s.store.reprint :=
  sameBut.reprint_eq (ps := []) (congrArg (State.but []) (s.record_quiet ..)) (by decide)

-- The judgement of an edge ----------------------------------------------------------------------------------

/-- A filtered edge has been heard, whatever becomes of it. -/
def heard (x : Wheel) : Wheel := { x with edges := incW 32 x.edges, kept := none }

section
variable (hw : w < s.time.wheels.length)
include hw

theorem State.twAbsorb_wheel (t : Nat) :
    (s.twAbsorb w t).wheel w = wheelP { (realEdge t (s.wheel w)) with
      interp := 0, tp := tpUpdate (s.wheel w).tp (t - (s.wheel w).tReal) (max 1 (s.wheel w).sinceReal) (s.pTw w 12) } := by
  unfold State.twAbsorb
  rw [State.follow_wheel_self (by simpa using hw), State.onWheel_wheel_self hw]

/-- The rejections that `twReject` counts before it looks at their number. -/
def rejected (t : Nat) (x : Wheel) : Wheel :=
  { x with
    noiseRej := incW 16 x.noiseRej, rejRun := x.rejRun + 1, tRej := t, resyncRun := 0, absorb := false
    evt := orBit x.evt 1 }

theorem State.twReject_wheel_of_few (t : Nat) (h : (s.wheel w).rejRun + 1 < s.pTw w 10) :
    (s.twReject w t).wheel w = rejected t (s.wheel w) := by
  unfold State.twReject
  rw [if_neg]
  · exact State.onWheel_wheel_self hw _
  · rw [State.onWheel_wheel_self hw]
    simpa using h

/-- A gap passed over counts nothing and moves no boundary. -/
theorem State.zoneLeft_keeps :
    let y := (s.zoneLeft w).wheel w
    y.count = (s.wheel w).count ∧ y.tBound = (s.wheel w).tBound ∧ y.tp = (s.wheel w).tp ∧ y.rejRun = (s.wheel w).rejRun ∧
    ((s.wheel w).st = .resync → y.st = .resync) := by
  unfold State.zoneLeft
  dsimp only
  split
  · rw [State.gapMissed, State.onWheel_wheel_self hw]
    dsimp only
    split <;> simp
  · simp

/-- The wheel of a run of rejections: a pitch as of the last, with the interval of the last two as Tp (02 R48). -/
def resynced (pitches t prev : Nat) (x : Wheel) : Wheel :=
  { (realEdge t (countPitches pitches 1 x)) with
    tBound := t, tp := t - prev, rejRun := 0, resyncRun := 0, st := .resync, evt := orBit x.evt 2 }

theorem State.twReject_wheel_of_run (t : Nat) (h : s.pTw w 10 ≤ (s.wheel w).rejRun + 1) :
    let y := (s.twReject w t).wheel w
    y.st = .resync ∧ y.count = (s.wheel w).count + 256 ∧ y.tBound = t ∧ y.tp = t - (s.wheel w).tRej ∧ y.rejRun = 0 := by
  let s1 := (s.onWheel w (rejected t)).onWheel w (resynced (s.pTw w 4) t (s.wheel w).tRej)
  have hres : s.twReject w t = ((wslug s1 w 0x0103 0).follow w false).zoneLeft w :=
    if_pos (by rw [State.onWheel_wheel_self hw]; exact h)
  have hs1 : s1.wheel w = resynced (s.pTw w 4) t (s.wheel w).tRej (rejected t (s.wheel w)) := by
    rw [State.onWheel_wheel_self (by simpa using hw), State.onWheel_wheel_self hw]
  have hfollow : ((wslug s1 w 0x0103 0).follow w false).wheel w = wheelP (s1.wheel w) := by
    rw [State.follow_wheel_self (by simpa [wslug, s1] using hw), wslug, State.slug_wheel]
  obtain ⟨hc, hb, ht, hr, hst⟩ := State.zoneLeft_keeps (s := (wslug s1 w 0x0103 0).follow w false) (w := w)
    (by simpa [wslug, s1] using hw)
  rw [hfollow, hs1] at hc hb ht hr hst
  rw [hres]
  exact ⟨hst rfl, hc, hb, ht, hr⟩

/-- The edge of `n` pitches that `twAccept` counts, before the revolution is checked. -/
def accepted (pitches n t k : Nat) (fast : Bool) (unexp : Bool) (x : Wheel) : Wheel :=
  { (realEdge t (countPitches pitches n x)) with
    tBound := t, rejRun := 0, resyncRun := x.resyncRun + 1, overSpd := fast
    tp := tpUpdate x.tp (t - x.tReal) (x.sinceReal + n) k
    gapUnexp := if unexp then incW 8 x.gapUnexp else x.gapUnexp
    evt := let e := if unexp then orBit x.evt 5 else x.evt
           if fast then orBit e 7 else e }

/-- A gap signature at `t` (02 R49). -/
def gapSign (gap t : Nat) (x : Wheel) : Bool := decide (0 < gap ∧ (2 * gap + 1) * x.tp ≤ 2 * (t - x.tBound))
/-- A tooth follows too fast on the last (02 R65). -/
def overspeed (t : Nat) (x : Wheel) : Bool := decide (t - x.tReal < 5000 ∧ 0 < x.tReal)

omit hw in
/-- In LOCKED a gap signature in the zone is the gap's, and the revolution is checked; any other edge is one pitch (02 R49). -/
theorem State.twAccept_of_locked (t : Nat) (hst : (s.wheel w).st = .locked) :
    let sig := gapSign (s.pTw w 5) t (s.wheel w)
    let chk := sig && inZone (s.pTw w 4) (s.pTw w 5) (s.pTw w 11) (s.wheel w).pitch
    let s2 := (s.onWheel w (accepted (s.pTw w 4) (if chk then s.pTw w 5 + 1 else 1) t (s.pTw w 12) (overspeed t (s.wheel w))
      (sig && !chk))).follow w false
    s.twAccept w t = if chk then s2.gapCheck w else s2.zoneLeft w := by
  unfold State.twAccept
  simp only [hst, reduceCtorEq, decide_false, Bool.or_false, false_and, if_false]
  rfl

omit hw in
/-- Outside the gap zone one more pitch does not leave it. -/
theorem State.zoneLeft_of_outside {pitch : Nat} (hp : ((s.wheel w)).pitch = (pitch + 1) % s.pTw w 4)
    (hz : inZone (s.pTw w 4) (s.pTw w 5) (s.pTw w 11) pitch = false) : s.zoneLeft w = s := by
  unfold State.zoneLeft
  refine if_neg fun ⟨hgap, hpitch, _⟩ => ?_
  simp only [inZone, decide_eq_false_iff_not, not_and, not_or, not_le] at hz
  obtain ⟨hlo, hhi⟩ := hz hgap
  rw [hp, Nat.mod_eq_of_lt (by omega)] at hpitch
  omega

theorem State.twAccept_wheel_of_pitch (t : Nat) (hst : (s.wheel w).st = .locked)
    (hsig : s.pTw w 5 = 0 ∨ 2 * (t - (s.wheel w).tBound) < (2 * s.pTw w 5 + 1) * (s.wheel w).tp)
    (hz : inZone (s.pTw w 4) (s.pTw w 5) (s.pTw w 11) (s.wheel w).pitch = false) :
    (s.twAccept w t).wheel w = wheelP (accepted (s.pTw w 4) 1 t (s.pTw w 12) (overspeed t (s.wheel w)) false (s.wheel w)) := by
  have hno : gapSign (s.pTw w 5) t (s.wheel w) = false := by
    simp only [gapSign, decide_eq_false_iff_not]
    omega
  have hacc := State.twAccept_of_locked t hst
  simp only [hno, Bool.false_and, Bool.false_eq_true, if_false] at hacc
  have hfollow := State.follow_wheel_self (w := w)
    (s := s.onWheel w (accepted (s.pTw w 4) 1 t (s.pTw w 12) (overspeed t (s.wheel w)) false)) (by simpa using hw) false
  rw [State.onWheel_wheel_self hw] at hfollow
  rw [hacc, State.zoneLeft_of_outside (pitch := (s.wheel w).pitch) (by rw [hfollow]; simp [wheelP, accepted, realEdge, countPitches])
    (by simpa using hz), hfollow]

/-- What the revolution check leaves of a locked wheel (02 R50). -/
theorem State.gapCheck_wheel_of_locked (hst : (s.wheel w).st = .locked) :
    let y := (s.gapCheck w).wheel w
    y.st = .locked ∧ y.pitch = 0 ∧ y.sinceRef = 0 ∧ y.count = (s.wheel w).count + 256 * ((s.pTw w 4 : Int) - (s.wheel w).sinceRef) := by
  have hd : gapError (s.pTw w 4) (s.wheel w).sinceRef ((s.wheel w).st = .resync) = (s.pTw w 4 : Int) - (s.wheel w).sinceRef := by
    simp [gapError, hst]
  unfold State.gapCheck
  dsimp only
  rw [hd]
  split
  case isTrue h0 =>
    rw [State.onWheel_wheel_self hw]
    simp [h0]
  case isFalse =>
    rw [State.follow_wheel_self (by simpa [wslug] using hw), wslug, State.slug_wheel, State.onWheel_wheel_self (by simpa using hw),
      State.onWheel_wheel_self hw]
    simp [wheelP]

theorem State.twAccept_wheel_of_gap (t : Nat) (hst : (s.wheel w).st = .locked) (hgap : 0 < s.pTw w 5)
    (hsig : (2 * s.pTw w 5 + 1) * (s.wheel w).tp ≤ 2 * (t - (s.wheel w).tBound))
    (hz : inZone (s.pTw w 4) (s.pTw w 5) (s.pTw w 11) (s.wheel w).pitch = true) :
    let y := (s.twAccept w t).wheel w
    y.st = .locked ∧ y.pitch = 0 ∧ y.sinceRef = 0 ∧ y.count = (s.wheel w).count + 256 * (s.pTw w 5 + 1 : Nat) +
      256 * ((s.pTw w 4 : Int) - ((s.wheel w).sinceRef + (s.pTw w 5 + 1) : Nat)) := by
  have hyes : gapSign (s.pTw w 5) t (s.wheel w) = true := by simpa [gapSign] using ⟨hgap, hsig⟩
  have hacc := State.twAccept_of_locked t hst
  simp only [hyes, hz, Bool.and_self, if_true] at hacc
  have hfollow := State.follow_wheel_self (w := w)
    (s := s.onWheel w (accepted (s.pTw w 4) (s.pTw w 5 + 1) t (s.pTw w 12) (overspeed t (s.wheel w)) false)) (by simpa using hw) false
  rw [State.onWheel_wheel_self hw] at hfollow
  have hcheck := State.gapCheck_wheel_of_locked (w := w)
    (s := (s.onWheel w (accepted (s.pTw w 4) (s.pTw w 5 + 1) t (s.pTw w 12) (overspeed t (s.wheel w)) false)).follow w false)
    (by simpa using hw) (by rw [hfollow]; exact hst)
  rw [hfollow] at hcheck
  rw [hacc]
  simpa [wheelP, accepted, realEdge, countPitches] using hcheck
end

-- What an edge does (02 R44 to R50) -------------------------------------------------------------------------

/-- An edge of a wheel that is on, with live inputs, is recorded and judged. -/
theorem exec_toothEdge (dt : Nat) (hlive : s.isSt .reprint = false) (hon : (s.wheel w).st ≠ .off) (hw : w < 4) :
    exec (.toothEdge dt w) s = .next (((s.elapse dt).record 1 w [((s.wheel w).edges + 1 : Nat)]).toothOp w) := by
  show execToothEdge dt w s = _
  unfold execToothEdge
  dsimp only
  rw [if_neg (by simp [hlive, hon, Nat.not_le.2 hw]), State.elapse_wheel]

section
variable (hw : w < s.time.wheels.length) (hst : (s.wheel w).st = .locked) (hr : (s.wheel w).restart = 0)
include hw hst hr

/-- In LOCKED an edge in the absorb window is absorbed, one before the window of the next is rejected, any other is
accepted (02 R44, R46). -/
theorem State.toothOp_wheel_of_locked :
    let u := s.onWheel w heard
    let x := u.wheel w
    (s.toothOp w).wheel w =
      if x.absorb && decide (1000 * (u.bmt - x.tSynth) ≤ u.pTw w 8 * x.tp) then (u.twAbsorb w u.bmt).wheel w
      else if 1000 * (u.bmt - x.tBound) < u.pTw w 6 * x.tp then (u.twReject w u.bmt).wheel w
      else (u.twAccept w u.bmt).wheel w := by
  have hx : (s.onWheel w heard).wheel w = heard (s.wheel w) := State.onWheel_wheel_self hw _
  have hst' : ((s.onWheel w heard).wheel w).st = .locked := by rw [hx]; exact hst
  have hr' : ((s.onWheel w heard).wheel w).restart = 0 := by rw [hx]; exact hr
  unfold State.toothOp
  rw [← show heard = fun x => { x with edges := incW 32 x.edges, kept := none } from rfl]
  dsimp only
  simp only [hst', hr', Nat.zero_ne_one, if_false, State.ite_wheel, State.tmRestart_wheel, ite_self]
end

/-- What comes before an edge is judged leaves the wheel and its parameters alone. -/
theorem exec_toothEdge_of_on (dt : Nat) (hlive : s.isSt .reprint = false) (hrep : s.store.reprint = none) (hw4 : w < 4)
    (hw : w < s.time.wheels.length) (hon : (s.wheel w).st ≠ .off) :
    ∃ u : State, exec (.toothEdge dt w) s = .next (u.toothOp w) ∧ w < u.time.wheels.length ∧ u.wheel w = s.wheel w ∧
      (u.onWheel w heard).bmt = (s.elapse dt).now ∧ ∀ o, (u.onWheel w heard).pTw w o = s.pTw w o := by
  refine ⟨_, exec_toothEdge dt hlive hon hw4, by simpa using hw, by simp, ?_, by simp⟩
  refine (State.bmt_eq_now (by simpa using hrep)).trans ?_
  simp [State.now]

/-- Settles O15: an edge of a locked wheel is absorbed, rejected, counted or checked as the gap by where it falls (02 R42,
R44, R46, R48 to R50). -/
theorem toothEdgesAreJudgedByTheWindow : Obligations.ToothEdgesAreJudgedByTheWindow := by
  rintro dt w s x m hw4 hw hrep hlive rfl hst hr rfl
  obtain ⟨u, hexec, hwu, hx, hm, hp⟩ := exec_toothEdge_of_on dt hlive hrep hw4 hw (by simp [hst])
  have hop := State.toothOp_wheel_of_locked hwu (by rw [hx]; exact hst) (by rw [hx]; exact hr)
  have hh : (u.onWheel w heard).wheel w = heard (s.wheel w) := by rw [State.onWheel_wheel_self hwu, hx]
  replace hwu : w < (u.onWheel w heard).time.wheels.length := by simpa using hwu
  simp only [hm, hh, hp] at hop
  refine ⟨fun ha hin => ?absorbed, fun ha hlo => ⟨fun hfew => ?rejected, fun hrun => ?resync⟩, fun ha hwin hsig hz => ?counted,
    fun ha hwin hgap hsig hz => ?gap⟩
  case absorbed =>
    rw [if_pos (by simpa only [Bool.and_eq_true, decide_eq_true_eq] using ⟨ha, hin⟩), State.twAbsorb_wheel hwu, hh, hp] at hop
    exact ⟨_, _, hexec, rfl, by rw [hop]; simp [wheelP, realEdge, heard]⟩
  case rejected =>
    rw [if_neg (by simp [heard, ha]), if_pos (by exact hlo), State.twReject_wheel_of_few hwu _ (by rw [hh, hp]; exact hfew), hh] at hop
    exact ⟨_, _, hexec, hop, rfl⟩
  case resync =>
    rw [if_neg (by simp [heard, ha]), if_pos (by exact hlo)] at hop
    have hres := State.twReject_wheel_of_run hwu (s.elapse dt).now (by rw [hh, hp]; exact hrun)
    rw [← hop, hh] at hres
    exact ⟨_, _, hexec, rfl, hres⟩
  case counted =>
    rw [if_neg (by simp [heard, ha]), if_neg (by exact Nat.not_lt.2 hwin), State.twAccept_wheel_of_pitch hwu _ (by rw [hh]; exact hst)
      (by rw [hh, hp]; exact hsig) (by rw [hh, hp, hp, hp]; exact hz), hh, hp, hp] at hop
    exact ⟨_, _, hexec, rfl, by rw [hop]; simp [wheelP, accepted, realEdge, countPitches, heard, hst]⟩
  case gap =>
    rw [if_neg (by simp [heard, ha]), if_neg (by exact Nat.not_lt.2 hwin)] at hop
    have hchk := State.twAccept_wheel_of_gap hwu (s.elapse dt).now (by rw [hh]; exact hst) (by rw [hp]; exact hgap)
      (by rw [hh, hp]; exact hsig) (by rw [hh, hp, hp, hp]; exact hz)
    rw [← hop, hh, hp, hp] at hchk
    exact ⟨_, _, hexec, rfl, hchk⟩

end Sys2Proof.Machine

namespace Sys2Proof.Machine

variable {s : State} {w : Nat}

-- Instants (16 R416) ----------------------------------------------------------------------------------------

/-- Without a reprint an instant has come when MT has reached it. -/
theorem State.reach_of_live {t : Nat} (h : s.store.reprint = none) (ht : t ≤ s.now) : s.reach t = some s := by
  simp [State.reach, h, ht]

/-- The state whose MT is set to `t`. -/
def State.atMt (s : State) (t : Nat) : State := s.onTime fun x => { x with mt := t }

theorem State.asOf_of_live (h : s.store.reprint = none) (t : Nat) (f : State → State) :
    s.asOf t f = (f (s.atMt t)).atMt s.now := by
  simp [State.asOf, h, State.atMt, State.onTime, State.now]

@[simp] theorem State.atMt_wheel (t : Nat) : (s.atMt t).wheel w = s.wheel w := rfl
@[simp] theorem State.atMt_now (t : Nat) : (s.atMt t).now = t := rfl
@[simp] theorem State.atMt_wheels (t : Nat) : (s.atMt t).time.wheels = s.time.wheels := rfl
@[simp] theorem State.elapse_wheelPar (dt i : Nat) : (s.elapse dt).wheelPar w i = s.wheelPar w i := by
  simp [State.wheelPar, State.wheelPars]

-- A missing tooth (02 R45) ----------------------------------------------------------------------------------

theorem State.synthOp_wheel (hw : w < s.time.wheels.length) (t : Nat) :
    (s.synthOp w t).wheel w = wheelP { (countPitches (s.pTw w 4) 1 (s.wheel w)) with
      tBound := (s.wheel w).tBound + (s.wheel w).tp, anchor := t, tSynth := t, absorb := true, synth := true
      synthRow := (s.wheel w).synthRow + 1, synthCnt := incW 16 (s.wheel w).synthCnt, sinceReal := (s.wheel w).sinceReal + 1
      evt := orBit (s.wheel w).evt 0 } := by
  unfold State.synthOp
  rw [State.follow_wheel_self (by simpa using hw), State.onWheel_wheel_self hw]

/-- A wheel without an edge for TW_STOP_T: the teeth synthesized since the last real edge are withdrawn (02 R55). -/
def stoppedWheel (p : Nat) (y : Wheel) : Wheel :=
  { y with
    st := .stopped, fromLocked := decide (y.st = .locked), count := y.count - 256 * y.sinceReal, interp := 255
    sinceRef := y.sinceRef - y.sinceReal, pitch := (y.pitch + p * 8 - y.sinceReal) % p, sinceReal := 0
    absorb := false, synthRow := 0, synth := false, rejRun := 0, restart := 0, evt := orBit y.evt 8 }

/-- By the instant at which the next 1/256 tooth is due the interpolation has advanced (02 R41). -/
theorem lt_interp_of_due {a i tp m : Nat} (htp : 0 < tp) (hdue : a + cdiv ((i + 1) * tp) 256 ≤ m) :
    i < 256 * (m - a) / tp := by
  have hle : (i + 1) * tp ≤ 256 * (m - a) := by
    unfold cdiv at hdue
    omega
  exact (Nat.le_div_iff_mul_le htp).2 hle

/-- Settles O16: between edges a wheel counts missing teeth as of their cycle, interpolates, and stops (02 R41, R44, R45,
R47, R55). -/
theorem wheelsRunOnBetweenEdges : Obligations.WheelsRunOnBetweenEdges := by
  rintro dt w s x m due hw4 hw hrep rfl hst hr htp rfl
  have hrep' : (s.elapse dt).store.reprint = none := by simpa using hrep
  have hwu : w < (s.elapse dt).time.wheels.length := by simpa using hw
  refine ⟨fun hdue hlt hrow hz => ?synth, fun hle hi => ?interp, fun hle => ?stop⟩
  case synth =>
    have hexec : exec (.toothSynth dt w) s = .next ((s.elapse dt).asOf due fun a => a.synthOp w due) := by
      show execToothSynth dt w s = _
      unfold execToothSynth
      simp only [State.elapse_wheel, State.elapse_wheelPar, State.elapse_pTw, ← hdue, hz]
      rw [if_pos ⟨hst, hr, hrow, htp, rfl⟩, State.reach_of_live hrep' hlt]
    rw [State.asOf_of_live hrep'] at hexec
    refine ⟨_, _, hexec, rfl, ?_⟩
    rw [State.atMt_wheel, State.synthOp_wheel (by simpa using hw)]
    simp [wheelP, countPitches]
  case interp =>
    have hexec : exec (.twInterpAdvance dt w) s = .next (((s.elapse dt).onWheel w fun y =>
        { y with interp := min 255 (256 * ((s.elapse dt).now - (s.wheel w).anchor) / (s.wheel w).tp) }).follow w false) := by
      show execTwInterpAdvance dt w s = _
      unfold execTwInterpAdvance
      simp only [State.elapse_wheel]
      rw [if_pos ⟨hst, hr, htp, hi⟩, State.reach_of_live hrep' hle]
      simp only [State.bmt_eq_now hrep']
    have hnext := lt_interp_of_due htp hle
    refine ⟨_, _, hexec, rfl, ?_⟩
    rw [State.follow_wheel_self (by simpa using hwu), State.onWheel_wheel_self hwu, State.elapse_wheel]
    exact ⟨rfl, Nat.lt_min.2 ⟨hi, hnext⟩, rfl⟩
  case stop =>
    have hreach : (s.elapse dt).reach ((s.wheel w).tLast + s.wheelPar w 3 * 10000000) = some (s.elapse dt) :=
      State.reach_of_live hrep' hle
    have hexec : exec (.twStopTimeout dt w) s =
        .next (((s.elapse dt).onWheel w (stoppedWheel ((s.elapse dt).pTw w 4))).follow w false) := by
      show execTwStopTimeout dt w s = _
      unfold execTwStopTimeout
      simp only [State.elapse_wheel, State.elapse_wheelPar]
      rw [if_pos hst, hreach]
      rfl
    refine ⟨_, _, hexec, rfl, ?_⟩
    rw [State.follow_wheel_self (by simpa using hwu), State.onWheel_wheel_self hwu, State.elapse_wheel]
    exact ⟨rfl, rfl, rfl, rfl⟩

end Sys2Proof.Machine
end

section
/-! PROOFS. Mains angle, mains events and TB_STATUS (02 R59 to R62, R68). -/

namespace Sys2Proof.Machine

variable {s t u : State}

-- The operations' frames ------------------------------------------------------------------------------------

/-- The parts that a mains input reaches. -/
def mainsParts : List Part := [.time, .imp]

theorem State.onTime_frame (s : State) (f : TimeSt → TimeSt) : sameBut mainsParts (s.onTime f).quiet s.quiet := rfl
theorem sameBut.mains (h : sameBut [.imp] s.quiet t.quiet) : sameBut mainsParts s.quiet t.quiet := h.mono (by decide)

theorem State.crossBase_time (s : State) (b : Nat) (step : Bool) : (s.crossBase b step).time = s.time :=
  (s.crossBase_frame b step).time_eq (by decide)
theorem State.unholdBase_time (s : State) (b : Nat) : (s.unholdBase b).time = s.time :=
  (s.unholdBase_frame b).time_eq (by decide)
theorem State.holdBase_time (s : State) (b : Nat) : (s.holdBase b).time = s.time :=
  (s.holdBase_frame b).time_eq (by decide)
theorem State.eventToken_time (s : State) (src idx phase : Nat) (on : Bool) (at_ : Option Nat) :
    (s.eventToken src idx phase on at_).time = s.time := (s.eventToken_frame src idx phase on at_).time_eq (by decide)

/-- The base time is a matter of MT and of the reprint alone. -/
theorem State.bmt_congr (hr : s.store.reprint = t.store.reprint) (ht : s.time.mt = t.time.mt) : s.bmt = t.bmt := by
  simp only [State.bmt, State.now, hr, ht]
theorem State.crossBase_bmt (s : State) (b : Nat) (step : Bool) : (s.crossBase b step).bmt = s.bmt :=
  State.bmt_congr ((s.crossBase_frame b step).reprint_eq (by decide)) (by rw [s.crossBase_time])

-- The PLL (02 R59 to R61) -----------------------------------------------------------------------------------

/-- An angle taken ahead of another has the low 16 bits asked for (03 R70). -/
theorem nextAngle_mod (cur a : Nat) : nextAngle cur a % 65536 = a % 65536 := by
  unfold nextAngle
  rw [Nat.mod_mod_of_dvd _ (by decide : 65536 ∣ 2 ^ 48)]
  split <;> omega

section
variable {errs : List Nat} {ext freq : Nat} (hlen : errs.length = 5) (herr : errs.all (· < 91) = true) (hfreq : freqOk freq = true)
  (hph : bitOf (s.time.active.getD 2 0) refPhase = false)
include hlen herr hfreq hph

theorem State.maLockOp_of_acquire (hma : s.time.ma = .acquire) :
    let t := s.maLockOp errs ext freq
    t.time.ma = .locked ∧ t.time.freq = freq ∧ t.time.extMt = s.bmt ∧ t.time.ext % 65536 = ext % 65536 := by
  unfold State.maLockOp
  rw [if_pos ⟨hlen, herr, hfreq, by simpa using hph⟩, hma]
  dsimp only
  rw [State.unholdBase_time, State.onTime_time]
  refine ⟨rfl, rfl, rfl, ?_⟩
  dsimp only
  split
  · exact Nat.mod_mod_of_dvd _ (by decide)
  · exact nextAngle_mod _ _

theorem State.maLockOp_of_steered (hma : s.time.ma = .coast) (hst : s.time.steer = true) :
    (s.maLockOp errs ext freq).time =
      { s.time with ma := .locked, ext := steerTo s.time s.bmt ext, extMt := s.bmt, freq, coastLeft := 0, steer := false } := by
  unfold State.maLockOp
  rw [if_pos ⟨hlen, herr, hfreq, by simpa using hph⟩, hma]
  dsimp only
  rw [if_pos hst, State.crossBase_time, State.onTime_time]
end

theorem State.maReturn_of_coast (hma : s.time.ma = .coast) (hst : s.time.steer = false) :
    s.maReturn = s.onTime fun x => { x with ext := coastAngle s.time s.bmt, extMt := s.bmt, steer := true } := by
  unfold State.maReturn
  rw [hma]
  dsimp only
  rw [if_neg (by simp [hst])]
  rfl

/-- The angle of a locked PLL after it has advanced. -/
theorem State.maAdvance_of_locked (ext freq : Nat) (hma : s.time.ma = .locked) :
    (∃ m, (s.maAdvance ext freq).time = { s.time with
      freq := if freqOk freq then freq else s.time.freq, extMt := m
      ext := if diff48 ext s.time.ext < 0 then s.time.ext else ext % 2 ^ 48 }) ∧
    (s.maAdvance ext freq).bmt = s.bmt ∧ sameBut mainsParts (s.maAdvance ext freq).quiet s.quiet := by
  let s1 := if freqOk freq then s.onTime fun t => { t with freq } else s
  have h1 : s1.time = { s.time with freq := if freqOk freq then freq else s.time.freq } := by
    unfold s1
    split <;> simp
  have hr : s1.store.reprint = s.store.reprint := by
    unfold s1
    split <;> rfl
  have hq : sameBut mainsParts s1.quiet s.quiet := by
    unfold s1
    split <;> rfl
  have hadv : s.maAdvance ext freq = if diff48 ext s.time.ext < 0 then s1
      else (s1.onTime fun t => { t with ext := ext % 2 ^ 48, extMt := s.bmt }).crossBase 1 false := by
    unfold State.maAdvance
    rw [hma]
  rw [hadv]
  split
  · exact ⟨⟨s.time.extMt, h1⟩, State.bmt_congr hr (by rw [h1]), hq⟩
  · refine ⟨⟨s.bmt, ?_⟩, ?_, ?_⟩
    · rw [State.crossBase_time, State.onTime_time, h1]
    · rw [State.crossBase_bmt]
      exact State.bmt_congr hr (by rw [State.onTime_time, h1])
    · exact (State.crossBase_frame _ _ _).mains.trans hq

theorem State.maLost_of_locked (ext freq : Nat) (hma : s.time.ma = .locked) :
    (s.maLost ext freq).time = { s.time with
      ma := .coast, ext := if diff48 ext s.time.ext < 0 then s.time.ext else ext % 2 ^ 48, extMt := s.bmt
      freq := if freqOk freq then freq else s.time.freq, coastLeft := 10, coastMt := s.bmt, steer := false
      maEvt := orBit s.time.maEvt 5 } ∧
    sameBut mainsParts (s.maLost ext freq).quiet s.quiet := by
  obtain ⟨⟨m, ht⟩, hb, hq⟩ := State.maAdvance_of_locked ext freq hma
  have hlost : s.maLost ext freq = (s.maAdvance ext freq).onTime fun t => { t with
      ma := .coast, extMt := s.bmt, coastLeft := 10, coastMt := s.bmt, steer := false, maEvt := orBit t.maEvt 5 } := by
    unfold State.maLost
    simp only [ht, hma, hb]
  rw [hlost]
  exact ⟨by rw [State.onTime_time, ht], hq⟩

theorem State.maLost_of_acquire (ext freq : Nat) (hma : s.time.ma = .acquire) :
    s.maLost ext freq = s.onTime fun t => { t with ma := .invalid } := by
  simp [State.maLost, State.maAdvance, hma]

/-- Whatever the PLL does, a lost reference reaches time and imposition only. -/
theorem State.maLost_frame (s : State) (ext freq : Nat) : sameBut mainsParts (s.maLost ext freq).quiet s.quiet := by
  have hadv : sameBut mainsParts (s.maAdvance ext freq).quiet s.quiet := by
    cases hma : s.time.ma with
    | locked => exact (State.maAdvance_of_locked ext freq hma).2.2
    | coast =>
      unfold State.maAdvance
      rw [hma]
      exact (State.crossBase_frame _ _ _).mains.trans (sameBut_ite rfl rfl)
    | invalid | acquire =>
      unfold State.maAdvance
      rw [hma]
      rfl
  unfold State.maLost
  dsimp only
  split
  · exact (State.onTime_frame _ _).trans hadv
  · exact (State.onTime_frame _ _).trans hadv
  · exact (State.onTime_frame _ _).trans hadv
  · exact hadv

theorem State.maCoastOver_of_end (hrep : s.store.reprint = none) (hma : s.time.ma = .coast) (hend : coastEndMt s.time ≤ s.now) :
    s.maCoastOver.time.ma = .invalid ∧ s.maCoastOver.time.maEvt = orBit s.time.maEvt 6 ∧
    sameBut mainsParts s.maCoastOver.quiet s.quiet := by
  unfold State.maCoastOver
  rw [if_pos hma, State.reach_of_live hrep hend]
  dsimp only
  refine ⟨?_, ?_, ?_⟩
  · rw [State.holdBase_time]
    rfl
  · rw [State.holdBase_time, State.onTime_time, State.crossBase_time]
  · exact ((State.holdBase_frame _ _).mains.trans (State.onTime_frame _ _)).trans (State.crossBase_frame _ _ _).mains

theorem State.maLost_active (s : State) (ext freq : Nat) : (s.maLost ext freq).time.active = s.time.active := by
  have hadv : (s.maAdvance ext freq).time.active = s.time.active := by
    cases hma : s.time.ma with
    | locked =>
      obtain ⟨⟨m, ht⟩, -, -⟩ := State.maAdvance_of_locked ext freq hma
      rw [ht]
    | coast =>
      unfold State.maAdvance
      rw [hma]
      dsimp only
      rw [State.crossBase_time]
      split <;> rfl
    | invalid | acquire =>
      unfold State.maAdvance
      rw [hma]
  unfold State.maLost
  dsimp only
  split <;> exact hadv

-- Mains events (02 R62) -------------------------------------------------------------------------------------

theorem sameBut.mainsPast_eq {ps : List Part} (h : sameBut ps s.quiet t.quiet) (hs : .store ∉ ps) (hu : .sup ∉ ps)
    (ev val : Nat) (ending : Bool) : s.mainsPast ev val ending = t.mainsPast ev val ending := by
  have hp : s.par = t.par := funext (h.par_eq hs hu)
  unfold State.mainsPast State.udin State.parN
  rw [hp]

theorem State.mainsMeas_frame (s : State) (ev ph val : Nat) : sameBut mainsParts (s.mainsMeas ev ph val).quiet s.quiet := rfl

/-- A measurement is kept beside the events, the PLL and MT. -/
theorem State.mainsMeas_time (s : State) (ev ph val : Nat) :
    ∃ rms unbal, (s.mainsMeas ev ph val).time = { s.time with rms, unbal } := by
  unfold State.mainsMeas
  rw [State.onTime_time]
  split
  · exact ⟨_, _, rfl⟩
  · split
    · exact ⟨_, _, rfl⟩
    · exact ⟨_, _, rfl⟩

theorem evPhase_eq (ev ph : Nat) : evPhase ev ph = if ev < 3 then ph else 0 := by
  unfold evPhase
  split_ifs <;> omega

/-- A mains event changes its phase in ACTIVE and sets its bit of MA_EVT, by a slug and a token; the PLL and MT stay. -/
def State.eventMarked (s : State) (ev : Nat) (f : Nat → Nat) (a : State) : Prop :=
  a.time.active = s.time.active.modify ev f ∧ a.time.maEvt = orBit s.time.maEvt ev ∧ a.time.ma = s.time.ma ∧ a.bmt = s.bmt ∧
    sameBut mainsParts a.quiet s.quiet

theorem State.eventMarked_token {s m : State} {ev : Nat} {f : Nat → Nat} (hm : ∃ rms unbal, m.time = { s.time with rms, unbal })
    (hq : sameBut mainsParts m.quiet s.quiet) (kind : Nat) (cls : SlugClass) (p : Nat) (v : Int) (on : Bool) :
    s.eventMarked ev f (((m.onTime fun t => { t with active := t.active.modify ev f, maEvt := orBit t.maEvt ev }).slug 1 kind cls
      (obj := ev) (after := p) (v1 := v)).eventToken 0 ev p on) := by
  obtain ⟨rms, unbal, ht⟩ := hm
  refine ⟨?_, ?_, ?_, ?_, ?_⟩
  · rw [State.eventToken_time, State.slug_time, State.onTime_time, ht]
  · rw [State.eventToken_time, State.slug_time, State.onTime_time, ht]
  · rw [State.eventToken_time, State.slug_time, State.onTime_time, ht]
  · refine State.bmt_congr ?_ ?_
    · rw [(State.eventToken_frame _ _ _ _ _ _).reprint_eq (by decide), ← hq.reprint_eq (by decide)]
      exact sameBut.reprint_eq (ps := mainsParts) (by rw [State.slug_quiet]; rfl) (by decide)
    · rw [State.eventToken_time, State.slug_time, State.onTime_time, ht]
  · refine (State.eventToken_frame _ _ _ _ _ _).mains.trans ?_
    rw [State.slug_quiet]
    exact hq

theorem State.mainsStart_of_past {ev ph val ext freq p : Nat} (hp : p = evPhase ev ph)
    (hb : bitOf (s.time.active.getD ev 0) p = false) (hpast : s.mainsPast ev val false = true) :
    ∃ a, s.eventMarked ev (setBit · p) a ∧ s.mainsStart ev ph val ext freq =
      if (ev = 2 ∧ ph = refPhase) ∨ (ev = 4 ∧ !freqOk val) then a.maLost ext freq else a := by
  subst hp
  refine ⟨_, State.eventMarked_token (s.mainsMeas_time ev ph val) (s.mainsMeas_frame ev ph val) 0x0106 (mainsCls ev)
    (evPhase ev ph) val true, ?_⟩
  obtain ⟨rms, unbal, ht⟩ := s.mainsMeas_time ev ph val
  unfold State.mainsStart
  dsimp only
  rw [if_pos]
  rw [(s.mainsMeas_frame ev ph val).mainsPast_eq (by decide) (by decide), hpast, ht, hb]
  rfl

theorem State.mainsEnd_of_past {ev ph val p : Nat} (hp : p = evPhase ev ph)
    (hb : bitOf (s.time.active.getD ev 0) p = true) (hpast : s.mainsPast ev val true = false) :
    s.eventMarked ev (clrBit · p) (s.mainsEnd ev ph val) := by
  subst hp
  obtain ⟨rms, unbal, ht⟩ := s.mainsMeas_time ev ph val
  unfold State.mainsEnd
  dsimp only
  rw [if_pos]
  · exact State.eventMarked_token (s.mainsMeas_time ev ph val) (s.mainsMeas_frame ev ph val) 0x0107 (mainsCls ev) (evPhase ev ph) val false
  · rw [(s.mainsMeas_frame ev ph val).mainsPast_eq (by decide) (by decide), hpast, ht, hb]
    rfl

-- The rows --------------------------------------------------------------------------------------------------

/-- Outside REPRINT a mains input acts, recorded, on the unit as time has left it. -/
theorem State.mainsIn_live {u : State} (hlive : u.isSt .reprint = false) (hrep : u.store.reprint = none) (pay : List Int)
    (op : State → State) :
    ∃ v : State, u.mainsIn pay op = op v ∧ v.quiet = u.quiet ∧ v.time = u.time ∧ v.bmt = u.now := by
  refine ⟨u.record 2 0 pay, by simp [State.mainsIn, hlive], State.record_quiet .., State.record_time .., ?_⟩
  rw [State.bmt_eq_now (by simpa using hrep)]
  simp [State.now]

/-- The parts that two agreeing states share, as TB_STATUS and the frames write it. -/
theorem tbStatus_selects {fl : Flight} (s : State) :
    (argB fl.e 0 = 5 → tbStatusBody fl s = .ok s s.tbMt) ∧ (argB fl.e 0 = 4 → tbStatusBody fl s = .ok s s.tbMains) ∧
    (argB fl.e 0 < 4 → tbStatusBody fl s =
      .ok (if bitOf (argB fl.e 1) 0 then s.onWheel (argB fl.e 0) clearWheel else s) (tbWheel (s.wheel (argB fl.e 0)))) ∧
    (5 < argB fl.e 0 → tbStatusBody fl s = .bad s) := by
  unfold tbStatusBody
  dsimp only
  refine ⟨fun h => ?_, fun h => ?_, fun h => ?_, fun h => ?_⟩
  · rw [if_neg (by omega), if_pos h]
  · rw [if_neg (by omega), if_neg (by omega), if_pos h]
  · rw [if_neg (by omega), if_neg (by omega), if_neg (by omega)]
  · rw [if_pos h]

/-- Settles O17: the rows of mains angle and the mains events, and TB_STATUS (02 R59 to R62, R68, Tables 2.3 and 2.7). -/
theorem mainsAngleLocksCoastsAndEnds : Obligations.MainsAngleLocksCoastsAndEnds := by
  rintro dt s u rfl hlive hrep
  have hliveU : (s.elapse dt).isSt .reprint = false := by simpa using hlive
  have hrepU : (s.elapse dt).store.reprint = none := by simpa using hrep
  have hma : (s.elapse dt).time.ma = s.time.ma := by simp
  have input := State.mainsIn_live hliveU hrepU
  refine ⟨fun errs ext freq hlen herr hfreq hph => ⟨fun h => ?acquired, fun h hst => ?steered⟩,
    fun ext freq => ⟨fun h => ?lost, fun h => ?dropped⟩, fun h hend => ?ended, fun h => ?returned, fun h hst => ?back,
    fun ev ph val ext freq p lost hev hph hlen hp hlost hb hpast => ?starts, fun ev ph val p hev hph hlen hp hb hpast => ?ends,
    fun f fl b hf hr hb => ?status⟩
  case acquired =>
    obtain ⟨v, hv, -, ht, hm⟩ := input ([0, (ext : Int), freq] ++ errs.map Int.ofNat) fun t => t.maLockOp errs ext freq
    refine ⟨_, congrArg Host.Outcome.next hv, ?_⟩
    rw [← hm]
    refine State.maLockOp_of_acquire hlen herr hfreq ?_ ?_ <;> simpa [ht]
  case steered =>
    obtain ⟨v, hv, -, ht, hm⟩ := input ([0, (ext : Int), freq] ++ errs.map Int.ofNat) fun t => t.maLockOp errs ext freq
    refine ⟨_, congrArg Host.Outcome.next hv, ?_⟩
    have hlock := State.maLockOp_of_steered (s := v) (ext := ext) hlen herr hfreq (by simpa [ht] using hph) (by simpa [ht] using h)
      (by simpa [ht] using hst)
    rw [hlock, hm, ht]
    simp [steerTo, steerLo, steerHi]
  case lost =>
    obtain ⟨v, hv, hq, ht, hm⟩ := input [1, ext, freq] fun t => t.maLost ext freq
    refine ⟨_, congrArg Host.Outcome.next hv, ?_⟩
    obtain ⟨htime, hframe⟩ := State.maLost_of_locked (s := v) ext freq (by simpa [ht] using h)
    rw [htime, hm, ht, ← hq]
    exact ⟨by simp, hframe⟩
  case dropped =>
    obtain ⟨v, hv, hq, ht, -⟩ := input [1, ext, freq] fun t => t.maLost ext freq
    refine ⟨_, congrArg Host.Outcome.next hv, ?_⟩
    rw [State.maLost_of_acquire ext freq (by simpa [ht] using h), State.onTime_quiet, State.onTime_quiet, hq]
  case ended =>
    obtain ⟨hinv, hevt, hframe⟩ := State.maCoastOver_of_end hrepU (by simpa using h) (by simpa [coastEndMt] using hend)
    exact ⟨_, rfl, hinv, by simpa using hevt, hframe⟩
  case returned =>
    obtain ⟨v, hv, hq, ht, -⟩ := input [2] State.maReturn
    refine ⟨_, congrArg Host.Outcome.next hv, ?_⟩
    simp only [State.maReturn, ht, hma, h, State.onTime_quiet, hq]
  case back =>
    obtain ⟨v, hv, hq, ht, hm⟩ := input [2] State.maReturn
    refine ⟨_, congrArg Host.Outcome.next hv, ?_⟩
    have hangle : coastAngle v.time v.bmt = coastAngle s.time (s.elapse dt).now := by
      rw [hm, ht, State.elapse_time]
      rfl
    rw [State.maReturn_of_coast (by simpa [ht] using h) (by simpa [ht] using hst), State.onTime_quiet, State.onTime_quiet, hq, hangle,
      hm]
  case starts =>
    obtain ⟨v, hv, hq, ht, hm⟩ := input [3, ev, ph, val, ext, freq] fun t => t.mainsStart ev ph val ext freq
    have hsame : sameBut [.time, .power] v.quiet s.quiet := by rw [hq]; exact s.elapse_frame dt
    have hact : v.time.active = s.time.active := by simp [ht]
    have hevt : v.time.maEvt = s.time.maEvt := by simp [ht]
    have hmaV : v.time.ma = s.time.ma := by simp [ht]
    obtain ⟨a, ⟨haact, haevt, hama, habmt, hframe⟩, hop⟩ := State.mainsStart_of_past (s := v) (ev := ev) (ph := ph) (ext := ext)
      (freq := freq) (p := p) (hp.trans (evPhase_eq ev ph).symm) (by rw [hact]; exact hb)
      ((hsame.mainsPast_eq (by decide) (by decide) ev val false).trans hpast)
    rw [hact] at haact
    rw [hevt] at haevt
    rw [hmaV] at hama
    rw [hm] at habmt
    rw [hq] at hframe
    have hcond : ((ev = 2 ∧ ph = refPhase) ∨ (ev = 4 ∧ (!freqOk val) = true)) ↔ lost = true := by simp [hlost]
    simp only [hcond] at hop
    refine ⟨_, congrArg Host.Outcome.next (hv.trans hop), ?_⟩
    cases lost with
    | false => exact ⟨haact, fun _ => ⟨hama, haevt⟩, nofun, nofun, hframe⟩
    | true =>
      refine ⟨(a.maLost_active ext freq).trans haact, nofun, fun _ h => ?_, fun _ h => ?_, (a.maLost_frame ext freq).trans hframe⟩
      · rw [if_pos rfl, (State.maLost_of_locked ext freq (hama.trans h)).1, habmt, haevt]
        exact ⟨rfl, rfl, rfl⟩
      · rw [if_pos rfl, State.maLost_of_acquire ext freq (hama.trans h)]
        rfl
  case ends =>
    obtain ⟨v, hv, hq, ht, -⟩ := input [4, ev, ph, val] fun t => t.mainsEnd ev ph val
    have hsame : sameBut [.time, .power] v.quiet s.quiet := by rw [hq]; exact s.elapse_frame dt
    obtain ⟨hact, hevt, hmaV, -, hframe⟩ := State.mainsEnd_of_past (s := v) (ev := ev) (ph := ph) (val := val)
      (hp.trans (evPhase_eq ev ph).symm) (by simpa [ht] using hb) ((hsame.mainsPast_eq (by decide) (by decide) ev val true).trans hpast)
    refine ⟨_, congrArg Host.Outcome.next hv, ?_⟩
    rw [hmaV, hevt, hact, ht, ← hq]
    exact ⟨hma, by simp, by simp, hframe⟩
  case status =>
    subst hb
    obtain ⟨h5, h4, hlt, hgt⟩ := tbStatus_selects (fl := fl) (s.elapse dt)
    have hexec : exec (.tbStatus dt f) s = .next (runCmd 0x28 f tbStatusBody (s.elapse dt)) := rfl
    rw [hexec, runCmd_ready tbStatusBody (by simpa using hf) hr]
    rw [State.elapse_wheel] at hlt
    refine ⟨fun h => ?_, fun h => ?_, fun h hc => ?_, fun h hc => ?_, fun h => ?_⟩
    · rw [h5 h]
      simp [Ans.ok, State.tbMt]
    · rw [h4 h]; rfl
    · rw [hlt h, hc]; rfl
    · rw [hlt h, hc]; rfl
    · rw [hgt h]; rfl

end Sys2Proof.Machine
end

section
/-! PROOFS. The state after reset (13 R326), and a wheel state that meets the premises of O14. -/

namespace Sys2Proof.Machine

-- After reset (13 R326) -------------------------------------------------------------------------------------

/-- A table of defaults reads the default at every index. -/
theorem getD_replicate_default {α : Type} (d : α) (k n : Nat) : (List.replicate k d).getD n d = d := by
  rw [List.getD_eq_getElem?_getD, List.getElem?_replicate]
  split <;> rfl

theorem State.reset_image_shaped : State.reset.image.shaped := by
  unfold Image.shaped keysRise
  decide +kernel

theorem State.reset_wf : State.reset.wf := by
  refine ⟨State.reset_image_shaped, ?_⟩
  simp [State.reset, keysRise]

/-- Settles O60: the reset state is written out; only the tables of drives and timers are read by index. -/
theorem resetLeavesThePowerOnValues : Obligations.ResetLeavesThePowerOnValues := by
  have drives (n : Nat) : State.reset.drive n = {} := getD_replicate_default _ 6 n
  have timers (n : Nat) : State.reset.timer n = {} := getD_replicate_default _ 32 n
  refine ⟨State.reset_wf, rfl, rfl, rfl, by decide, rfl, rfl, rfl, rfl, rfl, fun n => ?_, fun n => ?_, fun _ => rfl, rfl, rfl, rfl,
    rfl, rfl⟩
  · rw [drives]
  · rw [timers]

-- A wheel whose interpolation has left 0 to 255 -------------------------------------------------------------

/-- A locked wheel at E = P = 0 (modulo 2^48) whose interpolation stands at 2^47 + 768, far above the 255 of 02 R41; no
premise of O14 bounds it. The gap signature of an edge takes E from the interpolation down to the count, 2^47 - 256
ahead of P, and the revolution check adds 58 teeth: past the half of the 48-bit range. -/
def overInterpolated : State :=
  { State.reset with time := { wheels := [{ st := .locked, count := 2 ^ 47 - 768, interp := 2 ^ 47 + 768 }, {}, {}, {}] } }

/-- Refutes O14: the premises bound E against P but not the interpolation inside E; on `overInterpolated` one TOOTH_EDGE
carries P forward by more than half of the 48-bit range, so that the signed difference is negative. -/
theorem not_grainPositionNeverStepsBackward : ¬ Obligations.GrainPositionNeverStepsBackward := by
  intro h
  have ahead := (h 0 0 overInterpolated _ (.toothEdge 0 0) (by decide) (by decide) (by decide +kernel) (by decide +kernel)
    (by decide +kernel) (by decide) (by decide +kernel) (by decide +kernel) (by decide) (by decide) rfl).1
  revert ahead
  decide +kernel

end Sys2Proof.Machine
end

section
/-! PROOFS. The invariant part by part (O59): one rule for each update of a part of the state.
The theorems of O59 are elaborated one after another (`Elab.async false`), as the tests in Slice0 are: the number of Lean's
threads stays within the memory limit of the check. -/

namespace Sys2Proof.Machine

set_option Elab.async false

-- The invariant by parts ------------------------------------------------------------------------------------

def TimeSt.shaped (x : TimeSt) : Prop := x.wheels.length = 4 ∧ x.active.length = 5
def ImpSt.shaped (x : ImpSt) : Prop :=
  x.wins.length = 6 ∧ (∀ w ∈ x.wins, w.length ≤ 32) ∧ x.queue.length ≤ 256 ∧ keysRise x.slots
def ProbeSt.shaped (x : ProbeSt) : Prop := x.chans.length = 64 ∧ x.groups.length = 4
def PicaSt.shaped (x : PicaSt) : Prop := x.ports.length = 8 ∧ x.zones.length = 16
def CleSt.shaped (x : CleSt) : Prop := x.loops.length = 48 ∧ x.galleys.length = 8
def DioSt.shaped (x : DioSt) : Prop := x.ins.length = 32 ∧ x.outs.length = 24
def UnitSt.shaped (x : UnitSt) : Prop := x.epochs.length = 22 ∧ ∀ e ∈ x.epochs, e < 256
def FanSt.shaped (x : FanSt) : Prop := x.drives.length = 6 ∧ x.groups.length = 4 ∧ x.ftrip.length = 2
def HlSt.shaped (x : HlSt) : Prop := x.chs.length = 2 ∧ x.temps.length = 2 ∧ x.rb.length = 2
def LaneSt.shaped (x : LaneSt) : Prop := x.lanes.length = 4 ∧ keysRise x.nodes
def SupSt.shaped (x : SupSt) : Prop := keysRise x.forme.params ∧ ∀ o ∈ x.openF.toList, keysRise o.forme.params
def Session.shaped (x : Session) : Prop := x.role ≤ 3 ∧ keysRise x.latches
def HostSt.shaped (x : HostSt) : Prop := x.sessions.length ≤ 16 ∧ ∀ y ∈ x.sessions, y.shaped
def RecSt.shaped (x : RecSt) : Prop := (∀ k ∈ x.keys, k.img.shaped) ∧ ∀ r ∈ x.reprint.toList, r.saved.shaped

/-- The state is in form, part by part, `q` waits, and MT is not before `m`. -/
structure State.Kept (q : List Instr) (m : Nat) (s : State) : Prop where
  okTime : s.time.shaped
  okImp : s.imp.shaped
  okTimers : s.timers.length = 32
  okCols : s.cols.length = 4
  okProbe : s.probe.shaped
  okPica : s.pica.shaped
  okCle : s.cle.shaped
  okDio : s.dio.shaped
  okUnit : s.unit.shaped
  okFan : s.fan.shaped
  okValve : s.valve.svs.length = 8
  okHl : s.hl.shaped
  okPower : s.power.res.length = 9
  okLane : s.lane.shaped
  okSvc : s.svc.sel.length = 6
  okSup : s.sup.shaped
  okHost : s.host.shaped
  okStore : s.store.shaped
  waits : s.pending = q
  since : m ≤ s.now

/-- The image of a state has its sizes where the state's tables have. -/
theorem State.image_shaped_iff (s : State) : s.image.shaped ↔
    s.time.shaped ∧ s.imp.shaped ∧ s.timers.length = 32 ∧ s.cols.length = 4 ∧ s.probe.shaped ∧ s.pica.shaped ∧ s.cle.shaped ∧
    s.dio.shaped ∧ s.unit.shaped := by
  simp only [Image.shaped, State.image, TimeSt.shaped, ImpSt.shaped, ProbeSt.shaped, PicaSt.shaped, CleSt.shaped, DioSt.shaped,
    UnitSt.shaped, and_assoc]

theorem State.wf_iff_kept (s : State) : s.wf ↔ s.Kept s.pending s.now := by
  unfold State.wf
  rw [State.image_shaped_iff]
  constructor
  · rintro ⟨⟨h1, h2, h3, h4, h5, h6, h7, h8, h9⟩, d1, d2, d3, v, c1, c2, c3, p, l1, sv, l2, u1, u2, n1, n2, k1, k2⟩
    exact ⟨h1, h2, h3, h4, h5, h6, h7, h8, h9, ⟨d1, d2, d3⟩, v, ⟨c1, c2, c3⟩, p, ⟨l1, l2⟩, sv, ⟨u1, u2⟩, ⟨n1, n2⟩, ⟨k1, k2⟩, rfl,
      Nat.le_refl _⟩
  · rintro ⟨h1, h2, h3, h4, h5, h6, h7, h8, h9, ⟨d1, d2, d3⟩, v, ⟨c1, c2, c3⟩, p, ⟨l1, l2⟩, sv, ⟨u1, u2⟩, ⟨n1, n2⟩, ⟨k1, k2⟩, -, -⟩
    exact ⟨⟨h1, h2, h3, h4, h5, h6, h7, h8, h9⟩, d1, d2, d3, v, c1, c2, c3, p, l1, sv, l2, u1, u2, n1, n2, k1, k2⟩

variable {q : List Instr} {m : Nat} {s t : State}

namespace State.Kept

theorem wf (h : s.Kept q m) : s.wf := (State.wf_iff_kept s).2 { h with waits := rfl, since := Nat.le_refl _ }
theorem image (h : s.Kept q m) : s.image.shaped := h.wf.1

-- One rule for each update of a part -------------------------------------------------------------------------

theorem onTime (h : s.Kept q m) {f : TimeSt → TimeSt} (hw : (f s.time).wheels.length = s.time.wheels.length := by simp)
    (ha : (f s.time).active.length = s.time.active.length := by simp) (hm : s.time.mt ≤ (f s.time).mt := by simp) :
    (s.onTime f).Kept q m :=
  { h with okTime := ⟨hw.trans h.okTime.1, ha.trans h.okTime.2⟩, since := h.since.trans hm }

theorem onImp (h : s.Kept q m) {f : ImpSt → ImpSt} (hf : s.imp.shaped → (f s.imp).shaped := by exact id) : (s.onImp f).Kept q m :=
  { h with okImp := hf h.okImp }

theorem onProbe (h : s.Kept q m) {f : ProbeSt → ProbeSt} (hc : (f s.probe).chans.length = s.probe.chans.length := by simp)
    (hg : (f s.probe).groups.length = s.probe.groups.length := by simp) : (s.onProbe f).Kept q m :=
  { h with okProbe := ⟨hc.trans h.okProbe.1, hg.trans h.okProbe.2⟩ }

theorem onPica (h : s.Kept q m) {f : PicaSt → PicaSt} (hp : (f s.pica).ports.length = s.pica.ports.length := by simp)
    (hz : (f s.pica).zones.length = s.pica.zones.length := by simp) : (s.onPica f).Kept q m :=
  { h with okPica := ⟨hp.trans h.okPica.1, hz.trans h.okPica.2⟩ }

theorem onCle (h : s.Kept q m) {f : CleSt → CleSt} (hl : (f s.cle).loops.length = s.cle.loops.length := by simp)
    (hg : (f s.cle).galleys.length = s.cle.galleys.length := by simp) : (s.onCle f).Kept q m :=
  { h with okCle := ⟨hl.trans h.okCle.1, hg.trans h.okCle.2⟩ }

theorem onFan (h : s.Kept q m) {f : FanSt → FanSt} (hd : (f s.fan).drives.length = s.fan.drives.length := by simp)
    (hg : (f s.fan).groups.length = s.fan.groups.length := by simp) (hi : (f s.fan).ftrip.length = s.fan.ftrip.length := by simp) :
    (s.onFan f).Kept q m :=
  { h with okFan := ⟨hd.trans h.okFan.1, hg.trans h.okFan.2.1, hi.trans h.okFan.2.2⟩ }

theorem onValve (h : s.Kept q m) {f : ValveSt → ValveSt} (hv : (f s.valve).svs.length = s.valve.svs.length := by simp) :
    (s.onValve f).Kept q m :=
  { h with okValve := hv.trans h.okValve }

theorem onDio (h : s.Kept q m) {f : DioSt → DioSt} (hi : (f s.dio).ins.length = s.dio.ins.length := by simp)
    (ho : (f s.dio).outs.length = s.dio.outs.length := by simp) : (s.onDio f).Kept q m :=
  { h with okDio := ⟨hi.trans h.okDio.1, ho.trans h.okDio.2⟩ }

theorem onHl (h : s.Kept q m) {f : HlSt → HlSt} (hc : (f s.hl).chs.length = s.hl.chs.length := by simp)
    (ht : (f s.hl).temps.length = s.hl.temps.length := by simp) (hr : (f s.hl).rb.length = s.hl.rb.length := by simp) :
    (s.onHl f).Kept q m :=
  { h with okHl := ⟨hc.trans h.okHl.1, ht.trans h.okHl.2.1, hr.trans h.okHl.2.2⟩ }

theorem onPower (h : s.Kept q m) {f : PowerSt → PowerSt} (hr : (f s.power).res.length = s.power.res.length := by simp) :
    (s.onPower f).Kept q m :=
  { h with okPower := hr.trans h.okPower }

theorem onUnit (h : s.Kept q m) {f : UnitSt → UnitSt} (hf : s.unit.shaped → (f s.unit).shaped := by exact id) :
    (s.onUnit f).Kept q m :=
  { h with okUnit := hf h.okUnit }

theorem onHost (h : s.Kept q m) {f : HostSt → HostSt} (hf : s.host.shaped → (f s.host).shaped := by exact id) :
    (s.onHost f).Kept q m :=
  { h with okHost := hf h.okHost }

theorem onSup (h : s.Kept q m) {f : SupSt → SupSt} (hf : s.sup.shaped → (f s.sup).shaped := by exact id) : (s.onSup f).Kept q m :=
  { h with okSup := hf h.okSup }

theorem onStore (h : s.Kept q m) {f : RecSt → RecSt} (hf : s.store.shaped → (f s.store).shaped := by exact id) :
    (s.onStore f).Kept q m :=
  { h with okStore := hf h.okStore }

theorem onLane (h : s.Kept q m) {f : LaneSt → LaneSt} (hf : s.lane.shaped → (f s.lane).shaped := by exact id) :
    (s.onLane f).Kept q m :=
  { h with okLane := hf h.okLane }

theorem onSvc (h : s.Kept q m) {f : SvcSt → SvcSt} (hs : (f s.svc).sel.length = s.svc.sel.length := by simp) : (s.onSvc f).Kept q m :=
  { h with okSvc := hs.trans h.okSvc }

theorem onToks (h : s.Kept q m) {f : List VTok → List VTok} : (s.onToks f).Kept q m := { h with }

theorem onTimer (h : s.Kept q m) {n : Nat} {f : Timer → Timer} : (s.onTimer n f).Kept q m :=
  { h with okTimers := (List.length_modify ..).trans h.okTimers }
theorem onCol (h : s.Kept q m) {c : Nat} {f : Column → Column} : (s.onCol c f).Kept q m :=
  { h with okCols := (List.length_modify ..).trans h.okCols }
theorem onWheel (h : s.Kept q m) {n : Nat} {f : Wheel → Wheel} : (s.onWheel n f).Kept q m :=
  h.onTime (List.length_modify ..) rfl (Nat.le_refl _)
theorem onChan (h : s.Kept q m) {n : Nat} {f : Chan → Chan} : (s.onChan n f).Kept q m :=
  h.onProbe (List.length_modify ..) rfl
theorem onGroup (h : s.Kept q m) {n : Nat} {f : Group → Group} : (s.onGroup n f).Kept q m :=
  h.onProbe rfl (List.length_modify ..)
theorem onPort (h : s.Kept q m) {n : Nat} {f : Port → Port} : (s.onPort n f).Kept q m :=
  h.onPica (List.length_modify ..) rfl
theorem onZone (h : s.Kept q m) {n : Nat} {f : Zone → Zone} : (s.onZone n f).Kept q m :=
  h.onPica rfl (List.length_modify ..)
theorem onLoop (h : s.Kept q m) {n : Nat} {f : Loop → Loop} : (s.onLoop n f).Kept q m :=
  h.onCle (List.length_modify ..) rfl
theorem onGal (h : s.Kept q m) {n : Nat} {f : Galley → Galley} : (s.onGal n f).Kept q m :=
  h.onCle rfl (List.length_modify ..)
theorem onDrive (h : s.Kept q m) {n : Nat} {f : Drive → Drive} : (s.onDrive n f).Kept q m :=
  h.onFan (List.length_modify ..) rfl rfl
theorem onFg (h : s.Kept q m) {n : Nat} {f : FanGroup → FanGroup} : (s.onFg n f).Kept q m :=
  h.onFan rfl (List.length_modify ..) rfl
theorem onSv (h : s.Kept q m) {n : Nat} {f : Valve → Valve} : (s.onSv n f).Kept q m :=
  h.onValve (List.length_modify ..)
theorem onDin (h : s.Kept q m) {n : Nat} {f : Din → Din} : (s.onDin n f).Kept q m :=
  h.onDio (List.length_modify ..) rfl
theorem onDout (h : s.Kept q m) {n : Nat} {f : Dout → Dout} : (s.onDout n f).Kept q m :=
  h.onDio rfl (List.length_modify ..)
theorem onQueue (h : s.Kept q m) {n : Nat} {f : Queue → Queue} : (s.onQueue n f).Kept q m := h.onHost
theorem onFlight (h : s.Kept q m) {n : Nat} {f : Flight → Flight} : (s.onFlight n f).Kept q m := h.onHost
theorem onNode (h : s.Kept q m) {n : Nat} {f : Node → Node} : (s.onNode n f).Kept q m :=
  h.onLane fun ⟨hl, hn⟩ => ⟨hl, keysRise_spSet _ _ _ hn⟩

/-- A session keeps its shape where its update keeps the role and the order of its latches. -/
theorem onSession (h : s.Kept q m) {n : Nat} {f : Session → Session} (hf : ∀ x : Session, x.shaped → (f x).shaped := by exact fun _ => id) :
    (s.onSession n f).Kept q m := by
  refine h.onHost fun ⟨hlen, hall⟩ => ⟨by simpa using hlen, fun y hy => ?_⟩
  obtain ⟨x, hx, rfl⟩ := List.mem_map.1 hy
  split
  · exact hf x (hall x hx)
  · exact hall x hx

-- Choices and folds ------------------------------------------------------------------------------------------

theorem ite {c : Prop} [Decidable c] (hs : c → s.Kept q m) (ht : ¬c → t.Kept q m) : (if c then s else t).Kept q m := by
  split
  · exact hs ‹_›
  · exact ht ‹_›

theorem foldl {α : Type} {f : State → α → State} (h : s.Kept q m) (l : List α) (hf : ∀ {a : State} x, a.Kept q m → (f a x).Kept q m) :
    (l.foldl f s).Kept q m := by
  induction l generalizing s with
  | nil => exact h
  | cons x l ih => exact ih (hf x h)

theorem foldlFst {α β : Type} {f : State × β → α → State × β} {a : State × β} (h : a.1.Kept q m) (l : List α)
    (hf : ∀ {a : State × β} x, a.1.Kept q m → (f a x).1.Kept q m) : (l.foldl f a).1.Kept q m := by
  induction l generalizing a with
  | nil => exact h
  | cons x l ih => exact ih (hf x h)

-- Time, slugs, records, streams ------------------------------------------------------------------------------

theorem elapse (h : s.Kept q m) (dt : Nat) : (s.elapse dt).Kept q m := by
  unfold State.elapse
  refine ite (fun _ => ?_) fun _ => h
  refine { h with since := h.since.trans ?_ }
  show s.time.mt ≤ s.mtAfter dt
  unfold State.mtAfter
  split
  · exact Nat.le_max_left ..
  · exact Nat.le_add_right ..

theorem fresh (h : s.Kept q m) : s.fresh.2.Kept q m := { h with }

theorem startProgram_keys (r : RecSt) : (startProgram r).keys = r.keys ∧ (startProgram r).reprint = r.reprint := by
  unfold startProgram
  split <;> exact ⟨rfl, rfl⟩

/-- Staging a slug moves neither the keyframes nor a reprint. -/
theorem stageSlug_keys (r : RecSt) (sl : Slug) (n : Nat) : (stageSlug r sl n).keys = r.keys ∧ (stageSlug r sl n).reprint = r.reprint := by
  unfold stageSlug
  split
  · split
    · split
      · exact ⟨rfl, rfl⟩
      · split <;> exact ⟨rfl, rfl⟩
    · exact ⟨rfl, rfl⟩
  · split <;> exact ⟨rfl, rfl⟩

theorem putSlug (h : s.Kept q m) {sl : Slug} {eq : Option Nat} : (s.putSlug sl eq).Kept q m := by
  have hsvc : ((if sl.cls = .fault then { s.svc with faultLed := true } else s.svc) : SvcSt).sel.length = 6 := by
    split <;> exact h.okSvc
  have hstore : (startProgram (stageSlug { s.store with nextSeq := incW 32 s.store.nextSeq } { sl with seq := s.store.nextSeq }
      s.now)).shaped := by
    unfold RecSt.shaped
    rw [(startProgram_keys _).1, (startProgram_keys _).2, (stageSlug_keys _ _ _).1, (stageSlug_keys _ _ _).2]
    exact h.okStore
  exact { h with okStore := hstore, okSvc := hsvc }

theorem slug (h : s.Kept q m) {src kind : Nat} {cls : SlugClass} {obj after before : Nat} {v1 v2 : Int} {rel : Nat} {bytes : List Nat}
    {eq : Option Nat} {audit : Bool} {at_ : Option Nat} {live : Bool} :
    (s.slug src kind cls obj after before v1 v2 rel bytes eq audit at_ live).Kept q m := by
  unfold State.slug
  exact ite (fun _ => h) fun _ => h.putSlug

theorem audit (h : s.Kept q m) {sid role fp status op target : Nat} {items : List Nat} :
    (s.audit sid role fp status op target items).Kept q m := h.slug

theorem record (h : s.Kept q m) {typ index : Nat} {pay : List Int} {at_ : Option Nat} : (s.record typ index pay at_).Kept q m := by
  unfold State.record
  refine ite (fun _ => ?_) fun _ => h
  exact ite (fun _ => h.onStore) fun _ => h.onStore

theorem recHost (h : s.Kept q m) {sid op id : Nat} {v : Int} {accN : Nat} {args : List Nat} :
    (s.recHost sid op id v accN args).Kept q m := h.record
theorem stream (h : s.Kept q m) {n : Nat} {rec_ : List Nat} {source kind epoch : Nat} :
    (s.stream n rec_ source kind epoch).Kept q m := h.onQueue

-- Commands (14 R367 to R371) ---------------------------------------------------------------------------------

theorem auditCmd (h : s.Kept q m) {fl : Flight} {status : Nat} : (s.auditCmd fl status).Kept q m := by
  unfold State.auditCmd
  exact ite (fun _ => h.audit) fun _ => h

theorem complete (h : s.Kept q m) {f status : Nat} {res : List Nat} : (s.complete f status res).Kept q m := by
  unfold State.complete
  split
  · exact h
  · dsimp only
    split
    · exact h.onHost.onQueue.auditCmd
    · exact h.onHost.auditCmd

end State.Kept

/-- The state that a command's body answers with is kept. -/
def Ans.Kept (q : List Instr) (m : Nat) : Ans → Prop
  | .done t _ _ => t.Kept q m
  | .later t => t.Kept q m

/-- The state that a command answers with, if it answers one, is kept. -/
def keptOut (q : List Instr) (m : Nat) : Out → Prop
  | .next t => t.Kept q m
  | .fault _ => True
  | .refused _ => True

theorem State.Kept.runCmd (h : s.Kept q m) {op f : Nat} {body : Flight → State → Ans} (hb : ∀ fl, (body fl s).Kept q m) :
    (runCmd op f body s).Kept q m := by
  unfold Sys2Proof.Machine.runCmd
  split
  · exact h
  next fl hfl =>
    refine .ite (fun _ => ?_) fun _ => h
    have hb := hb fl
    cases hbody : body fl s with
    | done t st res =>
      rw [hbody] at hb
      exact State.Kept.complete hb
    | later t =>
      rw [hbody] at hb
      exact State.Kept.onFlight hb

end Sys2Proof.Machine
end

section
/-! PROOFS. The imposition and the probe groups (03, 06) keep the state in form. -/

namespace Sys2Proof.Machine

set_option Elab.async false

variable {q : List Instr} {m : Nat} {s : State}

-- Reprints, instants and the base time -----------------------------------------------------------------------

/-- A reprint that goes on keeps what it saved. -/
theorem RecSt.shaped.go {x : RecSt} (h : x.shaped) {r r' : Reprint} (hr : x.reprint = some r) (hs : r'.saved = r.saved) :
    ({ x with reprint := some r' } : RecSt).shaped := by
  refine ⟨h.1, fun y hy => ?_⟩
  obtain rfl : y = r' := by simpa using hy
  rw [hs]
  exact h.2 r (by simp [hr])

theorem RecSt.shaped.map {x : RecSt} (h : x.shaped) {g : Reprint → Reprint} (hg : ∀ r, (g r).saved = r.saved := by exact fun _ => rfl) :
    ({ x with reprint := x.reprint.map g } : RecSt).shaped := by
  cases hr : x.reprint with
  | none => exact ⟨h.1, by simp⟩
  | some r => exact h.go hr (hg r)

namespace State.Kept

theorem goReprint (h : s.Kept q m) {r : Reprint} (hr : s.store.reprint = some r) {r' : Reprint} (hs : r'.saved = r.saved := by exact rfl) :
    (s.onStore fun x => { x with reprint := some r' }).Kept q m := h.onStore fun hx => hx.go hr hs

theorem mapReprint (h : s.Kept q m) {g : Reprint → Reprint} (hg : ∀ r, (g r).saved = r.saved := by exact fun _ => rfl) :
    (s.onStore fun x => { x with reprint := x.reprint.map g }).Kept q m := h.onStore fun hx => hx.map hg

theorem reach (h : s.Kept q m) {t : Nat} {u : State} (hu : s.reach t = some u) : u.Kept q m := by
  unfold State.reach at hu
  split at hu
  · obtain ⟨-, hs⟩ := Option.ite_none_right_eq_some.1 hu
    cases hs
    exact h
  next r hr =>
    obtain ⟨-, ht⟩ := Option.ite_none_right_eq_some.1 hu
    cases ht
    exact h.goReprint hr

theorem asOf (h : s.Kept q m) {t : Nat} {f : State → State} (hf : ∀ {a : State} {n}, a.Kept q n → (f a).Kept q n) :
    (s.asOf t f).Kept q m := by
  unfold State.asOf
  split
  · have ha : (f { s with time := { s.time with mt := t } }).Kept q 0 := hf { h with since := Nat.zero_le _ }
    exact { ha with since := h.since }
  next r hr => exact (hf (h.goReprint hr)).mapReprint

-- The imposition (03) ----------------------------------------------------------------------------------------

theorem setSlot (h : s.Kept q m) {n : Nat} {l : SlotLive} : (s.setSlot n l).Kept q m :=
  h.onImp fun ⟨hw, hle, hq, hs⟩ => ⟨hw, hle, hq, keysRise_spSet _ _ _ hs⟩

/-- Changing one window for a shorter one, or for one of at most 32 slots. -/
theorem onWin (h : s.Kept q m) {b : Nat} {f : List Nat → List Nat} (hf : ∀ {w : List Nat}, w.length ≤ 32 → (f w).length ≤ 32) :
    (s.onImp fun i => { i with wins := i.wins.modify b f }).Kept q m := by
  refine h.onImp fun ⟨hw, hle, hq, hs⟩ => ⟨by simpa using hw, fun w hmem => ?_, hq, hs⟩
  obtain ⟨k, hk⟩ := List.getElem?_of_mem hmem
  rw [List.getElem?_modify] at hk
  obtain ⟨v, hv, rfl⟩ := Option.map_eq_some_iff.1 hk
  have hlen := hle v (List.mem_of_getElem? hv)
  split
  · exact hf hlen
  · exact hlen

theorem winRemove (h : s.Kept q m) {b n : Nat} : (s.winRemove b n).Kept q m :=
  h.onWin fun hw => (List.length_filter_le ..).trans hw
theorem winInsert (h : s.Kept q m) {b n : Nat} : (s.winInsert b n).Kept q m := h.onWin fun _ => List.length_take_le ..

theorem pushFiring (h : s.Kept q m) {x : Firing} : (s.pushFiring x).Kept q m := by
  have taken {evt} {held} {late} : State.Kept q m { s with imp := { s.imp with
      queue := (queueFiring x (s.imp.queue ++ s.imp.held)).take 256, held, evt, late } } := by
    obtain ⟨hw, hle, -, hs⟩ := h.okImp
    exact { h with okImp := ⟨hw, hle, List.length_take_le .., hs⟩ }
  unfold State.pushFiring
  extract_lets late u
  have hu : u.Kept q m := by
    show State.Kept q m { s with imp := _ }
    split <;> exact taken
  exact ite (fun _ => hu.slug) fun _ => hu

theorem lateSlug (h : s.Kept q m) {b n : Nat} : (s.lateSlug b n).Kept q m := by
  unfold State.lateSlug
  exact ite (fun _ => h.slug) fun _ => h

theorem crossSlots (h : s.Kept q m) {b : Nat} {hit : List Nat} {late step : Bool} : (s.crossSlots b hit late step).Kept q m := by
  unfold State.crossSlots
  refine ite (fun _ => lateSlug ?_) fun _ => ?_ <;>
  · refine foldl ?_ _ fun _ ha => ha.pushFiring
    refine foldl ?_ _ fun _ ha => ite (fun _ => ha.winInsert) fun _ => ha
    exact h.foldl _ fun _ ha => ha.setSlot.winRemove

theorem crossBase (h : s.Kept q m) {b : Nat} {step : Bool} : (s.crossBase b step).Kept q m := by
  unfold State.crossBase
  exact ite (fun _ => h.crossSlots) fun _ => h

theorem refill (h : s.Kept q m) {b : Nat} : (s.refill b).Kept q m := by
  unfold State.refill
  refine foldl ?_ _ fun _ ha => ha.winInsert
  exact ite (fun _ => h.crossSlots) fun _ => h.crossSlots.onImp

theorem armBehind (h : s.Kept q m) {n : Nat} {e : SlotEntry} {l : SlotLive} {target : Nat} {rel : Bool} :
    (s.armBehind n e l target rel).1.Kept q m := by
  unfold State.armBehind
  dsimp only
  split
  · split
    · exact h.onImp.setSlot
    · exact h.onImp.setSlot.winInsert
  · exact pushFiring (ite (fun _ => h.setSlot.winInsert) fun _ => h.setSlot)

theorem armSlot (h : s.Kept q m) {n : Nat} {ovr : Option (Nat × Bool)} : (s.armSlot n ovr).1.Kept q m := by
  unfold State.armSlot
  extract_lets e tgt rel b _ l u
  have hr : u.Kept q m := ite (fun _ => h.winRemove) fun _ => h
  split
  · exact hr.setSlot
  · split
    · exact hr
    · split
      · exact hr.setSlot
      · split
        · exact hr.armBehind
        · exact hr.setSlot.winInsert

theorem disarmSlot (h : s.Kept q m) {n : Nat} : (s.disarmSlot n).Kept q m := by
  unfold State.disarmSlot
  exact ite (fun _ => h.setSlot.winRemove) fun _ => h.setSlot

theorem holdBase (h : s.Kept q m) {b : Nat} : (s.holdBase b).Kept q m := h.foldl _ fun _ ha => ha.setSlot.winRemove

theorem unholdBase (h : s.Kept q m) {b : Nat} : (s.unholdBase b).Kept q m :=
  h.foldl _ fun _ ha => ite (fun _ => ha.setSlot.winInsert) fun _ => ite (fun _ => ha.armBehind) fun _ => ha.setSlot.winInsert

theorem applySlots (h : s.Kept q m) {keep : Option Forme} {fm : Forme} : (s.applySlots keep fm).Kept q m := by
  have off {a : State} (ha : a.Kept q m) (n : Nat) : State.Kept q m { a with imp := { a.imp with
      slots := spSet {} a.imp.slots n { a.slotLive n with st := .disabled }
      wins := a.imp.wins.map fun w => w.filter (· ≠ n) } } := by
    obtain ⟨hw, hle, hq, hs⟩ := ha.okImp
    refine { ha with okImp := ⟨by simpa using hw, fun w hmem => ?_, hq, keysRise_spSet _ _ _ hs⟩ }
    obtain ⟨v, hv, rfl⟩ := List.mem_map.1 hmem
    exact (List.length_filter_le ..).trans (hle v hv)
  unfold State.applySlots
  refine foldl ?_ _ fun _ ha => ite (fun _ => ha.armSlot) fun _ => ha
  exact h.foldl _ fun n ha => off ha n

theorem eventToken (h : s.Kept q m) {src idx phase : Nat} {on : Bool} {at_ : Option Nat} :
    (s.eventToken src idx phase on at_).Kept q m := h.foldl _ fun _ ha => ha.setSlot.pushFiring

theorem reportAcc (h : s.Kept q m) {slot : Nat} {a : Acc} : (s.reportAcc slot a).Kept q m := by
  unfold State.reportAcc
  exact ite (fun _ => ite (fun _ => h.setSlot.onImp.slug) fun _ => h.setSlot.onImp) fun _ => h.setSlot

theorem eqPost (h : s.Kept q m) {x : Firing} : (s.eqPost x).Kept q m := h.slug
theorem trigTok (h : s.Kept q m) {l src mt station index n : Nat} : (s.trigTok l src mt station index n).Kept q m := h.onToks

theorem dispatch (h : s.Kept q m) : s.dispatch.Kept q m := by
  unfold State.dispatch
  split
  · exact h
  next x rest hx =>
    have taken {evt : ImpSt → Nat} : (s.onImp fun i => { i with
        queue := rest ++ i.held.take 1, held := i.held.drop 1, disp := incW 32 i.disp, latMax := evt i }).Kept q m := by
      refine h.onImp fun ⟨hw, hle, hq, hs⟩ => ⟨hw, hle, ?_, hs⟩
      have h1 : (s.imp.held.take 1).length ≤ 1 := List.length_take_le ..
      simp only [hx, List.length_cons] at hq
      simp only [List.length_append]
      omega
    refine ite (fun _ => taken.reportAcc) fun _ => ite (fun _ => taken.eqPost.reportAcc) fun _ =>
      ite (fun _ => taken.mapReprint) fun _ => ?_
    have sent {typ} {pay} {c : Prop} [Decidable c] {a : State} (ha : a.Kept q m) :
        (if c then a.record typ x.index pay else a).Kept q m :=
      ite (fun _ => ha.record) fun _ => ha
    exact ite (fun _ => (sent taken).reportAcc) fun _ => ite (fun _ => (sent taken).onImp.trigTok) fun _ =>
      ite (fun _ => (sent taken).onImp.reportAcc) fun _ => (sent taken).onImp

theorem takeAction (h : s.Kept q m) {action index : Nat} {x : Firing} {u : State} (hu : s.takeAction action index = some (x, u)) :
    u.Kept q m := by
  unfold State.takeAction at hu
  split at hu
  · cases hu
    exact h.onImp
  · cases hu

theorem maAdvance (h : s.Kept q m) {ext freq : Nat} : (s.maAdvance ext freq).Kept q m := by
  unfold State.maAdvance
  split
  · have hf : (if freqOk freq then s.onTime fun t => { t with freq } else s).Kept q m := ite (fun _ => h.onTime) fun _ => h
    exact ite (fun _ => hf) fun _ => hf.onTime.crossBase
  · exact crossBase (ite (fun _ => h.onTime) fun _ => h)
  · exact h

end State.Kept

-- The rows of the imposition ---------------------------------------------------------------------------------

theorem keptOut_ite {c : Prop} [Decidable c] {a b : Out} (ha : c → keptOut q m a) (hb : ¬c → keptOut q m b) :
    keptOut q m (if c then a else b) := by
  split
  · exact ha ‹_›
  · exact hb ‹_›

namespace State.Kept

theorem execMtSlotCrossing (h : s.Kept q m) {dt : Nat} : keptOut q m (execMtSlotCrossing dt s) := by
  have hu := h.elapse dt
  unfold Machine.execMtSlotCrossing
  dsimp only
  split
  · exact hu
  · split
    next hr => exact (hu.reach hr).crossBase
    · exact hu

theorem execMaSlotCrossing (h : s.Kept q m) {dt ext freq : Nat} : keptOut q m (execMaSlotCrossing dt ext freq s) :=
  keptOut_ite (fun _ => h.elapse dt) fun _ => (h.elapse dt).record.maAdvance

theorem execWindowRefill (h : s.Kept q m) {dt b : Nat} : keptOut q m (execWindowRefill dt b s) :=
  keptOut_ite (fun _ => (h.elapse dt).refill) fun _ => h.elapse dt

theorem execActionDispatch (h : s.Kept q m) {dt : Nat} : keptOut q m (execActionDispatch dt s) := (h.elapse dt).dispatch

/-- A write into the open forme keeps the order of its parameters. -/
theorem openWrite (h : s.Kept q m) {f : OpenForme → OpenForme} {res : List Nat}
    (hf : ∀ o : OpenForme, keysRise o.forme.params → keysRise (f o).forme.params) : (s.openWrite f res).Kept q m := by
  unfold State.openWrite
  split
  · exact h
  next o ho =>
    split
    · exact h
    · refine h.onSup fun ⟨hp, hall⟩ => ⟨hp, fun x hx => ?_⟩
      obtain rfl : x = f o := by simpa using hx
      exact hf o (hall o (by simp [ho]))

theorem slotWriteBody (h : s.Kept q m) {fl : Flight} : (slotWriteBody fl s).Kept q m := by
  unfold Machine.slotWriteBody
  dsimp only
  split
  · exact h
  · exact h.openWrite fun _ => id

theorem slotReadBody (h : s.Kept q m) {fl : Flight} : (slotReadBody fl s).Kept q m := by
  unfold Machine.slotReadBody
  dsimp only
  repeat' split
  all_goals exact h

theorem slotEnableOne {op n : Nat} {ovr : Nat × Bool} {a : State × Nat × Nat} (h : a.1.Kept q m) :
    (slotEnableOne op n ovr a).1.Kept q m := by
  unfold Machine.slotEnableOne
  dsimp only
  split
  · split
    · exact h
    · exact h.disarmSlot
  · split
    · exact h
    · exact h.armSlot
  · exact h.armSlot

theorem slotEnableBody (h : s.Kept q m) {fl : Flight} : (slotEnableBody fl s).Kept q m := by
  unfold Machine.slotEnableBody
  dsimp only
  split
  · exact h
  · split
    · exact h
    · exact recHost (h.foldlFst _ fun _ ha => ha.slotEnableOne)

theorem execSlotWrite (h : s.Kept q m) {dt f : Nat} : keptOut q m (execSlotWrite dt f s) :=
  (h.elapse dt).runCmd fun _ => (h.elapse dt).slotWriteBody
theorem execSlotRead (h : s.Kept q m) {dt f : Nat} : keptOut q m (execSlotRead dt f s) :=
  (h.elapse dt).runCmd fun _ => (h.elapse dt).slotReadBody
theorem execSlotEnable (h : s.Kept q m) {dt f : Nat} : keptOut q m (execSlotEnable dt f s) :=
  (h.elapse dt).runCmd fun _ => (h.elapse dt).slotEnableBody

end State.Kept
end Sys2Proof.Machine

namespace Sys2Proof.Machine

set_option Elab.async false

variable {q : List Instr} {m : Nat} {s : State}

namespace State.Kept

-- Value tokens (01 R18) --------------------------------------------------------------------------------------

theorem fanOut (h : s.Kept q m) {src : Source} {epoch : Nat} {code : SCode} {value : Option Int} {stamp : Nat} :
    (s.fanOut src epoch code value stamp).Kept q m :=
  h.foldl _ fun _ ha => ite (fun _ => ha.onToks.trigTok) fun _ => ha.onToks

theorem takeTok (h : s.Kept q m) {cons obj : Nat} {x : VTok} {u : State} (hu : s.takeTok cons obj = some (x, u)) : u.Kept q m := by
  unfold State.takeTok at hu
  dsimp only at hu
  split at hu
  · cases hu
    exact h.onToks
  · cases hu

-- The probe groups (06) --------------------------------------------------------------------------------------

theorem seeLeads (h : s.Kept q m) {ch a b : Nat} : (s.seeLeads ch a b).Kept q m :=
  ite (fun _ => h.onChan) fun _ => ite (fun _ => h.onChan.onChan) fun _ => h.onChan

theorem streamSample (h : s.Kept q m) {g : Nat} {x : Sample} : (streamSample s g x).Kept q m := by
  unfold Machine.streamSample
  extract_lets i hit due room s1
  have h1 : s1.Kept q m := h.foldl _ fun _ ha => ha.stream
  exact h1.onProbe

theorem breakSlug (h : s.Kept q m) {g ch : Nat} {old new : SCode} : (breakSlug s g ch old new).Kept q m :=
  ite (fun _ => h.slug) fun _ => ite (fun _ => h.slug) fun _ => h

theorem deliver (h : s.Kept q m) {g : Nat} {x : Sample} : (s.deliver g x).Kept q m :=
  h.onChan.breakSlug.record.streamSample.fanOut

theorem endBlock (h : s.Kept q m) {g ch n mt : Nat} : (s.endBlock g ch n mt).Kept q m :=
  ite (fun _ => h.onChan.deliver) fun _ => h.onChan.deliver

theorem converted (h : s.Kept q m) {g ch : Nat} {v : Int} {overload postFail : Bool} {mt : Nat} :
    (s.converted g ch v overload postFail mt).Kept q m :=
  ite (fun _ => h.onChan.deliver) fun _ => ite (fun _ => h.deliver) fun _ => ite (fun _ => h.onChan) fun _ => h.onChan.endBlock

theorem startPass (h : s.Kept q m) {g src marks mt : Nat} : (s.startPass g src marks mt).Kept q m := h.onGroup

theorem endPass (h : s.Kept q m) {g mt : Nat} : (s.endPass g mt).Kept q m := by
  unfold State.endPass
  split
  · exact h.onGroup.startPass
  · exact ite (fun _ => h.startPass) fun _ => h.onGroup

theorem abortPass (h : s.Kept q m) {g : Nat} : (s.abortPass g).Kept q m :=
  ite (fun _ => h) fun _ => (ite (fun _ => h.onGroup) fun _ => h.onGroup.deliver).onGroup

theorem overrun (h : s.Kept q m) {g : Nat} : (s.overrun g).Kept q m := h.onGroup

theorem trigger (h : s.Kept q m) {g src marks : Nat} : (s.trigger g src marks).2.Kept q m := by
  unfold State.trigger
  extract_lets x
  split
  · exact h
  · split
    · exact h
    · split
      · exact h.overrun
      · split
        · exact h.startPass
        · split
          · split
            · exact h.onGroup
            · exact h.overrun
          · exact h.abortPass.onGroup.startPass
          · exact h.overrun

theorem execSeqTrig (h : s.Kept q m) {dt g : Nat} : keptOut q m (execSeqTrig dt g s) := by
  unfold Machine.execSeqTrig
  extract_lets u
  have hu : u.Kept q m := h.elapse dt
  split
  · exact hu
  next hx => exact (hu.takeAction hx).trigger.reportAcc

theorem execSettleEnd (h : s.Kept q m) {dt g a b : Nat} : keptOut q m (execSettleEnd dt g a b s) :=
  keptOut_ite (fun _ => h.elapse dt) fun _ =>
    ite (fun _ => (h.elapse dt).onGroup.seeLeads.onChan.onChan.deliver) fun _ => (h.elapse dt).onGroup.seeLeads.onChan

theorem execConversionSlotEnd (h : s.Kept q m) {dt g : Nat} {x : Meas} : keptOut q m (execConversionSlotEnd dt g x s) := by
  unfold Machine.execConversionSlotEnd
  extract_lets u ch mt post u1
  have hu : u.Kept q m := h.elapse dt
  refine keptOut_ite (fun _ => hu) fun _ => ?_
  have hu1 : u1.Kept q m := ite (fun _ => hu) fun _ => hu.seeLeads.onChan.converted
  exact keptOut_ite (fun _ => hu1.onGroup) fun _ => hu1.endPass

theorem execChannelStale (h : s.Kept q m) {dt ch : Nat} : keptOut q m (execChannelStale dt ch s) :=
  keptOut_ite (fun _ => h.elapse dt) fun _ => (h.elapse dt).deliver

theorem seqTriggerBody (h : s.Kept q m) {fl : Flight} : (seqTriggerBody fl s).Kept q m := by
  unfold Machine.seqTriggerBody
  extract_lets g
  split
  · exact h
  · split
    · exact h
    · exact h.trigger

theorem sampleReadBody (h : s.Kept q m) {fl : Flight} : (sampleReadBody fl s).Kept q m := by
  unfold Machine.sampleReadBody
  extract_lets ch v c
  split
  · exact h
  · split <;> exact h

theorem streamOpenBody (h : s.Kept q m) {fl : Flight} : (streamOpenBody fl s).Kept q m := by
  unfold Machine.streamOpenBody
  extract_lets g xq mask dec op mine n
  split
  · exact h
  · split
    · exact h
    · split
      · exact h
      · split <;> exact h.onProbe.onQueue

theorem execSeqTrigger (h : s.Kept q m) {dt f : Nat} : keptOut q m (execSeqTrigger dt f s) :=
  (h.elapse dt).runCmd fun _ => (h.elapse dt).seqTriggerBody
theorem execSampleRead (h : s.Kept q m) {dt f : Nat} : keptOut q m (execSampleRead dt f s) :=
  (h.elapse dt).runCmd fun _ => (h.elapse dt).sampleReadBody
theorem execStreamOpen (h : s.Kept q m) {dt f : Nat} : keptOut q m (execStreamOpen dt f s) :=
  (h.elapse dt).runCmd fun _ => (h.elapse dt).streamOpenBody

theorem groupChange (h : s.Kept q m) {g : Nat} {old : Forme} : (s.groupChange g old).Kept q m := by
  unfold State.groupChange
  extract_lets new ends u a _ a1 u1
  have hu : u.Kept q m := h.onProbe
  have ha : a.Kept q m := hu.onGroup
  have ha1 : a1.Kept q m := ite (fun _ => ha) fun _ => ha.deliver
  have hu1 : u1.Kept q m := ite (fun _ => hu) fun _ => ha1.onGroup
  exact ite (fun _ => hu1.onGroup) fun _ => ite (fun _ => hu1.endPass) fun _ => hu1

end State.Kept
end Sys2Proof.Machine
end

section
/-! PROOFS. Timers, time bases and the control-loop engine (04, 02, 08) keep the state in form. -/

namespace Sys2Proof.Machine

set_option Elab.async false

variable {q : List Instr} {m : Nat} {s : State}

namespace State.Kept

-- The timers (04) --------------------------------------------------------------------------------------------

theorem tmSettle (h : s.Kept q m) {n : Nat} : (s.tmSettle n).Kept q m := h.onTimer
theorem tmCountUnits (h : s.Kept q m) {n k mt : Nat} : (s.tmCountUnits n k mt).Kept q m := h.onTimer

theorem tmStart (h : s.Kept q m) {n : Nat} : (s.tmStart n).Kept q m :=
  h.tmSettle.onTimer.foldl _ fun _ ha => ite (fun _ => ha.onTimer) fun _ => ha

theorem tmSignal (h : s.Kept q m) {n mt : Nat} : (s.tmSignal n mt).Kept q m := by
  unfold State.tmSignal
  extract_lets s1 s2 loops s3 s4
  have h2 : s2.Kept q m := h.onTimer.eventToken
  have h3 : s3.Kept q m := ite (fun _ => h2.foldl _ fun _ ha => ha.trigTok) fun _ => h2
  have h4 : s4.Kept q m := h3.foldl _ fun _ ha => ite (fun _ => ha.trigger) fun _ => ha
  exact h4.foldl _ fun _ ha => ite (fun _ => ha.tmSettle.onTimer) fun _ => ha

theorem tmExpire (h : s.Kept q m) {n e : Nat} : (s.tmExpire n e).Kept q m := h.onTimer

theorem tmFire (h : s.Kept q m) {n : Nat} : (s.tmFire n).Kept q m := by
  unfold State.tmFire
  extract_lets u t
  have hu : u.Kept q m := h.tmSettle
  split
  · split
    next hr => exact (hu.reach hr).onTimer.tmSignal
    · exact hu
  · split
    · split
      next hr => exact (hu.reach hr).tmExpire.tmSignal
      · exact hu
    · exact hu

theorem tmStop (h : s.Kept q m) {n : Nat} : (s.tmStop n).Kept q m := by
  unfold State.tmStop
  extract_lets u
  have hu : u.Kept q m := by
    unfold u
    split
    · exact ite (fun _ => h.tmFire) fun _ => h
    · exact h
  exact hu.onTimer

theorem tmTeeth (h : s.Kept q m) {w old new : Nat} : (s.tmTeeth w old new).Kept q m :=
  ite (fun _ => h) fun _ => h.foldl _ fun _ ha => ite (fun _ => ha.tmCountUnits) fun _ => ha
theorem tmRestart (h : s.Kept q m) {src idx : Nat} {rising : Bool} : (s.tmRestart src idx rising).Kept q m :=
  h.foldl _ fun _ ha => ite (fun _ => ha.tmStart) fun _ => ha
theorem tmDi (h : s.Kept q m) {di : Nat} {rising : Bool} : (s.tmDi di rising).Kept q m :=
  (h.foldl _ fun _ ha => ite (fun _ => ha.tmCountUnits) fun _ => ha).tmRestart
theorem applyTimers (h : s.Kept q m) {keep : Option Forme} {fm : Forme} : (s.applyTimers keep fm).Kept q m :=
  h.foldl _ fun _ ha => ite (fun _ => ha) fun _ => ha.onTimer
theorem tmLf (h : s.Kept q m) {on : Bool} : (s.tmLf on).Kept q m := { h with okTimers := (List.length_map ..).trans h.okTimers }
theorem tmReset (h : s.Kept q m) : s.tmReset.Kept q m := h.foldl _ fun _ ha => ha.onTimer
theorem tmClear (h : s.Kept q m) {n : Nat} {exp ovf : Bool} : (s.tmClear n exp ovf).Kept q m := h.onTimer
theorem gstart (h : s.Kept q m) {mask : Nat} : (s.gstart mask).Kept q m :=
  h.foldl _ fun _ ha => ite (fun _ => ha.tmStart) fun _ => ha
theorem gstop (h : s.Kept q m) {mask : Nat} : (s.gstop mask).Kept q m :=
  h.foldl _ fun _ ha => ite (fun _ => ha.tmStop) fun _ => ha

theorem execTimerStart (h : s.Kept q m) {dt n : Nat} : keptOut q m (execTimerStart dt n s) := by
  unfold Machine.execTimerStart
  extract_lets u
  have hu : u.Kept q m := h.elapse dt
  split
  · exact hu
  next hx => exact (hu.takeAction hx).tmStart.reportAcc

theorem execTimerStop (h : s.Kept q m) {dt n : Nat} : keptOut q m (execTimerStop dt n s) := by
  unfold Machine.execTimerStop
  extract_lets u
  have hu : u.Kept q m := h.elapse dt
  split
  · exact hu
  next hx => exact (hu.takeAction hx).tmStop.reportAcc

theorem execTimerExpiry (h : s.Kept q m) {dt n : Nat} : keptOut q m (execTimerExpiry dt n s) :=
  ite (fun _ => h.elapse dt) fun _ => (h.elapse dt).tmFire
theorem execTimerMatch (h : s.Kept q m) {dt n : Nat} : keptOut q m (execTimerMatch dt n s) :=
  ite (fun _ => (h.elapse dt).tmFire) fun _ => h.elapse dt

end State.Kept
end Sys2Proof.Machine

namespace Sys2Proof.Machine

set_option Elab.async false

variable {q : List Instr} {m : Nat} {s : State}

namespace State.Kept

-- The tooth wheels (02 R40 to R55) ---------------------------------------------------------------------------

theorem follow (h : s.Kept q m) {w : Nat} {step : Bool} : (s.follow w step).Kept q m := h.onWheel.tmTeeth.crossBase
theorem gapMissed (h : s.Kept q m) {w : Nat} : (s.gapMissed w).Kept q m := h.onWheel
theorem zoneLeft (h : s.Kept q m) {w : Nat} : (s.zoneLeft w).Kept q m := ite (fun _ => h.gapMissed) fun _ => h
theorem wslug (h : s.Kept q m) {w kind : Nat} {v1 : Int} : (wslug s w kind v1).Kept q m := h.slug
theorem twResync (h : s.Kept q m) {w t prevRej : Nat} : (s.twResync w t prevRej).Kept q m := h.onWheel.wslug.follow.zoneLeft
theorem twReject (h : s.Kept q m) {w t : Nat} : (s.twReject w t).Kept q m := ite (fun _ => h.onWheel.twResync) fun _ => h.onWheel
theorem twAbsorb (h : s.Kept q m) {w t : Nat} : (s.twAbsorb w t).Kept q m := h.onWheel.follow
theorem gapCheck (h : s.Kept q m) {w : Nat} : (s.gapCheck w).Kept q m :=
  ite (fun _ => h.onWheel) fun _ => h.onWheel.onWheel.wslug.follow

theorem twAccept (h : s.Kept q m) {w t : Nat} : (s.twAccept w t).Kept q m := by
  unfold State.twAccept
  extract_lets x pitches gap tol sig zone chk n fast s1 s2
  have h2 : s2.Kept q m := h.onWheel.follow
  exact ite (fun _ => h2.gapCheck) fun _ => ite (fun _ => h2.onWheel) fun _ => h2.zoneLeft

theorem twLock (h : s.Kept q m) {w t extra : Nat} : (s.twLock w t extra).Kept q m := h.onWheel.unholdBase.onWheel.follow

theorem twAcquire (h : s.Kept q m) {w t : Nat} : (s.twAcquire w t).Kept q m :=
  ite (fun _ => h.onWheel.twLock) fun _ => ite (fun _ => h.onWheel.twLock) fun _ => h.onWheel

theorem twRestart (h : s.Kept q m) {w t : Nat} : (s.twRestart w t).Kept q m :=
  ite (fun _ => h.onWheel.follow.zoneLeft) fun _ => h.onWheel.follow.zoneLeft

theorem toothOp (h : s.Kept q m) {w : Nat} : (s.toothOp w).Kept q m := by
  unfold State.toothOp
  extract_lets u x t
  have hu : u.Kept q m := h.onWheel
  split
  · exact h
  · exact hu.twAcquire.tmRestart
  · exact hu.twRestart.tmRestart
  · exact ite (fun _ => hu.twRestart.tmRestart) fun _ => ite (fun _ => hu.twAbsorb.tmRestart) fun _ =>
      ite (fun _ => ite (fun _ => hu.twReject.tmRestart) fun _ => hu.twReject) fun _ => hu.twAccept.tmRestart

theorem execToothEdge (h : s.Kept q m) {dt w : Nat} : keptOut q m (execToothEdge dt w s) :=
  keptOut_ite (fun _ => h.elapse dt) fun _ => (h.elapse dt).record.toothOp

theorem synthOp (h : s.Kept q m) {w t : Nat} : (s.synthOp w t).Kept q m := h.onWheel.follow

theorem execToothSynth (h : s.Kept q m) {dt w : Nat} : keptOut q m (execToothSynth dt w s) := by
  unfold Machine.execToothSynth
  extract_lets u x due
  have hu : u.Kept q m := h.elapse dt
  refine keptOut_ite (fun _ => ?_) fun _ => hu
  split
  · exact hu
  next hr => exact (hu.reach hr).asOf fun ha => ha.synthOp

theorem execTwInterpAdvance (h : s.Kept q m) {dt w : Nat} : keptOut q m (execTwInterpAdvance dt w s) := by
  unfold Machine.execTwInterpAdvance
  extract_lets u x next
  have hu : u.Kept q m := h.elapse dt
  refine keptOut_ite (fun _ => ?_) fun _ => hu
  split
  · exact hu
  next hr => exact (hu.reach hr).onWheel.follow

theorem execTwStopTimeout (h : s.Kept q m) {dt w : Nat} : keptOut q m (execTwStopTimeout dt w s) := by
  unfold Machine.execTwStopTimeout
  extract_lets u x
  have hu : u.Kept q m := h.elapse dt
  refine keptOut_ite (fun _ => ?_) fun _ => hu
  split
  · exact hu
  next hr => exact (hu.reach hr).onWheel.follow

theorem wheelAcquire (h : s.Kept q m) {w : Nat} : (s.wheelAcquire w).Kept q m := h.holdBase.onWheel

-- Mains angle and mains events (02 R59 to R62) ---------------------------------------------------------------

theorem maLost (h : s.Kept q m) {ext freq : Nat} : (s.maLost ext freq).Kept q m := by
  unfold State.maLost
  extract_lets u
  have hu : u.Kept q m := h.maAdvance
  split
  · exact hu.onTime
  · exact hu.onTime
  · exact hu.onTime
  · exact hu

theorem maReturn (h : s.Kept q m) : s.maReturn.Kept q m := by
  unfold State.maReturn
  split
  · exact h.onTime
  · exact ite (fun _ => h) fun _ => h.onTime
  · exact h

theorem maLockOp (h : s.Kept q m) {errs : List Nat} {ext freq : Nat} : (s.maLockOp errs ext freq).Kept q m := by
  refine ite (fun _ => ?_) fun _ => h
  split
  · exact h.onTime.unholdBase
  · exact ite (fun _ => h.onTime.crossBase) fun _ => h
  · exact h

theorem maCoastOver (h : s.Kept q m) : s.maCoastOver.Kept q m := by
  refine ite (fun _ => ?_) fun _ => h
  split
  · exact h
  next hr => exact (h.reach hr).crossBase.onTime.holdBase

theorem mainsMeas (h : s.Kept q m) {ev ph val : Nat} : (s.mainsMeas ev ph val).Kept q m := by
  unfold State.mainsMeas
  split
  · exact h.onTime
  · split
    · exact h.onTime
    · exact h

theorem mainsStart (h : s.Kept q m) {ev ph val ext freq : Nat} : (s.mainsStart ev ph val ext freq).Kept q m :=
  ite (fun _ => ite (fun _ => h.mainsMeas.onTime.slug.eventToken.maLost) fun _ => h.mainsMeas.onTime.slug.eventToken) fun _ =>
    h.mainsMeas

theorem mainsEnd (h : s.Kept q m) {ev ph val : Nat} : (s.mainsEnd ev ph val).Kept q m :=
  ite (fun _ => h.mainsMeas.onTime.slug.eventToken) fun _ => h.mainsMeas

theorem mainsIn (h : s.Kept q m) {pay : List Int} {op : State → State} (hop : ∀ {a : State}, a.Kept q m → (op a).Kept q m) :
    (s.mainsIn pay op).Kept q m := ite (fun _ => h) fun _ => hop h.record

theorem execMaLock (h : s.Kept q m) {dt : Nat} {errs : List Nat} {ext freq : Nat} : keptOut q m (execMaLock dt errs ext freq s) :=
  (h.elapse dt).mainsIn fun ha => ha.maLockOp
theorem execMaRefLost (h : s.Kept q m) {dt ext freq : Nat} : keptOut q m (execMaRefLost dt ext freq s) :=
  (h.elapse dt).mainsIn fun ha => ha.maLost
theorem execMaCoastEnd (h : s.Kept q m) {dt : Nat} : keptOut q m (execMaCoastEnd dt s) := (h.elapse dt).maCoastOver
theorem execMaRefReturn (h : s.Kept q m) {dt : Nat} : keptOut q m (execMaRefReturn dt s) := (h.elapse dt).mainsIn fun ha => ha.maReturn
theorem execMainsEventStart (h : s.Kept q m) {dt ev ph val ext freq : Nat} :
    keptOut q m (execMainsEventStart dt ev ph val ext freq s) := (h.elapse dt).mainsIn fun ha => ha.mainsStart
theorem execMainsEventEnd (h : s.Kept q m) {dt ev ph val : Nat} : keptOut q m (execMainsEventEnd dt ev ph val s) :=
  (h.elapse dt).mainsIn fun ha => ha.mainsEnd

theorem applyTime (h : s.Kept q m) {keep : Option Forme} : (s.applyTime keep).Kept q m := by
  refine h.foldl _ fun w ha => ite (fun _ => ha.wheelAcquire) fun _ => ?_
  split
  · exact ha.onWheel
  · exact ha

theorem tbStatusBody (h : s.Kept q m) {fl : Flight} : (tbStatusBody fl s).Kept q m := by
  unfold Machine.tbStatusBody
  extract_lets b
  split
  · exact h
  · split
    · exact h
    · split
      · exact h
      · exact ite (fun _ => h.onWheel) fun _ => h

theorem execTbStatus (h : s.Kept q m) {dt f : Nat} : keptOut q m (execTbStatus dt f s) :=
  (h.elapse dt).runCmd fun _ => (h.elapse dt).tbStatusBody

end State.Kept
end Sys2Proof.Machine

namespace Sys2Proof.Machine

set_option Elab.async false

variable {q : List Instr} {m : Nat} {s : State}

namespace State.Kept

-- What a destination reports, and the galleys (08 R203 to R206) ----------------------------------------------

theorem seeBlocked (h : s.Kept q m) {d : Nat} : (s.seeBlocked d).2.Kept q m := by
  unfold State.seeBlocked
  extract_lets b
  split
  · exact h
  · split
    · exact h
    · exact h.onCle.record

theorem onGals (h : s.Kept q m) {l : Nat} {f : Galley → Galley} : (s.onGals l f).Kept q m := by
  unfold State.onGals
  exact h.onCle
theorem galNote (h : s.Kept q m) {l kind : Nat} : (s.galNote l kind).Kept q m := h.onGals
theorem galTrip (h : s.Kept q m) {bit : Nat} : (s.galTrip bit).Kept q m := by
  unfold State.galTrip
  exact h.onCle
theorem galEval (h : s.Kept q m) {l : Nat} {xs : List GalEntry} {sat : Bool} : (s.galEval l xs sat).Kept q m := h.onGals
theorem galMiss (h : s.Kept q m) {l : Nat} {xs : List GalEntry} : (s.galMiss l xs).Kept q m := h.onGals

-- Evaluations (08 R186 to R201, R210) ------------------------------------------------------------------------

theorem mkSnap (h : s.Kept q m) {l trigMt inMt : Nat} {acc : Acc} {yi fi : LIn} : (s.mkSnap l trigMt inMt acc yi fi).2.Kept q m := by
  unfold State.mkSnap
  dsimp only
  exact h.onLoop.onCle

theorem loopRec (h : s.Kept q m) {l : Nat} {sn : Snap} {outcome : Nat} {u : Int} : (s.loopRec l sn outcome u).Kept q m :=
  ite (fun _ => h.mapReprint) fun _ => h.record

theorem handU (h : s.Kept q m) {l : Nat} {u : Int} {inMt : Option Nat} : (s.handU l u inMt).Kept q m := by
  unfold State.handU
  extract_lets copy s0 s1
  have h0 : s0.Kept q m := ite (fun _ => h.onSv) fun _ => h
  have h1 : s1.Kept q m := h0.onLoop
  split
  · exact h1.onCle
  · exact h1

theorem giveU (h : s.Kept q m) {l : Nat} {sn : Snap} {u : Option Int} : (s.giveU l sn u).Kept q m := by
  unfold State.giveU
  split
  · exact h
  · exact h.handU
  · exact h.onLoop

theorem missEval (h : s.Kept q m) {l : Nat} {sn : Snap} {outcome : Nat} {xs : List GalEntry} :
    (s.missEval l sn outcome xs).Kept q m :=
  ite (fun _ => h.onLoop.galMiss.loopRec) fun _ => h.onLoop.galMiss.loopRec.slug

theorem badEval (h : s.Kept q m) {l : Nat} {sn : Snap} : (s.badEval l sn).Kept q m := by
  unfold State.badEval
  extract_lets lp u fr r s1 s2
  have h0 : State.Kept q m { s with free := s.free + 6 } := { h with }
  have h1 : s1.Kept q m := h0.onLoop
  have h2 : s2.Kept q m := ite (fun _ => h1) fun _ => h1.slug
  exact h2.galEval.loopRec.giveU

theorem goodEval (h : s.Kept q m) {l : Nat} {sn : Snap} {r : EvalRes} : (s.goodEval l sn r).Kept q m :=
  h.onLoop.galEval.loopRec.giveU

theorem finish (h : s.Kept q m) {l : Nat} {sn : Snap} {forced : Option Nat} : (s.finish l sn forced).Kept q m := by
  unfold State.finish
  extract_lets s0 b missed lp r
  have hb : b.2.Kept q m := h.onLoop.seeBlocked
  exact ite (fun _ => hb.missEval) fun _ => ite (fun _ => hb.badEval) fun _ => hb.goodEval

-- Triggers (08 R193, R194) -----------------------------------------------------------------------------------

theorem overLoop (h : s.Kept q m) {l : Nat} : (s.overLoop l).Kept q m := h.onLoop
theorem dropTrig (h : s.Kept q m) {l trigMt : Nat} : (s.dropTrig l trigMt).Kept q m := h.overLoop.loopRec

theorem reprintTrigger (h : s.Kept q m) {l trigMt : Nat} : (s.reprintTrigger l trigMt).2.Kept q m := by
  unfold State.reprintTrigger
  extract_lets lp waiting free
  have hfree : free.2.Kept q m := h.mkSnap
  split
  · split
    · exact h.dropTrig
    · extract_lets acc yi fi x o
      have hm : x.2.Kept q m := mkSnap (ite (fun _ => h.overLoop) fun _ => h)
      exact ite (fun _ => hm.finish) fun _ => ite (fun _ => hm.onLoop.loopRec) fun _ => hm.missEval
  · dsimp only
    exact hfree.finish

theorem loopTrigger (h : s.Kept q m) {l trigMt inMt : Nat} : (s.loopTrigger l trigMt inMt).2.Kept q m := by
  unfold State.loopTrigger
  dsimp only
  split
  · exact h
  · split
    · exact h.reprintTrigger
    · split
      · exact h.mkSnap.onLoop
      · split
        · split
          · exact h.mkSnap.onLoop
          · exact h.dropTrig
        · exact h.onLoop.overLoop.loopRec.mkSnap.onLoop
        · exact h.dropTrig

theorem cleTake (h : s.Kept q m) {l : Nat} {x : VTok} {t : State} : (t.cleTake l x s).Kept q m := by
  unfold State.cleTake
  refine ite (fun _ => ite (fun _ => ?_) fun _ => ite (fun _ => h) fun _ => h.loopTrigger) fun _ =>
    ite (fun _ => h) fun _ => ite (fun _ => h.onCol) fun _ => ite (fun _ => h.onLoop) fun _ => h.onLoop
  split
  · exact h
  next hx => exact (h.takeAction hx).loopTrigger.reportAcc

theorem cleDrain {trig : Bool} {l : Nat} {k : Nat} {s : State} (h : s.Kept q m) : (State.cleDrain trig l k s).Kept q m := by
  induction k generalizing s with
  | zero => exact h
  | succ k ih =>
    unfold State.cleDrain
    split
    · exact h
    next hx => exact ite (fun _ => (h.takeTok hx).cleTake) fun _ => ih (h.takeTok hx).cleTake

theorem execLoopEval (h : s.Kept q m) {dt l : Nat} : keptOut q m (execLoopEval dt l s) := by
  unfold Machine.execLoopEval
  extract_lets u
  have hu : u.Kept q m := h.elapse dt
  split
  · exact hu
  · exact ite (fun _ => hu) fun _ => hu.cleDrain

theorem execCleValueToken (h : s.Kept q m) {dt l : Nat} : keptOut q m (execCleValueToken dt l s) := by
  unfold Machine.execCleValueToken
  extract_lets u
  have hu : u.Kept q m := h.elapse dt
  split
  next hx => exact ite (fun _ => hu) fun _ => (hu.takeTok hx).cleTake
  · exact hu

-- The engine (08 R194 to R198) -------------------------------------------------------------------------------

theorem unqueue (h : s.Kept q m) {l : Nat} : (s.unqueue l).Kept q m := h.onLoop.onCle

theorem execLoopEvalStart (h : s.Kept q m) {dt : Nat} : keptOut q m (execLoopEvalStart dt s) := by
  unfold Machine.execLoopEvalStart
  extract_lets u
  have hu : u.Kept q m := h.elapse dt
  refine keptOut_ite (fun _ => hu) fun _ => ?_
  split
  · exact hu
  · split
    · exact hu
    · exact keptOut_ite (fun _ => hu.unqueue.missEval) fun _ => keptOut_ite (fun _ => hu) fun _ => hu.unqueue.onLoop.onCle

theorem execLoopEvalComplete (h : s.Kept q m) {dt l : Nat} : keptOut q m (execLoopEvalComplete dt l s) := by
  unfold Machine.execLoopEvalComplete
  extract_lets u
  have hu : u.Kept q m := h.elapse dt
  split
  · exact hu
  · exact keptOut_ite (fun _ => hu) fun _ => hu.onLoop.finish

theorem execLoopDeadline (h : s.Kept q m) {dt l : Nat} : keptOut q m (execLoopDeadline dt l s) := by
  unfold Machine.execLoopDeadline
  extract_lets u lp
  have hu : u.Kept q m := h.elapse dt
  split
  · split
    next hr => exact (hu.reach hr).onLoop.handU
    · exact hu
  · split
    · exact keptOut_ite (fun _ => hu.unqueue.missEval) fun _ => hu
    · exact hu

-- Register writes, unit states and reset (08 R191, R207 to R213) ----------------------------------------------

theorem cleAhead (h : s.Kept q m) {l : Nat} : (s.cleAhead l).Kept q m := ite (fun _ => h) fun _ => h.cleDrain

theorem loopWrite (h : s.Kept q m) {l off : Nat} {v : Int} : (s.loopWrite l off v).Kept q m := by
  unfold State.loopWrite
  extract_lets u x s1
  have hu : u.Kept q m := h.cleAhead
  have h1 : s1.Kept q m := ite (fun _ => hu) fun _ => hu.onSup
  exact h1.onLoop.onGals

theorem execSetpointCopy (h : s.Kept q m) {dt l : Nat} : keptOut q m (execSetpointCopy dt l s) := by
  unfold Machine.execSetpointCopy
  extract_lets u
  have hu : u.Kept q m := h.elapse dt
  split
  · exact hu
  · exact hu.onLoop.loopWrite.recHost

theorem flushRecs (h : s.Kept q m) : s.flushRecs.Kept q m := h.foldl _ fun _ ha => ha.foldl _ fun _ hb => hb.loopRec
theorem cleLeaveRun (h : s.Kept q m) : s.cleLeaveRun.Kept q m := h.flushRecs.onCle
theorem cleRestore (h : s.Kept q m) : s.cleRestore.Kept q m := by
  unfold State.cleRestore
  exact h.onCle
theorem cleEnterRun (h : s.Kept q m) : s.cleEnterRun.Kept q m := h.onCle
theorem cleReset (h : s.Kept q m) : s.cleReset.Kept q m := h.flushRecs.onCle.onToks

-- Galley actions, copies and commands (08 R205, R206, R210, R215) --------------------------------------------

theorem execGalleySnap (h : s.Kept q m) {dt g : Nat} : keptOut q m (execGalleySnap dt g s) := by
  unfold Machine.execGalleySnap
  extract_lets u
  have hu : u.Kept q m := h.elapse dt
  split
  · exact hu
  next hx =>
    have hx := hu.takeAction hx
    exact keptOut_ite (fun _ => hx.reportAcc) fun _ => hx.onGal.reportAcc

theorem execGalleyCopy (h : s.Kept q m) {dt g : Nat} : keptOut q m (execGalleyCopy dt g s) :=
  keptOut_ite (fun _ => h.elapse dt) fun _ =>
    keptOut_ite (fun _ => (h.elapse dt).onGal) fun _ => (h.elapse dt).onGal.onStore.slug

theorem loopHoldBody (h : s.Kept q m) {fl : Flight} : (loopHoldBody fl s).Kept q m := by
  unfold Machine.loopHoldBody
  dsimp only
  split
  · exact h
  · split
    · exact h
    · split
      · exact h
      · exact h.cleAhead.onLoop.galNote.recHost

theorem loopReleaseBody (h : s.Kept q m) {fl : Flight} : (loopReleaseBody fl s).Kept q m := by
  unfold Machine.loopReleaseBody
  dsimp only
  split
  · exact h
  · split
    · exact h
    · exact h.cleAhead.onLoop.galNote.recHost

theorem galleyArmBody (h : s.Kept q m) {fl : Flight} : (galleyArmBody fl s).Kept q m := by
  unfold Machine.galleyArmBody
  dsimp only
  split
  · exact h
  · split
    · exact h.onGal
    · split
      · exact h
      · split
        · exact h
        · exact h.onGal

theorem streamAll (h : s.Kept q m) {n src kind : Nat} {recs : List (List Nat)} : (s.streamAll n src kind recs).1.Kept q m := by
  unfold State.streamAll
  exact foldlFst h _ fun _ ha => ha.stream

theorem galleyDumpBody (h : s.Kept q m) {fl : Flight} : (galleyDumpBody fl s).Kept q m := by
  unfold Machine.galleyDumpBody
  dsimp only
  split
  · exact h
  · split
    · exact h
    · split
      · exact h
      · exact h.streamAll

theorem execLoopHold (h : s.Kept q m) {dt f : Nat} : keptOut q m (execLoopHold dt f s) :=
  (h.elapse dt).runCmd fun _ => (h.elapse dt).loopHoldBody
theorem execLoopRelease (h : s.Kept q m) {dt f : Nat} : keptOut q m (execLoopRelease dt f s) :=
  (h.elapse dt).runCmd fun _ => (h.elapse dt).loopReleaseBody
theorem execGalleyArm (h : s.Kept q m) {dt f : Nat} : keptOut q m (execGalleyArm dt f s) :=
  (h.elapse dt).runCmd fun _ => (h.elapse dt).galleyArmBody
theorem execGalleyDump (h : s.Kept q m) {dt f : Nat} : keptOut q m (execGalleyDump dt f s) :=
  (h.elapse dt).runCmd fun _ => (h.elapse dt).galleyDumpBody

end State.Kept
end Sys2Proof.Machine
end

section
/-! PROOFS. The ledger and the Pica ports (05, 07) keep the state in form. -/

namespace Sys2Proof.Machine

set_option Elab.async false

variable {q : List Instr} {m : Nat} {s : State}

namespace State.Kept

-- Parcels, heat and samples (05 R114 to R117, R122) ----------------------------------------------------------

theorem parcelSlug (h : s.Kept q m) {c : Nat} {p : Parcel} : (s.parcelSlug c p).Kept q m := ite (fun _ => h.slug) fun _ => h

theorem flushGone (h : s.Kept q m) {c depth : Nat} {keep : Nat → Bool} : (s.flushGone c depth keep).Kept q m :=
  h.onCol.foldl _ fun _ ha => ha.parcelSlug

theorem heat (h : s.Kept q m) : s.heat.Kept q m := by
  unfold State.heat
  extract_lets m1 s1
  have h1 : s1.Kept q m := h.foldl _ fun _ ha => ha.onCol
  exact ite (fun _ => h1.onPower) fun _ => h

theorem execHeatIntegralTick (h : s.Kept q m) {dt : Nat} : keptOut q m (execHeatIntegralTick dt s) := (h.elapse dt).heat

theorem ledgerTok (h : s.Kept q m) {c : Nat} {t : VTok} : (s.ledgerTok c t).Kept q m := by
  unfold State.ledgerTok
  refine ite (fun _ => ite (fun _ => h.heat.onCol) fun _ => h) fun _ =>
    ite (fun _ => ite (fun _ => h.onCol) fun _ => ite (fun _ => h.onCol) fun _ => h) fun _ => ite (fun _ => ?_) fun _ => h
  split <;> exact h.onCol

theorem execLedgerSample (h : s.Kept q m) {dt c : Nat} : keptOut q m (execLedgerSample dt c s) := by
  unfold Machine.execLedgerSample
  extract_lets u
  have hu : u.Kept q m := h.elapse dt
  split
  · exact hu
  next hx => exact ite (fun _ => (hu.takeTok hx).ledgerTok) fun _ => hu.takeTok hx

-- Prediction and shifts (05 R118 to R122) --------------------------------------------------------------------

theorem predictAt (h : s.Kept q m) {c i : Nat} : (s.predictAt c i).Kept q m := h.onCol

theorem publish (h : s.Kept q m) {c before : Nat} : (s.publish c before).Kept q m :=
  ite (fun _ => h.onCol.onToks) fun _ => h.onCol.onCol

theorem shift1 (h : s.Kept q m) {c target marks cross before : Nat} : (s.shift1 c target marks cross before).Kept q m := by
  unfold State.shift1
  extract_lets u g sN s1 new s2 s3 s4 s5
  have hu : u.Kept q m := h.heat
  have h1 : s1.Kept q m := ite (fun _ => hu.onCol.onCol) fun _ => hu
  have h2 : s2.Kept q m := h1.onCol
  have h3 : s3.Kept q m := ite (fun _ => h2.onCol) fun _ => h2
  have h4 : s4.Kept q m := ite (fun _ => h3.onCol.predictAt) fun _ => h3
  have h5 : s5.Kept q m := h4.predictAt.publish
  exact h5.flushGone

theorem execLedgerShift (h : s.Kept q m) {dt c : Nat} : keptOut q m (execLedgerShift dt c s) := by
  unfold Machine.execLedgerShift
  extract_lets u
  have hu : u.Kept q m := h.elapse dt
  split
  · exact hu
  next hx =>
    have hx := hu.takeAction hx
    refine keptOut_ite (fun _ => hx.reportAcc) fun _ => ?_
    extract_lets rep tgt before s2
    have h2 : s2.Kept q m := hx.foldl _ fun _ ha => ha.shift1
    exact ite (fun _ => h2) fun _ => h2.reportAcc

theorem execParcelClose (h : s.Kept q m) {dt c : Nat} : keptOut q m (execParcelClose dt c s) := by
  unfold Machine.execParcelClose
  extract_lets u
  have hu : u.Kept q m := h.elapse dt
  split
  · exact hu
  · split
    · exact hu
    next hr =>
      have h1 := hu.reach hr
      refine flushGone ?_
      split
      · exact h1.onCol.onCol
      · exact h1.onCol

-- Batch programs (05 R123 to R127, R135) ---------------------------------------------------------------------

theorem batchSp (h : s.Kept q m) {c : Nat} {v : Int} : (s.batchSp c v).Kept q m := ite (fun _ => h.loopWrite) fun _ => h
theorem batchSafe (h : s.Kept q m) {c : Nat} : (s.batchSafe c).Kept q m := h.onCol.batchSp
theorem batchExit (h : s.Kept q m) {c : Nat} : (s.batchExit c).Kept q m := ite (fun _ => h.heat.onCol.onCol) fun _ => h
theorem batchClose (h : s.Kept q m) {c : Nat} {aborted : Bool} : (s.batchClose c aborted).Kept q m := h.onCol.onCol.parcelSlug

theorem batchEnter (h : s.Kept q m) {c i : Nat} : (s.batchEnter c i).Kept q m := by
  unfold State.batchEnter
  extract_lets u st p s1 s2 s3
  have h1 : s1.Kept q m := h.heat.onCol
  have h2 : s2.Kept q m := ite (fun _ => h1.onCol) fun _ => h1
  have h3 : s3.Kept q m := ite (fun _ => h2.onCol) fun _ => h2
  exact ite (fun _ => h3) fun _ => h3.batchSp

theorem batchGo {c k i : Nat} {s : State} (h : s.Kept q m) : (State.batchGo c k i s).Kept q m := by
  induction k generalizing s i with
  | zero => exact h
  | succ k ih =>
    unfold State.batchGo
    exact ite (fun _ => h.batchClose.onCol.batchSafe) fun _ =>
      ite (fun _ => ite (fun _ => ih h.onCol) fun _ => ih h.onCol) fun _ => h.batchEnter

theorem batchTo (h : s.Kept q m) {c i : Nat} : (s.batchTo c i).Kept q m := h.batchExit.batchGo
theorem batchPause (h : s.Kept q m) {c : Nat} : (s.batchPause c).Kept q m := ite (fun _ => h.batchExit.onCol.batchSafe) fun _ => h

theorem batchCol (h : s.Kept q m) {c : Nat} : (s.batchCol c).Kept q m :=
  ite (fun _ => ite (fun _ => h.batchTo) fun _ => ite (fun _ => h.batchTo) fun _ => h) fun _ => h

theorem batchTick (h : s.Kept q m) : s.batchTick.Kept q m :=
  ite (fun _ => onPower (h.foldl _ fun _ ha => ha.batchCol)) fun _ => h

theorem execBatchConditionTick (h : s.Kept q m) {dt : Nat} : keptOut q m (execBatchConditionTick dt s) := (h.elapse dt).batchTick

theorem execBatchTmax (h : s.Kept q m) {dt c : Nat} : keptOut q m (execBatchTmax dt c s) :=
  keptOut_ite (fun _ => (h.elapse dt).batchTick.batchPause.slug) fun _ => (h.elapse dt).batchTick

theorem batchStepBody (h : s.Kept q m) {fl : Flight} : (batchStepBody fl s).Kept q m := by
  unfold Machine.batchStepBody
  extract_lets c op i b ok
  have hok {t : State} (ht : t.Kept q m) : (ok t).Kept q m := ht.recHost
  clear_value op b
  split
  · exact h
  · split
    · exact h
    · split
      · exact h
      · exact h
      · exact hok h.onCol.batchGo
      · exact hok h.batchPause
      · exact hok h
      · exact hok h
      · exact hok h.batchGo
      · exact hok h.batchTo
      · exact hok h.onCol
      · exact hok h.batchExit.batchClose.onCol.batchSafe
      · exact hok h.batchClose.onCol.batchSafe
      · exact hok h
      · exact hok h.onCol
      · exact h

-- Commands, QUOIN, reset and power (05 R129 to R134) ---------------------------------------------------------

theorem ledgerReadBody (h : s.Kept q m) {fl : Flight} : (ledgerReadBody fl s).Kept q m := by
  unfold Machine.ledgerReadBody
  extract_lets c v i u x g cnt xq r
  have hu : u.Kept q m := h.heat
  have hr : r.1.Kept q m := hu.foldlFst _ fun _ ha => ha.stream.stream
  clear_value v
  split
  · exact h
  · split
    · exact hu
    · exact hu
    · exact hu
    · split
      · exact h
      · split
        · exact h
        · split
          · exact h
          · exact hr

theorem execLedgerRead (h : s.Kept q m) {dt f : Nat} : keptOut q m (execLedgerRead dt f s) :=
  (h.elapse dt).runCmd fun _ => (h.elapse dt).ledgerReadBody
theorem execBatchStep (h : s.Kept q m) {dt f : Nat} : keptOut q m (execBatchStep dt f s) :=
  (h.elapse dt).batchTick.runCmd fun _ => (h.elapse dt).batchTick.batchStepBody

theorem batchIdle (h : s.Kept q m) {c : Nat} : (s.batchIdle c).Kept q m := ite (fun _ => h.batchSafe) fun _ => h

theorem ledgerChange (h : s.Kept q m) {old : Forme} : (s.ledgerChange old).Kept q m := by
  refine h.foldl _ fun c ha => ite (fun _ => ha.onCol.slug.batchIdle) fun _ => ?_
  extract_lets sN home a1 a2
  have h1 : a1.Kept q m := ite (fun _ => ha.flushGone) fun _ => ha
  have h2 : a2.Kept q m := h1.onCol
  exact ite (fun _ => h2.flushGone) fun _ => h2

theorem ledgerReset (h : s.Kept q m) : s.ledgerReset.Kept q m := by
  refine onToks (h.foldl _ fun c ha => batchPause ?_)
  dsimp only
  split
  · exact ha.onCol
  · exact ha.onCol
  · exact ha

theorem batchLeaveRun (h : s.Kept q m) : s.batchLeaveRun.Kept q m := h.foldl _ fun _ ha => ha.batchPause

theorem ledgerSave (h : s.Kept q m) : s.ledgerSave.Kept q m := by
  unfold State.ledgerSave
  extract_lets u freeze fo
  have hu : u.Kept q m := h.heat
  exact ite (fun _ => h) fun _ => hu.onStore

theorem ledgerRestore (h : s.Kept q m) : s.ledgerRestore.Kept q m := by
  refine h.foldl _ fun c ha => batchIdle ?_
  split
  · exact ha.onCol
  · exact ha.onCol

theorem ledgerBack (h : s.Kept q m) : s.ledgerBack.Kept q m := h.foldl _ fun _ ha => ha.onCol

end State.Kept
end Sys2Proof.Machine

namespace Sys2Proof.Machine

set_option Elab.async false

variable {q : List Instr} {m : Nat} {s : State}

namespace State.Kept

-- Readings, scans and enumeration (07 R167 to R173) ----------------------------------------------------------

theorem onPoint (h : s.Kept q m) {sl i : Nat} {f : Point → Point} : (s.onPoint sl i f).Kept q m :=
  ite (fun _ => h.onPort) fun _ => h.onPica

theorem deliverReading (h : s.Kept q m) {sl i : Nat} {x : Reading} : (s.deliverReading sl i x).Kept q m := h.onPoint.record.fanOut
theorem picaSend (h : s.Kept q m) {p cmd : Nat} {pay : List Nat} : (s.picaSend p cmd pay).Kept q m := h.onPort
theorem startScan (h : s.Kept q m) {p : Nat} : (s.startScan p).Kept q m := h.picaSend.onPort
theorem startEnum (h : s.Kept q m) {p : Nat} : (s.startEnum p).Kept q m := h.onPort

theorem portIdle (h : s.Kept q m) {p : Nat} : (s.portIdle p).Kept q m :=
  ite (fun _ => h) fun _ => ite (fun _ => h.startEnum) fun _ => ite (fun _ => h.startScan) fun _ =>
    ite (fun _ => h.onPort.startScan) fun _ => h

theorem portStop (h : s.Kept q m) {p : Nat} : (s.portStop p).Kept q m := h.onPort

theorem execPicaScanPeriod (h : s.Kept q m) {dt p : Nat} : keptOut q m (execPicaScanPeriod dt p s) :=
  ite (fun _ => (h.elapse dt).portIdle) fun _ => h.elapse dt

theorem execPicaConvertWaitEnd (h : s.Kept q m) {dt p : Nat} : keptOut q m (execPicaConvertWaitEnd dt p s) :=
  keptOut_ite (fun _ => keptOut_ite (fun _ => (h.elapse dt).portStop.portIdle) fun _ => (h.elapse dt).onPort.picaSend) fun _ =>
    h.elapse dt

theorem execPicaReadSlotEnd (h : s.Kept q m) {dt p : Nat} {r : PicaReply} : keptOut q m (execPicaReadSlotEnd dt p r s) := by
  unfold Machine.execPicaReadSlotEnd
  extract_lets u x y good s1 s1' s2
  have hu : u.Kept q m := h.elapse dt
  have h1 : s1.Kept q m := hu.onPoint.deliverReading
  have h1' : s1'.Kept q m := ite (fun _ => h1.slug) fun _ => h1
  have h2 : s2.Kept q m := h1'.onPort
  exact keptOut_ite (fun _ => keptOut_ite (fun _ => h2.picaSend) fun _ => h2.portStop.portIdle) fun _ => hu

theorem enumSlug (h : s.Kept q m) {p what id : Nat} : (s.enumSlug p what id).Kept q m := h.slug

theorem execPicaEnumEnd (h : s.Kept q m) {dt p : Nat} {found : List PicaFound} : keptOut q m (execPicaEnumEnd dt p found s) := by
  unfold Machine.execPicaEnumEnd
  extract_lets u x l t missing dups extra n s1 s2 s3 s4 s5 s6 s7
  have hu : u.Kept q m := h.elapse dt
  have h1 : s1.Kept q m := hu.onPort
  have h2 : s2.Kept q m := h1.foldl _ fun _ ha => ha.enumSlug
  have h3 : s3.Kept q m := h2.foldl _ fun _ ha => ha.enumSlug
  have h4 : s4.Kept q m := h3.foldl _ fun _ ha => ha.enumSlug
  have h5 : s5.Kept q m := ite (fun _ => h4) fun _ => h4.slug
  have h6 : s6.Kept q m := by
    unfold s6
    split
    · exact h5.complete
    · exact h5
  have h7 : s7.Kept q m := h6.picaSend.foldl _ fun _ ha => ha.deliverReading
  exact keptOut_ite (fun _ => hu) fun _ => h7.portIdle

-- Port faults and ageing points (07 R174, R175) --------------------------------------------------------------

theorem portFault (h : s.Kept q m) {p : Nat} : (s.portFault p).Kept q m := h.onPort.onPort.foldl _ fun _ ha => ha.deliverReading

theorem execPortOpen (h : s.Kept q m) {dt p : Nat} : keptOut q m (execPortOpen dt p s) :=
  keptOut_ite (fun _ => h.elapse dt) fun _ => (h.elapse dt).onPort.portFault.slug

theorem execPortShort (h : s.Kept q m) {dt p : Nat} : keptOut q m (execPortShort dt p s) :=
  keptOut_ite (fun _ => h.elapse dt) fun _ =>
    ite (fun _ => (h.elapse dt).onPort.portFault.slug) fun _ => (h.elapse dt).onPort.portFault

theorem execPortShortRetry (h : s.Kept q m) {dt p : Nat} : keptOut q m (execPortShortRetry dt p s) :=
  keptOut_ite (fun _ => (h.elapse dt).onPort.portIdle) fun _ => h.elapse dt
theorem execPortFaultClear (h : s.Kept q m) {dt p : Nat} : keptOut q m (execPortFaultClear dt p s) :=
  keptOut_ite (fun _ => (h.elapse dt).onPort.portIdle) fun _ => h.elapse dt
theorem execPicaPointStale (h : s.Kept q m) {dt p i : Nat} : keptOut q m (execPicaPointStale dt p i s) :=
  keptOut_ite (fun _ => (h.elapse dt).deliverReading) fun _ => h.elapse dt

-- Zones (07 R176 to R178) ------------------------------------------------------------------------------------

theorem zoneToken (h : s.Kept q m) {z : Nat} : (s.zoneToken z).Kept q m := h.onZone.fanOut

theorem zoneEval (h : s.Kept q m) {z : Nat} {force : Bool} : (s.zoneEval z force).Kept q m :=
  ite (fun _ => h) fun _ => ite (fun _ => zoneToken (ite (fun _ => h.onZone.slug) fun _ => h.onZone)) fun _ =>
    ite (fun _ => h.onZone.zoneToken) fun _ => zoneToken (ite (fun _ => h.onZone) fun _ => h.onZone.slug)

theorem execZoneEvaluate (h : s.Kept q m) {dt z : Nat} : keptOut q m (execZoneEvaluate dt z s) := by
  unfold Machine.execZoneEvaluate
  extract_lets u
  have hu : u.Kept q m := h.elapse dt
  split
  · exact hu
  next hx => exact keptOut_ite (fun _ => (hu.takeTok hx).onZone.zoneEval) fun _ => hu.takeTok hx

theorem execZoneAgeingTick (h : s.Kept q m) {dt : Nat} : keptOut q m (execZoneAgeingTick dt s) := by
  unfold Machine.execZoneAgeingTick
  extract_lets u
  have hu : u.Kept q m := h.elapse dt
  split
  · exact hu
  next hr => exact ite (fun _ => (hu.reach hr).onPica.foldl _ fun _ ha => ha.zoneEval) fun _ => (hu.reach hr).onPica

theorem execZoneHoldTimeout (h : s.Kept q m) {dt z : Nat} : keptOut q m (execZoneHoldTimeout dt z s) := by
  unfold Machine.execZoneHoldTimeout
  extract_lets u
  have hu : u.Kept q m := h.elapse dt
  refine keptOut_ite (fun _ => ?_) fun _ => hu
  split
  next hr => exact (hu.reach hr).zoneEval
  · exact hu

-- Commands (07 R183) -----------------------------------------------------------------------------------------

theorem scanNow (h : s.Kept q m) {p : Nat} : (scanNow s p).Kept q m := by
  unfold Machine.scanNow
  dsimp only
  split
  · exact h
  · split
    · split
      · exact h
      · exact h.onPort
    · exact h.startScan

theorem picaScanBody (h : s.Kept q m) {fl : Flight} : (picaScanBody fl s).Kept q m := by
  unfold Machine.picaScanBody
  dsimp only
  split
  · split
    · exact h
    · exact h.scanNow
  · split <;> exact h
  · split <;> exact h
  · split <;> exact h
  · exact h

theorem picaEnumBody (h : s.Kept q m) {fl : Flight} : (picaEnumBody fl s).Kept q m := by
  unfold Machine.picaEnumBody
  dsimp only
  split
  · exact h
  · split
    · split <;> exact h
    · split
      · exact h
      · exact h.onPort.portIdle

theorem execPicaScan (h : s.Kept q m) {dt f : Nat} : keptOut q m (execPicaScan dt f s) :=
  (h.elapse dt).runCmd fun _ => (h.elapse dt).picaScanBody
theorem execPicaEnum (h : s.Kept q m) {dt f : Nat} : keptOut q m (execPicaEnum dt f s) :=
  (h.elapse dt).runCmd fun _ => (h.elapse dt).picaEnumBody

-- Changes of state, forme and epoch (07 R180 to R182) --------------------------------------------------------

theorem portFresh (h : s.Kept q m) {p : Nat} {enum : Bool} : (s.portFresh p enum).Kept q m := h.portStop.onPort.portIdle
theorem portsStart (h : s.Kept q m) {enum : Bool} : (s.portsStart enum).Kept q m := h.foldl _ fun _ ha => ha.portFresh
theorem portsStop (h : s.Kept q m) : s.portsStop.Kept q m := h.foldl _ fun _ ha => ha.portStop
theorem zoneInit (h : s.Kept q m) {z : Nat} : (s.zoneInit z).Kept q m := h.onZone
theorem zonesInit (h : s.Kept q m) : s.zonesInit.Kept q m := h.foldl _ fun _ ha => ha.zoneInit

theorem zoneChange (h : s.Kept q m) {old : Forme} {olds : List Zone} {z : Nat} : (s.zoneChange old olds z).Kept q m :=
  ite (fun _ => h.onToks.onZone.zoneInit) fun _ => h

theorem picaChange (h : s.Kept q m) {old : Forme} : (s.picaChange old).Kept q m := by
  unfold State.picaChange
  extract_lets inFlight port node s1
  have h1 : s1.Kept q m := by
    refine foldl (h.foldl _ fun p ha => ?_) _ fun _ ha => ite (fun _ => ha.onToks.onPica) fun _ => ha
    exact ite (fun _ => ha.onToks.portFresh) fun _ =>
      ite (fun _ => portIdle (onPort (ite (fun _ => ha) fun _ => ha.portStop))) fun _ => ha
  exact h1.foldl _ fun _ ha => ha.zoneChange

theorem picaReset (h : s.Kept q m) : s.picaReset.Kept q m := by
  unfold State.picaReset
  extract_lets s0 s1
  have h0 : s0.Kept q m := h.portsStop.foldl _ fun _ ha => ha.onPort
  have h1 : s1.Kept q m := h0.onToks
  exact h1.foldl _ fun _ ha => ha.onZone

theorem picaBack (h : s.Kept q m) : s.picaBack.Kept q m :=
  (h.foldl _ fun _ ha => ha.onZone).foldl _ fun _ ha => ite (fun _ => ha.onPort.portIdle) fun _ => ha

end State.Kept
end Sys2Proof.Machine
end

section
/-! PROOFS. Drives, valves, field I/O and the high limit (09 to 12) keep the state in form. -/

namespace Sys2Proof.Machine

set_option Elab.async false

variable {q : List Instr} {m : Nat} {s : State}

namespace State.Kept

-- Groups and drives (09 R220 to R229) ------------------------------------------------------------------------

theorem tripSync (h : s.Kept q m) : s.tripSync.Kept q m := ite (fun _ => h) fun _ => h.onLane
theorem fgRefresh (h : s.Kept q m) : s.fgRefresh.Kept q m := h.foldl _ fun _ ha => ha.onFg
theorem setDrive (h : s.Kept q m) {n : Nat} {f : Drive → Drive} : (s.setDrive n f).Kept q m :=
  ite (fun _ => h.onDrive) fun _ => h.onDrive.record
theorem haltDrive (h : s.Kept q m) {n : Nat} : (s.haltDrive n).Kept q m := h.setDrive
theorem settleDrive (h : s.Kept q m) {n : Nat} : (s.settleDrive n).Kept q m := ite (fun _ => h) fun _ => h.setDrive
theorem kickDrive (h : s.Kept q m) {n : Nat} {retry : Bool} : (s.kickDrive n retry).Kept q m := h.setDrive
theorem driveRun (h : s.Kept q m) {n pct : Nat} : (s.driveRun n pct).Kept q m := h.setDrive

theorem stallDrive (h : s.Kept q m) {n : Nat} {kick : Bool} : (s.stallDrive n kick).Kept q m :=
  ite (fun _ => h.onDrive.haltDrive.slug.slug) fun _ => h.onDrive.haltDrive.slug

theorem measureDrive (h : s.Kept q m) {n : Nat} {x : DriveMeas} : (s.measureDrive n x).Kept q m := h.onDrive

theorem moveDrive (h : s.Kept q m) {n : Nat} : (s.moveDrive n).Kept q m :=
  ite (fun _ => h.setDrive) fun _ => ite (fun _ => h.setDrive.haltDrive) fun _ => h.setDrive

theorem tickDrive (h : s.Kept q m) {n : Nat} : (s.tickDrive n).Kept q m := by
  unfold State.tickDrive
  extract_lets s1 d s2
  have h1 : s1.Kept q m := h.onDrive
  have h2 : s2.Kept q m := h1.settleDrive
  refine ite (fun _ => h1) fun _ => ?_
  split
  · exact h1.moveDrive
  · exact h1.moveDrive
  · exact ite (fun _ => h1) fun _ => h1.haltDrive
  · split
    · exact ite (fun _ => h2.kickDrive) fun _ => h2
    · exact ite (fun _ => h2.kickDrive) fun _ => h2
    · exact h2

theorem execDriveRefTick (h : s.Kept q m) {dt : Nat} {l : List DriveMeas} : keptOut q m (execDriveRefTick dt l s) := by
  unfold Machine.execDriveRefTick
  extract_lets u meas s1 s2
  have hu : u.Kept q m := h.elapse dt
  have h1 : s1.Kept q m := by
    refine hu.onFan.foldl _ fun n ha => ?_
    unfold meas
    split
    · exact ha.measureDrive
    · exact ha
  have h2 : s2.Kept q m := h1.fgRefresh
  exact keptOut_ite (fun _ => hu) fun _ =>
    ite (fun _ => h2.foldl _ fun _ ha => ha.tickDrive) fun _ => h2.foldl _ fun _ ha => ha.onDrive

theorem execKickCatchEnd (h : s.Kept q m) {dt n fwd : Nat} : keptOut q m (execKickCatchEnd dt n fwd s) :=
  keptOut_ite (fun _ => keptOut_ite (fun _ => (h.elapse dt).driveRun) fun _ => (h.elapse dt).onDrive) fun _ => h.elapse dt
theorem execKickPulsesCounted (h : s.Kept q m) {dt n pct : Nat} : keptOut q m (execKickPulsesCounted dt n pct s) :=
  keptOut_ite (fun _ => (h.elapse dt).onDrive.driveRun) fun _ => h.elapse dt
theorem execKickTimeout (h : s.Kept q m) {dt n : Nat} : keptOut q m (execKickTimeout dt n s) :=
  keptOut_ite (fun _ => (h.elapse dt).stallDrive) fun _ => h.elapse dt
theorem execStall (h : s.Kept q m) {dt n : Nat} {lockLost : Bool} : keptOut q m (execStall dt n lockLost s) :=
  keptOut_ite (fun _ => (h.elapse dt).stallDrive) fun _ => h.elapse dt

theorem execRetryAttempt (h : s.Kept q m) {dt n : Nat} : keptOut q m (execRetryAttempt dt n s) := by
  unfold Machine.execRetryAttempt
  extract_lets u d
  have hu : u.Kept q m := h.elapse dt
  split
  · exact keptOut_ite (fun _ => keptOut_ite (fun _ => hu.kickDrive) fun _ => hu.onDrive) fun _ => hu
  · exact hu

theorem execRetryCountReset (h : s.Kept q m) {dt n : Nat} : keptOut q m (execRetryCountReset dt n s) := by
  unfold Machine.execRetryCountReset
  extract_lets u d
  have hu : u.Kept q m := h.elapse dt
  split
  · exact keptOut_ite (fun _ => hu.onDrive) fun _ => hu
  · exact hu

theorem execI2tExhausted (h : s.Kept q m) {dt n : Nat} : keptOut q m (execI2tExhausted dt n s) :=
  keptOut_ite (fun _ => (h.elapse dt).onDrive) fun _ => h.elapse dt

-- Trips, the power limit and the internal fans (09 R230 to R236) ---------------------------------------------

theorem liveTrip (h : s.Kept q m) {bit : Nat} : (s.liveTrip bit).Kept q m := ite (fun _ => h) fun _ => h.galTrip

theorem tripDrive (h : s.Kept q m) {n bit : Nat} {loc : Bool} : (s.tripDrive n bit loc).Kept q m :=
  ite (fun _ => h.onDrive) fun _ => h.onDrive.onDrive.haltDrive.slug.record.liveTrip

theorem execDriveTrip (h : s.Kept q m) {dt n src : Nat} : keptOut q m (execDriveTrip dt n src s) :=
  keptOut_ite (fun _ => (h.elapse dt).tripDrive.tripSync) fun _ => h.elapse dt

theorem execPowerLimitTick (h : s.Kept q m) {dt : Nat} : keptOut q m (execPowerLimitTick dt s) := by
  unfold Machine.execPowerLimitTick
  extract_lets u p pl overT below step redu was frozen lim
  have hu : u.Kept q m := h.elapse dt
  exact hu.onFan

theorem execPowerLimitReduce (h : s.Kept q m) {dt : Nat} : keptOut q m (execPowerLimitReduce dt s) := by
  unfold Machine.execPowerLimitReduce
  extract_lets u
  have hu : u.Kept q m := h.elapse dt
  split
  · exact keptOut_ite (fun _ => hu.onFan) fun _ => hu
  · exact hu

theorem execAutonomyExpiry (h : s.Kept q m) {dt : Nat} : keptOut q m (execAutonomyExpiry dt s) :=
  keptOut_ite (fun _ => (h.elapse dt).onFan) fun _ => h.elapse dt

theorem coolRefresh (h : s.Kept q m) : s.coolRefresh.Kept q m := h.onFan

theorem execInternalFanFail (h : s.Kept q m) {dt fan : Nat} : keptOut q m (execInternalFanFail dt fan s) :=
  keptOut_ite (fun _ => h.elapse dt) fun _ => (h.elapse dt).onFan.coolRefresh.slug

-- Commands (09 R243) -----------------------------------------------------------------------------------------

theorem fanCmdBody (h : s.Kept q m) {fl : Flight} : (fanCmdBody fl s).Kept q m := by
  unfold Machine.fanCmdBody
  extract_lets n op g v grp s1 s2
  have hg {f : FanGroup → FanGroup} : (grp f).Kept q m := h.onFg.recHost
  have h1 : s1.Kept q m := h.onDrive.recHost
  have h2 : s2.Kept q m := ite (fun _ => h1.haltDrive) fun _ => h1.settleDrive
  clear_value op
  split
  · exact h
  · split
    · split
      · exact h
      · split
        · exact h
        · exact h2
    · split
      · exact h
      · split
        · exact h
        · exact hg
        · exact hg
        · split
          · exact hg
          · exact h
        · exact hg

theorem fanClearTripBody (h : s.Kept q m) {fl : Flight} : (fanClearTripBody fl s).Kept q m := by
  unfold Machine.fanClearTripBody
  dsimp only
  split
  · exact h
  · split
    · exact h.onDrive.slug
    · split
      · exact h
      · exact h.onDrive.settleDrive.tripSync.record

theorem fanRetryNowBody (h : s.Kept q m) {fl : Flight} : (fanRetryNowBody fl s).Kept q m := by
  unfold Machine.fanRetryNowBody
  dsimp only
  split
  · exact h
  · split
    · exact h
    · exact h.kickDrive

theorem fanUnlockBody (h : s.Kept q m) {fl : Flight} : (fanUnlockBody fl s).Kept q m := by
  unfold Machine.fanUnlockBody
  dsimp only
  split
  · exact h
  · split
    · exact h
    · exact h.onDrive.settleDrive

theorem execFanCmd (h : s.Kept q m) {dt f : Nat} : keptOut q m (execFanCmd dt f s) :=
  (h.elapse dt).runCmd fun _ => (h.elapse dt).fanCmdBody
theorem execFanClearTrip (h : s.Kept q m) {dt f : Nat} : keptOut q m (execFanClearTrip dt f s) :=
  (h.elapse dt).runCmd fun _ => (h.elapse dt).fanClearTripBody
theorem execFanRetryNow (h : s.Kept q m) {dt f : Nat} : keptOut q m (execFanRetryNow dt f s) :=
  (h.elapse dt).runCmd fun _ => (h.elapse dt).fanRetryNowBody
theorem execFanUnlock (h : s.Kept q m) {dt f : Nat} : keptOut q m (execFanUnlock dt f s) :=
  (h.elapse dt).runCmd fun _ => (h.elapse dt).fanUnlockBody

-- Changes of state and session (09 R236 to R242) -------------------------------------------------------------

theorem fansEnter (h : s.Kept q m) {old : UState} : (s.fansEnter old).Kept q m := by
  unfold State.fansEnter
  extract_lets s1 s2
  have h1 : s1.Kept q m := h.onFan
  have h2 : s2.Kept q m := ite (fun _ => h1.onFan) fun _ => h1
  exact ite (fun _ => h2) fun _ => fgRefresh (h2.foldl _ fun _ ha => ite (fun _ => ha.haltDrive) fun _ => ha)

theorem fansSession (h : s.Kept q m) {sid : Nat} : (s.fansSession sid).Kept q m := by
  unfold State.fansSession
  extract_lets keep
  exact h.onFan

theorem driveReset (h : s.Kept q m) {n : Nat} : (s.driveReset n).Kept q m := h.onDrive.haltDrive
theorem drivesUv (h : s.Kept q m) : s.drivesUv.Kept q m := h.foldl _ fun _ ha => ha.onDrive.haltDrive
theorem drivesSettle (h : s.Kept q m) : s.drivesSettle.Kept q m := h.foldl _ fun _ ha => ha.settleDrive

end State.Kept
end Sys2Proof.Machine

namespace Sys2Proof.Machine

set_option Elab.async false

variable {q : List Instr} {m : Nat} {s : State}

namespace State.Kept

-- A valve channel's tick (10 R246 to R263) -------------------------------------------------------------------

theorem setSv (h : s.Kept q m) {n : Nat} {f : Valve → Valve} : (s.setSv n f).Kept q m := ite (fun _ => h.onSv) fun _ => h.onSv.record
theorem putRefE (h : s.Kept q m) {n ref i : Nat} {must : Bool} {v : Valve} : (s.putRefE n ref i must v).Kept q m := h.setSv
theorem putRef (h : s.Kept q m) {n ref : Nat} {must : Bool} {v : Valve} : (s.putRef n ref must v).Kept q m := h.putRefE
theorem tickProp (h : s.Kept q m) {n : Nat} : (s.tickProp n).Kept q m := h.putRefE

theorem tickPh (h : s.Kept q m) {n : Nat} : (s.tickPh n).Kept q m := by
  unfold State.tickPh
  dsimp only
  split
  · exact h.putRef
  · refine ite (fun _ => h.putRef) fun _ => ?_
    split <;> exact h.putRef

theorem tickTest (h : s.Kept q m) {n i1 i2 : Nat} : (s.tickTest n i1 i2).Kept q m := h.putRef

theorem tickSv (h : s.Kept q m) {n : Nat} : (s.tickSv n).Kept q m := by
  unfold State.tickSv
  extract_lets test u v off
  have hu : u.Kept q m := h.onSv
  have hoff {st : VState} {w : Valve} : (off st w).Kept q m := hu.putRef
  clear_value test
  refine ite (fun _ => hoff) fun _ => ite (fun _ => hoff) fun _ => ite (fun _ => hoff) fun _ => ?_
  split
  · exact hu.tickTest
  · split
    · exact hu.tickProp
    · exact hu.tickPh
    · exact hoff

theorem admitAll (h : s.Kept q m) : s.admitAll.Kept q m := h.foldl _ fun _ ha => ite (fun _ => ha.putRef) fun _ => ha
theorem svMeasure (h : s.Kept q m) {n i : Nat} {full : Bool} : (s.svMeasure n i full).Kept q m := h.onSv

theorem execGovernorTick (h : s.Kept q m) {dt : Nat} {imeas : List Nat} {vbst full : Nat} :
    keptOut q m (execGovernorTick dt imeas vbst full s) := by
  unfold Machine.execGovernorTick
  extract_lets u s1 s2 s3
  have h1 : s1.Kept q m := (h.elapse dt).foldl _ fun _ ha => ha.svMeasure.onSv
  have h3 : s3.Kept q m := admitAll (h1.onValve.foldl _ fun _ ha => ha.tickSv)
  exact h3.onValve

-- Events of a channel, and trips (10 R248, R252 to R256, R264) -----------------------------------------------

theorem learn (h : s.Kept q m) {n l : Nat} : (s.learn n l).1.Kept q m := ite (fun _ => h.onSv.slug) fun _ => h.onSv

theorem execPullinPeak (h : s.Kept q m) {dt n vavg riseUs : Nat} : keptOut q m (execPullinPeak dt n vavg riseUs s) :=
  keptOut_ite (fun _ => (h.elapse dt).learn) fun _ => h.elapse dt

theorem execPeakTimeEnd (h : s.Kept q m) {dt n : Nat} : keptOut q m (execPeakTimeEnd dt n s) := by
  unfold Machine.execPeakTimeEnd
  extract_lets u v
  have hu : u.Kept q m := h.elapse dt
  split
  · exact keptOut_ite (fun _ => hu.putRef) fun _ => hu
  · exact hu

theorem execCoilOpen (h : s.Kept q m) {dt n : Nat} : keptOut q m (execCoilOpen dt n s) := by
  unfold Machine.execCoilOpen
  extract_lets u v
  have hu : u.Kept q m := h.elapse dt
  split
  · exact keptOut_ite (fun _ => hu.onSv.slug) fun _ => hu
  · exact hu

theorem execClamp (h : s.Kept q m) {dt burned : Nat} : keptOut q m (execClamp dt burned s) := (h.elapse dt).onValve.slug
theorem execGovClampClear (h : s.Kept q m) {dt : Nat} : keptOut q m (execGovClampClear dt s) :=
  keptOut_ite (fun _ => (h.elapse dt).onValve) fun _ => h.elapse dt

theorem execVbFault (h : s.Kept q m) {dt : Nat} : keptOut q m (execVbFault dt s) := by
  unfold Machine.execVbFault
  extract_lets u
  have hu : u.Kept q m := h.elapse dt
  split
  · exact keptOut_ite (fun _ => hu.onValve.slug) fun _ => hu
  · exact hu

theorem tripSv (h : s.Kept q m) {n bit : Nat} : (s.tripSv n bit).Kept q m := ite (fun _ => h.onSv) fun _ => h.onSv.putRef.slug

theorem execValveTrip (h : s.Kept q m) {dt n src : Nat} : keptOut q m (execValveTrip dt n src s) :=
  keptOut_ite (fun _ => (h.elapse dt).tripSv) fun _ =>
    keptOut_ite (fun _ => (h.elapse dt).foldl _ fun _ ha => ha.tripSv) fun _ => h.elapse dt

theorem ftripApply (h : s.Kept q m) {i : Nat} : (s.ftripApply i).Kept q m :=
  ite (fun _ => (h.foldl _ fun _ ha => ite (fun _ => ha.tripDrive) fun _ => ha).foldl _ fun _ ha =>
    ite (fun _ => ha.tripSv) fun _ => ha) fun _ => h.onFan.onValve

theorem execFtripInput (h : s.Kept q m) {dt i : Nat} {opened : Bool} : keptOut q m (execFtripInput dt i opened s) := by
  unfold Machine.execFtripInput
  extract_lets u was s1 s2
  have hu : u.Kept q m := h.elapse dt
  have h2 : s2.Kept q m := hu.onFan.record.ftripApply
  exact keptOut_ite (fun _ => hu) fun _ => tripSync (ite (fun _ => h2.liveTrip) fun _ => h2)

theorem execTripSourceClear (h : s.Kept q m) {dt : Nat} {valve : Bool} {n src : Nat} :
    keptOut q m (execTripSourceClear dt valve n src s) :=
  keptOut_ite (fun _ => keptOut_ite (fun _ => (h.elapse dt).onSv) fun _ =>
    keptOut_ite (fun _ => (h.elapse dt).onValve) fun _ => h.elapse dt) fun _ =>
    keptOut_ite (fun _ => (h.elapse dt).onDrive) fun _ => h.elapse dt

-- Supply and permit (09 R240, 10 R258, R263, 12 R298 to R307) ------------------------------------------------

theorem seeVin (h : s.Kept q m) {vin : Nat} : (s.seeVin vin).Kept q m := ite (fun _ => h.onPower.slug) fun _ => h.onPower

theorem execVinUndervolt (h : s.Kept q m) {dt vin : Nat} : keptOut q m (execVinUndervolt dt vin s) :=
  keptOut_ite (fun _ => h.elapse dt) fun _ => keptOut_ite (fun _ => (h.elapse dt).seeVin) fun _ =>
    (h.elapse dt).seeVin.onPower.drivesUv.foldl _ fun _ ha => ha.onSv.tickSv

theorem execVinRecover (h : s.Kept q m) {dt vin : Nat} : keptOut q m (execVinRecover dt vin s) :=
  keptOut_ite (fun _ => trivial) fun _ => keptOut_ite (fun _ => h.elapse dt) fun _ =>
    (h.elapse dt).seeVin.onPower.drivesSettle.onValve

/-- A change of the high limit keeps its tables where the change itself does. -/
theorem setHl (h : s.Kept q m) {f : HlSt → HlSt} (hc : (f s.hl).chs.length = s.hl.chs.length := by simp)
    (ht : (f s.hl).temps.length = s.hl.temps.length := by simp) (hr : (f s.hl).rb.length = s.hl.rb.length := by simp) :
    (s.setHl f).Kept q m := by
  obtain ⟨oc, ot, orb⟩ := h.okHl
  refine { h with okHl := ?_ }
  unfold State.setHl State.onHl
  dsimp only
  split
  · exact ⟨hc.trans oc, ht.trans ot, hr.trans orb⟩
  · exact ⟨hc.trans oc, ht.trans ot, rfl⟩

theorem execBurnerPermitChange (h : s.Kept q m) {dt : Nat} {on : Bool} : keptOut q m (execBurnerPermitChange dt on s) :=
  keptOut_ite (fun _ => h.elapse dt) fun _ =>
    (h.elapse dt).setHl.record.slug.foldl _ fun _ ha => ite (fun _ => ha.tickSv) fun _ => ha

-- Commands, changes of state and epoch (10 R254, R260 to R266) -----------------------------------------------

theorem valveCmdBody (h : s.Kept q m) {fl : Flight} : (valveCmdBody fl s).Kept q m := by
  unfold Machine.valveCmdBody
  extract_lets op n v set badV
  have hset {f : Valve → Valve} : (set f).Kept q m := h.onSv.recHost
  clear_value op
  split
  · exact h
  · split
    · exact h
    · split
      · exact h
      · exact hset
      · exact hset
      · split
        · exact hset
        · exact h
      · exact hset
      · split
        · exact h.slug
        · exact h.onSv.setSv

theorem valveLearnBody (h : s.Kept q m) {vHold us : Nat} {fl : Flight} : (valveLearnBody vHold us fl s).Kept q m := by
  unfold Machine.valveLearnBody
  extract_lets n i1 i2 a b l r s1
  have hs : s1.Kept q m := ite (fun _ => h.fresh.fresh) fun _ => h
  split
  · exact h
  · split
    · exact h
    · split
      · exact hs.learn
      · exact hs

theorem execValveCmd (h : s.Kept q m) {dt f : Nat} : keptOut q m (execValveCmd dt f s) :=
  (h.elapse dt).runCmd fun _ => (h.elapse dt).valveCmdBody
theorem execValveLearnL (h : s.Kept q m) {dt f vHold stepUs : Nat} : keptOut q m (execValveLearnL dt f vHold stepUs s) :=
  (h.elapse dt).runCmd fun _ => (h.elapse dt).valveLearnBody

theorem valvesEnter (h : s.Kept q m) : s.valvesEnter.Kept q m := h.onValve.foldl _ fun _ ha => ha.tickSv

theorem valvesSession (h : s.Kept q m) {sid : Nat} : (s.valvesSession sid).Kept q m := by
  unfold State.valvesSession
  extract_lets keep
  exact h.onValve

theorem valveReset (h : s.Kept q m) : s.valveReset.Kept q m := h.foldl _ fun _ ha => ha.onSv.tickSv
theorem valveBack (h : s.Kept q m) : s.valveBack.Kept q m := h.onValve.foldl _ fun _ ha => ha.tickSv
theorem valveChange (h : s.Kept q m) {old : Forme} : (s.valveChange old).Kept q m :=
  h.foldl _ fun _ ha => ite (fun _ => ha.onSv.tickSv) fun _ => ha

end State.Kept
end Sys2Proof.Machine

namespace Sys2Proof.Machine

set_option Elab.async false

variable {q : List Instr} {m : Nat} {s : State}

namespace State.Kept

-- Inputs (11 R269 to R271) -----------------------------------------------------------------------------------

theorem diToken (h : s.Kept q m) {n : Nat} {on : Bool} : (s.diToken n on).Kept q m := h.onDin.tmDi.eventToken

theorem execDiFilterStep (h : s.Kept q m) {dt n : Nat} {raw : Bool} : keptOut q m (execDiFilterStep dt n raw s) :=
  keptOut_ite (fun _ => h.elapse dt) fun _ => keptOut_ite (fun _ => (h.elapse dt).onDin) fun _ =>
    keptOut_ite (fun _ => h.elapse dt) fun _ => keptOut_ite (fun _ => (h.elapse dt).onDin) fun _ =>
      keptOut_ite (fun _ => (h.elapse dt).onDin.onDio) fun _ => (h.elapse dt).onDin.onDio.record.diToken

-- Outputs (11 R272 to R282) ----------------------------------------------------------------------------------

theorem doFollow (h : s.Kept q m) {n : Nat} : (s.doFollow n).Kept q m := h.onDout
theorem doRefresh (h : s.Kept q m) : s.doRefresh.Kept q m := ite (fun _ => h) fun _ => h.foldl _ fun _ ha => ha.doFollow

theorem doAction (h : s.Kept q m) {action n : Nat} {f : Firing → State → Dout → Dout} : (s.doAction action n f).Kept q m := by
  unfold State.doAction
  split
  · exact h
  next hx =>
    have hx := h.takeAction hx
    exact ite (fun _ => hx.onDout.doRefresh.reportAcc) fun _ => hx.reportAcc

theorem execDoSet (h : s.Kept q m) {dt n : Nat} : keptOut q m (execDoSet dt n s) := (h.elapse dt).doAction
theorem execDoClear (h : s.Kept q m) {dt n : Nat} : keptOut q m (execDoClear dt n s) := (h.elapse dt).doAction
theorem execDoPulse (h : s.Kept q m) {dt n : Nat} : keptOut q m (execDoPulse dt n s) := (h.elapse dt).doAction

theorem execDoPulseEnd (h : s.Kept q m) {dt n : Nat} : keptOut q m (execDoPulseEnd dt n s) := by
  unfold Machine.execDoPulseEnd
  extract_lets u
  have hu : u.Kept q m := h.elapse dt
  split
  · exact keptOut_ite (fun _ => hu.onDout.doRefresh) fun _ => hu
  · exact hu

theorem tpStart (h : s.Kept q m) {n mt : Nat} : (s.tpStart n mt).Kept q m := h.onDout
theorem freqStart (h : s.Kept q m) {n mt : Nat} : (s.freqStart n mt).Kept q m := h.onDout

theorem execTpropPeriodStart (h : s.Kept q m) {dt n : Nat} : keptOut q m (execTpropPeriodStart dt n s) :=
  keptOut_ite (fun _ => (h.elapse dt).tpStart.doRefresh) fun _ => h.elapse dt
theorem execTpropOnEnd (h : s.Kept q m) {dt n : Nat} : keptOut q m (execTpropOnEnd dt n s) :=
  keptOut_ite (fun _ => (h.elapse dt).onDout.doRefresh) fun _ => h.elapse dt
theorem execFreqHalfPeriod (h : s.Kept q m) {dt n : Nat} : keptOut q m (execFreqHalfPeriod dt n s) :=
  keptOut_ite (fun _ => h.elapse dt) fun _ => keptOut_ite (fun _ => (h.elapse dt).freqStart.doRefresh) fun _ =>
    keptOut_ite (fun _ => keptOut_ite (fun _ => (h.elapse dt).onDout.doRefresh) fun _ => h.elapse dt) fun _ =>
      keptOut_ite (fun _ => (h.elapse dt).freqStart.doRefresh) fun _ => h.elapse dt

theorem periodsStart (h : s.Kept q m) : s.periodsStart.Kept q m :=
  h.foldl _ fun _ ha => ite (fun _ => ha.tpStart) fun _ => ite (fun _ => ha.freqStart) fun _ => ha

theorem execDioUpdateFrame (h : s.Kept q m) {dt : Nat} : keptOut q m (execDioUpdateFrame dt s) :=
  (h.elapse dt).doRefresh.onDio.onDio

theorem execDoWatchdogExpiry (h : s.Kept q m) {dt n : Nat} : keptOut q m (execDoWatchdogExpiry dt n s) :=
  keptOut_ite (fun _ => ite (fun _ => (h.elapse dt).onDout.onDio) fun _ => (h.elapse dt).onDout.onDio.slug) fun _ => h.elapse dt

-- Field faults and the scan (11 R282 to R286, R293) ----------------------------------------------------------

theorem execFieldFault (h : s.Kept q m) {dt n cls : Nat} {on : Bool} : keptOut q m (execFieldFault dt n cls on s) := by
  have hu := h.elapse dt
  unfold Machine.execFieldFault
  dsimp only
  split
  · exact hu.onDio
  · exact hu.onDout
  · exact hu.onDout
  · exact hu.onDout
  · exact hu

theorem execOvlRetry (h : s.Kept q m) {dt n : Nat} : keptOut q m (execOvlRetry dt n s) :=
  keptOut_ite (fun _ => (h.elapse dt).onDout) fun _ => h.elapse dt

theorem setQueries (h : s.Kept q m) {f : Nat → Nat} {mask : Bool} : (s.setQueries f mask).Kept q m := h.onDio
theorem startScanDio (h : s.Kept q m) {auto : Bool} {flight : Option Nat} : (s.startScanDio auto flight).Kept q m := h.onDio.setQueries
theorem fioRise (h : s.Kept q m) : s.fioRise.Kept q m := ite (fun _ => h.onDio.slug.startScanDio) fun _ => h.onDio.slug
theorem fioFall (h : s.Kept q m) : s.fioFall.Kept q m := h.onDio.slug

theorem execFioFaultRise (h : s.Kept q m) {dt : Nat} : keptOut q m (execFioFaultRise dt s) :=
  keptOut_ite (fun _ => h.elapse dt) fun _ => keptOut_ite (fun _ => (h.elapse dt).onDio) fun _ => (h.elapse dt).fioRise
theorem execFioFaultFall (h : s.Kept q m) {dt : Nat} : keptOut q m (execFioFaultFall dt s) :=
  keptOut_ite (fun _ => h.elapse dt) fun _ => keptOut_ite (fun _ => (h.elapse dt).onDio) fun _ => (h.elapse dt).fioFall
theorem execFaultScanRepeat (h : s.Kept q m) {dt : Nat} : keptOut q m (execFaultScanRepeat dt s) :=
  keptOut_ite (fun _ => (h.elapse dt).startScanDio) fun _ => h.elapse dt

theorem endScan (h : s.Kept q m) {x : Scan} : (s.endScan x).Kept q m := by
  unfold State.endScan
  extract_lets s1 y news s2 s3 s4
  have h2 : s2.Kept q m := h.setQueries.onDio
  have h3 : s3.Kept q m := ite (fun _ => h2.slug) fun _ => h2
  have h4 : s4.Kept q m := by
    unfold s4
    split
    · exact h3.complete
    · exact h3
  exact ite (fun _ => h4) fun _ => ite (fun _ => h4.fioRise) fun _ => h4.fioFall

theorem execFaultScanStep (h : s.Kept q m) {dt : Nat} : keptOut q m (execFaultScanStep dt s) := by
  unfold Machine.execFaultScanStep
  extract_lets u
  have hu : u.Kept q m := h.elapse dt
  split
  · exact hu
  · exact keptOut_ite (fun _ => hu) fun _ => keptOut_ite (fun _ => hu.endScan) fun _ =>
      ite (fun _ => hu.onDio.setQueries) fun _ => hu.onDio.setQueries

theorem execCouplerFault (h : s.Kept q m) {dt n : Nat} {out : Bool} : keptOut q m (execCouplerFault dt n out s) :=
  keptOut_ite (fun _ => keptOut_ite (fun _ => h.elapse dt) fun _ => (h.elapse dt).onDout.slug) fun _ =>
    keptOut_ite (fun _ => h.elapse dt) fun _ => (h.elapse dt).onDio.slug

theorem dioFaultScanBody (h : s.Kept q m) {fl : Flight} : (dioFaultScanBody fl s).Kept q m := by
  unfold Machine.dioFaultScanBody
  split
  · exact h
  · split
    · exact h
    · exact h.startScanDio
  · exact h

theorem execDioFaultScan (h : s.Kept q m) {dt f : Nat} : keptOut q m (execDioFaultScan dt f s) :=
  (h.elapse dt).runCmd fun _ => (h.elapse dt).dioFaultScanBody

-- Changes of state, forme and epoch (11 R281, R287 to R291) --------------------------------------------------

theorem dioEnter (h : s.Kept q m) : s.dioEnter.Kept q m := by
  unfold State.dioEnter
  extract_lets s1
  have h1 : s1.Kept q m := ite (fun _ => h.onDio) fun _ => h
  exact doRefresh (ite (fun _ => h1.periodsStart) fun _ => h1)

theorem dioChange (h : s.Kept q m) {old : Forme} : (s.dioChange old).Kept q m := by
  unfold State.dioChange
  extract_lets clampC s1 keepOut
  have h1 : s1.Kept q m := h.foldl _ fun _ ha => ha.onDin
  refine (h1.foldl _ fun n ha => ?_).periodsStart.doRefresh
  exact ite (fun _ => ha.onDio) fun _ => ite (fun _ => ha.foldl _ fun _ hb => ite (fun _ => hb.onCol) fun _ => hb) fun _ => ha

theorem presetIns (h : s.Kept q m) : s.presetIns.Kept q m := h.onDio

theorem dioReset (h : s.Kept q m) : s.dioReset.Kept q m :=
  (ite (fun _ => h.presetIns.onDio.setQueries) fun _ => h.presetIns.onDio).periodsStart.doRefresh

-- The high limit (12) ----------------------------------------------------------------------------------------

theorem hlRefresh (h : s.Kept q m) : s.hlRefresh.Kept q m := h.setHl

theorem execSupervisorHeartbeat (h : s.Kept q m) {dt : Nat} : keptOut q m (execSupervisorHeartbeat dt s) :=
  keptOut_ite (fun _ => h.elapse dt) fun _ => (h.elapse dt).onPower.hlRefresh
theorem execHeartbeatStale (h : s.Kept q m) {dt : Nat} : keptOut q m (execHeartbeatStale dt s) :=
  keptOut_ite (fun _ => h.elapse dt) fun _ => (h.elapse dt).setHl

theorem hlSlug (h : s.Kept q m) {x : HlSlug} : (s.hlSlug x).Kept q m := h.slug

theorem hlLatch (h : s.Kept q m) {cause : Nat} : (s.hlLatch cause).Kept q m := by
  unfold State.hlLatch
  extract_lets s1 s2
  have h1 : s1.Kept q m := h.setHl
  have h2 : s2.Kept q m := ite (fun _ => h1.onHl) fun _ => h1.hlSlug
  exact ite (fun _ => h.onHl) fun _ => h2.record.liveTrip.tripSync

theorem hlBack (h : s.Kept q m) : s.hlBack.Kept q m := h.onHl.foldl _ fun _ ha => ha.hlSlug
theorem seeHl (h : s.Kept q m) {ch : Nat} {x : HlMeas} : (s.seeHl ch x).Kept q m := by
  unfold State.seeHl
  extract_lets th c
  exact h.onHl

theorem execHlThresholdCrossing (h : s.Kept q m) {dt ch : Nat} {x : HlMeas} : keptOut q m (execHlThresholdCrossing dt ch x s) :=
  keptOut_ite (fun _ => h.elapse dt) fun _ => (h.elapse dt).seeHl

theorem execHlTrip (h : s.Kept q m) {dt ch : Nat} : keptOut q m (execHlTrip dt ch s) := by
  unfold Machine.execHlTrip
  extract_lets u
  have hu : u.Kept q m := h.elapse dt
  split
  · exact keptOut_ite (fun _ => hu.hlLatch) fun _ => hu
  · exact hu

theorem execContactWeld (h : s.Kept q m) {dt relay : Nat} : keptOut q m (execContactWeld dt relay s) :=
  keptOut_ite (fun _ => h.elapse dt) fun _ => (h.elapse dt).setHl.hlLatch.slug

theorem hlReset (h : s.Kept q m) {src sid role : Nat} : (s.hlReset src sid role).2.Kept q m := by
  unfold State.hlReset
  extract_lets s1 s2 s1'
  have h1 : s1.Kept q m := h.setHl
  have h2 : s2.Kept q m := ite (fun _ => h1.record) fun _ => h1
  have h1' : s1'.Kept q m := h.onHl
  split
  · exact h2.slug.tripSync
  · split
    · exact h
    · exact h1'.slug

theorem execLimitResetKey (h : s.Kept q m) {dt released : Nat} : keptOut q m (execLimitResetKey dt released s) :=
  keptOut_ite (fun _ => h.elapse dt) fun _ => (h.elapse dt).onHl.hlReset
theorem execKeyStuck (h : s.Kept q m) {dt : Nat} : keptOut q m (execKeyStuck dt s) :=
  keptOut_ite (fun _ => (h.elapse dt).onHl.slug) fun _ => h.elapse dt
theorem execPchain (h : s.Kept q m) {dt : Nat} : keptOut q m (execPchain dt s) :=
  keptOut_ite (fun _ => (h.elapse dt).onHl.slug) fun _ => h.elapse dt

theorem hlResetBody (h : s.Kept q m) {fl : Flight} : (hlResetBody fl s).Kept q m := h.hlReset
theorem execHlReset (h : s.Kept q m) {dt f : Nat} : keptOut q m (execHlReset dt f s) :=
  (h.elapse dt).runCmd fun _ => (h.elapse dt).hlResetBody

end State.Kept
end Sys2Proof.Machine
end

section
/-! PROOFS. The record store (16) keeps the state in form. -/

namespace Sys2Proof.Machine

set_option Elab.async false

variable {q : List Instr} {m : Nat} {s : State}

-- The record store (16) --------------------------------------------------------------------------------------

/-- A store that keeps its reprint and of its keyframes some. -/
theorem RecSt.shaped.of {r r' : RecSt} (h : r.shaped) (hk : r'.keys ⊆ r.keys) (hr : r'.reprint = r.reprint) : r'.shaped :=
  ⟨fun k hmem => h.1 k (hk hmem), hr ▸ h.2⟩

namespace RecSt.shaped

variable {r : RecSt} (h : r.shaped)
include h

theorem eraseFolio {n : Nat} : (eraseFolio r n).shaped := h.of (fun _ hk => (List.mem_filter.1 hk).1) rfl
theorem putFolio {f : Folio} : (putFolio r f).shaped := h.eraseFolio (n := f.num)

theorem openLog {boot now : Nat} {sl : Slug} : (openLog r boot now sl).shaped := by
  unfold Machine.openLog
  split
  · exact h
  · exact h.putFolio

theorem openIn {boot now first : Nat} {x : InRec} : (openIn r boot now first x).shaped := by
  unfold Machine.openIn
  split
  · exact h
  · exact h.putFolio

theorem shutLog {st : Nat} : (shutLog r st).shaped := by
  unfold Machine.shutLog
  split
  · exact h
  · exact h

theorem shutIn {st : Nat} : (shutIn r st).shaped := by
  unfold Machine.shutIn
  split
  · exact h
  · exact h

theorem logUnit {boot now : Nat} {slugs : List Slug} : (logUnit r boot now slugs).shaped := by
  unfold Machine.logUnit
  split
  · exact h
  · extract_lets r1 n _ r2
    have h2 : r2.shaped := h.openLog
    split
    · exact h2.shutLog
    · exact h2

theorem inUnit {boot now first : Nat} {recs : List InRec} : (inUnit r boot now first recs).shaped := by
  unfold Machine.inUnit
  split
  · exact h
  · extract_lets r1 n _ r2
    have h2 : r2.shaped := h.openIn
    split
    · exact h2.shutIn
    · exact h2

omit h in
theorem admitTrips {now k : Nat} {r : RecSt} (h : r.shaped) : (admitTrips now k r).shaped := by
  induction k generalizing r with
  | zero => exact h
  | succ k ih =>
    unfold Machine.admitTrips
    split
    · exact h
    · split
      · exact ih h
      · exact h

theorem programOk : (programOk r).shaped := h

end RecSt.shaped

namespace State.Kept

theorem nextProgram (h : s.Kept q m) : s.nextProgram.Kept q m :=
  ite (fun _ => h) fun _ => ite (fun _ => h.onStore) fun _ => ite (fun _ => h.onStore) fun _ => ite (fun _ => h.onStore) fun _ => h

theorem gapSlug (h : s.Kept q m) : s.gapSlug.Kept q m := by
  unfold State.gapSlug
  extract_lets r
  split
  · exact h
  · exact ite (fun _ => h) fun _ => { h with }

theorem readOnlyCheck (h : s.Kept q m) : s.readOnlyCheck.Kept q m := ite (fun _ => h) fun _ => h.onStore.slug

theorem programFails (h : s.Kept q m) {region : Nat} {openIt shut : RecSt → RecSt} {num : RecSt → Nat}
    (ho : ∀ {r : RecSt}, r.shaped → (openIt r).shaped) (hs : ∀ {r : RecSt}, r.shaped → (shut r).shaped) :
    (s.programFails region openIt shut num).Kept q m := by
  unfold State.programFails
  extract_lets r1 r2 s1
  have hr2 : r2.shaped := hs (ho h.okStore)
  have h1 : s1.Kept q m := slug (h.onStore fun _ => hr2)
  exact h1.readOnlyCheck

/-- A keyframe holds the image of a state in form. -/
theorem takeKey (h : s.Kept q m) : s.takeKey.Kept q m := by
  unfold State.takeKey
  extract_lets r c nums fo r1 s1
  have hr {l : List Nat} {r : RecSt} (hr : r.shaped) : (l.foldl (fun a i => putFolio a (fo i)) r).shaped := by
    induction l generalizing r with
    | nil => exact hr
    | cons i l ih => exact ih hr.putFolio
  have h1 : s1.Kept q m := (h.onStore fun hx => hr hx).record
  refine ite (fun _ => h1.onStore fun ⟨hk, hp⟩ => ⟨fun k hmem => ?_, hp⟩) fun _ => h
  obtain rfl | hmem := List.mem_cons.1 hmem
  · exact h.image
  · exact hk k hmem

theorem recGap (h : s.Kept q m) : s.recGap.Kept q m := ite (fun _ => h) fun _ => h.onStore.record.slug.takeKey

theorem execUnitProgramDone (h : s.Kept q m) {dt : Nat} {ok : Bool} : keptOut q m (execUnitProgramDone dt ok s) := by
  unfold Machine.execUnitProgramDone
  extract_lets u r us r1 r2 us' first r1'
  have hu : u.Kept q m := h.elapse dt
  have h2 : r2.shaped := RecSt.shaped.admitTrips hu.okStore.programOk.logUnit
  have h1' : r1'.shaped := hu.okStore.programOk.inUnit
  clear_value us us'
  refine keptOut_ite (fun _ => keptOut_ite (fun _ => ?_) fun _ => ?_) fun _ =>
    keptOut_ite (fun _ => keptOut_ite (fun _ => ?_) fun _ => ?_) fun _ => hu
  · exact (hu.onStore fun _ => h2).gapSlug.nextProgram
  · split
    · exact hu
    · exact hu.programFails (fun hr => hr.openLog) fun hr => hr.shutLog
  · exact (hu.onStore fun _ => h1').recGap.nextProgram
  · split
    · exact hu
    · exact hu.programFails (fun hr => hr.openIn) fun hr => hr.shutIn

theorem execFlushTimer (h : s.Kept q m) {dt : Nat} : keptOut q m (execFlushTimer dt s) := (h.elapse dt).nextProgram
theorem execKeyframeTimer (h : s.Kept q m) {dt : Nat} : keptOut q m (execKeyframeTimer dt s) :=
  keptOut_ite (fun _ => (h.elapse dt).takeKey) fun _ => h.elapse dt

theorem flushStore (h : s.Kept q m) : s.flushStore.Kept q m := by
  unfold State.flushStore
  extract_lets r all r2 r1 s1 _ r3
  have units {l : List (List Slug)} {boot now : Nat} {r : RecSt} (hr : r.shaped) :
      (l.foldl (fun a u => logUnit a boot now u) r).shaped := by
    induction l generalizing r with
    | nil => exact hr
    | cons u l ih => exact ih hr.logUnit
  have hr1 : r1.shaped := by
    unfold r1
    split
    · exact h.okStore
    · exact units h.okStore
  have h1 : s1.Kept q m := (h.onStore fun _ => hr1).gapSlug
  have hr3 : r3.shaped := by
    unfold r3
    split
    · exact h1.okStore
    · exact h1.okStore.logUnit
  exact ite (fun _ => h) fun _ => h1.onStore fun _ => hr3.shutLog.shutIn

theorem mountStore (h : s.Kept q m) : s.mountStore.Kept q m := by
  unfold State.mountStore
  extract_lets r torn s1 s2 s3
  have ht {n units : Nat} {a : State} (ha : a.Kept q m) : (torn n units a).Kept q m := ha.onStore.slug
  have h1 : s1.Kept q m := h.onStore
  have h2 : s2.Kept q m := by
    unfold s2
    split
    · exact ht h1
    · exact h1
  have h3 : s3.Kept q m := by
    unfold s3
    split
    · exact ht h2
    · exact h2
  exact ite (fun _ => h) fun _ => h3.onStore

theorem abortCopies (h : s.Kept q m) {which : Copy → Bool} : (s.abortCopies which).Kept q m :=
  h.onStore.foldl _ fun _ ha => ha.complete

theorem runCopy (h : s.Kept q m) {c : Copy} : (s.runCopy c).Kept q m := by
  unfold State.runCopy
  split
  · exact h
  · exact ite (fun _ => h.onQueue.onStore.complete) fun _ => h.onQueue.onStore

theorem startCopy (h : s.Kept q m) {c : Copy} : (s.startCopy c).Kept q m := h.onStore

theorem logReadBody (h : s.Kept q m) {fl : Flight} : (logReadBody fl s).Kept q m := by
  unfold Machine.logReadBody
  dsimp only
  split
  · exact h
  · split
    · exact h
    · exact h.startCopy
  · split <;> exact h
  · split
    · exact h.fresh.fresh
    · exact h.fresh
  · split
    · exact h
    · exact h.startCopy
  · exact h

theorem execLogRead (h : s.Kept q m) {dt f : Nat} : keptOut q m (execLogRead dt f s) := by
  unfold Machine.execLogRead
  extract_lets u
  have hu : u.Kept q m := (h.elapse dt).runCmd fun _ => (h.elapse dt).logReadBody
  split
  · exact hu.runCopy
  · exact hu

theorem execLogCopyResume (h : s.Kept q m) {dt : Nat} : keptOut q m (execLogCopyResume dt s) :=
  (h.elapse dt).foldl _ fun _ ha => ha.runCopy

theorem recordMarkBody (h : s.Kept q m) {fl : Flight} : (recordMarkBody fl s).Kept q m :=
  ite (fun _ => h.slug.record.takeKey) fun _ => h.slug.record

theorem execRecordMark (h : s.Kept q m) {dt f : Nat} : keptOut q m (execRecordMark dt f s) :=
  (h.elapse dt).runCmd fun _ => (h.elapse dt).recordMarkBody

end State.Kept
end Sys2Proof.Machine
end

section
/-! PROOFS. Power, proof and unit states (13) keep the state in form, or begin it anew. -/

namespace Sys2Proof.Machine

set_option Elab.async false

variable {q : List Instr} {m : Nat} {s : State}

namespace State.Kept

-- Unit states (13 R331, R332) --------------------------------------------------------------------------------

theorem choose (h : s.Kept q m) : s.choose.Kept q m := by
  unfold State.choose
  extract_lets c s1
  have h1 : s1.Kept q m := h.onPower
  exact ite (fun _ => h1) fun _ => h1.slug
theorem groupsIdle (h : s.Kept q m) : s.groupsIdle.Kept q m := h.onProbe

theorem enterState (h : s.Kept q m) {new : UState} : (s.enterState new).Kept q m := by
  unfold State.enterState
  extract_lets old rec_ u s1 s2 s3 s4 s5 s6
  have hrec {a : State} (ha : a.Kept q m) : (rec_ a).Kept q m := ha.record
  have hu : u.Kept q m := ite (fun _ => hrec h) fun _ => h
  have h1 : s1.Kept q m := hu.onUnit
  have h2 : s2.Kept q m := ite (fun _ => h1) fun _ => hrec h1
  have h3 : s3.Kept q m := ite (fun _ => h2.cleLeaveRun.batchLeaveRun) fun _ => h2
  have h4 : s4.Kept q m := ite (fun _ => h3.cleEnterRun) fun _ => h3
  have h5 : s5.Kept q m := ite (fun _ => h4.groupsIdle.portsStop) fun _ => h4
  have h6 : s6.Kept q m := h5.fansEnter.valvesEnter.dioEnter.hlRefresh
  exact choose (ite (fun _ => h6.takeKey) fun _ => h6)

theorem freeRuns (h : s.Kept q m) : s.freeRuns.Kept q m := h.foldl _ fun _ ha => ite (fun _ => ha.endPass) fun _ => ha

theorem takeApplied (h : s.Kept q m) : (s.onSup fun u => { u with applied := decide (u.gen ≠ 0) }).Kept q m := h.onSup

theorem standbyFromProof (h : s.Kept q m) : s.standbyFromProof.Kept q m := by
  unfold State.standbyFromProof
  extract_lets s1 s2 s3 s4
  have h1 : s1.Kept q m := h.onUnit
  have h2 : s2.Kept q m := h1.applyTime.applyTimers.cleRestore.takeApplied
  have h3 : s3.Kept q m := h2.ledgerRestore.applySlots.zonesInit.portsStart
  have h4 : s4.Kept q m := h3.record.freeRuns
  exact h4.fansEnter.fgRefresh.valvesEnter.dioEnter.hlRefresh.takeKey.choose

-- Unit-level resets (13 R322, R324) --------------------------------------------------------------------------

theorem dropForme (h : s.Kept q m) : s.dropForme.Kept q m := by
  unfold State.dropForme
  split
  · exact slug (h.onSup fun ⟨hp, _⟩ => ⟨hp, by simp⟩)
  · exact h

theorem muxOff (h : s.Kept q m) : s.muxOff.Kept q m := by
  unfold State.muxOff
  split
  · exact slug (h.onSvc (by simp [h.okSvc]))
  · exact h

end State.Kept

/-- What is left of a state in form after it is wiped is in form, with MT 0 and in PROOF. -/
theorem State.Kept.wiped (h : s.Kept q m) : s.wiped.Kept q 0 := by
  have hb := (State.wf_iff_kept _).1 State.reset_wf
  exact { hb with
    okValve := (List.length_map ..).trans h.okValve
    okHl := ⟨(List.length_map ..).trans h.okHl.1, hb.okHl.2⟩
    okUnit := hb.okUnit
    okPower := hb.okPower
    okSup := ⟨h.okSup.1, hb.okSup.2⟩
    okStore := ⟨h.okStore.1, hb.okStore.2⟩
    waits := h.waits }

/-- The unit has started anew: in form, with MT 0, in PROOF. -/
structure State.Anew (q : List Instr) (s : State) : Prop where
  kept : s.Kept q 0
  mt : s.time.mt = 0
  proof : s.unit.st = .proof

theorem State.hlBack_clock (s : State) : s.hlBack.time = s.time ∧ s.hlBack.unit = s.unit := by
  have hf (l : List HlSlug) (a : State) : (l.foldl State.hlSlug a).time = a.time ∧ (l.foldl State.hlSlug a).unit = a.unit := by
    induction l generalizing a with
    | nil => exact ⟨rfl, rfl⟩
    | cons x l ih => exact ⟨(ih _).1.trans (by simp [State.hlSlug]), (ih _).2.trans (by simp [State.hlSlug])⟩
  exact hf _ _

theorem State.resizeLog_clock (s : State) : s.resizeLog.time = s.time ∧ s.resizeLog.unit = s.unit := by
  unfold State.resizeLog
  dsimp only
  split <;> simp

namespace State.Kept

theorem resizeLog (h : s.Kept q m) : s.resizeLog.Kept q m :=
  ite (fun _ => h) fun _ => slug (h.onStore fun hx => hx.of (List.nil_subset _) rfl)

/-- The slugs and the fans of a unit-level reset leave the unit in PROOF at MT 0. -/
theorem restart (h : s.Kept q 0) (hmt : s.time.mt = 0) (hst : s.unit.st = .proof) {bytes : List Nat} :
    ((s.resizeLog.slug 0x14 0x1403 .info (bytes := bytes)).hlBack.coolRefresh).Anew q := by
  refine ⟨h.resizeLog.slug.hlBack.coolRefresh, ?_, ?_⟩
  · show (State.hlBack _).time.mt = 0
    rw [(State.hlBack_clock _).1, State.slug_time, (State.resizeLog_clock _).1, hmt]
  · show (State.hlBack _).unit.st = .proof
    rw [(State.hlBack_clock _).2, State.slug_unit, (State.resizeLog_clock _).2, hst]

/-- A unit-level reset starts the unit anew (13 R324). -/
theorem unitLevel (h : s.Kept q m) {kind sid : Nat} : (s.unitLevel kind sid).Anew q := by
  unfold State.unitLevel
  extract_lets iface _ u s1
  have hw := h.wiped
  have hu : u.Kept q 0 := { hw with
    okTime := ⟨rfl, rfl⟩, okLane := ⟨rfl, List.Pairwise.nil⟩, okHost := ⟨Nat.zero_le _, nofun⟩ }
  have h1 : s1.Kept q 0 := hu.onPower
  exact h1.restart rfl rfl

theorem resetNow (h : s.Kept q m) {kind sid : Nat} : (s.resetNow kind sid).Anew q := h.muxOff.dropForme.flushStore.unitLevel

end State.Kept

/-- The state that a command answers with, if it answers one, is kept, or the unit has started anew. -/
inductive SettledOut (q : List Instr) (m : Nat) : Out → Prop
  | kept {t : State} : t.Kept q m → SettledOut q m (.next t)
  | anew {t : State} : t.Anew q → SettledOut q m (.next t)
  | fault (f : Fault) : SettledOut q m (.fault f)
  | refused (r : Refusal) : SettledOut q m (.refused r)

theorem keptOut.settled {o : Out} (h : keptOut q m o) : SettledOut q m o := by
  cases o with
  | next t => exact .kept h
  | fault f => exact .fault f
  | refused r => exact .refused r

theorem SettledOut.ite {c : Prop} [Decidable c] {a b : Out} (ha : c → SettledOut q m a) (hb : ¬c → SettledOut q m b) :
    SettledOut q m (if c then a else b) := by
  split
  · exact ha ‹_›
  · exact hb ‹_›

namespace State.Kept

theorem execPowerOn (h : s.Kept q m) {dt : Nat} {straps : Straps} : SettledOut q m (execPowerOn dt straps s) :=
  .anew (((h.elapse dt).onUnit.onHl (f := fun h => { h with chs := [{}, {}] }) (h.elapse dt).okHl.1.symm).unitLevel)

theorem execSupervisorWatchdog (h : s.Kept q m) {dt : Nat} : SettledOut q m (execSupervisorWatchdog dt s) :=
  SettledOut.ite (fun _ => .anew (h.elapse dt).resetNow) fun _ => .kept (h.elapse dt)

-- Supply (13 R316 to R321) -----------------------------------------------------------------------------------

theorem execVinRangeChange (h : s.Kept q m) {dt vin : Nat} : keptOut q m (execVinRangeChange dt vin s) :=
  keptOut_ite (fun _ => trivial) fun _ => (h.elapse dt).seeVin
theorem execPowerFail (h : s.Kept q m) {dt vin : Nat} : keptOut q m (execPowerFail dt vin s) :=
  keptOut_ite (fun _ => h.elapse dt) fun _ => (h.elapse dt).seeVin.onPower.setHl.coolRefresh.slug
theorem execRideThrough (h : s.Kept q m) {dt vin : Nat} : keptOut q m (execRideThrough dt vin s) :=
  keptOut_ite (fun _ => trivial) fun _ =>
    keptOut_ite (fun _ => (h.elapse dt).seeVin.onPower.setHl.coolRefresh.slug) fun _ => h.elapse dt

theorem slugFirst (h : s.Kept q m) {put : State → State} (hput : ∀ {a : State}, a.Kept q m → (put a).Kept q m) :
    (s.slugFirst put).Kept q m := by
  unfold State.slugFirst
  extract_lets r
  exact onStore (hput (onStore h))

/-- A power commit wipes the unit: MT is 0 and it is in PROOF (13 R320). -/
theorem execPowerCommit (h : s.Kept q m) {dt holdup : Nat} : SettledOut q m (execPowerCommit dt holdup s) := by
  unfold Machine.execPowerCommit
  extract_lets u overT s1 s2 s4 s5
  have hu : u.Kept q m := h.elapse dt
  have h1 : s1.Kept q m := hu.onHost fun _ => ⟨Nat.zero_le _, by simp⟩
  have h2 : s2.Kept q m := h1.muxOff.dropForme.onPower
  have h4 : s4.Kept q m := h2.slugFirst fun ha => ha.slug
  have h5 : s5.Kept q m := by
    refine ite (fun _ => h4) fun _ => ?_
    split
    next r hr =>
      obtain ⟨-, -, -, -, -, -, -, hcols, -⟩ := h4.okStore.2 r (by simp [hr])
      exact State.Kept.ledgerSave { h4 with okCols := hcols }
    · exact h4.ledgerSave
  exact SettledOut.ite (fun _ => .anew ⟨h5.flushStore.wiped.onPower, rfl, rfl⟩) fun _ => .kept hu

-- Proof (13 R326 to R329) ------------------------------------------------------------------------------------

theorem proofSlug (h : s.Kept q m) {ok : Bool} : (s.proofSlug ok).Kept q m := h.slug
theorem stage4 (h : s.Kept q m) : s.stage4.Kept q m := ite (fun _ => h.onPower) fun _ => h

theorem stageDoes (h : s.Kept q m) {k : Nat} {ok : Bool} {item meas : Nat} {hl0 hl1 : HlMeas} :
    (s.stageDoes k ok item meas hl0 hl1).Kept q m := by
  unfold State.stageDoes
  split
  · exact h.onValve
  · have ha := (h.seeHl (ch := 0) (x := hl0)).seeHl (ch := 1) (x := hl1)
    exact ite (fun _ => ha.setHl (hr := ha.okHl.2.2.symm)) fun _ => ha.hlLatch
  · exact ite (fun _ => h.onPower.mountStore) fun _ => ite (fun _ => h.onPower) fun _ => h
  · exact h

theorem proofEnd (h : s.Kept q m) {recovery : Bool} : (s.proofEnd recovery).Kept q m := by
  unfold State.proofEnd
  extract_lets ok s1 s2 s3
  have h2 : s2.Kept q m := h.presetIns.onPower.proofSlug
  have h3 : s3.Kept q m := ite (fun _ => h2.onStore.nextProgram) fun _ => h2
  exact ite (fun _ => h2.onStore.standbyFromProof.nextProgram) fun _ => h3.enterState

theorem stageEnd (h : s.Kept q m) {pass : Bool} {item time meas : Nat} {hl0 hl1 : HlMeas} :
    (s.stageEnd pass item time meas hl0 hl1).Kept q m := by
  unfold State.stageEnd
  extract_lets k cBad ok it s1
  have h1 : s1.Kept q m := h.stageDoes.onPower
  exact ite (fun _ => h1.onPower) fun _ => ite (fun _ => h1.proofEnd) fun _ => ite (fun _ => h1.proofEnd) fun _ => h1.onPower.stage4

theorem execProofStageEnd (h : s.Kept q m) {dt : Nat} {pass : Bool} {item time meas : Nat} {hl0 hl1 : HlMeas} :
    keptOut q m (execProofStageEnd dt pass item time meas hl0 hl1 s) :=
  keptOut_ite (fun _ => (h.elapse dt).stageEnd) fun _ => h.elapse dt
theorem execProofVinReady (h : s.Kept q m) {dt vin : Nat} : keptOut q m (execProofVinReady dt vin s) :=
  keptOut_ite (fun _ => trivial) fun _ => keptOut_ite (fun _ => (h.elapse dt).seeVin.onPower) fun _ => h.elapse dt
theorem execProofVinTimeout (h : s.Kept q m) {dt : Nat} : keptOut q m (execProofVinTimeout dt s) :=
  keptOut_ite (fun _ => (h.elapse dt).stageEnd) fun _ => h.elapse dt

-- Internal temperature and power states (13 R333 to R341) ----------------------------------------------------

theorem seeTemp (h : s.Kept q m) {t : Int} : (s.seeTemp t).Kept q m :=
  coolRefresh (ite (fun _ => h.onPower.slug) fun _ => h.onPower)

theorem execTIntThreshold (h : s.Kept q m) {dt : Nat} {t : Int} : keptOut q m (execTIntThreshold dt t s) := (h.elapse dt).seeTemp

theorem execOvertemp (h : s.Kept q m) {dt : Nat} {t : Int} : keptOut q m (execOvertemp dt t s) :=
  keptOut_ite (fun _ => ite (fun _ => (h.elapse dt).seeTemp.onPower.slug.enterState) fun _ =>
    (h.elapse dt).seeTemp.onPower.slug) fun _ => h.elapse dt

theorem enterPower (h : s.Kept q m) {k : Nat} : (s.enterPower k).Kept q m :=
  ite (fun _ => h.onPower.tmLf.holdBase.onTime) fun _ => h.onPower.tmLf

theorem execPowerStateEntry (h : s.Kept q m) {dt : Nat} : SettledOut q m (execPowerStateEntry dt s) := by
  unfold Machine.execPowerStateEntry
  extract_lets u
  have hu : u.Kept q m := (h.elapse dt).choose
  split
  · exact SettledOut.ite (fun _ => .kept hu.enterPower) fun _ => .kept hu
  · exact .kept hu

theorem wakeUp (h : s.Kept q m) : s.wakeUp.Kept q m :=
  ite (fun _ => h) fun _ => ite (fun _ => h.enterPower.heat.onPower) fun _ => h.enterPower.heat

theorem execPlannedWake (h : s.Kept q m) {dt : Nat} : keptOut q m (execPlannedWake dt s) := by
  unfold Machine.execPlannedWake
  exact keptOut_ite (fun _ => (h.elapse dt).wakeUp) fun _ => h.elapse dt
theorem execWake (h : s.Kept q m) {dt src : Nat} : keptOut q m (execWake dt src s) :=
  keptOut_ite (fun _ => h.elapse dt) fun _ => (h.elapse dt).wakeUp
theorem execDebugHalt (h : s.Kept q m) {dt : Nat} : keptOut q m (execDebugHalt dt s) := (h.elapse dt).onPower.tmLf
theorem execDebugRelease (h : s.Kept q m) {dt : Nat} : keptOut q m (execDebugRelease dt s) :=
  keptOut_ite (fun _ => (h.elapse dt).onPower.tmLf) fun _ => h.elapse dt

theorem latencySetBody (h : s.Kept q m) {fl : Flight} : (latencySetBody fl s).Kept q m := by
  unfold Machine.latencySetBody
  extract_lets op c s1 s2
  have h1 : s1.Kept q m := ite (fun _ => h) fun _ => h.onSession
  split
  · exact h
  · exact h1.choose

theorem execLatencySet (h : s.Kept q m) {dt f : Nat} : keptOut q m (execLatencySet dt f s) :=
  (h.elapse dt).runCmd fun _ => (h.elapse dt).latencySetBody

end State.Kept
end Sys2Proof.Machine
end

section
/-! PROOFS. Sessions, queues, lanes and the service block (14, 17, 18) keep the state in form. -/

namespace Sys2Proof.Machine

set_option Elab.async false

variable {q : List Instr} {m : Nat} {s : State}

-- What a session sends (14 R356) -----------------------------------------------------------------------------

theorem Session.shaped.sendFrame {x : Session} (h : x.shaped) {now : Nat} {fr : UnitFrame} : (sendFrame now x fr).shaped := by
  unfold Machine.sendFrame
  split <;> exact h

theorem Session.shaped.pump {now k : Nat} {x : Session} (h : x.shaped) : (pump now k x).shaped := by
  induction k generalizing x with
  | zero => exact h
  | succ k ih =>
    unfold Machine.pump
    split
    · exact h
    next fr r _ =>
      have hs : (Machine.sendFrame now { x with txq := [] } fr).shaped := Session.shaped.sendFrame (x := { x with txq := [] }) h
      split
      · exact ih hs
      · exact h

theorem Session.shaped.takeAck {x : Session} (h : x.shaped) {now ack : Nat} : (takeAck now ack x).shaped :=
  Session.shaped.pump (x := { x with unacked := _ }) h

/-- Sessions that end leave the others as they are. -/
theorem HostSt.shaped.filter {x : HostSt} (h : x.shaped) {p : Session → Bool} :
    (x.sessions.filter p).length ≤ 16 ∧ ∀ y ∈ x.sessions.filter p, y.shaped :=
  ⟨(List.length_filter_le ..).trans h.1, fun y hy => h.2 y (List.mem_filter.1 hy).1⟩

namespace State.Kept

theorem send (h : s.Kept q m) {sid : Nat} {fr : UnitFrame} : (s.send sid fr).Kept q m := h.onSession fun _ hx => hx.sendFrame

theorem clearMux (h : s.Kept q m) {sid : Nat} : (s.clearMux sid).Kept q m := ite (fun _ => h.muxOff) fun _ => h

theorem endSession (h : s.Kept q m) {sid reason : Nat} {close : Bool} : (s.endSession sid reason close).Kept q m := by
  unfold State.endSession
  split
  · exact h
  next x _ =>
    extract_lets s1 s2
    have h1 : s1.Kept q m := onHost h fun hx => hx.filter
    have h2 : s2.Kept q m := ite (fun _ => h1.audit) fun _ => h1
    exact h2.fansSession.fgRefresh.valvesSession.clearMux.choose

theorem noSession (h : s.Kept q m) {assoc : Nat} : (s.noSession assoc).Kept q m := by
  unfold State.noSession
  split
  · exact h
  · exact h.onHost.slug

-- Handshakes and the timers of a session (14 R348 to R357, R373) ---------------------------------------------

theorem refuseShake (h : s.Kept q m) {assoc : Nat} : (s.refuseShake assoc).Kept q m := h.onHost

theorem execClientHello (h : s.Kept q m) {dt port assoc : Nat} {cookie offerOk : Bool} :
    keptOut q m (execClientHello dt port assoc cookie offerOk s) := by
  unfold Machine.execClientHello
  extract_lets u known busy agreed_ agree add
  have hu : u.Kept q m := h.elapse dt
  exact keptOut_ite (fun _ => hu) fun _ => keptOut_ite (fun _ => hu.onHost) fun _ => keptOut_ite (fun _ => hu.onHost) fun _ =>
    keptOut_ite (fun _ => hu) fun _ => keptOut_ite (fun _ => hu.refuseShake) fun _ => onHost hu

theorem execHandshakeDone (h : s.Kept q m) {dt assoc fp : Nat} {certOk : Bool} :
    keptOut q m (execHandshakeDone dt assoc fp certOk s) := by
  unfold Machine.execHandshakeDone
  extract_lets u
  have hu : u.Kept q m := h.elapse dt
  split
  · exact hu
  · exact keptOut_ite (fun _ => hu) fun _ => keptOut_ite (fun _ => hu.onHost) fun _ => hu.refuseShake

theorem execHandshakeTimeout (h : s.Kept q m) {dt assoc : Nat} : keptOut q m (execHandshakeTimeout dt assoc s) :=
  keptOut_ite (fun _ => (h.elapse dt).refuseShake) fun _ => h.elapse dt
theorem execSessionOpenTimeout (h : s.Kept q m) {dt assoc : Nat} : keptOut q m (execSessionOpenTimeout dt assoc s) :=
  keptOut_ite (fun _ => (h.elapse dt).noSession) fun _ => h.elapse dt
theorem execEthernetLinkChange (h : s.Kept q m) {dt port : Nat} {up : Bool} {speed : Nat} :
    keptOut q m (execEthernetLinkChange dt port up speed s) :=
  keptOut_ite (fun _ => h.elapse dt) fun _ => (h.elapse dt).onHost

theorem execFrameRetransmit (h : s.Kept q m) {dt sid : Nat} : keptOut q m (execFrameRetransmit dt sid s) := by
  unfold Machine.execFrameRetransmit
  extract_lets u
  have hu : u.Kept q m := h.elapse dt
  split
  · exact hu
  · refine keptOut_ite (fun _ => hu) fun _ => ?_
    split
    · exact hu
    · exact keptOut_ite (fun _ => hu.endSession) fun _ => hu.onSession.onHost

theorem execAckTimer (h : s.Kept q m) {dt sid : Nat} : keptOut q m (execAckTimer dt sid s) := by
  unfold Machine.execAckTimer
  extract_lets u
  have hu : u.Kept q m := h.elapse dt
  split
  · exact hu
  · exact keptOut_ite (fun _ => hu.onSession.onHost) fun _ => hu

theorem execSessionTimeout (h : s.Kept q m) {dt sid : Nat} : keptOut q m (execSessionTimeout dt sid s) := by
  unfold Machine.execSessionTimeout
  extract_lets u
  have hu : u.Kept q m := h.elapse dt
  split
  · exact hu
  · exact keptOut_ite (fun _ => hu.endSession) fun _ => hu

theorem execKeepaliveSend (h : s.Kept q m) {dt sid : Nat} : keptOut q m (execKeepaliveSend dt sid s) := by
  unfold Machine.execKeepaliveSend
  extract_lets u
  have hu : u.Kept q m := h.elapse dt
  split
  · exact hu
  · exact keptOut_ite (fun _ => hu.send) fun _ => hu

theorem execLingerExpiry (h : s.Kept q m) {dt sid : Nat} : keptOut q m (execLingerExpiry dt sid s) := by
  unfold Machine.execLingerExpiry
  extract_lets u gone s1
  have hu : u.Kept q m := h.elapse dt
  have h1 : s1.Kept q m := hu.abortCopies
  exact keptOut_ite (fun _ => h1.onHost.onProbe) fun _ => hu

-- Queues (14 R358, R359, R364, R366) -------------------------------------------------------------------------

theorem makeQueue (h : s.Kept q m) {sid n depth cq coalN cls coalT : Nat} :
    (s.makeQueue sid n depth cq coalN cls coalT).2.Kept q m := by
  unfold State.makeQueue
  split
  · exact h
  · split
    · exact h
    · split
      · exact h
      · dsimp only
        exact h.onHost

theorem dropQueue (h : s.Kept q m) {sid n : Nat} : (s.dropQueue sid n).2.Kept q m := by
  unfold State.dropQueue
  split
  · exact h
  next x _ =>
    extract_lets busy s1
    have h1 : s1.Kept q m := h.abortCopies
    split
    · exact h
    · dsimp only
      exact h1.onHost

theorem doorbell (h : s.Kept q m) {sid n idx : Nat} : (s.doorbell sid n idx).2.Kept q m := by
  unfold State.doorbell
  split
  · exact h
  · dsimp only
    split
    · split
      · exact h.onQueue
      · exact h
    · split
      · exact h.onQueue
      · exact h

theorem execDeliver (h : s.Kept q m) {dt n : Nat} : keptOut q m (execDeliver dt n s) := by
  unfold Machine.execDeliver
  extract_lets u
  have hu : u.Kept q m := h.elapse dt
  split
  · exact hu
  · exact keptOut_ite (fun _ => hu) fun _ => hu.onQueue.send

-- Fetch, start and time limits (14 R367 to R371) -------------------------------------------------------------

theorem execCommandFetch (h : s.Kept q m) {dt sq : Nat} : keptOut q m (execCommandFetch dt sq s) := by
  unfold Machine.execCommandFetch
  extract_lets u
  have hu : u.Kept q m := h.elapse dt
  split
  · exact hu
  · refine keptOut_ite (fun _ => hu) fun _ => keptOut_ite (fun _ => hu.onQueue) fun _ => keptOut_ite (fun _ => hu) fun _ => ?_
    split
    next e rest ses _ _ =>
      extract_lets st fl s1
      have h1 : s1.Kept q m := hu.onQueue.onHost
      clear_value st
      split
      · exact h1.complete
      · exact h1
    · exact hu

theorem execCommandStart (h : s.Kept q m) {dt f : Nat} : keptOut q m (execCommandStart dt f s) := by
  unfold Machine.execCommandStart
  extract_lets u
  have hu : u.Kept q m := h.elapse dt
  split
  · exact hu
  · refine keptOut_ite (fun _ => hu) fun _ => ?_
    split
    · exact hu.complete
    · exact keptOut_ite (fun _ => hu.complete) fun _ => keptOut_ite (fun _ => hu.onFlight.onLane) fun _ => hu.onFlight

theorem execCommandTimeout (h : s.Kept q m) {dt f : Nat} : keptOut q m (execCommandTimeout dt f s) := by
  unfold Machine.execCommandTimeout
  extract_lets u
  have hu : u.Kept q m := h.elapse dt
  split
  · exact hu
  · exact keptOut_ite (fun _ => hu) fun _ => hu.complete

theorem waitersBack (h : s.Kept q m) {t startMt : Nat} : (s.waitersBack t startMt).Kept q m := by
  unfold State.waitersBack
  extract_lets start waits late hold
  exact foldl (onHost h) _ fun _ ha => ha.complete

theorem execResetWaitExpiry (h : s.Kept q m) {dt f : Nat} : keptOut q m (execResetWaitExpiry dt f s) := by
  unfold Machine.execResetWaitExpiry
  extract_lets u
  have hu : u.Kept q m := h.elapse dt
  split
  · exact hu
  · exact keptOut_ite (fun _ => hu.complete) fun _ => hu

end State.Kept
end Sys2Proof.Machine

namespace Sys2Proof.Machine

set_option Elab.async false

variable {q : List Instr} {m : Nat} {s : State}

/-- A change of the values leaves the keys in order. -/
theorem keysRise_map {α : Type} {t : Sparse α} {f : Nat × α → Nat × α} (hf : ∀ p, (f p).1 = p.1) (h : keysRise t) :
    keysRise (t.map f) := by
  unfold keysRise
  rw [List.pairwise_map]
  exact h.imp fun hab => by simpa [hf] using hab

namespace State.Kept

-- Peers and machine time on the lanes (02 R36 to R39, 17 R434) -----------------------------------------------

theorem onLaneAt (h : s.Kept q m) {l : Nat} {f : Lane → Lane} : (s.onLaneAt l f).Kept q m :=
  h.onLane fun ⟨hl, hn⟩ => ⟨(List.length_modify ..).trans hl, hn⟩

theorem dupCheck (h : s.Kept q m) : s.dupCheck.Kept q m := by
  unfold State.dupCheck
  split
  · exact h.onTime
  · exact ite (fun _ => h) fun _ => h.onTime.slug

theorem masterCheck (h : s.Kept q m) : s.masterCheck.Kept q m := by
  unfold State.masterCheck
  exact ite (fun _ => h) fun _ => ite (fun _ => ite (fun _ => h) fun _ => h.onTime) fun _ => h.onLane.onTime

theorem peersRefresh (h : s.Kept q m) : s.peersRefresh.Kept q m := h.dupCheck.masterCheck
theorem takeDelay (h : s.Kept q m) {l delay : Nat} : (s.takeDelay l delay).Kept q m := h.onLaneAt

/-- A step of MT goes forward only (02 R38). -/
theorem execSyncCellReceive (h : s.Kept q m) {dt l masterMt masterId serial : Nat} {offset : Int} {delay : Nat} :
    keptOut q m (execSyncCellReceive dt l masterMt masterId serial offset delay s) := by
  unfold Machine.execSyncCellReceive
  extract_lets uE u s1 k s2 s3 v good n
  have hu : u.Kept q m := ite (fun _ => (h.elapse dt).takeDelay) fun _ => h.elapse dt
  have h1 : s1.Kept q m := hu.onLane.onTime
  have h2 : s2.Kept q m := h1.onTime.mapReprint
  have h3 : s3.Kept q m := h2.slug.record
  have hv : v.2.Kept q m := h1.fresh
  exact keptOut_ite (fun _ => hu) fun _ => keptOut_ite (fun _ => ite (fun _ => h3) fun _ => h3.crossBase) fun _ => hv.onTime

theorem execSyncCellSend (h : s.Kept q m) {dt : Nat} : keptOut q m (execSyncCellSend dt s) :=
  keptOut_ite (fun _ => (h.elapse dt).onLane) fun _ => h.elapse dt

-- Lanes (17 R426 to R432) ------------------------------------------------------------------------------------

theorem execSfpModuleChange (h : s.Kept q m) {dt l : Nat} {x : Sfp} : keptOut q m (execSfpModuleChange dt l x s) :=
  (h.elapse dt).onLaneAt

theorem execLaneUp (h : s.Kept q m) {dt l : Nat} : keptOut q m (execLaneUp dt l s) := by
  unfold Machine.execLaneUp
  extract_lets u x s1 mate s2
  have hu : u.Kept q m := h.elapse dt
  have h1 : s1.Kept q m := hu.onLaneAt
  have h2 : s2.Kept q m := ite (fun _ => h1.onLaneAt.onLaneAt) fun _ => h1
  exact keptOut_ite (fun _ => hu) fun _ => h2.slug.peersRefresh

theorem execLaneDown (h : s.Kept q m) {dt l hop : Nat} : keptOut q m (execLaneDown dt l hop s) := by
  unfold Machine.execLaneDown
  extract_lets u x s1 mate s2
  have hu : u.Kept q m := h.elapse dt
  have h1 : s1.Kept q m := hu.onLaneAt
  have h2 : s2.Kept q m := ite (fun _ => h1.onLaneAt.onLaneAt) fun _ => h1
  exact keptOut_ite (fun _ => hu) fun _ => h2.slug.peersRefresh

theorem execDiscoverCell (h : s.Kept q m) {dt l : Nat} {info : NodeInfo} : keptOut q m (execDiscoverCell dt l info s) := by
  unfold Machine.execDiscoverCell
  exact keptOut_ite (fun _ => h.elapse dt) fun _ => (h.elapse dt).onLaneAt.peersRefresh

-- Node stations (17 R440 to R443) ----------------------------------------------------------------------------

theorem breakNode (h : s.Kept q m) {st : Nat} {own : Option Nat} : (s.breakNode st own).Kept q m :=
  h.onLane.foldl _ fun _ ha => ha.complete

theorem nodeBack (h : s.Kept q m) {st : Nat} {n : Node} {info : NodeInfo} : (s.nodeBack st n info).Kept q m := by
  unfold State.nodeBack
  split
  · exact h
  · exact ite (fun _ => h) fun _ => ite (fun _ => h.onNode.complete) fun _ => ite (fun _ => h.onNode.complete) fun _ => h

theorem execStatusCell (h : s.Kept q m) {dt l pos : Nat} {info : NodeInfo} : keptOut q m (execStatusCell dt l pos info s) := by
  unfold Machine.execStatusCell
  extract_lets u home s1 st n e s2 now_ stays away s2' s3 s4
  have hu : u.Kept q m := h.elapse dt
  have h1 : s1.Kept q m := hu.onLaneAt
  have h2 : s2.Kept q m := h1.onNode
  have h2' : s2'.Kept q m := h1.onNode
  have h3 : s3.Kept q m := ite (fun _ => h2'.breakNode) fun _ => h2'
  have h4 : s4.Kept q m := ite (fun _ => h3) fun _ => h3.nodeBack
  exact keptOut_ite (fun _ => hu) fun _ => keptOut_ite (fun _ => h1) fun _ =>
    keptOut_ite (fun _ => peersRefresh (ite (fun _ => h2) fun _ => h2.slug)) fun _ =>
      peersRefresh (ite (fun _ => h4.waitersBack) fun _ => h4)

theorem execStatusCellSend (h : s.Kept q m) {dt l : Nat} : keptOut q m (execStatusCellSend dt l s) :=
  keptOut_ite (fun _ => (h.elapse dt).onLaneAt) fun _ => h.elapse dt

theorem nodeGone (h : s.Kept q m) {st : Nat} : (s.nodeGone st).Kept q m := h.onNode.breakNode.slug.peersRefresh

theorem execNodeLost (h : s.Kept q m) {dt st : Nat} : keptOut q m (execNodeLost dt st s) := by
  unfold Machine.execNodeLost
  extract_lets u n due waits
  have hu : u.Kept q m := h.elapse dt
  split
  · exact hu
  · exact hu
  · exact ite (fun _ => hu.onNode.peersRefresh) fun _ => hu
  · exact keptOut_ite (fun _ => hu.nodeGone) fun _ => hu

theorem execNodeUpdateTimeout (h : s.Kept q m) {dt st : Nat} : keptOut q m (execNodeUpdateTimeout dt st s) := by
  unfold Machine.execNodeUpdateTimeout
  extract_lets u n
  have hu : u.Kept q m := h.elapse dt
  split
  · exact keptOut_ite (fun _ => ite (fun _ => hu.onNode.complete.nodeGone) fun _ => hu.onNode.complete) fun _ => hu
  · exact hu

theorem execControlCell (h : s.Kept q m) {dt st cseq status : Nat} {result : List Nat} :
    keptOut q m (execControlCell dt st cseq status result s) := by
  unfold Machine.execControlCell
  extract_lets u
  have hu : u.Kept q m := h.elapse dt
  generalize cseq - 65536 = k
  split
  · split
    · exact onLane hu
    · exact hu
  · refine keptOut_ite (fun _ => hu) fun _ => ?_
    split
    · exact hu.onLane
    · split
      · exact hu.onLane.complete
      · exact hu.onLane

theorem execControlCellRetransmit (h : s.Kept q m) {dt st : Nat} : keptOut q m (execControlCellRetransmit dt st s) := by
  unfold Machine.execControlCellRetransmit
  extract_lets u
  have hu : u.Kept q m := h.elapse dt
  split
  · exact hu
  · exact keptOut_ite (fun _ => hu.nodeGone) fun _ => hu.onLane.onLaneAt

theorem execBulkCell (h : s.Kept q m) {dt st : Nat} : keptOut q m (execBulkCell dt st s) := by
  unfold Machine.execBulkCell
  extract_lets u
  have hu : u.Kept q m := h.elapse dt
  split
  · exact hu
  · split
    · exact hu.onLane.onSup.complete
    · exact hu.onLane

-- Tokens from nodes and peers (17 R444, R445, R448) ----------------------------------------------------------

theorem peerTok (h : s.Kept q m) {tok : RecTok} : (s.peerTok tok).Kept q m := by
  unfold State.peerTok
  extract_lets put
  split
  · exact ite (fun _ => h) fun _ => h.onLane.fgRefresh
  · exact h.onLane.fgRefresh
  · exact h

theorem execRecordCell (h : s.Kept q m) {dt st epoch seq : Nat} {tok : RecTok} : keptOut q m (execRecordCell dt st epoch seq tok s) := by
  unfold Machine.execRecordCell
  extract_lets u n gap s1
  have hu : u.Kept q m := h.elapse dt
  have h1 : s1.Kept q m := hu.onNode.onLaneAt
  refine keptOut_ite (fun _ => hu) fun _ => keptOut_ite (fun _ => h1) fun _ => ?_
  split
  · exact keptOut_ite (fun _ => h1) fun _ => h1.deliverReading
  · exact keptOut_ite (fun _ => h1.record.peerTok) fun _ => h1

theorem execPeerZoneExport (h : s.Kept q m) {dt : Nat} : keptOut q m (execPeerZoneExport dt s) :=
  keptOut_ite (fun _ => h.elapse dt) fun _ => keptOut_ite (fun _ => (h.elapse dt).onLane) fun _ => h.elapse dt
theorem execPeerBoostSend (h : s.Kept q m) {dt g : Nat} : keptOut q m (execPeerBoostSend dt g s) :=
  keptOut_ite (fun _ => h.elapse dt) fun _ => keptOut_ite (fun _ => (h.elapse dt).onFg) fun _ => h.elapse dt

theorem execPeerTimeout (h : s.Kept q m) {dt nodeId : Nat} : keptOut q m (execPeerTimeout dt nodeId s) := by
  unfold Machine.execPeerTimeout
  extract_lets u old
  have hu : u.Kept q m := h.elapse dt
  exact fgRefresh (onLane hu)

-- Trips (17 R429, R437 to R439) ------------------------------------------------------------------------------

theorem execTripBlockReceive (h : s.Kept q m) {dt l st bits seq : Nat} {crcOk : Bool} :
    keptOut q m (execTripBlockReceive dt l st bits seq crcOk s) := by
  unfold Machine.execTripBlockReceive
  extract_lets u was chg old s1 one
  have hu : u.Kept q m := h.elapse dt
  have h1 : s1.Kept q m := hu.onLaneAt.onLane
  have hone {i : Nat} {w : Bool} {a : State} (ha : a.Kept q m) : (one i w a).Kept q m :=
    ite (fun _ => ha.record.ftripApply.liveTrip) fun _ => ha.record.ftripApply
  exact keptOut_ite (fun _ => hu) fun _ => keptOut_ite (fun _ => hu.onLaneAt) fun _ => keptOut_ite (fun _ => h1) fun _ => hone (hone h1)

theorem execTripBlockRepeat (h : s.Kept q m) {dt : Nat} : keptOut q m (execTripBlockRepeat dt s) :=
  keptOut_ite (fun _ => (h.elapse dt).onLane) fun _ => h.elapse dt

theorem execTripCellReceive (h : s.Kept q m) {dt st bits : Nat} : keptOut q m (execTripCellReceive dt st bits s) := by
  unfold Machine.execTripCellReceive
  extract_lets u
  have hu : u.Kept q m := h.elapse dt
  split
  · exact hu
  · exact keptOut_ite (fun _ => hu) fun _ => hu.onLane.slug

theorem execTripCellRepeat (h : s.Kept q m) {dt : Nat} : keptOut q m (execTripCellRepeat dt s) :=
  keptOut_ite (fun _ => (h.elapse dt).onLane) fun _ => h.elapse dt

-- Commands and registers (17 R446, R450) ---------------------------------------------------------------------

theorem laneStatusBody (h : s.Kept q m) {fl : Flight} : (laneStatusBody fl s).Kept q m := by
  unfold Machine.laneStatusBody
  dsimp only
  split
  · exact h
  · split
    · exact h
    · split <;> exact h
    · exact h
    · exact h

theorem execLaneStatus (h : s.Kept q m) {dt f : Nat} : keptOut q m (execLaneStatus dt f s) :=
  (h.elapse dt).runCmd fun _ => (h.elapse dt).laneStatusBody

theorem nodeResetBody (h : s.Kept q m) {fl : Flight} : (nodeResetBody fl s).Kept q m := by
  unfold Machine.nodeResetBody
  dsimp only
  split
  · exact h
  · split
    · exact h
    · exact h.onNode.breakNode

theorem execNodeReset (h : s.Kept q m) {dt f : Nat} : keptOut q m (execNodeReset dt f s) :=
  (h.elapse dt).runCmd fun _ => (h.elapse dt).nodeResetBody

theorem lanesRestart (h : s.Kept q m) {which : Nat → Bool} : (s.lanesRestart which).Kept q m := by
  unfold State.lanesRestart
  extract_lets u
  have hu : u.Kept q m := h.foldl _ fun _ ha => ha.slug
  refine onLane hu fun ⟨hl, hn⟩ => ⟨by simpa using hl, keysRise_map (fun p => ?_) hn⟩
  split <;> rfl

-- The service block (18) -------------------------------------------------------------------------------------

theorem execAckKey (h : s.Kept q m) {dt released : Nat} : keptOut q m (execAckKey dt released s) :=
  keptOut_ite (fun _ => h.elapse dt) fun _ => (h.elapse dt).onSvc.slug
theorem execLampTest (h : s.Kept q m) {dt : Nat} : keptOut q m (execLampTest dt s) :=
  keptOut_ite (fun _ => (h.elapse dt).onSvc) fun _ => h.elapse dt
theorem execLampTestEnd (h : s.Kept q m) {dt : Nat} : keptOut q m (execLampTestEnd dt s) :=
  keptOut_ite (fun _ => (h.elapse dt).onSvc) fun _ => h.elapse dt
theorem execAckStuck (h : s.Kept q m) {dt : Nat} : keptOut q m (execAckStuck dt s) :=
  keptOut_ite (fun _ => (h.elapse dt).onSvc.slug) fun _ => h.elapse dt
theorem execStrapSample (h : s.Kept q m) {dt : Nat} {straps : Straps} : keptOut q m (execStrapSample dt straps s) :=
  keptOut_ite (fun _ => (h.elapse dt).onUnit.slug) fun _ => h.elapse dt
theorem execUsbAttach (h : s.Kept q m) {dt : Nat} : keptOut q m (execUsbAttach dt s) := (h.elapse dt).wakeUp.onSvc
theorem execUsbDetach (h : s.Kept q m) {dt : Nat} : keptOut q m (execUsbDetach dt s) := (h.elapse dt).onSvc

theorem testmuxSetBody (h : s.Kept q m) {fl : Flight} : (testmuxSetBody fl s).Kept q m := by
  unfold Machine.testmuxSetBody
  extract_lets out code sel s1 s2
  have hsel : sel.length = s.svc.sel.length := by
    unfold sel
    split
    · exact h.okSvc.symm
    · exact List.length_set
  have h2 : s2.Kept q m := choose (ite (fun _ => onSvc h hsel) fun _ => h.muxOff)
  split
  · exact h
  · split
    · exact h
    · split
      · exact h
      · exact h2

theorem execTestmuxSet (h : s.Kept q m) {dt f : Nat} : keptOut q m (execTestmuxSet dt f s) :=
  (h.elapse dt).runCmd fun _ => (h.elapse dt).testmuxSetBody

end State.Kept
end Sys2Proof.Machine
end

section
/-! PROOFS. The register file and the supervisor (20, 15) keep the state in form. -/

namespace Sys2Proof.Machine

set_option Elab.async false

variable {q : List Instr} {m : Nat} {s : State}

-- The saved live state of a reprint (16 R413, R416) ----------------------------------------------------------

/-- The epochs of an image in place of those of the reprinted stations. -/
theorem UnitSt.shaped.putEpochs {x : UnitSt} (h : x.shaped) {es : List Nat} (hes : ∀ e ∈ es, e < 256) :
    ({ x with epochs := x.epochs.mapIdx fun k e => if 1 ≤ k ∧ k ≤ 10 then es.getD k e else e } : UnitSt).shaped := by
  refine ⟨(List.length_mapIdx ..).trans h.1, fun e he => ?_⟩
  obtain ⟨k, hk, rfl⟩ := List.mem_mapIdx.1 he
  have hold : x.epochs[k] < 256 := h.2 _ (List.getElem_mem hk)
  split
  · rw [List.getD_eq_getElem?_getD]
    cases hg : es[k]? with
    | none => exact hold
    | some y => exact hes y (List.mem_of_getElem? hg)
  · exact hold

namespace State.Kept

theorem putStations (h : s.Kept q m) {i : Image} (hi : i.shaped) : (s.putStations i).Kept q m := by
  obtain ⟨w1, w2, i1, i2, i3, i4, tm, cl, p1, p2, c1, c2, l1, l2, -, -, -, e2⟩ := hi
  have hunit := h.okUnit.putEpochs e2
  exact { h with
    okTime := ⟨w1, w2⟩, okImp := ⟨i1, i2, i3, i4⟩, okTimers := tm, okCols := cl, okProbe := ⟨p1, p2⟩, okPica := ⟨c1, c2⟩
    okCle := ⟨l1, l2⟩, okDio := ⟨(List.length_mapIdx ..).trans h.okDio.1, h.okDio.2⟩, okUnit := hunit }

/-- Leaving the reprint out keeps the state. -/
theorem noReprint (h : s.Kept q m) : State.Kept q m { s with store := { s.store with reprint := none } } :=
  { h with okStore := ⟨h.okStore.1, by simp⟩ }

/-- The live state with a reprint put back keeps it where the reprint's saved state is in form. -/
theorem backReprint (h : s.Kept q m) {r : Reprint} (hr : r.saved.shaped) {buf : List InRec} {recIdx lost lostMt : Nat} :
    (s.onStore fun t => { t with reprint := some r, buf, recIdx, lost, lostMt }).Kept q m :=
  h.onStore fun hx => ⟨hx.1, fun y hy => by
    obtain rfl : y = r := by simpa using hy
    exact hr⟩

end State.Kept

/-- The image of a state in form keeps its shape with other epochs of that shape. -/
theorem Image.shaped.withEpochs {x y : Image} (hx : x.shaped) (hy : y.shaped) : ({ x with epochs := y.epochs } : Image).shaped := by
  obtain ⟨a1, a2, a3, a4, a5, a6, a7, a8, a9, a10, a11, a12, a13, a14, a15, a16, -, -⟩ := hx
  obtain ⟨-, -, -, -, -, -, -, -, -, -, -, -, -, -, -, -, e1, e2⟩ := hy
  exact ⟨a1, a2, a3, a4, a5, a6, a7, a8, a9, a10, a11, a12, a13, a14, a15, a16, e1, e2⟩

namespace State.Kept

/-- A status and a kept state. -/
theorem answer (h : s.Kept q m) {status : Nat} : ((status, s) : Nat × State).2.Kept q m := h

theorem onLiveStations (h : s.Kept q m) {f : State → Nat × State} (hf : ∀ {a : State}, a.Kept q m → (f a).2.Kept q m) :
    (s.onLiveStations f).2.Kept q m := by
  unfold State.onLiveStations
  split
  · exact hf h
  next r hr =>
    extract_lets shown _ live a saved _ back
    have hsaved : r.saved.shaped := h.okStore.2 r (by simp [hr])
    have hlive : live.Kept q m := (h.noReprint.putStations hsaved).onUnit
    have ha : a.2.Kept q m := hf hlive
    have hback : back.Kept q m := ha.backReprint (ha.image.withEpochs hsaved)
    dsimp only
    exact putStations hback.onUnit h.image

-- What a word reads (20 R480, R481) --------------------------------------------------------------------------

theorem refreshFree (h : s.Kept q m) {a : Nat} : (s.refreshFree a).2.Kept q m := by
  unfold State.refreshFree
  split
  · dsimp only
    exact ite (fun _ => h.fresh.onPower) fun _ => ite (fun _ => h.fresh.onPower) fun _ => h.fresh
  · exact h

/-- What a session latches stays in order. -/
theorem latchWord (h : s.Kept q m) {sid a v : Nat} :
    (s.onSession sid fun y => { y with latches := spSet 0 y.latches a v }).Kept q m :=
  h.onSession fun _ hx => ⟨hx.1, keysRise_spSet _ _ _ hx.2⟩

theorem readWord (h : s.Kept q m) {sid a : Nat} : (s.readWord sid a).2.Kept q m := by
  unfold State.readWord
  split
  · exact h
  · split
    · exact h
    · extract_lets f v
      have hf : f.2.Kept q m := h.refreshFree
      split
      · exact hf.latchWord
      · exact hf

-- What a write does (20 R482 to R494) ------------------------------------------------------------------------

theorem writeWs (h : s.Kept q m) {a v : Nat} : (s.writeWs a v).2.Kept q m := by
  unfold State.writeWs
  split
  · exact h
  next o ho =>
    split
    · exact h
    · dsimp only
      refine onSup h fun ⟨hp, hall⟩ => ⟨hp, fun x hx => ?_⟩
      obtain rfl := Option.some.inj (Option.mem_toList.1 hx)
      exact hall o (by simp [ho])

theorem writeLoop (h : s.Kept q m) {l off v : Nat} : (s.writeLoop l off v).2.Kept q m := by
  unfold State.writeLoop
  extract_lets i
  split
  · exact h.loopWrite
  · exact h

/-- The clears of IMP_CTRL move counters alone. -/
theorem impClear (h : s.Kept q m) {c d : Bool} :
    (s.onImp fun i =>
      let j := if c then i.cntClr else i
      if d then j.latClr else j).Kept q m :=
  h.onImp fun hx => by cases c <;> cases d <;> exact hx

theorem writeStations (h : s.Kept q m) {a v : Nat} : (s.writeStations a v).2.Kept q m := by
  unfold State.writeStations
  split
  · exact answer h.onTime
  · split
    · exact answer h.onWheel
    · split
      · exact h.impClear
      · split
        · exact answer h.onImp
        · split
          · exact h.tmSettle.tmClear
          · split
            · exact h.gstart
            · split
              · exact h.gstop
              · dsimp only
                split
                · exact answer h.onLoop
                · exact h.writeLoop

theorem writeFq (h : s.Kept q m) {k v : Nat} : (s.writeFq k v).2.Kept q m := by
  unfold State.writeFq
  split
  · exact h
  · exact answer h.onDio

theorem writeOutputs (h : s.Kept q m) {a v : Nat} : (s.writeOutputs a v).2.Kept q m := by
  unfold State.writeOutputs
  extract_lets w
  split
  · exact answer h.onDrive
  · split
    · exact answer h.onSv
    · split
      · exact answer h.onDio
      · exact answer h.onDio.doRefresh
      · exact answer h.onDio.doRefresh
      · exact answer h.onDio.doRefresh
      · exact answer h.onDio
      · exact answer h.onDio
      · exact answer (ite (fun _ => h.onDio) fun _ => h)
      · exact h.writeFq

theorem writeReg (h : s.Kept q m) {sid a v : Nat} : (s.writeReg sid a v).2.Kept q m := by
  unfold State.writeReg
  split
  · exact h.writeWs
  · extract_lets r n
    have hr : r.2.Kept q m := by
      unfold r
      split
      · exact h.onLiveStations fun ha => ha.writeStations
      · exact h.writeOutputs
    clear_value r
    split
    · exact hr.recHost
    · exact hr

theorem writeWord (h : s.Kept q m) {x : Session} {a v : Nat} : (s.writeWord x a v).2.Kept q m := by
  unfold State.writeWord
  split
  · exact h
  · exact h.doorbell
  · exact answer h.onSession
  · split
    · exact h
    · split
      · exact h
      · split
        · exact h
        · split
          · exact h
          · exact h.writeReg

theorem auditReg (h : s.Kept q m) {x : Session} {a status : Nat} {vals touched : List Nat} :
    (s.auditReg x a status vals touched).Kept q m := ite (fun _ => h.audit) fun _ => h

theorem writeOne (h : s.Kept q m) {sid a v : Nat} : (s.writeOne sid a v).Kept q m := by
  unfold State.writeOne
  split
  · exact h
  · exact h.writeWord.auditReg.onHost

-- The commands of one word (20) ------------------------------------------------------------------------------

theorem execRegisterWrite (h : s.Kept q m) {dt sid addr val : Nat} : keptOut q m (execRegisterWrite dt sid addr val s) :=
  (h.elapse dt).wakeUp.writeOne

theorem execLoWordRead (h : s.Kept q m) {dt sid addr : Nat} : keptOut q m (execLoWordRead dt sid addr s) := by
  unfold Machine.execLoWordRead
  extract_lets u r
  have hu : u.Kept q m := (h.elapse dt).wakeUp
  have hr : r.2.Kept q m := hu.readWord
  exact keptOut_ite (fun _ => hr.onHost) fun _ => hu

theorem execGstart (h : s.Kept q m) {dt sid mask : Nat} : keptOut q m (execGstart dt sid mask s) := (h.elapse dt).wakeUp.writeOne
theorem execGstop (h : s.Kept q m) {dt sid mask : Nat} : keptOut q m (execGstop dt sid mask s) := (h.elapse dt).wakeUp.writeOne
theorem execCntClr (h : s.Kept q m) {dt sid : Nat} : keptOut q m (execCntClr dt sid s) := (h.elapse dt).wakeUp.writeOne
theorem execLatClr (h : s.Kept q m) {dt sid : Nat} : keptOut q m (execLatClr dt sid s) := (h.elapse dt).wakeUp.writeOne
theorem execWdRel (h : s.Kept q m) {dt sid : Nat} : keptOut q m (execWdRel dt sid s) := (h.elapse dt).wakeUp.writeOne

theorem execLoopRegisterWrite (h : s.Kept q m) {dt sid loop off val : Nat} :
    keptOut q m (execLoopRegisterWrite dt sid loop off val s) := ite (fun _ => (h.elapse dt).wakeUp.writeOne) fun _ => h.elapse dt
theorem execSqDoorbellWrite (h : s.Kept q m) {dt sid n idx : Nat} : keptOut q m (execSqDoorbellWrite dt sid n idx s) :=
  ite (fun _ => (h.elapse dt).wakeUp.writeOne) fun _ => h.elapse dt
theorem execHeadDoorbellWrite (h : s.Kept q m) {dt sid n idx : Nat} : keptOut q m (execHeadDoorbellWrite dt sid n idx s) :=
  ite (fun _ => (h.elapse dt).wakeUp.writeOne) fun _ => h.elapse dt

end State.Kept
end Sys2Proof.Machine

namespace Sys2Proof.Machine

set_option Elab.async false

variable {q : List Instr} {m : Nat} {s : State}

namespace State.Kept

-- NOP, IDENTIFY, GET_STATE, PARAM_READ (15 R381, R382, R386) -------------------------------------------------

theorem execNop (h : s.Kept q m) {dt f : Nat} : keptOut q m (execNop dt f s) := (h.elapse dt).runCmd fun _ => h.elapse dt

theorem identifyBody (h : s.Kept q m) {fl : Flight} : (identifyBody fl s).Kept q m := by
  unfold Machine.identifyBody
  split <;> exact h

theorem execIdentify (h : s.Kept q m) {dt f : Nat} : keptOut q m (execIdentify dt f s) :=
  (h.elapse dt).runCmd fun _ => (h.elapse dt).identifyBody
theorem execGetState (h : s.Kept q m) {dt f : Nat} : keptOut q m (execGetState dt f s) := (h.elapse dt).runCmd fun _ => h.elapse dt

theorem paramReadBody (h : s.Kept q m) {fl : Flight} : (paramReadBody fl s).Kept q m := by
  unfold Machine.paramReadBody
  extract_lets id view
  split
  · exact h
  · extract_lets now
    clear_value view
    split
    · exact h
    · split <;> exact h
    · exact h
    · exact h
    · exact h

theorem execParamRead (h : s.Kept q m) {dt f : Nat} : keptOut q m (execParamRead dt f s) :=
  (h.elapse dt).runCmd fun _ => (h.elapse dt).paramReadBody

-- PARAM_WRITE (15 R386) --------------------------------------------------------------------------------------

theorem setLive (h : s.Kept q m) {p : Nat} {v : Int} : (s.setLive p v).Kept q m := h.onSup

theorem writeRun (h : s.Kept q m) {v : Int} : (s.writeRun v).2.Kept q m := by
  unfold State.writeRun
  split
  · exact h
  · split
    · exact answer (ite (fun _ => h.enterState) fun _ => h)
    · split
      · exact h
      · split
        · exact h
        · split
          · exact h
          · exact answer h.onUnit.enterState

theorem writeCle (h : s.Kept q m) {id : Nat} {v : Int} : (s.writeCle id v).2.Kept q m := by
  unfold State.writeCle
  extract_lets l o s1 s2 s2'
  have h1 : s1.Kept q m := h.cleAhead
  have h2 : s2.Kept q m := ite (fun _ => h1.onLoop) fun _ => h1
  have h2' : s2'.Kept q m := h1.setLive
  split
  · split
    · exact answer h.loopWrite
    · exact h
  · split
    · split
      · exact h
      · exact answer h2.setLive.fgRefresh.doRefresh
    · split
      · exact h
      · split
        · split
          · exact h
          · exact answer (ite (fun _ => h2'.onLoop) fun _ => ite (fun _ => h2'.onLoop) fun _ => h2')
        · exact answer (ite (fun _ => h2'.trigTok) fun _ => h2')

theorem writeLane (h : s.Kept q m) {id : Nat} {v : Int} : (s.writeLane id v).Kept q m := by
  unfold State.writeLane
  extract_lets was s1
  have h1 : s1.Kept q m := h.setLive
  exact ite (fun _ => ite (fun _ => h1) fun _ => h1.lanesRestart.peersRefresh) fun _ =>
    ite (fun _ => h1.lanesRestart.peersRefresh) fun _ => ite (fun _ => h1.ftripApply.ftripApply.tripSync) fun _ => h1.fgRefresh

theorem trustCheck (h : s.Kept q m) {wasEmpty : Bool} : (s.trustCheck wasEmpty).Kept q m :=
  h.foldl _ fun _ ha => ite (fun _ => ha) fun _ => ha.endSession

theorem writeLive (h : s.Kept q m) {id : Nat} {v : Int} : (s.writeLive id v).2.Kept q m := by
  unfold State.writeLive
  split
  · split
    · exact h.writeRun
    · exact answer h.setLive.hlRefresh
  · exact h.onLiveStations fun ha => ha.writeCle
  · exact answer h.setLive.choose
  · exact answer h.writeLane
  · exact answer (ite (fun _ => h.setLive.trustCheck) fun _ => h.setLive)
  · exact answer h.setLive

theorem paramWriteBody (h : s.Kept q m) {fl : Flight} : (paramWriteBody fl s).Kept q m := by
  unfold Machine.paramWriteBody
  extract_lets id
  split
  · exact h
  · extract_lets v r n s1
    have hr : r.2.Kept q m := h.writeLive
    have h1 : s1.Kept q m := ite (fun _ => hr.recHost) fun _ => hr
    split
    · exact h
    · split
      · exact h.openWrite fun o ho => keysRise_spSet _ _ _ ho
      · split
        · exact h
        · exact h1

theorem execParamWrite (h : s.Kept q m) {dt f : Nat} : keptOut q m (execParamWrite dt f s) :=
  (h.elapse dt).runCmd fun _ => (h.elapse dt).paramWriteBody

-- Station resets (15 R383; 14 R371; 20 R494) -----------------------------------------------------------------

theorem bumpEpoch (h : s.Kept q m) {st : Nat} : (s.bumpEpoch st).Kept q m := by
  refine h.onUnit fun ⟨hlen, hall⟩ => ⟨(List.length_modify ..).trans hlen, fun e he => ?_⟩
  obtain ⟨k, hk⟩ := List.getElem?_of_mem he
  rw [List.getElem?_modify] at hk
  obtain ⟨v, hv, rfl⟩ := Option.map_eq_some_iff.1 hk
  split
  · exact Nat.mod_lt _ (by decide)
  · exact hall v (List.mem_of_getElem? hv)

theorem dropActions (h : s.Kept q m) {st : Nat} : (s.dropActions st).Kept q m :=
  foldl (onImp h) _ fun _ ha => ha.reportAcc

/-- The imposition's reset empties its windows, its queue and its slots. -/
theorem impReset (h : s.Kept q m) {lost : Nat} {evt : ImpSt → Word} :
    (s.onImp fun i => { i with
      queue := [], held := [], wins := List.replicate 6 [], slots := []
      resetLoss := (i.resetLoss + lost) % 2 ^ 32, evt := evt i }).Kept q m :=
  h.onImp fun _ => ⟨rfl, by simp, by simp, List.Pairwise.nil⟩

theorem stationStops (h : s.Kept q m) {st : Nat} : (s.stationStops st).Kept q m := by
  unfold State.stationStops
  split
  · extract_lets s1
    have h1 : s1.Kept q m := ite (fun _ => h) fun _ => h.holdBase.onTime
    exact h1.foldl _ fun _ ha => ite (fun _ => ha.wheelAcquire) fun _ => ha
  · exact h.impReset
  · exact h.tmReset
  · exact h.ledgerReset
  · exact h.picaReset
  · exact h.cleReset
  · exact h.valveReset
  · exact h.dioReset
  · exact h.abortCopies
  · exact h
  · dsimp only
    split
    · exact h.onGroup.onProbe
    · exact h.driveReset

theorem stationStarts (h : s.Kept q m) {st : Nat} : (s.stationStarts st).Kept q m := by
  unfold State.stationStarts
  split
  · exact h.maReturn
  · exact h.applySlots
  · exact h.applyTimers
  · exact h.onToks
  · exact h.picaBack
  · exact h.onToks
  · exact h.valveBack
  · exact h
  · exact h
  · extract_lets n s1
    have h1 : s1.Kept q m := h.foldl _ fun _ ha => ha.onLaneAt
    exact onLane h1 fun ⟨hl, hn⟩ => ⟨hl, keysRise_map (fun _ => rfl) hn⟩
  · exact ite (fun _ => ite (fun _ => h.endPass) fun _ => h) fun _ => h.settleDrive

theorem breakFlights (h : s.Kept q m) {st own : Nat} : (s.breakFlights st own).Kept q m := h.foldl _ fun _ ha => ha.complete

theorem startReset (h : s.Kept q m) {st f : Nat} : (s.startReset st f).Kept q m := by
  unfold State.startReset
  extract_lets r s1
  have h1 : s1.Kept q m := h.onSup
  exact h1.stationStops.breakFlights.dropActions

theorem stationResetBody (h : s.Kept q m) {fl : Flight} : (stationResetBody fl s).Kept q m := by
  unfold Machine.stationResetBody
  split
  · exact h
  · exact h.startReset

theorem execStationReset (h : s.Kept q m) {dt f : Nat} : keptOut q m (execStationReset dt f s) :=
  (h.elapse dt).runCmd fun _ => (h.elapse dt).stationResetBody

theorem execStationReturn (h : s.Kept q m) {dt st : Nat} : keptOut q m (execStationReturn dt st s) := by
  unfold Machine.execStationReturn
  extract_lets u s1
  have hu : u.Kept q m := h.elapse dt
  have h1 : s1.Kept q m := bumpEpoch hu.onSup
  split
  · exact hu
  · extract_lets s2 s3
    have h3 : s3.Kept q m := h1.waitersBack.stationStarts.record
    split
    · exact h3.complete
    · exact h3

-- Unit reset (15 R384) ---------------------------------------------------------------------------------------

theorem endAll (h : s.Kept q m) {reason : Nat} : (s.endAll reason).Kept q m := h.foldl _ fun _ ha => ha.endSession

theorem execUnitReset (h : s.Kept q m) {dt f : Nat} : SettledOut q m (execUnitReset dt f s) := by
  unfold Machine.execUnitReset
  extract_lets u
  have hu : u.Kept q m := h.elapse dt
  split
  · exact .kept hu
  · exact SettledOut.ite (fun _ => .kept hu) fun _ => SettledOut.ite (fun _ => .kept hu.complete) fun _ =>
      .anew hu.complete.endAll.resetNow

-- Firmware update (15 R393 to R396; 17 R443) -----------------------------------------------------------------

theorem withdrawCommit (h : s.Kept q m) : s.withdrawCommit.Kept q m := by
  unfold State.withdrawCommit
  split
  · exact h.onSup.complete
  · exact h

theorem setStaged (h : s.Kept q m) {t : Nat} {g : Staged} : (s.setStaged t g).Kept q m :=
  h.onSup fun hx => by split <;> exact hx

theorem updateStageBody (h : s.Kept q m) {fl : Flight} : (updateStageBody fl s).Kept q m := by
  unfold Machine.updateStageBody
  extract_lets off n t
  split
  · exact h
  · split
    · exact h.withdrawCommit.setStaged
    · exact onLane h

theorem updateCheckBody (h : s.Kept q m) {img : ImageInfo} {fl : Flight} : (updateCheckBody img fl s).Kept q m := by
  unfold Machine.updateCheckBody
  extract_lets t g v s1
  have h1 : s1.Kept q m := h.setStaged
  split
  · exact h
  · exact h1

theorem updateCommitBody (h : s.Kept q m) {fl : Flight} : (updateCommitBody fl s).Kept q m := by
  unfold Machine.updateCommitBody
  extract_lets t at_ due s1
  have h1 : s1.Kept q m := h.onNode
  have hl : State.Kept q m (if due then s1.breakNode t (some fl.f) else s1) := ite (fun _ => h1.breakNode) fun _ => h1
  split
  · exact h
  · split
    · exact h
    · split
      · exact onSup h.withdrawCommit
      · exact hl

theorem updateAbortBody (h : s.Kept q m) {fl : Flight} : (updateAbortBody fl s).Kept q m := by
  unfold Machine.updateAbortBody
  extract_lets t
  split
  · exact h
  · split
    · exact h.withdrawCommit.setStaged
    · exact onSup h

theorem execUpdateStage (h : s.Kept q m) {dt f : Nat} : keptOut q m (execUpdateStage dt f s) :=
  (h.elapse dt).runCmd fun _ => (h.elapse dt).updateStageBody
theorem execUpdateCheck (h : s.Kept q m) {dt f : Nat} {img : ImageInfo} : keptOut q m (execUpdateCheck dt f img s) :=
  (h.elapse dt).runCmd fun _ => (h.elapse dt).updateCheckBody
theorem execUpdateCommit (h : s.Kept q m) {dt f : Nat} : keptOut q m (execUpdateCommit dt f s) :=
  (h.elapse dt).runCmd fun _ => (h.elapse dt).updateCommitBody
theorem execUpdateAbort (h : s.Kept q m) {dt f : Nat} : keptOut q m (execUpdateAbort dt f s) :=
  (h.elapse dt).runCmd fun _ => (h.elapse dt).updateAbortBody

theorem execUpdateRestart (h : s.Kept q m) {dt : Nat} : keptOut q m (execUpdateRestart dt s) := by
  unfold Machine.execUpdateRestart
  extract_lets u
  have hu : u.Kept q m := h.elapse dt
  split
  · exact hu
  · refine keptOut_ite (fun _ => hu) fun _ => ?_
    extract_lets s1 s2 s3
    have h1 : s1.Kept q m := hu.onSup.complete.endAll.muxOff.dropForme
    have h2 : s2.Kept q m := h1.onHost
    have h3 : s3.Kept q m := h2.onUnit.onPower
    exact h3.enterState

-- The supervisor's return (14 R374; 13 Table 13.6) -----------------------------------------------------------

theorem flightsEnd (h : s.Kept q m) : s.flightsEnd.Kept q m := by
  unfold State.flightsEnd
  extract_lets s1 s2 s3 s4 s5 fin
  have h1 : s1.Kept q m := h.onStore
  have h2 : s2.Kept q m := h1.onDio
  have h3 : s3.Kept q m := h2.onPica
  have h4 : s4.Kept q m := onLane h3 fun ⟨hl, hn⟩ => ⟨hl, keysRise_map (fun _ => rfl) hn⟩
  have h5 : s5.Kept q m := h4.onSup
  have hfin {a : State} (fl : Flight) (ha : a.Kept q m) : (fin a fl).Kept q m := by
    unfold fin
    extract_lets _ c a1
    refine auditCmd ?_
    unfold a1
    split
    · exact ha.onQueue
    · exact ha
  exact h5.onHost.foldl _ hfin

theorem queuesBack (h : s.Kept q m) : s.queuesBack.Kept q m := onHost h
theorem newImage (h : s.Kept q m) : s.newImage.Kept q m := h.onUnit.onSup.record

/-- The power part as proof begins again, with all its results open. -/
theorem proofPower (h : s.Kept q m) : (s.onPower fun p => { p with
    stage := 0, pass := false, fail := false, recovery := false, failed := 0, waitVin := false, proofMs := 0
    res := List.replicate 9 {} }).Kept q m := h.onPower h.okPower.symm

/-- The slugs in staging as proof begins again. -/
theorem proofStore (h : s.Kept q m) : (s.onStore fun r =>
    if r.proofHeld then { r with staging := [], tripQ := [], partMt := none } else { r with proofHeld := true }).Kept q m :=
  h.onStore fun hx => by split <;> exact hx

theorem proofAgain (h : s.Kept q m) : s.proofAgain.Kept q m := h.enterState.proofPower.proofStore

theorem execSupervisorReturn (h : s.Kept q m) {dt : Nat} : keptOut q m (execSupervisorReturn dt s) := by
  unfold Machine.execSupervisorReturn
  extract_lets u s1 s2
  have hu : u.Kept q m := h.elapse dt
  have h1 : s1.Kept q m := hu.bumpEpoch.flightsEnd.queuesBack.newImage
  have h2 : s2.Kept q m := h1.hlBack.onPower
  exact keptOut_ite (fun _ => hu) fun _ => ite (fun _ => h2.proofAgain) fun _ => h2.enterState

end State.Kept
end Sys2Proof.Machine
end

section
/-! PROOFS. Formes, reprint and the host's frames (15, 16, 14) keep the state in form. -/

namespace Sys2Proof.Machine

set_option Elab.async false

variable {q : List Instr} {m : Nat} {s : State}

namespace State.Kept

-- The open forme (15 R387 to R389) ---------------------------------------------------------------------------

/-- A forme opens with its parameters in order. -/
theorem openForme (h : s.Kept q m) {o : OpenForme} (ho : keysRise o.forme.params) :
    (s.onSup fun u => { u with openF := some o }).Kept q m :=
  h.onSup fun ⟨hp, _⟩ => ⟨hp, fun x hx => by
    obtain rfl : x = o := by simpa using hx
    exact ho⟩

/-- The open forme closes. -/
theorem closeForme (h : s.Kept q m) : (s.onSup fun u => { u with openF := none }).Kept q m :=
  h.onSup fun ⟨hp, _⟩ => ⟨hp, by simp⟩

/-- The open forme's parameters are in order. -/
theorem openF_keysRise (h : s.Kept q m) {o : OpenForme} (ho : s.sup.openF = some o) : keysRise o.forme.params :=
  h.okSup.2 o (by simp [ho])

theorem formeOpenBody (h : s.Kept q m) {fl : Flight} : (formeOpenBody fl s).Kept q m := by
  unfold Machine.formeOpenBody
  split
  · exact h
  · split
    · exact h
    · extract_lets inForce o
      refine openForme h ?_
      unfold o
      dsimp only
      split
      · exact h.okSup.1
      · exact List.Pairwise.nil

theorem formeWriteBody (h : s.Kept q m) {fl : Flight} : (formeWriteBody fl s).Kept q m := by
  unfold Machine.formeWriteBody
  extract_lets kind idx off n data now
  split
  · exact h
  · split
    · exact h
    · exact h.openWrite fun _ => id

theorem formeCheckBody (h : s.Kept q m) {fl : Flight} : (formeCheckBody fl s).Kept q m := by
  unfold Machine.formeCheckBody
  split
  · exact h
  next o ho =>
    split
    · exact h
    · have hp : keysRise o.forme.params := h.openF_keysRise ho
      exact openForme h hp

theorem formeDiscardBody (h : s.Kept q m) {fl : Flight} : (formeDiscardBody fl s).Kept q m := by
  unfold Machine.formeDiscardBody
  split
  · exact h
  · extract_lets drop
    have hd : drop.Kept q m := h.closeForme
    split
    · split
      · exact hd.onSup.complete
      · exact hd
    · exact hd

theorem execFormeOpen (h : s.Kept q m) {dt f : Nat} : keptOut q m (execFormeOpen dt f s) :=
  (h.elapse dt).runCmd fun _ => (h.elapse dt).formeOpenBody
theorem execFormeWrite (h : s.Kept q m) {dt f : Nat} : keptOut q m (execFormeWrite dt f s) :=
  (h.elapse dt).runCmd fun _ => (h.elapse dt).formeWriteBody
theorem execFormeCheck (h : s.Kept q m) {dt f : Nat} : keptOut q m (execFormeCheck dt f s) :=
  (h.elapse dt).runCmd fun _ => (h.elapse dt).formeCheckBody
theorem execFormeDiscard (h : s.Kept q m) {dt f : Nat} : keptOut q m (execFormeDiscard dt f s) :=
  (h.elapse dt).runCmd fun _ => (h.elapse dt).formeDiscardBody

-- QUOIN (15 R390 to R392) ------------------------------------------------------------------------------------

theorem quoinBody (h : s.Kept q m) {fl : Flight} : (quoinBody fl s).Kept q m := by
  unfold Machine.quoinBody
  extract_lets b c w
  split
  · exact h
  · split
    · exact h
    · split
      · exact h
      · split
        · exact onSup h
        · exact h

theorem execQuoin (h : s.Kept q m) {dt f : Nat} : keptOut q m (execQuoin dt f s) :=
  (h.elapse dt).runCmd fun _ => (h.elapse dt).quoinBody

theorem execQuoinPreloadDone (h : s.Kept q m) {dt : Nat} : keptOut q m (execQuoinPreloadDone dt s) := by
  unfold Machine.execQuoinPreloadDone
  extract_lets u
  have hu : u.Kept q m := h.elapse dt
  split
  · split
    · exact hu
    · exact onSup hu
  · exact hu

theorem archiveForme (h : s.Kept q m) {gen : Nat} {fm : Forme} : (s.archiveForme gen fm).Kept q m := by
  unfold State.archiveForme
  split
  · exact h
  · exact h.onSup.onStore fun hx => hx.putFolio

/-- The checked forme comes into force (15 R391). -/
theorem enforceForme (h : s.Kept q m) {fm : Forme} (hfm : keysRise fm.params) {gen mt : Nat} {code : BitVec 32} {qn : Option Quoin} :
    (s.onSup fun u => { u with
      forme := fm, gen, crc := code, applied := true, openF := none, quoinMt := mt, quoin := qn }).Kept q m :=
  h.onSup fun _ => ⟨hfm, by simp⟩

theorem takeForme (h : s.Kept q m) {fm : Forme} (hfm : keysRise fm.params) {code : BitVec 32} {qn : Quoin} {t : Nat} :
    (s.takeForme fm code qn t).Kept q m := by
  unfold State.takeForme
  extract_lets old gen s1 s2
  have h1 : s1.Kept q m := h.enforceForme hfm
  have h2 : s2.Kept q m := h1.archiveForme.record.applyTime
  exact h2.applySlots.applyTimers

theorem execQuoinBoundary (h : s.Kept q m) {dt : Nat} : keptOut q m (execQuoinBoundary dt s) := by
  unfold Machine.execQuoinBoundary
  extract_lets u
  have hu : u.Kept q m := h.elapse dt
  split
  next qn o hqn ho =>
    split
    · exact hu
    · split
      · exact keptOut_ite (fun _ => hu.takeForme (hu.openF_keysRise ho)) fun _ => hu
      · exact hu
  · exact hu

theorem changeStation (h : s.Kept q m) {st : Nat} {old : Forme} : (s.changeStation st old).Kept q m := by
  unfold State.changeStation
  split
  · exact h.picaChange
  · exact h.ledgerChange
  · exact h.fgRefresh.drivesSettle
  · exact h.valveChange
  · exact h.dioChange
  · exact h.groupChange

theorem quoinDone (h : s.Kept q m) {qn : Quoin} {t : Nat} : (s.quoinDone qn t).Kept q m := by
  unfold State.quoinDone
  extract_lets gen s1 dur
  have h1 : s1.Kept q m := slug h.onSup
  exact h1.complete.takeKey

theorem execStationChangeover (h : s.Kept q m) {dt : Nat} : keptOut q m (execStationChangeover dt s) := by
  unfold Machine.execStationChangeover
  extract_lets u
  have hu : u.Kept q m := h.elapse dt
  split
  · exact hu
  · split
    · extract_lets s1
      have h1 : s1.Kept q m := changeStation hu.onSup
      exact ite (fun _ => h1.quoinDone) fun _ => h1
    · exact hu

theorem execQuoinTimeout (h : s.Kept q m) {dt : Nat} : keptOut q m (execQuoinTimeout dt s) := by
  unfold Machine.execQuoinTimeout
  extract_lets u
  have hu : u.Kept q m := h.elapse dt
  split
  · exact hu
  · exact keptOut_ite (fun _ => hu) fun _ => complete hu.onSup

end State.Kept
end Sys2Proof.Machine

namespace Sys2Proof.Machine

set_option Elab.async false

variable {q : List Instr} {m : Nat} {s : State}

/-- A recorded body's state is kept where its answer is. -/
theorem State.asBody_kept {op : Nat} {args : List Nat} {body : Flight → State → Ans}
    (hb : ∀ fl, (body fl s).Kept q m) : (s.asBody op args body).Kept q m := by
  unfold State.asBody
  extract_lets e
  have hf := hb { f := 0, sq := 0, order := 0, sid := 0, role := 2, fp := 0, e, fetchMt := 0, tmo := 0 }
  split
  next t _ _ ht => rwa [ht] at hf
  next t ht => rwa [ht] at hf

namespace State.Kept

-- Comparison (16 R417) ---------------------------------------------------------------------------------------

theorem diff1 (h : s.Kept q m) {stream field mt obj : Nat} {was now : Int} : (s.diff1 stream field mt obj was now).Kept q m := by
  unfold State.diff1
  split
  · exact h
  next r hr =>
    extract_lets s1
    have h1 : s1.Kept q m := h.goReprint hr
    exact ite (fun _ => h1.slug) fun _ => h1

theorem diffOut (h : s.Kept q m) {stream skip n : Nat} {x : InRec} {y : Option InRec} : (s.diffOut stream skip n x y).Kept q m := by
  unfold State.diffOut
  split
  · exact h.diff1
  · exact h.foldl _ fun _ ha => ite (fun _ => ha) fun _ => ha.diff1

theorem meet (h : s.Kept q m) {stream skip n : Nat} {x : InRec} {same : InRec → Bool} : (s.meet stream skip n x same).Kept q m := by
  unfold State.meet
  split
  · exact h
  next r hr =>
    extract_lets y s1
    clear_value y
    have h1 : s1.Kept q m := by
      unfold s1
      split
      · exact h.goReprint hr
      · exact h
    exact ite (fun _ => h1.diffOut) fun _ => h1

theorem meetKey (h : s.Kept q m) {x : InRec} : (s.meetKey x).Kept q m := by
  unfold State.meetKey
  split
  · exact h
  · split
    · extract_lets s1
      have h1 : s1.Kept q m := ite (fun _ => h.foldl _ fun _ ha => ha.diff1) fun _ => h
      exact h1.mapReprint
    · exact h

-- Delivery (16 R416) -----------------------------------------------------------------------------------------

theorem asRecorded (h : s.Kept q m) {f : State → State} (hf : ∀ {a : State}, a.Kept q m → (f a).Kept q m) :
    (s.asRecorded f).Kept q m := by
  unfold State.asRecorded
  split
  · exact h
  next r _ =>
    extract_lets t
    have ht : t.Kept q m := hf h.onSup
    exact onSup ht.mapReprint

theorem replayHost (h : s.Kept q m) {p : List Int} : (s.replayHost p).Kept q m := by
  unfold State.replayHost
  extract_lets n id v args ovr
  split
  · exact ite (fun _ => h.asRecorded fun ha => ha.writeCle) fun _ => h
  · exact ite (fun _ => h.asRecorded fun ha => ha.writeStations) fun _ => h
  · exact foldlFst h _ fun _ ha => ha.slotEnableOne
  · exact State.asBody_kept fun _ => h.batchStepBody
  · exact State.asBody_kept fun _ => h.loopHoldBody
  · exact State.asBody_kept fun _ => h.loopReleaseBody
  · exact h

theorem replayMains (h : s.Kept q m) {p : List Int} : (s.replayMains p).Kept q m := by
  unfold State.replayMains
  extract_lets n
  split
  · exact h.maLockOp
  · exact h.maLost
  · exact h.maReturn
  · exact h.mainsStart
  · exact h.mainsEnd
  · exact h.maAdvance

theorem replayStatus (h : s.Kept q m) {st : Nat} {p : List Int} : (s.replayStatus st p).Kept q m := by
  unfold State.replayStatus
  extract_lets n b put
  split
  · exact onCle h rfl rfl
  · exact onCle h rfl rfl
  · exact ite (fun _ => onCle h rfl rfl) fun _ => h
  · exact h

theorem replayQuoin (h : s.Kept q m) {gen : Nat} : (s.replayQuoin gen).Kept q m := by
  unfold State.replayQuoin
  split
  next r fm hr _ =>
    extract_lets old s1 s2
    have h1 : s1.Kept q m := h.goReprint hr
    have h2 : s2.Kept q m := h1.applyTime.applySlots.applyTimers
    exact ledgerChange (picaChange (h2.foldl _ fun _ ha => ha.groupChange))
  · exact h

/-- A recorded epoch in the place of a station's. -/
theorem setEpoch (h : s.Kept q m) {st v : Nat} :
    (s.onUnit fun u => { u with epochs := u.epochs.set st (v % 256) }).Kept q m := by
  refine h.onUnit fun ⟨hlen, hall⟩ => ⟨List.length_set.trans hlen, fun e he => ?_⟩
  obtain he | rfl := List.mem_or_eq_of_mem_set he
  · exact hall e he
  · exact Nat.mod_lt _ (by decide)

theorem replayReset (h : s.Kept q m) {v : Nat} : (s.replayReset v).Kept q m := by
  unfold State.replayReset
  exact ite (fun _ => h.stationStops.setEpoch.stationStarts) fun _ => h

theorem replayState (h : s.Kept q m) {code : Nat} : (s.replayState code).Kept q m := by
  unfold State.replayState
  split
  · exact h
  next r hr =>
    extract_lets s1
    have h1 : s1.Kept q m := h.goReprint hr
    exact ite (fun _ => h1.cleEnterRun) fun _ => ite (fun _ => h1.cleLeaveRun.batchLeaveRun) fun _ => h1

theorem replayLane (h : s.Kept q m) {p : List Int} : (s.replayLane p).Kept q m := by
  unfold State.replayLane
  exact ite (fun _ => h.peerTok) fun _ => h.peerTok

theorem applyHeld (h : s.Kept q m) : s.applyHeld.Kept q m := by
  unfold State.applyHeld
  split
  · exact h
  next r hr => exact (h.goReprint hr).foldl _ fun _ ha => ha.replayHost

theorem diffExtra (h : s.Kept q m) {r : Reprint} : (s.diffExtra r).Kept q m :=
  h.foldl _ fun _ ha => ite (fun _ => ha.diff1) fun _ => ha.diff1

theorem replay (h : s.Kept q m) {x : InRec} : (s.replay x).Kept q m := by
  unfold State.replay
  extract_lets n
  split
  · exact h.toothOp
  · exact h.replayMains
  · exact h.deliver
  · exact h.deliverReading
  · exact h.diToken
  · exact ite (fun _ => ite (fun _ => h.galTrip) fun _ => ite (fun _ => h.galTrip) fun _ => ite (fun _ => h.galTrip) fun _ => h)
      fun _ => h
  · exact h.replayHost
  · exact h.replayLane
  · exact h.meet
  · exact h.replayStatus
  · split
    · exact h.replayState
    · exact h.replayQuoin
    · exact h.replayReset
    · exact h.crossBase
    · exact h
  · exact h.meetKey
  · exact h.meet
  · exact h

-- Begin and end (16 R413) ------------------------------------------------------------------------------------

theorem msFrom (h : s.Kept q m) {mt : Nat} : (s.msFrom mt).Kept q m := h.onPower

/-- A reprint begins with a saved state in form. -/
theorem beginReprint (h : s.Kept q m) {r : Reprint} (hr : r.saved.shaped) :
    (s.onStore fun t => { t with reprint := some r }).Kept q m :=
  h.onStore fun hx => ⟨hx.1, fun y hy => by
    obtain rfl : y = r := by simpa using hy
    exact hr⟩

theorem reprintBegin (h : s.Kept q m) {k : Keyframe} (hk : k.img.shaped) {startMt endMt opts : Nat} {todo : List InRec} :
    (s.reprintBegin k startMt endMt opts todo).Kept q m := by
  unfold State.reprintBegin
  extract_lets s1 r s2
  have h1 : s1.Kept q m := h.enterState
  have h2 : s2.Kept q m := (h1.putStations hk).beginReprint h1.image
  exact h2.groupsIdle.portsStop.msFrom.slug

/-- A keyframe that the store finds is in form. -/
theorem keyAt_shaped (h : s.Kept q m) {boot mt : Nat} {k : Keyframe} (hk : s.keyAt boot mt = some k) : k.img.shaped :=
  h.okStore.1 k (List.mem_of_find?_eq_some hk)

theorem reprintStartBody (h : s.Kept q m) {fl : Flight} : (reprintStartBody fl s).Kept q m := by
  unfold Machine.reprintStartBody
  extract_lets boot startMt endMt key d
  have hkey {k : Keyframe} (hk : key = some k) : k.img.shaped := h.keyAt_shaped hk
  clear_value key boot startMt endMt
  split
  · exact h
  · split
    · exact h
    · split
      · exact h
      · split
        · exact h
        · exact h.reprintBegin (hkey rfl)

theorem execReprintStart (h : s.Kept q m) {dt f : Nat} : keptOut q m (execReprintStart dt f s) :=
  (h.elapse dt).runCmd fun _ => (h.elapse dt).reprintStartBody

theorem shiftTimers (h : s.Kept q m) {d : Nat} : State.Kept q m { s with timers := s.timers.map (shiftTimer d) } :=
  { h with okTimers := (List.length_map _).trans h.okTimers }

theorem reprintEnd (h : s.Kept q m) {reason : Nat} : (s.reprintEnd reason).Kept q m := by
  unfold State.reprintEnd
  split
  · exact h
  next r hr =>
    extract_lets s1 s2 s3
    have hsaved : r.saved.shaped := h.okStore.2 r (by simp [hr])
    have h1 : s1.Kept q m := h.slug
    have h2 : s2.Kept q m := h1.noReprint.putStations hsaved
    have h3 : s3.Kept q m := h2.shiftTimers.applyTime.ledgerBack.msFrom
    exact h3.enterState.crossBase.freeRuns.portsStart.takeKey

theorem reprintStopBody (h : s.Kept q m) {fl : Flight} : (reprintStopBody fl s).Kept q m := by
  unfold Machine.reprintStopBody
  split
  · exact h
  · exact h.reprintEnd

theorem execReprintStop (h : s.Kept q m) {dt f : Nat} : keptOut q m (execReprintStop dt f s) :=
  (h.elapse dt).runCmd fun _ => (h.elapse dt).reprintStopBody

theorem execReprintRecord (h : s.Kept q m) {dt : Nat} : keptOut q m (execReprintRecord dt s) := by
  unfold Machine.execReprintRecord
  extract_lets u v
  have hv : v.Kept q m := (h.elapse dt).applyHeld
  split
  · exact hv
  next r hr =>
    extract_lets due beyond
    split
    · exact ite (fun _ => hv.diffExtra.reprintEnd) fun _ => hv
    · refine keptOut_ite (fun _ => hv) fun _ => ?_
      extract_lets early s0 s1 differs
      have h0 : s0.Kept q m := hv.goReprint hr
      have h1 : s1.Kept q m := ite (fun _ => h0) fun _ => h0.replay
      exact ite (fun _ => h1.reprintEnd) fun _ => ite (fun _ => h1.reprintEnd) fun _ => h1

end State.Kept
end Sys2Proof.Machine

namespace Sys2Proof.Machine

set_option Elab.async false

variable {q : List Instr} {m : Nat} {s : State}

/-- An opening that is answered OK asks for one of the four roles, and there is room for it (14 R351). -/
theorem openStatus_eq_sOK {k : Shake} {role opts rsv len : Nat} (h : s.openStatus k role opts rsv len = sOK) :
    role ≤ 3 ∧ s.host.sessions.length < 16 := by
  unfold State.openStatus at h
  split at h
  · exact absurd h (by decide)
  · split at h
    · exact absurd h (by decide)
    · split at h
      · exact absurd h (by decide)
      · omega

namespace State.Kept

-- What the frames of a session do (14 R355, R359, R365) ------------------------------------------------------

theorem countBad (h : s.Kept q m) : s.countBad.Kept q m := h.onHost

theorem readWords (h : s.Kept q m) {sid a n : Nat} : (s.readWords sid a n).2.Kept q m := by
  induction n generalizing s a with
  | zero => exact h
  | succ n ih => exact ih h.readWord

theorem regReadFrame (h : s.Kept q m) {sid addr count len : Nat} : (s.regReadFrame sid addr count len).2.Kept q m := by
  unfold State.regReadFrame
  split
  · exact h
  · split
    · exact h.readWords
    · split <;> exact h

theorem writeWords (h : s.Kept q m) {sid a : Nat} {vals : List Nat} : (s.writeWords sid a vals).2.2.Kept q m := by
  induction vals generalizing s a with
  | nil => exact h
  | cons v vs ih =>
    unfold State.writeWords
    split
    · exact h
    next x _ =>
      extract_lets r t
      have hr : r.2.Kept q m := h.writeWord
      split
      · exact ih hr
      · exact hr

theorem regWriteFrame (h : s.Kept q m) {sid addr count rsv : Nat} {vals : List Nat} {len : Nat} :
    (s.regWriteFrame sid addr count rsv vals len).2.Kept q m := by
  unfold State.regWriteFrame
  split
  · exact h
  · split
    · exact h
    · exact h.writeWords.auditReg

theorem submitFrame (h : s.Kept q m) {sid sq first rsv tail : Nat} {entries : List CmdEntry} {len : Nat} :
    (s.submitFrame sid sq first rsv tail entries len).2.Kept q m := by
  unfold State.submitFrame
  extract_lets n
  split
  · exact h
  · split
    · exact h
    · dsimp only
      exact h.onQueue

theorem takeFrame (h : s.Kept q m) {sid : Nat} {fr : HostFrame} : (s.takeFrame sid fr).Kept q m := by
  unfold State.takeFrame
  extract_lets reply
  split
  · exact h.countBad
  · exact ite (fun _ => h) fun _ => h.countBad
  · exact ite (fun _ => h.endSession) fun _ => h.countBad.endSession
  · exact h.regReadFrame.send
  · exact h.regWriteFrame.send
  · extract_lets r
    have hr : r.2.Kept q m := by
      unfold r
      split
      · exact h.makeQueue
      · exact h
    exact hr.send
  · extract_lets r
    have hr : r.2.Kept q m := by
      unfold r
      split
      · exact h.dropQueue
      · exact h
    exact hr.send
  · exact h.submitFrame.send

-- Reception (14 R356, R377) ----------------------------------------------------------------------------------

theorem drain (h : s.Kept q m) {sid k : Nat} : (s.drain sid k).Kept q m := by
  induction k generalizing s with
  | zero => exact h
  | succ k ih =>
    unfold State.drain
    split
    · exact h
    · split
      · exact h
      · exact ih (takeFrame h.onSession)

theorem arrive (h : s.Kept q m) {sid : Nat} {hd : Hdr} {valid : Bool} {fr : HostFrame} : (s.arrive sid hd valid fr).Kept q m := by
  unfold State.arrive
  extract_lets s1
  have h1 : s1.Kept q m := h.onSession fun x hx => by
    refine Session.shaped.takeAck (x := if valid then { x with rxMt := s.now } else x) ?_
    split <;> exact hx
  split
  · exact h
  · extract_lets ahead
    exact ite (fun _ => (takeFrame h1.onSession).drain) fun _ => ite (fun _ => onSession h1) fun _ => h1

theorem onFrame (h : s.Kept q m) : s.onFrame.Kept q m := h.wakeUp.onHost

theorem receive (h : s.Kept q m) {hd : Hdr} {valid : Bool} {fr : HostFrame} : (s.receive hd valid fr).Kept q m :=
  ite (fun _ => h.onFrame.arrive) fun _ => ite (fun _ => h.onFrame.noSession) fun _ => h

-- Opening (14 R351, R372, R373) ------------------------------------------------------------------------------

theorem newSid (h : s.Kept q m) : s.newSid.2.Kept q m := h.fresh
theorem reclaim (h : s.Kept q m) {sid fp : Nat} : (s.reclaim sid fp).2.Kept q m := by
  unfold State.reclaim
  extract_lets old mine take
  exact answer (onHost h)

theorem refuseOpen (h : s.Kept q m) {k : Shake} {role status : Nat} : (s.refuseOpen k role status).Kept q m := by
  unfold State.refuseOpen
  extract_lets s1
  have h1 : s1.Kept q m := onHost h
  exact ite (fun _ => h1.audit) fun _ => h1

/-- A session is added where there is room for it. -/
theorem addSession (h : s.Kept q m) {x : Session} (hx : x.shaped) (hroom : s.host.sessions.length < 16) {f : HostSt → List Shake} :
    (s.onHost fun y => { y with sessions := y.sessions ++ [x], shakes := f y }).Kept q m := by
  refine h.onHost fun ⟨_, hall⟩ => ⟨by simpa using hroom, fun y hy => ?_⟩
  obtain hy | hy := List.mem_append.1 hy
  · exact hall y hy
  · obtain rfl := List.mem_singleton.1 hy
    exact hx

theorem openSession (h : s.Kept q m) {k : Shake} {role opts : Nat} (hrole : role ≤ 3) (hroom : s.host.sessions.length < 16) :
    (s.openSession k role opts).Kept q m := by
  unfold State.openSession
  extract_lets n x s1 r s2
  have hx : x.shaped := ⟨hrole, List.Pairwise.nil⟩
  have h1 : s1.Kept q m := h.newSid.addSession hx hroom
  have hr : r.2.Kept q m := by
    unfold r
    split
    · exact h1.reclaim
    · exact h1
  have h2 : s2.Kept q m := hr.send
  exact ite (fun _ => h2.audit) fun _ => h2

-- The frames (14 R351, R355) ---------------------------------------------------------------------------------

theorem execSessionOpen (h : s.Kept q m) {dt : Nat} {hd : Hdr} {assoc role opts rsv : Nat} :
    keptOut q m (execSessionOpen dt hd assoc role opts rsv s) := by
  unfold Machine.execSessionOpen
  extract_lets u
  have hu : u.Kept q m := h.elapse dt
  refine keptOut_ite (fun _ => hu.receive) fun _ => ?_
  split
  · exact hu
  · refine keptOut_ite (fun _ => hu) fun _ => keptOut_ite (fun _ => hu.onFrame) fun _ =>
      keptOut_ite (fun _ => hu.onFrame.noSession) fun _ => ?_
    extract_lets s1
    refine ite (fun hst => ?_) fun _ => hu.onFrame.refuseOpen
    obtain ⟨hrole, hroom⟩ := openStatus_eq_sOK hst
    exact hu.onFrame.openSession hrole hroom

theorem execAck (h : s.Kept q m) {dt : Nat} {hd : Hdr} : keptOut q m (execAck dt hd s) := by
  unfold Machine.execAck
  extract_lets u s1
  have hu : u.Kept q m := h.elapse dt
  have h1 : s1.Kept q m := hu.onFrame.onSession fun x hx => Session.shaped.takeAck (x := { x with rxMt := u.now }) hx
  exact keptOut_ite (fun _ => ite (fun _ => h1) fun _ => h1.countBad) fun _ => hu

theorem execSessionClose (h : s.Kept q m) {dt : Nat} {hd : Hdr} {reason : Nat} : keptOut q m (execSessionClose dt hd reason s) :=
  (h.elapse dt).receive
theorem execKeepalive (h : s.Kept q m) {dt : Nat} {hd : Hdr} : keptOut q m (execKeepalive dt hd s) := (h.elapse dt).receive
theorem execRegRead (h : s.Kept q m) {dt : Nat} {hd : Hdr} {addr count : Nat} : keptOut q m (execRegRead dt hd addr count s) :=
  (h.elapse dt).receive
theorem execRegWrite (h : s.Kept q m) {dt : Nat} {hd : Hdr} {addr count rsv : Nat} {vals : List Nat} :
    keptOut q m (execRegWrite dt hd addr count rsv vals s) := (h.elapse dt).receive
theorem execQCreate (h : s.Kept q m) {dt : Nat} {hd : Hdr} {n depth cq coalN cls coalT : Nat} :
    keptOut q m (execQCreate dt hd n depth cq coalN cls coalT s) := (h.elapse dt).receive
theorem execQDelete (h : s.Kept q m) {dt : Nat} {hd : Hdr} {n : Nat} : keptOut q m (execQDelete dt hd n s) := (h.elapse dt).receive
theorem execSubmit (h : s.Kept q m) {dt : Nat} {hd : Hdr} {sq first rsv tail : Nat} {entries : List CmdEntry} :
    keptOut q m (execSubmit dt hd sq first rsv tail entries s) := (h.elapse dt).receive

theorem execBadFrame (h : s.Kept q m) {dt : Nat} {hd : Hdr} {kind : Nat} : keptOut q m (execBadFrame dt hd kind s) := by
  unfold Machine.execBadFrame
  extract_lets u
  have hu : u.Kept q m := h.elapse dt
  exact keptOut_ite (fun _ => hu.receive) fun _ => keptOut_ite (fun _ => ite (fun _ => hu.wakeUp.countBad) fun _ => hu) fun _ =>
    keptOut_ite (fun _ => hu.onFrame.endSession) fun _ => hu.receive

end State.Kept
end Sys2Proof.Machine
end

section
/-! PROOFS. Every step keeps the unit in form (O59). -/

namespace Sys2Proof.Machine

set_option Elab.async false

variable {q : List Instr} {m : Nat} {s : State}

/-- Every command keeps the state, or begins it anew. -/
theorem State.Kept.exec (h : s.Kept q m) (c : Instr) : SettledOut q m (exec c s) := by
  cases c with
  | registerWrite => exact h.execRegisterWrite.settled
  | loWordRead => exact h.execLoWordRead.settled
  | gstart => exact h.execGstart.settled
  | gstop => exact h.execGstop.settled
  | cntClr => exact h.execCntClr.settled
  | latClr => exact h.execLatClr.settled
  | wdRel => exact h.execWdRel.settled
  | loopRegisterWrite => exact h.execLoopRegisterWrite.settled
  | sqDoorbellWrite => exact h.execSqDoorbellWrite.settled
  | headDoorbellWrite => exact h.execHeadDoorbellWrite.settled
  | toothEdge => exact h.execToothEdge.settled
  | toothSynth => exact h.execToothSynth.settled
  | twInterpAdvance => exact h.execTwInterpAdvance.settled
  | twStopTimeout => exact h.execTwStopTimeout.settled
  | maLock => exact h.execMaLock.settled
  | maRefLost => exact h.execMaRefLost.settled
  | maCoastEnd => exact h.execMaCoastEnd.settled
  | maRefReturn => exact h.execMaRefReturn.settled
  | mainsEventStart => exact h.execMainsEventStart.settled
  | mainsEventEnd => exact h.execMainsEventEnd.settled
  | tbStatus => exact h.execTbStatus.settled
  | slotWrite => exact h.execSlotWrite.settled
  | slotRead => exact h.execSlotRead.settled
  | slotEnable => exact h.execSlotEnable.settled
  | mtSlotCrossing => exact h.execMtSlotCrossing.settled
  | maSlotCrossing => exact h.execMaSlotCrossing.settled
  | windowRefill => exact h.execWindowRefill.settled
  | actionDispatch => exact h.execActionDispatch.settled
  | timerStart => exact h.execTimerStart.settled
  | timerStop => exact h.execTimerStop.settled
  | timerExpiry => exact h.execTimerExpiry.settled
  | timerMatch => exact h.execTimerMatch.settled
  | ledgerShift => exact h.execLedgerShift.settled
  | parcelClose => exact h.execParcelClose.settled
  | ledgerSample => exact h.execLedgerSample.settled
  | heatIntegralTick => exact h.execHeatIntegralTick.settled
  | batchConditionTick => exact h.execBatchConditionTick.settled
  | batchTmax => exact h.execBatchTmax.settled
  | ledgerRead => exact h.execLedgerRead.settled
  | batchStep => exact h.execBatchStep.settled
  | seqTrig => exact h.execSeqTrig.settled
  | seqTrigger => exact h.execSeqTrigger.settled
  | settleEnd => exact h.execSettleEnd.settled
  | conversionSlotEnd => exact h.execConversionSlotEnd.settled
  | channelStale => exact h.execChannelStale.settled
  | sampleRead => exact h.execSampleRead.settled
  | streamOpen => exact h.execStreamOpen.settled
  | picaScanPeriod => exact h.execPicaScanPeriod.settled
  | picaReadSlotEnd => exact h.execPicaReadSlotEnd.settled
  | picaEnumEnd => exact h.execPicaEnumEnd.settled
  | portOpen => exact h.execPortOpen.settled
  | portShort => exact h.execPortShort.settled
  | portShortRetry => exact h.execPortShortRetry.settled
  | picaPointStale => exact h.execPicaPointStale.settled
  | zoneEvaluate => exact h.execZoneEvaluate.settled
  | zoneAgeingTick => exact h.execZoneAgeingTick.settled
  | zoneHoldTimeout => exact h.execZoneHoldTimeout.settled
  | picaScan => exact h.execPicaScan.settled
  | picaEnum => exact h.execPicaEnum.settled
  | loopEval => exact h.execLoopEval.settled
  | cleValueToken => exact h.execCleValueToken.settled
  | loopEvalStart => exact h.execLoopEvalStart.settled
  | loopEvalComplete => exact h.execLoopEvalComplete.settled
  | loopDeadline => exact h.execLoopDeadline.settled
  | setpointCopy => exact h.execSetpointCopy.settled
  | galleySnap => exact h.execGalleySnap.settled
  | galleyCopy => exact h.execGalleyCopy.settled
  | loopHold => exact h.execLoopHold.settled
  | loopRelease => exact h.execLoopRelease.settled
  | galleyArm => exact h.execGalleyArm.settled
  | galleyDump => exact h.execGalleyDump.settled
  | driveRefTick => exact h.execDriveRefTick.settled
  | kickCatchEnd => exact h.execKickCatchEnd.settled
  | kickPulsesCounted => exact h.execKickPulsesCounted.settled
  | kickTimeout => exact h.execKickTimeout.settled
  | stall => exact h.execStall.settled
  | retryAttempt => exact h.execRetryAttempt.settled
  | retryCountReset => exact h.execRetryCountReset.settled
  | i2tExhausted => exact h.execI2tExhausted.settled
  | driveTrip => exact h.execDriveTrip.settled
  | ftripInput => exact h.execFtripInput.settled
  | powerLimitTick => exact h.execPowerLimitTick.settled
  | powerLimitReduce => exact h.execPowerLimitReduce.settled
  | vinUndervolt => exact h.execVinUndervolt.settled
  | vinRecover => exact h.execVinRecover.settled
  | autonomyExpiry => exact h.execAutonomyExpiry.settled
  | internalFanFail => exact h.execInternalFanFail.settled
  | fanCmd => exact h.execFanCmd.settled
  | fanClearTrip => exact h.execFanClearTrip.settled
  | fanRetryNow => exact h.execFanRetryNow.settled
  | fanUnlock => exact h.execFanUnlock.settled
  | governorTick => exact h.execGovernorTick.settled
  | pullinPeak => exact h.execPullinPeak.settled
  | peakTimeEnd => exact h.execPeakTimeEnd.settled
  | valveTrip => exact h.execValveTrip.settled
  | coilOpen => exact h.execCoilOpen.settled
  | clamp => exact h.execClamp.settled
  | govClampClear => exact h.execGovClampClear.settled
  | burnerPermitChange => exact h.execBurnerPermitChange.settled
  | vbFault => exact h.execVbFault.settled
  | valveCmd => exact h.execValveCmd.settled
  | valveLearnL => exact h.execValveLearnL.settled
  | diFilterStep => exact h.execDiFilterStep.settled
  | doSet => exact h.execDoSet.settled
  | doClear => exact h.execDoClear.settled
  | doPulse => exact h.execDoPulse.settled
  | doPulseEnd => exact h.execDoPulseEnd.settled
  | tpropPeriodStart => exact h.execTpropPeriodStart.settled
  | tpropOnEnd => exact h.execTpropOnEnd.settled
  | freqHalfPeriod => exact h.execFreqHalfPeriod.settled
  | dioUpdateFrame => exact h.execDioUpdateFrame.settled
  | supervisorHeartbeat => exact h.execSupervisorHeartbeat.settled
  | doWatchdogExpiry => exact h.execDoWatchdogExpiry.settled
  | fieldFault => exact h.execFieldFault.settled
  | ovlRetry => exact h.execOvlRetry.settled
  | fioFaultRise => exact h.execFioFaultRise.settled
  | fioFaultFall => exact h.execFioFaultFall.settled
  | faultScanRepeat => exact h.execFaultScanRepeat.settled
  | faultScanStep => exact h.execFaultScanStep.settled
  | couplerFault => exact h.execCouplerFault.settled
  | dioFaultScan => exact h.execDioFaultScan.settled
  | hlTrip => exact h.execHlTrip.settled
  | heartbeatStale => exact h.execHeartbeatStale.settled
  | contactWeld => exact h.execContactWeld.settled
  | limitResetKey => exact h.execLimitResetKey.settled
  | keyStuck => exact h.execKeyStuck.settled
  | hlReset => exact h.execHlReset.settled
  | pchain => exact h.execPchain.settled
  | powerOn => exact h.execPowerOn
  | powerFail => exact h.execPowerFail.settled
  | rideThrough => exact h.execRideThrough.settled
  | powerCommit => exact h.execPowerCommit
  | supervisorWatchdog => exact h.execSupervisorWatchdog
  | proofStageEnd => exact h.execProofStageEnd.settled
  | proofVinReady => exact h.execProofVinReady.settled
  | proofVinTimeout => exact h.execProofVinTimeout.settled
  | tIntThreshold => exact h.execTIntThreshold.settled
  | overtemp => exact h.execOvertemp.settled
  | powerStateEntry dt => exact h.execPowerStateEntry (dt := dt)
  | plannedWake => exact h.execPlannedWake.settled
  | wake => exact h.execWake.settled
  | latencySet => exact h.execLatencySet.settled
  | clientHello => exact h.execClientHello.settled
  | handshakeDone => exact h.execHandshakeDone.settled
  | handshakeTimeout => exact h.execHandshakeTimeout.settled
  | sessionOpen => exact h.execSessionOpen.settled
  | sessionOpenTimeout => exact h.execSessionOpenTimeout.settled
  | ack => exact h.execAck.settled
  | sessionClose => exact h.execSessionClose.settled
  | keepalive => exact h.execKeepalive.settled
  | regRead => exact h.execRegRead.settled
  | regWrite => exact h.execRegWrite.settled
  | qCreate => exact h.execQCreate.settled
  | qDelete => exact h.execQDelete.settled
  | submit => exact h.execSubmit.settled
  | badFrame => exact h.execBadFrame.settled
  | frameRetransmit => exact h.execFrameRetransmit.settled
  | ackTimer => exact h.execAckTimer.settled
  | sessionTimeout => exact h.execSessionTimeout.settled
  | keepaliveSend => exact h.execKeepaliveSend.settled
  | deliver => exact h.execDeliver.settled
  | commandFetch => exact h.execCommandFetch.settled
  | commandStart => exact h.execCommandStart.settled
  | commandTimeout => exact h.execCommandTimeout.settled
  | resetWaitExpiry => exact h.execResetWaitExpiry.settled
  | lingerExpiry => exact h.execLingerExpiry.settled
  | nop => exact h.execNop.settled
  | identify => exact h.execIdentify.settled
  | getState => exact h.execGetState.settled
  | paramRead => exact h.execParamRead.settled
  | paramWrite => exact h.execParamWrite.settled
  | formeOpen => exact h.execFormeOpen.settled
  | formeWrite => exact h.execFormeWrite.settled
  | formeCheck => exact h.execFormeCheck.settled
  | quoin => exact h.execQuoin.settled
  | quoinBoundary => exact h.execQuoinBoundary.settled
  | stationChangeover => exact h.execStationChangeover.settled
  | quoinTimeout => exact h.execQuoinTimeout.settled
  | formeDiscard => exact h.execFormeDiscard.settled
  | stationReset => exact h.execStationReset.settled
  | stationReturn => exact h.execStationReturn.settled
  | unitReset => exact h.execUnitReset
  | updateStage => exact h.execUpdateStage.settled
  | updateCheck => exact h.execUpdateCheck.settled
  | updateCommit => exact h.execUpdateCommit.settled
  | updateAbort => exact h.execUpdateAbort.settled
  | updateRestart => exact h.execUpdateRestart.settled
  | supervisorReturn => exact h.execSupervisorReturn.settled
  | unitProgramDone => exact h.execUnitProgramDone.settled
  | flushTimer => exact h.execFlushTimer.settled
  | keyframeTimer => exact h.execKeyframeTimer.settled
  | logRead => exact h.execLogRead.settled
  | logCopyResume => exact h.execLogCopyResume.settled
  | recordMark => exact h.execRecordMark.settled
  | reprintStart => exact h.execReprintStart.settled
  | reprintStop => exact h.execReprintStop.settled
  | reprintRecord => exact h.execReprintRecord.settled
  | sfpModuleChange => exact h.execSfpModuleChange.settled
  | laneUp => exact h.execLaneUp.settled
  | laneDown => exact h.execLaneDown.settled
  | discoverCell => exact h.execDiscoverCell.settled
  | statusCell => exact h.execStatusCell.settled
  | statusCellSend => exact h.execStatusCellSend.settled
  | syncCellReceive => exact h.execSyncCellReceive.settled
  | syncCellSend => exact h.execSyncCellSend.settled
  | controlCell => exact h.execControlCell.settled
  | controlCellRetransmit => exact h.execControlCellRetransmit.settled
  | recordCell => exact h.execRecordCell.settled
  | bulkCell => exact h.execBulkCell.settled
  | tripBlockReceive => exact h.execTripBlockReceive.settled
  | tripBlockRepeat => exact h.execTripBlockRepeat.settled
  | tripCellReceive => exact h.execTripCellReceive.settled
  | tripCellRepeat => exact h.execTripCellRepeat.settled
  | nodeLost => exact h.execNodeLost.settled
  | nodeUpdateTimeout => exact h.execNodeUpdateTimeout.settled
  | peerZoneExport => exact h.execPeerZoneExport.settled
  | peerBoostSend => exact h.execPeerBoostSend.settled
  | peerTimeout => exact h.execPeerTimeout.settled
  | laneStatus => exact h.execLaneStatus.settled
  | nodeReset => exact h.execNodeReset.settled
  | ackKey => exact h.execAckKey.settled
  | lampTest => exact h.execLampTest.settled
  | ackStuck => exact h.execAckStuck.settled
  | strapSample => exact h.execStrapSample.settled
  | testmuxSet => exact h.execTestmuxSet.settled
  | usbAttach => exact h.execUsbAttach.settled
  | vinRangeChange => exact h.execVinRangeChange.settled
  | picaConvertWaitEnd => exact h.execPicaConvertWaitEnd.settled
  | portFaultClear => exact h.execPortFaultClear.settled
  | usbDetach => exact h.execUsbDetach.settled
  | ethernetLinkChange => exact h.execEthernetLinkChange.settled
  | lampTestEnd => exact h.execLampTestEnd.settled
  | debugHalt => exact h.execDebugHalt.settled
  | debugRelease => exact h.execDebugRelease.settled
  | quoinPreloadDone => exact h.execQuoinPreloadDone.settled
  | tripSourceClear => exact h.execTripSourceClear.settled
  | hlThresholdCrossing => exact h.execHlThresholdCrossing.settled

/-- What a settled step answers is in form, has the rest of the queue, and its MT is no earlier, or 0 in PROOF. -/
theorem SettledOut.reads {t : State} (h : SettledOut q m (.next t)) :
    t.wf ∧ t.pending = q ∧ (m ≤ t.now ∨ t.now = 0 ∧ t.isSt .proof = true) := by
  cases h with
  | kept hk => exact ⟨hk.wf, hk.waits, .inl hk.since⟩
  | anew ha =>
    obtain ⟨hk, hmt, hproof⟩ := ha
    exact ⟨hk.wf, hk.waits, .inr ⟨hmt, by simp [State.isSt, hproof]⟩⟩

/-- A step settles over the rest of the queue: the idle cycle, and every command. -/
theorem State.wf.step (h : s.wf) : SettledOut s.pending.tail s.now (step s) := by
  have hk : s.Kept s.pending s.now := (State.wf_iff_kept s).1 h
  unfold Machine.step
  split
  next hp => exact .kept { hk.elapse 1 with waits := (hk.elapse 1).waits.trans (by simp [hp]) }
  next c rest hp =>
    have hrest : State.Kept rest s.now { s with pending := rest } := { hk with waits := rfl }
    simpa [hp] using hrest.exec c

/-- Settles O59: each function of the model keeps every part of the state in form and MT from going back, so each
command does; the four that begin the unit anew leave MT 0 in PROOF. -/
theorem everyStepKeepsTheUnitInForm : Obligations.EveryStepKeepsTheUnitInForm := by
  unfold Obligations.EveryStepKeepsTheUnitInForm
  intro s t hwf hstep
  have h := hwf.step
  rw [hstep] at h
  exact h.reads

end Sys2Proof.Machine
end

section
/-! PROOFS. The imposition (03 R69 to R92): the rules of slots, windows and firings, and what a crossing, a refill, the
dispatcher and the slot commands do. -/

namespace Sys2Proof.Machine

variable {s t : State} {b n : Nat}

theorem sameBut.symm {ps : List Part} (h : sameBut ps s t) : sameBut ps t s := Eq.symm h
theorem State.onImp_frame (s : State) (f : ImpSt → ImpSt) : sameBut [.imp] (s.onImp f).quiet s.quiet := rfl

-- Slots and windows (03 R77, Table 3.6) ---------------------------------------------------------------------

theorem State.slotLive_congr (h : s.imp.slots = t.imp.slots) (n : Nat) : s.slotLive n = t.slotLive n := by
  simp only [State.slotLive, h]
theorem State.win_congr (h : s.imp.wins = t.imp.wins) (b : Nat) : s.win b = t.win b := by
  simp only [State.win, h]

@[simp] theorem State.elapse_slotLive (s : State) (dt n : Nat) : (s.elapse dt).slotLive n = s.slotLive n :=
  State.slotLive_congr (by simp) n
@[simp] theorem State.elapse_win (s : State) (dt b : Nat) : (s.elapse dt).win b = s.win b :=
  State.win_congr (by simp) b
@[simp] theorem State.winRemove_slotLive (s : State) (b n m : Nat) : (s.winRemove b n).slotLive m = s.slotLive m := rfl
@[simp] theorem State.winInsert_slotLive (s : State) (b n m : Nat) : (s.winInsert b n).slotLive m = s.slotLive m := rfl

/-- An entry that differs from the default is read back whatever the table was. -/
theorem State.setSlot_slotLive_self {l : SlotLive} (hl : l ≠ {}) : (s.setSlot n l).slotLive n = l := by
  simp [State.slotLive, State.setSlot, spGetD, spSet, hl]
theorem State.setSlot_slotLive_of_keysRise (l : SlotLive) (h : keysRise s.imp.slots) : (s.setSlot n l).slotLive n = l :=
  spGetD_spSet_self _ _ _ h
theorem State.setSlot_slotLive_ne (l : SlotLive) {m : Nat} (h : m ≠ n) : (s.setSlot n l).slotLive m = s.slotLive m :=
  spGetD_spSet_ne _ _ _ h

theorem SlotLive.ne_default {l : SlotLive} (h : l.st ≠ .disabled) : l ≠ {} := fun hl => h (by rw [hl])

theorem State.winRemove_win (s : State) (b n : Nat) : (s.winRemove b n).win b = (s.win b).filter (· ≠ n) := by
  by_cases hb : b < s.imp.wins.length <;> simp [State.win, State.winRemove, List.getD_eq_getElem?_getD, hb]

/-- A slot that enters a window with no other slot is alone in it. -/
theorem State.winInsert_of_alone (hw : (s.win b).filter (· ≠ n) = []) :
    s.winInsert b n = s.onImp fun i => { i with wins := i.wins.modify b fun _ => [n] } := by
  unfold State.winInsert
  rw [hw]
  rfl
theorem State.winInsert_win_of_alone (hb : b < s.imp.wins.length) (hw : (s.win b).filter (· ≠ n) = []) :
    (s.winInsert b n).win b = [n] := by
  rw [State.winInsert_of_alone hw]
  simp [State.win, List.getD_eq_getElem?_getD, hb]

/-- Slot entries come from the forme, which slugs, input records and the blanked parts do not touch (03 R69). -/
theorem sameBut.slotEntry_eq {ps : List Part} (h : sameBut ps s.quiet t.quiet) (hs : .store ∉ ps) (hu : .sup ∉ ps) (n : Nat) :
    s.slotEntry n = t.slotEntry n := by
  simp only [State.slotEntry, State.formeOf, h.reprint_eq hs, h.sup_eq hu]

@[simp] theorem State.elapse_slotEntry (s : State) (dt n : Nat) : (s.elapse dt).slotEntry n = s.slotEntry n :=
  (s.elapse_frame dt).slotEntry_eq (by decide) (by decide) n

@[simp] theorem State.elapse_baseMarks (s : State) (dt b : Nat) : (s.elapse dt).baseMarks b = s.baseMarks b := by
  unfold State.elapse
  split <;> rfl

/-- The base's own marks leave LATE to the crossing (03 Table 3.5). -/
theorem State.late_of_marks (s : State) (b : Nat) (late : Bool) : bitOf (s.baseMarks b + b2n late) 0 = late := by
  have heven : s.baseMarks b % 2 = 0 := by
    unfold State.baseMarks
    split_ifs <;> rfl
  cases late <;> simp [bitOf, b2n] <;> omega

-- Firings (03 R78) ------------------------------------------------------------------------------------------

theorem afterFire_st (e : SlotEntry) (l : SlotLive) (k next marks : Nat) :
    (afterFire e l k next marks).st = if (e.base ≠ 6 && e.rep = 0) || (e.count ≠ 0 && l.remaining ≤ k) then .done else .armed := rfl

theorem afterFire_ne_default (e : SlotEntry) (l : SlotLive) (k next marks : Nat) : afterFire e l k next marks ≠ {} := by
  refine SlotLive.ne_default ?_
  rw [afterFire_st]
  split <;> decide

/-- A firing that finds the dispatch queue empty is its one entry. -/
theorem State.pushFiring_imp_of_idle (hq : s.imp.queue = []) (hh : s.imp.held = []) (x : Firing) :
    (s.pushFiring x).imp = { s.imp with
      queue := [x], late := if bitOf x.marks 0 then incW 32 s.imp.late else s.imp.late
      evt := if bitOf x.marks 0 then orBit s.imp.evt 0 else s.imp.evt } := by
  cases hlate : bitOf x.marks 0 <;> simp [State.pushFiring, hq, hh, queueFiring, hlate, apply_ite State.imp]

/-- Without LATE no slug is written: a firing reaches the imposition only. -/
theorem State.pushFiring_sameBut (s : State) {x : Firing} (hx : bitOf x.marks 0 = false) : sameBut [.imp] (s.pushFiring x) s := by
  unfold State.pushFiring
  simp only [hx]
  rfl

/-- A slot reached once fires its target as it stands and goes on by one REPEAT (03 R71, R72). -/
theorem State.slotCross_once {cur : Nat} {late step : Bool} (e : SlotEntry) (l : SlotLive) (he : s.slotEntry n = e)
    (hl : s.slotLive n = l) (honce : e.rep = 0 ∨ (baseDiff b cur l.next).toNat < e.rep) (hleft : e.count = 0 ∨ 0 < l.remaining) :
    s.slotCross b cur n late step =
      ([mkFiring n e (l.next % baseMod b) (if b = 0 ∧ !late then l.next % baseMod b else s.bmt) 1 (s.baseMarks b + b2n late)],
       afterFire e l 1 (if e.rep = 0 then l.next else (l.next + e.rep) % baseMod b) (s.baseMarks b + b2n late)) := by
  have hk0 : (if e.rep = 0 then 1 else (baseDiff b cur l.next).toNat / e.rep + 1) = 1 := by
    split
    · rfl
    · rw [Nat.div_eq_of_lt (by omega)]
  have hk : (if e.count = 0 then 1 else min 1 l.remaining) = 1 := by
    split <;> omega
  unfold State.slotCross
  simp [he, hl, hk0, hk]

/-- A slot after its firing: out of its window, and in it again with its next target while it is ARMED (03 R72). -/
def State.putBack (s : State) (b n : Nat) (l : SlotLive) : State :=
  if l.st = .armed then ((s.setSlot n l).winRemove b n).winInsert b n else (s.setSlot n l).winRemove b n

theorem State.putBack_slotLive {l : SlotLive} (hl : l ≠ {}) : (s.putBack b n l).slotLive n = l := by
  unfold State.putBack
  split <;> simp [State.setSlot_slotLive_self hl]

theorem State.putBack_win_of_alone {l : SlotLive} (hb : b < s.imp.wins.length) (hw : (s.win b).filter (· ≠ n) = []) :
    (s.putBack b n l).win b = if l.st = .armed then [n] else [] := by
  have hout : ((s.setSlot n l).winRemove b n).win b = [] := by rw [State.winRemove_win]; exact hw
  unfold State.putBack
  split
  · refine State.winInsert_win_of_alone ?_ (by rw [hout]; rfl)
    simpa [State.winRemove, State.setSlot] using hb
  · exact hout

/-- Putting a slot back changes the slot table and the windows only. -/
theorem State.putBack_frame (s : State) (b n : Nat) (l : SlotLive) :
    ∃ slots wins, s.putBack b n l = { s with imp := { s.imp with slots, wins } } := by
  unfold State.putBack
  split <;> exact ⟨_, _, rfl⟩

-- Crossings (03 R71, R85) -----------------------------------------------------------------------------------

@[simp] theorem State.lateSlug_imp (s : State) (b k : Nat) : (s.lateSlug b k).imp = s.imp := by
  unfold State.lateSlug
  split <;> simp

@[simp] theorem State.crossSlots_nil (s : State) (b : Nat) (late step : Bool) : s.crossSlots b [] late step = s := by
  cases late <;> simp [State.crossSlots, State.lateSlug]

section
variable {x : Firing} {l : SlotLive} {late step : Bool} (hx : s.slotCross b (s.baseVal b) n late step = ([x], l))
include hx

theorem State.crossSlots_one : s.crossSlots b [n] late step =
    if late then ((s.putBack b n l).pushFiring x).lateSlug b 1 else (s.putBack b n l).pushFiring x := by
  simp [State.crossSlots, hx, insertFiring, State.putBack]

/-- What the imposition holds after the one firing of the only slot reached. -/
theorem State.crossSlots_one_reads (hl : l ≠ {}) (hb : b < s.imp.wins.length) (hw : (s.win b).filter (· ≠ n) = [])
    (hq : s.imp.queue = []) (hh : s.imp.held = []) :
    let t := s.crossSlots b [n] late step
    t.slotLive n = l ∧ t.win b = (if l.st = .armed then [n] else []) ∧ t.imp.queue = [x] ∧
      t.imp.late = (if bitOf x.marks 0 then incW 32 s.imp.late else s.imp.late) ∧ t.imp.winLate = s.imp.winLate := by
  intro t
  obtain ⟨slots, wins, hput⟩ := s.putBack_frame b n l
  have himp : t.imp = ((s.putBack b n l).pushFiring x).imp := by
    unfold t
    rw [State.crossSlots_one hx]
    split <;> simp
  rw [State.pushFiring_imp_of_idle (by rw [hput]; exact hq) (by rw [hput]; exact hh)] at himp
  refine ⟨?_, ?_, by rw [himp], by rw [himp, hput], by rw [himp, hput]⟩
  · rw [State.slotLive_congr (t := s.putBack b n l) (by rw [himp]), State.putBack_slotLive hl]
  · rw [State.win_congr (t := s.putBack b n l) (by rw [himp]), State.putBack_win_of_alone hb hw]

theorem State.crossSlots_one_sameBut (hlate : late = false) (hmark : bitOf x.marks 0 = false) :
    sameBut [.imp] (s.crossSlots b [n] late step) s := by
  obtain ⟨slots, wins, hput⟩ := s.putBack_frame b n l
  rw [State.crossSlots_one hx, hlate]
  exact ((s.putBack b n l).pushFiring_sameBut hmark).trans (by rw [hput]; rfl)
end

/-- A base that has reached the one slot of its window crosses that slot. -/
theorem State.crossBase_of_hit (hv : s.baseValid b = true) (hw : s.win b = [n])
    (hd : 0 ≤ baseDiff b (s.baseVal b) (s.slotLive n).next) : s.crossBase b false = s.crossSlots b [n] false false := by
  simp [State.crossBase, hv, hw, hd]

theorem State.crossBase_of_empty (hw : s.win b = []) : s.crossBase b false = s := by
  simp [State.crossBase, hw]

/-- A slot alone in the window that its base has reached, but not passed by a REPEAT, fires once (03 R71, R72). -/
theorem State.crossBase_once (e : SlotEntry) (l : SlotLive) (he : s.slotEntry n = e) (hl : s.slotLive n = l)
    (hv : s.baseValid b = true) (hb : b < s.imp.wins.length) (hw : s.win b = [n]) (hq : s.imp.queue = []) (hh : s.imp.held = [])
    (hd : 0 ≤ baseDiff b (s.baseVal b) l.next) (honce : e.rep = 0 ∨ (baseDiff b (s.baseVal b) l.next).toNat < e.rep)
    (hleft : e.count = 0 ∨ 0 < l.remaining) :
    let t := s.crossBase b false
    let l' := afterFire e l 1 (if e.rep = 0 then l.next else (l.next + e.rep) % baseMod b) (s.baseMarks b)
    t.slotLive n = l' ∧ t.win b = (if l'.st = .armed then [n] else []) ∧
      t.imp.queue = [mkFiring n e (l.next % baseMod b) (if b = 0 then l.next % baseMod b else s.bmt) 1 (s.baseMarks b)] ∧
      sameBut [.imp] t s := by
  have hmark : bitOf (s.baseMarks b) 0 = false := s.late_of_marks b false
  have hx := State.slotCross_once (s := s) (b := b) (cur := s.baseVal b) (late := false) (step := false) e l he hl honce hleft
  simp only [b2n, Bool.false_eq_true, if_false, Nat.add_zero, Bool.not_false, and_true] at hx
  intro t l'
  have ht : t = s.crossSlots b [n] false false := State.crossBase_of_hit hv hw (by rw [hl]; exact hd)
  rw [ht]
  obtain ⟨hlive, hwin, hqueue, -, -⟩ := State.crossSlots_one_reads hx (afterFire_ne_default _ _ _ _ _) hb (by simp [hw]) hq hh
  exact ⟨hlive, hwin, hqueue, State.crossSlots_one_sameBut hx rfl hmark⟩

/-- The next target of a repeating slot is a multiple of REPEAT on from the last, whatever the base has come to (03 R72). -/
theorem State.slotCross_next (s : State) (b cur n : Nat) (late step : Bool) (hrep : 0 < (s.slotEntry n).rep) :
    ∃ k, 0 < k ∧ (s.slotCross b cur n late step).2.next = ((s.slotLive n).next + k * (s.slotEntry n).rep) % baseMod b := by
  refine ⟨(baseDiff b cur (s.slotLive n).next).toNat / (s.slotEntry n).rep + 1, Nat.succ_pos _, ?_⟩
  unfold State.slotCross
  simp only [if_neg hrep.ne']
  split <;> rfl

-- A crossing of MT ------------------------------------------------------------------------------------------

/-- Times below 2^63 differ as numbers do. -/
theorem diff64_of_lt {x y : Nat} (hx : x < 2 ^ 63) (hy : y < 2 ^ 63) : diff64 x y = (x : Int) - y := by
  simp only [diff64, sx, uw]
  split_ifs <;> omega

theorem execMtSlotCrossing_of_reached (dt : Nat) (hrep : s.store.reprint = none) (hw : s.win 0 = [n])
    (hle : (s.slotLive n).next ≤ (s.elapse dt).now) : exec (.mtSlotCrossing dt) s = .next ((s.elapse dt).crossBase 0 false) := by
  have hexec : exec (.mtSlotCrossing dt) s = execMtSlotCrossing dt s := rfl
  have hreach : (s.elapse dt).reach ((s.elapse dt).slotLive n).next = some (s.elapse dt) :=
    State.reach_of_live (by simpa using hrep) (by simpa using hle)
  rw [hexec]
  unfold execMtSlotCrossing
  simp only [State.elapse_win, hw, hreach]

/-- Settles O18: a slot alone in the MT window, reached and not passed by a REPEAT, fires once; the next target is computed
from the last one and REPEAT, on every base (03 R71, R72). -/
theorem repeatingSlotsNeverDrift : Obligations.RepeatingSlotsNeverDrift := by
  refine ⟨?_, fun b cur n late step s _ _ hrep => s.slotCross_next b cur n late step hrep⟩
  intro dt n s e l last hlive hw hwins he hbase hl hq hh hle hlt
  have hb : 0 < s.imp.wins.length := List.length_pos_iff.2 hwins
  have hexec := execMtSlotCrossing_of_reached dt hlive hw (by rw [hl]; exact hle)
  have hval : (s.elapse dt).baseVal 0 = (s.elapse dt).now := State.bmt_eq_now (by simpa using hlive)
  have hdiff : baseDiff 0 ((s.elapse dt).baseVal 0) l.next = (s.elapse dt).now - l.next := by
    rw [hval]
    exact diff64_of_lt hlt (by omega)
  have hmod : l.next % baseMod 0 = l.next := Nat.mod_eq_of_lt (show l.next < 2 ^ 64 by omega)
  have fires := State.crossBase_once (s := s.elapse dt) (b := 0) (n := n) e l (by simpa using he) (by simpa using hl) rfl
    (by simpa using hb) (by simpa using hw) (by simpa using hq) (by simpa using hh) (by rw [hdiff]; omega)
  simp only [hmod, if_true, State.elapse_baseMarks] at fires
  have hmark : bitOf (s.baseMarks 0) 0 = false := s.late_of_marks 0 false
  constructor
  · intro hrep hnow _ hleft hlast
    obtain ⟨hslot, hwin, hqueue, hframe⟩ := fires (.inr (by rw [hdiff]; omega)) hleft
    have hst : (afterFire e l 1 ((l.next + e.rep) % baseMod 0) (s.baseMarks 0)).st = if last then .done else .armed := by
      simp [afterFire_st, hrep.ne', hlast]
    rw [if_neg hrep.ne'] at hslot hwin
    refine ⟨_, hexec, ?_, hqueue, ?_, hframe.symm⟩
    · rw [hslot, ← hst]
      simp [afterFire, hmark, baseMod]
    · rw [hwin, hst]
      cases last <;> rfl
  · intro hrep hone hrem
    obtain ⟨hslot, hwin, hqueue, hframe⟩ := fires (.inl hrep) (by omega)
    have hst (next : Nat) : (afterFire e l 1 next (s.baseMarks 0)).st = .done := by simp [afterFire_st, hbase, hrep]
    refine ⟨_, hexec, by rw [hslot, hst], ?_, hqueue, hframe.symm⟩
    rw [hwin, hst]
    rfl

-- An advance of the mains angle (03 R70, R71) ---------------------------------------------------------------

theorem State.baseVal_of_locked (hma : s.time.ma = .locked) : s.baseVal 1 = s.time.ext := by simp [State.baseVal, hma]
theorem State.baseMarks_of_locked (hma : s.time.ma = .locked) : s.baseMarks 1 = 0 := by simp [State.baseMarks, hma]

/-- The time block after a locked angle has advanced to `ext` at the instant `m`. -/
def TimeSt.advanced (m ext freq : Nat) (t : TimeSt) : TimeSt :=
  { t with ext := ext % 2 ^ 48, extMt := m, freq := if freqOk freq then freq else t.freq }

theorem State.maAdvance_of_ahead (ext freq : Nat) (hma : s.time.ma = .locked) (hd : 0 ≤ diff48 ext s.time.ext) :
    s.maAdvance ext freq = (s.onTime (TimeSt.advanced s.bmt ext freq)).crossBase 1 false := by
  unfold State.maAdvance TimeSt.advanced
  rw [hma]
  dsimp only
  rw [if_neg (by omega)]
  split <;> rfl

/-- Outside REPRINT the advance acts on a state that only an input record sets apart from the unit as time has left it. -/
theorem execMaSlotCrossing_of_ahead (dt ext freq : Nat) (hrep : s.store.reprint = none) (hlive : s.isSt .reprint = false)
    (hma : s.time.ma = .locked) (hd : 0 ≤ diff48 ext s.time.ext) :
    ∃ v : State, exec (.maSlotCrossing dt ext freq) s = .next (v.crossBase 1 false) ∧
      v.quiet = ((s.elapse dt).onTime (TimeSt.advanced (s.elapse dt).now ext freq)).quiet ∧ v.bmt = (s.elapse dt).now := by
  have hliveU : (s.elapse dt).isSt .reprint = false := by simpa using hlive
  obtain ⟨v, hv, hq, ht, hm⟩ := State.mainsIn_live hliveU (by simpa using hrep) [5, ext, freq] fun t => t.maAdvance ext freq
  have hexec : exec (.maSlotCrossing dt ext freq) s = .next (v.maAdvance ext freq) := by
    rw [← hv]
    show execMaSlotCrossing dt ext freq s = _
    simp [execMaSlotCrossing, State.mainsIn, hliveU]
  rw [State.maAdvance_of_ahead ext freq (by simpa [ht] using hma) (by simpa [ht] using hd)] at hexec
  refine ⟨_, hexec, by rw [State.onTime_quiet, State.onTime_quiet, hq, hm], ?_⟩
  rw [← hm]
  rfl

/-- What the imposition finds once the angle has advanced: its own state as it was, and MA at the angle given. -/
theorem State.advanced_reads {v : State} {dt m ext freq : Nat} (hma : s.time.ma = .locked)
    (hq : v.quiet = ((s.elapse dt).onTime (TimeSt.advanced m ext freq)).quiet) :
    v.imp = s.imp ∧ v.time.ma = .locked ∧ v.baseVal 1 = ext % 2 ^ 48 ∧ ∀ n, v.slotEntry n = s.slotEntry n := by
  obtain ⟨htime, himp, -⟩ := quiet_parts hq
  have hmaV : v.time.ma = .locked := by simp [htime, TimeSt.advanced, hma]
  have hframe : sameBut [.time] v.quiet (s.elapse dt).quiet := by rw [hq]; rfl
  refine ⟨by simpa using himp, hmaV, ?_, fun n => ?_⟩
  · rw [State.baseVal_of_locked hmaV, htime]
    rfl
  · rw [hframe.slotEntry_eq (by decide) (by decide), State.elapse_slotEntry]

-- The refill scan (03 R77) ----------------------------------------------------------------------------------

section
variable {l : SlotLive} (hslots : s.imp.slots = [(n, l)])
include hslots

theorem State.slotLive_of_single : s.slotLive n = l := by simp [State.slotLive, spGetD, spGet, hslots]
theorem State.armedOn_of_single (hst : l.st = .armed) (hbase : (s.slotEntry n).base = b) : s.armedOn b = [n] := by
  simp [State.armedOn, hslots, hst, hbase]
end

section
variable (hmine : s.armedOn b = [n])
include hmine

theorem State.refill_of_ahead (hst : (s.slotLive n).st = .armed) (hd : baseDiff b (s.baseVal b) (s.slotLive n).next < 0) :
    s.refill b = s.winInsert b n := by
  simp [State.refill, hmine, hst, hd]

/-- A target that the base has passed outside the window is crossed LATE and counted; a slot that is DONE stays out. -/
theorem State.refill_of_missed (hout : n ∉ s.win b) (hd : 0 ≤ baseDiff b (s.baseVal b) (s.slotLive n).next)
    (hdone : ((s.crossSlots b [n] true false).slotLive n).st = .done) :
    s.refill b = (s.crossSlots b [n] true false).onImp fun i =>
      { i with winLate := incW 32 i.winLate, evt := orBit i.evt 1 } := by
  have hdone' (f : ImpSt → ImpSt) (hf : ∀ i, (f i).slots = i.slots) :
      (((s.crossSlots b [n] true false).onImp f).slotLive n).st = .done := by
    rw [State.slotLive_congr (t := s.crossSlots b [n] true false) (by simp [hf]), hdone]
  simp [State.refill, hmine, hout, hd, hdone', incW]
end

/-- A one-shot that its base has passed outside the window fires LATE, is DONE and is counted (03 R77). -/
theorem State.refill_once_late (e : SlotEntry) (l : SlotLive) (he : s.slotEntry n = e) (hl : s.slotLive n = l)
    (hmine : s.armedOn b = [n]) (hb : b < s.imp.wins.length) (hw : s.win b = []) (hq : s.imp.queue = []) (hh : s.imp.held = [])
    (hd : 0 ≤ baseDiff b (s.baseVal b) l.next) (hrep : e.rep = 0) (hbase : e.base ≠ 6) (hleft : e.count = 0 ∨ 0 < l.remaining) :
    let t := s.refill b
    t.win b = [] ∧ (t.slotLive n).st = .done ∧ t.imp.queue = [mkFiring n e (l.next % baseMod b) s.bmt 1 (s.baseMarks b + 1)] ∧
      t.imp.winLate = incW 32 s.imp.winLate ∧ t.imp.late = incW 32 s.imp.late ∧ sameBut [.imp] t.quiet s.quiet := by
  have hx := State.slotCross_once (s := s) (b := b) (cur := s.baseVal b) (late := true) (step := false) e l he hl (.inl hrep) hleft
  have hmark : bitOf (s.baseMarks b + 1) 0 = true := s.late_of_marks b true
  simp only [b2n, if_true, Bool.not_true, Bool.false_eq_true, and_false, if_false] at hx
  obtain ⟨hlive, hwin, hqueue, hlate, hwinLate⟩ := State.crossSlots_one_reads hx (afterFire_ne_default _ _ _ _ _) hb (by simp [hw]) hq hh
  have hdone (next : Nat) : (afterFire e l 1 next (s.baseMarks b + 1)).st = .done := by simp [afterFire_st, hrep, hbase]
  rw [hdone] at hwin
  have hframe := s.crossSlots_frame b [n] true false
  intro t
  have ht : t = _ := State.refill_of_missed hmine (by simp [hw]) (by rw [hl]; exact hd) (by rw [hlive, hdone])
  rw [ht]
  generalize s.crossSlots b [n] true false = c at *
  refine ⟨hwin, ?_, hqueue, ?_, ?_, (c.onImp_frame _).trans hframe⟩
  · rw [State.slotLive_congr (t := c) (by simp), hlive, hdone]
  · simp [hwinLate]
  · simpa [mkFiring, hmark] using hlate

theorem execWindowRefill_of_valid (dt : Nat) (hb : b < 6) (hv : (s.elapse dt).baseValid b = true) :
    exec (.windowRefill dt b) s = .next ((s.elapse dt).refill b) := by
  show execWindowRefill dt b s = _
  exact if_pos ⟨hb, hv⟩

-- The dispatcher (03 R79, Table 3.8) ------------------------------------------------------------------------

/-- The first firing has left the dispatch queue, counted with its latency. -/
def ImpSt.handedOver (i : ImpSt) (rest : List Firing) (lat : Nat) : ImpSt :=
  { i with queue := rest, disp := incW 32 i.disp, latMax := max i.latMax lat }

section
variable {x : Firing} {rest : List Firing} (hq : s.imp.queue = x :: rest) (hh : s.imp.held = [])
include hq hh

/-- SEQ_TRIG, TIMER_START, TIMER_STOP and GALLEY_SNAP go to their station's inbox as they are (03 Table 3.3). -/
theorem State.dispatch_to_inbox (ha : x.action ∈ [1, 6, 7, 10]) (hres : s.isResetting (actionStation x.action x.index) = false) :
    s.dispatch = s.onImp fun i => { i.handedOver rest (s.bmt - x.mt) with inbox := i.inbox ++ [x] } := by
  have hto : x.action ≠ 0 ∧ x.action ≠ 2 ∧ ¬(3 ≤ x.action ∧ x.action ≤ 5) ∧ x.action ≠ 8 ∧ x.action ≠ 9 := by
    simp only [List.mem_cons, List.not_mem_nil, or_false] at ha
    omega
  obtain ⟨h0, h2, h35, h8, h9⟩ := hto
  have hres' (i : ImpSt) : ({ s with imp := i } : State).isResetting (actionStation x.action x.index) = false := hres
  unfold State.dispatch
  simp only [hq]
  simp [h0, h2, h35, h8, h9, State.onImp, hres', ImpSt.handedOver, hh]

theorem State.dispatch_none (ha : x.action = 0) :
    s.dispatch = (s.onImp fun i => i.handedOver rest (s.bmt - x.mt)).reportAcc x.slot .accepted := by
  unfold State.dispatch
  simp [hq, hh, ha, State.onImp, ImpSt.handedOver]
end

/-- An acceptance is no refusal: only the slot's entry tells of it. -/
theorem State.reportAcc_accepted (s : State) (slot : Nat) :
    s.reportAcc slot .accepted = s.setSlot slot { s.slotLive slot with lastAcc := 0, refRun := false } := by
  simp [State.reportAcc, accCode]

-- The slot commands (03 R69, R82, R92, Table 3.11) ----------------------------------------------------------

section
variable {fl : Flight}

theorem slotWriteBody_staged {o : OpenForme} (hn : argN fl.e 0 2 ≤ 4095) (hrsv : slotReservedOk (slotOf (bytesAt fl.e.args 4 32)) = true)
    (ho : s.sup.openF = some o) (hquoin : s.sup.quoin = none) :
    slotWriteBody fl s = .ok (s.onSup fun u => { u with openF := some (openPutRec o 0x20 (argN fl.e 0 2) (bytesAt fl.e.args 4 32)) })
      (le 2 (argN fl.e 0 2)) := by
  simp [slotWriteBody, Nat.not_lt.2 hn, hrsv, State.openWrite, ho, hquoin]

/-- The bytes of view 0 of SLOT_READ (03 Table 3.11). -/
def SlotLive.view (l : SlotLive) : List Nat :=
  le 8 l.next ++ le 2 l.firings ++ le 2 l.refusals ++ le 2 l.late ++
    [match l.st with | .disabled => 0 | .armed => 1 | .held => 2 | .done => 3, l.marks] ++ le 2 l.remaining ++ [l.lastAcc]

theorem slotReadBody_live (hn : argN fl.e 0 2 ≤ 4095) (hv : argB fl.e 2 = 0) :
    slotReadBody fl s = .ok s (s.slotLive (argN fl.e 0 2)).view := by
  unfold slotReadBody
  dsimp only
  rw [if_neg (by omega), hv]
  rfl

/-- SLOT_ENABLE of one slot, without an override of its target. -/
theorem slotEnableBody_one {op : Nat} (hn : argN fl.e 0 2 = n) (hlt : n < 4096) (hcnt : argN fl.e 2 2 = 1) (hop : argB fl.e 4 = op)
    (hop2 : op < 2) (u : State) (k late : Nat)
    (hone : slotEnableOne op n (argN fl.e 8 8, bitOf (argB fl.e 5) 0) (s, 0, 0) = (u, k, late)) :
    slotEnableBody fl s = .ok (u.recHost fl.sid 0x22 n (argN fl.e 8 8) 0 fl.e.args) (le 2 k ++ le 2 late) := by
  unfold slotEnableBody
  dsimp only
  rw [hn, hcnt, hop, if_neg (by omega), if_neg (by omega)]
  simp only [List.range_one, List.foldl_cons, List.foldl_nil, Nat.add_zero, hone]

/-- SLOT_ENABLE of one slot answers one slot changed and none LATE, and is recorded as an input. -/
theorem execSlotEnable_one {f op : Nat} (dt : Nat) (hf : s.flight? f = some fl) (hr : ready fl 0x22 = true) (hn : argN fl.e 0 2 = n)
    (hlt : n < 4096) (hcnt : argN fl.e 2 2 = 1) (hop : argB fl.e 4 = op) (hop2 : op < 2) (u : State)
    (hone : slotEnableOne op n (argN fl.e 8 8, bitOf (argB fl.e 5) 0) (s.elapse dt, 0, 0) = (u, 1, 0)) :
    exec (.slotEnable dt f) s = .next ((u.recHost fl.sid 0x22 n (argN fl.e 8 8) 0 fl.e.args).complete f sOK [1, 0, 0, 0]) := by
  show Host.Outcome.next (runCmd 0x22 f slotEnableBody (s.elapse dt)) = _
  rw [runCmd_ready slotEnableBody (by simpa using hf) hr, slotEnableBody_one hn hlt hcnt hop hop2 u 1 0 hone]
  rfl
end

/-- A slot ARMED at the target of its entry, with its whole COUNT (03 R81). -/
def SlotLive.armedAt (l : SlotLive) (e : SlotEntry) : SlotLive :=
  { l with st := .armed, next := e.target, remaining := e.count, refRun := false }

theorem SlotLive.armedAt_ne_default (l : SlotLive) (e : SlotEntry) : l.armedAt e ≠ {} := SlotLive.ne_default nofun

/-- Arming a slot on MT whose absolute target lies ahead brings it into its window (03 R81; log 10). -/
theorem State.armSlot_of_ahead (hbase : (s.slotEntry n).base = 0) (hrel : (s.slotEntry n).rel = false)
    (hlt : (s.slotEntry n).target < 2 ^ 64) (hd : baseDiff 0 s.bmt (s.slotEntry n).target < 0) :
    s.armSlot n none =
      (((s.winRemove 0 n).setSlot n ((s.slotLive n).armedAt (s.slotEntry n))).winInsert 0 n, false) := by
  have hmod : (s.slotEntry n).target % baseMod 0 = (s.slotEntry n).target := Nat.mod_eq_of_lt hlt
  have hnow : (s.winRemove 0 n).baseNow 0 = s.bmt := rfl
  have hvalid : (s.winRemove 0 n).baseValid 0 = true := rfl
  simp [State.armSlot, SlotLive.armedAt, hbase, hrel, hmod, hnow, hvalid, hd]

/-- A disarmed slot leaves the window of its base. -/
theorem State.disarmSlot_win (hb : (s.slotEntry n).base < 6) :
    ((s.disarmSlot n).win (s.slotEntry n).base).contains n = false := by
  unfold State.disarmSlot
  rw [if_pos hb, State.winRemove_win]
  simp

theorem State.disarmSlot_slotLive (s : State) (n m : Nat) :
    (s.disarmSlot n).slotLive m = (s.setSlot n { s.slotLive n with st := .disabled }).slotLive m := by
  unfold State.disarmSlot
  split <;> rfl

theorem State.disarmSlot_frame (s : State) (n : Nat) : sameBut [.imp] (s.disarmSlot n).quiet s.quiet := by
  unfold State.disarmSlot
  exact sameBut_ite rfl rfl

@[simp] theorem State.recHost_slotLive (s : State) (sid op id : Nat) (v : Int) (accN : Nat) (args : List Nat) (n : Nat) :
    (s.recHost sid op id v accN args).slotLive n = s.slotLive n := State.slotLive_congr (by simp) n
@[simp] theorem State.recHost_win (s : State) (sid op id : Nat) (v : Int) (accN : Nat) (args : List Nat) (b : Nat) :
    (s.recHost sid op id v accN args).win b = s.win b := State.win_congr (by simp) b

@[simp] theorem le_length (k n : Nat) : (le k n).length = k := by simp [le]

theorem le_succ (k n : Nat) : le (k + 1) n = n % 256 :: le k (n / 256) := by
  simp [le, List.range_succ_eq_map, Nat.pow_succ', Nat.div_div_eq_div_mul]

/-- The bytes of a number are read back as the number modulo their width (00 R7). -/
theorem ofLe_le (k n : Nat) : ofLe (le k n) = n % 256 ^ k := by
  induction k generalizing n with
  | zero => simp [le, ofLe, Nat.mod_one]
  | succ k ih => rw [le_succ, ofLe, ih, Nat.pow_succ', Nat.mod_mul]

theorem numAt_le_append (k n : Nat) (r : List Nat) : numAt (le k n ++ r) 0 k = n % 256 ^ k := by
  have hbytes : bytesAt (le k n ++ r) 0 k = le k n := by
    refine List.ext_getElem (by simp [bytesAt]) fun i h _ => ?_
    simp only [bytesAt, List.length_map, List.length_range] at h
    simp [bytesAt, List.getD_eq_getElem?_getD, List.getElem?_append_left, h]
  rw [numAt, hbytes, ofLe_le]

namespace SlotLive
variable (l : SlotLive)
theorem view_length : l.view.length = 19 := by simp [view]
theorem view_next : numAt l.view 0 8 = l.next % 2 ^ 64 := by
  simp only [view, List.append_assoc]
  exact numAt_le_append 8 l.next _
theorem view_lastAcc : l.view.getD 18 0 = l.lastAcc := by
  simp [view, List.getD_eq_getElem?_getD]
end SlotLive

-- The rows --------------------------------------------------------------------------------------------------

/-- Settles O19: each row is the operation on one slot, window or firing, after time has passed (03 R69 to R82, R92). -/
theorem impositionRowsFireAndDispatch : Obligations.ImpositionRowsFireAndDispatch := by
  intro dt s hrep hlive
  have hnow : (s.elapse dt).bmt = (s.elapse dt).now := State.bmt_eq_now (by simpa using hrep)
  have hval : (s.elapse dt).baseVal 0 = (s.elapse dt).now := hnow
  refine ⟨fun ext freq hma hd => ?angle, fun n l hslots hst hbase hw hlen => ?refill, fun x rest hq hh ha hres => ?inbox,
    fun x rest hq hh ha => ?none, fun f fl o hf hr hn hrsv ho hquoin => ?write, fun f fl hf hr hn hv => ?read,
    fun f fl n hf hr hn hlt hcnt hrise => ?enable⟩
  case angle =>
    obtain ⟨v, hexec, hq, hm⟩ := execMaSlotCrossing_of_ahead dt ext freq hrep hlive hma hd
    obtain ⟨himp, hmaV, hext, hentry⟩ := State.advanced_reads hma hq
    refine ⟨fun hw => ⟨_, hexec, ?_⟩, fun n e hw hlen he hbase hone hcount hrem hqueue hh hreach => ⟨_, hexec, ?_⟩⟩
    · rw [State.crossBase_of_empty ((State.win_congr (by rw [himp]) 1).trans hw), hq]
      rfl
    · have hslot : v.slotLive n = s.slotLive n := State.slotLive_congr (by rw [himp]) n
      obtain ⟨hl, hwin, hfired, -⟩ := State.crossBase_once (s := v) (b := 1) e (s.slotLive n) ((hentry n).trans he) hslot
        (by simp [State.baseValid, hmaV]) (by rw [himp, hlen]; decide) ((State.win_congr (by rw [himp]) 1).trans hw)
        (by rw [himp, hqueue]) (by rw [himp, hh]) (by rw [hext]; exact hreach) (.inl hone) (by omega)
      have hdone (next marks : Nat) : (afterFire e (s.slotLive n) 1 next marks).st = .done := by simp [afterFire_st, hbase, hone]
      refine ⟨by rw [hl, hdone], by rw [hwin, hdone]; rfl, ?_, (v.crossBase_frame 1 false).mains.trans (by rw [hq]; rfl)⟩
      rw [hfired, State.baseMarks_of_locked hmaV, hm]
      rfl
  case refill =>
    have hslotsU : (s.elapse dt).imp.slots = [(n, l)] := by simpa using hslots
    have hslot := State.slotLive_of_single hslotsU
    have hmine := State.armedOn_of_single hslotsU hst (b := 0) (by simpa using hbase)
    have hwU : (s.elapse dt).win 0 = [] := by simpa using hw
    have hlenU : 0 < (s.elapse dt).imp.wins.length := by simp [hlen]
    have hexec := execWindowRefill_of_valid (s := s) dt (b := 0) (by decide) rfl
    constructor
    · intro hd
      rw [State.refill_of_ahead hmine (by rw [hslot, hst]) (by rw [hslot, hval]; exact hd)] at hexec
      have halone : ((s.elapse dt).win 0).filter (· ≠ n) = [] := by simp [hwU]
      refine ⟨_, hexec, State.winInsert_win_of_alone hlenU halone, ?_⟩
      rw [State.winInsert_of_alone halone, State.onImp, State.elapse_imp]
    · intro hd hone hcount hrem hq hh
      obtain ⟨hwin, hdone, hfired, hwinLate, hlate, hframe⟩ := State.refill_once_late (s.slotEntry n) l (by simp) hslot hmine hlenU hwU
        (by simpa using hq) (by simpa using hh) (by rw [hval]; exact hd) hone (by simp [hbase]) (by omega)
      refine ⟨_, hexec, hwin, hdone, ?_, by simpa using hwinLate, by simpa using hlate, hframe⟩
      rw [hfired, hnow, State.elapse_baseMarks]
      rfl
  case inbox =>
    have hdisp := State.dispatch_to_inbox (s := s.elapse dt) (by simpa using hq) (by simpa using hh) ha
      (by simpa [State.isResetting] using hres)
    refine ⟨_, congrArg Host.Outcome.next hdisp, ?_⟩
    rw [hnow, State.onImp, State.elapse_imp]
    rfl
  case none =>
    have hdisp := State.dispatch_none (s := s.elapse dt) (by simpa using hq) (by simpa using hh) ha
    rw [State.reportAcc_accepted] at hdisp
    refine ⟨_, congrArg Host.Outcome.next hdisp, rfl, ?_, ?_, ?_, rfl⟩ <;> simp [State.setSlot, ImpSt.handedOver]
  case write =>
    show Host.Outcome.next (runCmd 0x20 f slotWriteBody (s.elapse dt)) = _
    rw [runCmd_ready slotWriteBody (by simpa using hf) hr,
      slotWriteBody_staged hn hrsv (by simpa using ho) (by simpa using hquoin)]
    rfl
  case read =>
    refine ⟨(s.slotLive (argN fl.e 0 2)).view, ?_, SlotLive.view_length _, SlotLive.view_next _, SlotLive.view_lastAcc _⟩
    show Host.Outcome.next (runCmd 0x21 f slotReadBody (s.elapse dt)) = _
    rw [runCmd_ready slotReadBody (by simpa using hf) hr, slotReadBody_live hn hv, State.elapse_slotLive]
    rfl
  case enable =>
    have answers {op : Nat} := execSlotEnable_one (op := op) dt hf hr hn hlt hcnt
    constructor
    · intro hop hst hbase hrel htgt hd
      have harm := State.armSlot_of_ahead (s := s.elapse dt) (n := n) (by simpa using hbase) (by simpa using hrel)
        (by simpa using htgt) (by rw [hnow]; simpa using hd)
      rw [State.elapse_slotLive, State.elapse_slotEntry] at harm
      refine ⟨_, answers hop (by decide) _ (by simp only [slotEnableOne, State.elapse_slotLive, hst, harm]; rfl), ?_, fun m hm => ?_, ?_⟩
      · rw [State.recHost_slotLive, State.winInsert_slotLive, State.setSlot_slotLive_self (SlotLive.armedAt_ne_default _ _)]
        rfl
      · rw [State.recHost_slotLive, State.winInsert_slotLive, State.setSlot_slotLive_ne _ hm, State.winRemove_slotLive,
          State.elapse_slotLive]
      · rw [State.recHost_quiet]
        rfl
    · intro hop hst
      refine ⟨_, answers hop (by decide) ((s.elapse dt).disarmSlot n) (by simp [slotEnableOne, hst]), ?_, fun m hm => ?_, fun hb => ?_, ?_⟩
      · rw [State.recHost_slotLive, State.disarmSlot_slotLive, State.setSlot_slotLive_of_keysRise _ (by simpa [keysRise] using hrise)]
      · rw [State.recHost_slotLive, State.disarmSlot_slotLive, State.setSlot_slotLive_ne _ hm, State.elapse_slotLive]
      · rw [State.recHost_win, ← State.elapse_slotEntry s dt]
        exact State.disarmSlot_win (by simpa using hb)
      · rw [State.recHost_quiet]
        exact (s.elapse dt).disarmSlot_frame n

end Sys2Proof.Machine
end

section
/-! PROOFS. One timer among the timers (04 R93, R102): what a change of one leaves of the others, what the rules of a timer
read beside it, and what a sequencer's trigger leaves alone (06). -/

namespace Sys2Proof.Machine

variable {ps : List Part} {s t a : State} {n k : Nat}

-- What a trigger of a sequencer leaves alone (06 R146 to R150) ------------------------------------------------

/-- A sequencer's trigger may deliver a sample: its group and channels, the consumers' tokens and the streams change. -/
def sampleParts : List Part := [.toks, .probe, .host]

theorem State.onGroup_frame (s : State) (g : Nat) (f : Group → Group) : sameBut sampleParts (s.onGroup g f).quiet s.quiet := rfl
theorem State.onToks_frame (s : State) (f : List VTok → List VTok) : sameBut sampleParts (s.onToks f).quiet s.quiet := rfl
theorem State.stream_frame (s : State) (q : Nat) (rec_ : List Nat) (source kind epoch : Nat) :
    sameBut sampleParts (s.stream q rec_ source kind epoch).quiet s.quiet := rfl

theorem State.fanOut_frame (s : State) (src : Source) (epoch : Nat) (code : SCode) (value : Option Int) (stamp : Nat) :
    sameBut sampleParts (s.fanOut src epoch code value stamp).quiet s.quiet := by
  refine foldl_sameBut (fun a c => ?_) _ _
  exact sameBut_ite ((State.onToks_frame _ _).trans (a.onToks_frame _)) (a.onToks_frame _)

theorem streamSample_frame (s : State) (g : Nat) (x : Sample) : sameBut sampleParts (streamSample s g x).quiet s.quiet := by
  have streamed (l : List Stream) : sameBut sampleParts
      (l.foldl (fun a t => a.stream t.xq (sampleBytes x) (5 + g) 0 x.epoch) s).quiet s.quiet :=
    foldl_sameBut (fun a _ => a.stream_frame ..) _ _
  exact sameBut.trans rfl (streamed _)

theorem breakSlug_quiet (s : State) (g ch : Nat) (old new : SCode) : (breakSlug s g ch old new).quiet = s.quiet := by
  unfold breakSlug
  split_ifs <;> simp

theorem State.deliver_frame (s : State) (g : Nat) (x : Sample) : sameBut sampleParts (s.deliver g x).quiet s.quiet := by
  refine (State.fanOut_frame ..).trans ((streamSample_frame ..).trans ?_)
  rw [State.record_quiet, breakSlug_quiet]
  rfl

theorem State.abortPass_frame (s : State) (g : Nat) : sameBut sampleParts (s.abortPass g).quiet s.quiet := by
  unfold State.abortPass
  refine sameBut_ite rfl ((State.onGroup_frame ..).trans (sameBut_ite (s.onGroup_frame ..) ?_))
  exact (State.deliver_frame ..).trans (s.onGroup_frame ..)

theorem State.startPass_frame (s : State) (g src marks mt : Nat) : sameBut sampleParts (s.startPass g src marks mt).quiet s.quiet :=
  s.onGroup_frame ..

theorem State.trigger_frame (s : State) (g src marks : Nat) : sameBut sampleParts (s.trigger g src marks).2.quiet s.quiet := by
  unfold State.trigger
  dsimp only
  split
  · rfl
  split
  · rfl
  split
  · rfl
  split
  · exact s.startPass_frame ..
  split
  · split <;> exact s.onGroup_frame ..
  · exact (State.startPass_frame ..).trans ((State.onGroup_frame ..).trans (s.abortPass_frame g))
  · exact s.onGroup_frame ..

-- One timer among the timers ----------------------------------------------------------------------------------

theorem State.timer_congr (h : s.timers = t.timers) (n : Nat) : s.timer n = t.timer n := by simp only [State.timer, h]

theorem State.onTimer_timer_self (hn : n < s.timers.length) (f : Timer → Timer) : (s.onTimer n f).timer n = f (s.timer n) := by
  simp [State.timer, List.getD_eq_getElem?_getD, hn]
@[simp] theorem State.onTimer_timer_ne (h : k ≠ n) (f : Timer → Timer) : (s.onTimer n f).timer k = s.timer k := by
  simp [State.timer, List.getD_eq_getElem?_getD, List.getElem?_modify_ne _ _ (Ne.symm h)]
/-- A timer number beyond the last names no timer. -/
theorem State.timer_of_length_le (h : s.timers.length ≤ n) : s.timer n = {} := by
  simp [State.timer, List.getD_eq_getElem?_getD, h]
theorem State.onTimer_of_length_le (h : s.timers.length ≤ n) (f : Timer → Timer) : s.onTimer n f = s := by
  simp only [State.onTimer, List.modify_eq_self h]
/-- A change that leaves its timer as it is changes nothing. -/
theorem State.onTimer_of_fixed {f : Timer → Timer} (h : f (s.timer n) = s.timer n) : s.onTimer n f = s := by
  have hlist : s.timers.modify n f = s.timers := by
    refine List.ext_getElem (by simp) fun i hi _ => ?_
    have hi' : i < s.timers.length := by simpa using hi
    rw [List.getElem_modify]
    split
    next hni =>
      subst hni
      simpa [State.timer, List.getD_eq_getElem?_getD, hi'] using h
    · rfl
  simp only [State.onTimer, hlist]

theorem State.onTimer_frame (s : State) (n : Nat) (f : Timer → Timer) : sameBut [.timers] (s.onTimer n f).quiet s.quiet := rfl

/-- What the rules of a timer read besides the timer itself: the registers in force, the instant, how many timers there
are (04 R93, R102). -/
structure State.tmLike (a s : State) : Prop where
  cfg : ∀ n, a.tmCfg n = s.tmCfg n
  reload : ∀ n, a.tmReload n = s.tmReload n
  bmt : a.bmt = s.bmt
  len : a.timers.length = s.timers.length

namespace State.tmLike

theorem refl (s : State) : s.tmLike s := ⟨fun _ => rfl, fun _ => rfl, rfl, rfl⟩
theorem onTimer (h : a.tmLike s) (n : Nat) (f : Timer → Timer) : (a.onTimer n f).tmLike s := by
  refine ⟨h.cfg, h.reload, h.bmt, ?_⟩
  rw [State.onTimer_timers, List.length_modify, h.len]
theorem trans (h : a.tmLike s) (h' : s.tmLike t) : a.tmLike t :=
  ⟨fun n => (h.cfg n).trans (h'.cfg n), fun n => (h.reload n).trans (h'.reload n), h.bmt.trans h'.bmt, h.len.trans h'.len⟩

/-- A timer that reads the same stands the same. -/
theorem tmNow_eq (h : a.tmLike s) (hk : a.timer k = s.timer k) : a.tmNow k = s.tmNow k := by
  simp only [State.tmNow, h.cfg, h.reload, h.bmt, hk]

end State.tmLike

/-- The registers of the timers come from the forme, and PROOF holds them in reset (04 R102, R108). -/
theorem State.tmCfg_congr (hunit : s.unit = t.unit) (hsup : s.sup = t.sup) (hrep : s.store.reprint = t.store.reprint) (n : Nat) :
    s.tmCfg n = t.tmCfg n ∧ s.tmReload n = t.tmReload n := by
  simp only [State.tmCfg, State.tmWord, State.tmReload, State.inProof, State.isSt, State.formeOf, hunit, hsup, hrep]
  exact ⟨rfl, rfl⟩

theorem sameBut.tmCfg_eq (h : sameBut ps s.quiet t.quiet) (hs : .store ∉ ps) (hu : .sup ∉ ps) (hun : .unit ∉ ps) (n : Nat) :
    s.tmCfg n = t.tmCfg n ∧ s.tmReload n = t.tmReload n :=
  State.tmCfg_congr (h.part_eq (p := State.unit) fun x => by simp [State.but, hun]) (h.sup_eq hu) (h.reprint_eq hs) n

theorem sameBut.timers_eq (h : sameBut ps s.quiet t.quiet) (hp : .timers ∉ ps) : s.timers = t.timers :=
  h.part_eq (p := State.timers) fun x => by simp [State.but, hp]

@[simp] theorem State.elapse_timer (s : State) (dt n : Nat) : (s.elapse dt).timer n = s.timer n := State.timer_congr (by simp) n
@[simp] theorem State.elapse_tmCfg (s : State) (dt n : Nat) : (s.elapse dt).tmCfg n = s.tmCfg n :=
  ((s.elapse_frame dt).tmCfg_eq (by decide) (by decide) (by decide) n).1
@[simp] theorem State.elapse_tmReload (s : State) (dt n : Nat) : (s.elapse dt).tmReload n = s.tmReload n :=
  ((s.elapse_frame dt).tmCfg_eq (by decide) (by decide) (by decide) n).2

end Sys2Proof.Machine
end

section
/-! PROOFS. A timer's start (04 R96, Table 4.6), and walks over the timers: what each does to every one of them. -/

namespace Sys2Proof.Machine

variable {s a : State} {n k m mt : Nat}

-- Walks over the timers ---------------------------------------------------------------------------------------

section
variable {α : Type} {p : Timer → α} {R : State → Prop} {f : State → Nat → State}
  (hR : ∀ a i, R a → R (f a i)) (hne : ∀ a i, R a → i ≠ k → p ((f a i).timer k) = p (a.timer k))
include hR hne

/-- A walk that does not come to a timer leaves what each step leaves of it. -/
theorem foldl_timer_of_not_mem {l : List Nat} (hk : k ∉ l) (hs : R s) : p ((l.foldl f s).timer k) = p (s.timer k) := by
  induction l generalizing s with
  | nil => rfl
  | cons i l ih =>
    rw [List.foldl_cons, ih (fun h => hk (List.mem_cons_of_mem _ h)) (hR s i hs),
      hne s i hs fun h => hk (h ▸ List.mem_cons_self ..)]

/-- A walk that comes to a timer once does to it what its own step does. -/
theorem foldl_timer_of_mem {v : α} {l : List Nat} (hl : l.Nodup) (hk : k ∈ l) (hs : R s)
    (hself : ∀ a, R a → p (a.timer k) = p (s.timer k) → p ((f a k).timer k) = v) : p ((l.foldl f s).timer k) = v := by
  obtain ⟨before, after, rfl⟩ := List.append_of_mem hk
  obtain ⟨-, hafter, hdisj⟩ := List.nodup_append.1 hl
  have hbefore : k ∉ before := fun h => hdisj k h k (List.mem_cons_self ..) rfl
  have hR' : R (before.foldl f s) := List.foldlRecOn before f hs fun a ha i _ => hR a i ha
  rw [List.foldl_append, List.foldl_cons, foldl_timer_of_not_mem hR hne (List.nodup_cons.1 hafter).1 (hR _ k hR')]
  exact hself _ hR' (foldl_timer_of_not_mem hR hne hbefore hs)
end

/-- What one step of a walk brings about and every step keeps holds at its end. -/
theorem foldl_brings {P : State → Prop} {f : State → Nat → State} (hkeeps : ∀ a i, P a → P (f a i)) (hbrings : ∀ a, P (f a k))
    {l : List Nat} (hk : k ∈ l) (s : State) : P (l.foldl f s) := by
  obtain ⟨before, after, rfl⟩ := List.append_of_mem hk
  rw [List.foldl_append, List.foldl_cons]
  exact List.foldlRecOn after f (hbrings _) fun a ha i _ => hkeeps a i ha

-- A chained unit (04 R98) -------------------------------------------------------------------------------------

/-- The timer without the unit that the cycle after `mt` would give it (04 R96, Table 4.6). -/
def Timer.without (mt : Nat) (t : Timer) : Timer := if t.unit_ = some (mt + 1) then { t with unit_ := none } else t

/-- Is timer k chained to timer n (04 Table 4.1)? -/
abbrev State.chained (s : State) (n k : Nat) : Prop := (s.tmCfg k).src = 3 ∧ (s.tmCfg k).idx = n

theorem tmAt_of_none {c : TmCfg} {reload : Nat} {x : Timer} (h : x.unit_ = none) : tmAt c reload mt x = x := by simp [tmAt, h]

theorem State.tmSettle_of_none (h : (s.timer n).unit_ = none) : s.tmSettle n = s := State.onTimer_of_fixed (tmAt_of_none h)

/-- The units that reach a timer leave what it holds of a chain. -/
theorem tmTake_unit (c : TmCfg) (reload k : Nat) (x : Timer) : (tmTake c reload k mt x).unit_ = x.unit_ := by
  have counted : (tmUnits c reload k x).1.unit_ = x.unit_ := by
    unfold tmUnits
    split
    · rfl
    all_goals split_ifs <;> rfl
  unfold tmTake
  split
  · exact counted
  · rfl

/-- The unit of the next cycle is not counted yet, so it makes no difference to the timer as it stands. -/
theorem tmAt_without (c : TmCfg) (reload : Nat) (x : Timer) : tmAt c reload mt (x.without mt) = (tmAt c reload mt x).without mt := by
  by_cases hnext : x.unit_ = some (mt + 1)
  · simp [Timer.without, tmAt, hnext]
  · have hthis : x.without mt = x := if_neg hnext
    have hstays : (tmAt c reload mt x).unit_ ≠ some (mt + 1) := by
      unfold tmAt
      split
      · split
        · simp [tmTake_unit]
        · exact hnext
      · exact hnext
    rw [hthis, Timer.without, if_neg hstays]

/-- A timer that does not run counts nothing (04 R93). -/
theorem tmTake_of_not_running (c : TmCfg) (reload k : Nat) {x : Timer} (h : x.st ≠ .running) : tmTake c reload k mt x = x :=
  if_neg fun hrun => h hrun.1

theorem tmAt_st_of_stopped (c : TmCfg) (reload : Nat) {x : Timer} (h : x.st = .stopped) : (tmAt c reload mt x).st = .stopped := by
  unfold tmAt
  split
  · rw [tmTake_of_not_running c reload 1 (by simp [h])]
    split <;> exact h
  · exact h

-- A start (04 R96) --------------------------------------------------------------------------------------------

theorem startTm_without (c : TmCfg) (reload i : Nat) (x : Timer) :
    startTm c reload i (x.without mt) = (startTm c reload i x).without mt := by
  unfold startTm Timer.without
  split_ifs <;> rfl

/-- The timer counted up to this instant and then started. -/
def State.started (s : State) (n : Nat) : State := (s.tmSettle n).onTimer n (startTm (s.tmCfg n) (s.tmReload n) s.bmt)

/-- The unit of the next cycle is taken back from a timer chained to n. -/
def State.takeBack (n : Nat) (a : State) (k : Nat) : State :=
  if (a.tmCfg k).src = 3 ∧ (a.tmCfg k).idx = n ∧ (a.timer k).unit_ = some (a.bmt + 1) then a.onTimer k fun t => { t with unit_ := none }
  else a

theorem State.tmStart_eq (s : State) (n : Nat) : s.tmStart n = (List.range 32).foldl (State.takeBack n) (s.started n) := rfl

theorem State.started_tmLike (s : State) (n : Nat) : (s.started n).tmLike s := ((State.tmLike.refl s).onTimer n _).onTimer n _

theorem State.started_timer_self (hn : n < s.timers.length) :
    (s.started n).timer n = startTm (s.tmCfg n) (s.tmReload n) s.bmt (s.tmNow n) := by
  rw [State.started, State.onTimer_timer_self (by simpa [State.tmSettle] using hn), State.tmSettle, State.onTimer_timer_self hn]
  rfl

theorem State.started_timer_ne (h : k ≠ n) : (s.started n).timer k = s.timer k := by
  rw [State.started, State.onTimer_timer_ne h, State.tmSettle, State.onTimer_timer_ne h]

theorem State.takeBack_tmLike (h : a.tmLike s) (n k : Nat) : (a.takeBack n k).tmLike s := by
  unfold State.takeBack
  split
  · exact h.onTimer k _
  · exact h

theorem State.takeBack_timer_ne (n : Nat) (h : m ≠ k) : (a.takeBack n m).timer k = a.timer k := by
  unfold State.takeBack
  split
  · exact State.onTimer_timer_ne h.symm _
  · rfl

theorem State.takeBack_timer_self (h : a.tmLike s) (n k : Nat) :
    (a.takeBack n k).timer k = if s.chained n k then (a.timer k).without s.bmt else a.timer k := by
  unfold State.takeBack State.chained Timer.without
  rw [h.cfg, h.bmt]
  by_cases hk : k < a.timers.length
  · by_cases hc : (s.tmCfg k).src = 3 ∧ (s.tmCfg k).idx = n ∧ (a.timer k).unit_ = some (s.bmt + 1)
    · rw [if_pos hc, if_pos ⟨hc.1, hc.2.1⟩, if_pos hc.2.2, State.onTimer_timer_self hk]
    · rw [if_neg hc]
      split_ifs with hchain hunit
      · exact absurd ⟨hchain.1, hchain.2, hunit⟩ hc
      · rfl
      · rfl
  · have hnone : (a.timer k).unit_ = none := by rw [State.timer_of_length_le (by omega)]
    simp [hnone]

/-- What a start does to every timer: its own is started, and from one chained to it the unit that its event of this very
cycle would give is taken back (04 R96, R98, Table 4.6). -/
theorem State.tmStart_timer (s : State) (n k : Nat) : (s.tmStart n).timer k =
    if k < 32 ∧ s.chained n k then ((s.started n).timer k).without s.bmt else (s.started n).timer k := by
  have hlike := fun a i (h : State.tmLike a s) => State.takeBack_tmLike h n i
  have hne := fun a i (_ : State.tmLike a s) (hi : i ≠ k) => State.takeBack_timer_ne (a := a) n hi
  rw [State.tmStart_eq]
  by_cases hk : k < 32
  · refine foldl_timer_of_mem (p := id) hlike hne List.nodup_range (List.mem_range.2 hk) (s.started_tmLike n) fun a ha hak => ?_
    rw [id, State.takeBack_timer_self ha, show a.timer k = _ from hak]
    simp [hk]
  · rw [if_neg fun h => hk h.1]
    exact foldl_timer_of_not_mem (p := id) hlike hne (by simpa using hk) (s.started_tmLike n)

theorem State.tmStart_tmLike (h : a.tmLike s) (n : Nat) : (a.tmStart n).tmLike s :=
  List.foldlRecOn (motive := fun b : State => b.tmLike s) _ _ ((a.started_tmLike n).trans h) fun _ hb i _ => State.takeBack_tmLike hb n i

theorem State.tmStart_timer_of_not_chained (h : ¬s.chained n k) : (s.tmStart n).timer k = (s.started n).timer k := by
  rw [State.tmStart_timer, if_neg fun hk => h hk.2]

@[simp] theorem Timer.without_without (mt : Nat) (x : Timer) : (x.without mt).without mt = x.without mt := by
  unfold Timer.without
  split_ifs <;> simp_all

/-- But for the unit of the next cycle, a start is a start of its own timer. -/
theorem State.tmStart_timer_without (s : State) (n k : Nat) :
    ((s.tmStart n).timer k).without s.bmt = ((s.started n).timer k).without s.bmt := by
  rw [State.tmStart_timer]
  split <;> simp

/-- A start is exact: no other timer changes but by that unit (04 R96, Table 4.6). -/
theorem State.tmStart_timer_other (h : k ≠ n) : (s.tmStart n).timer k = s.timer k ∨
    (k < 32 ∧ (s.tmCfg k).src = 3 ∧ (s.tmCfg k).idx = n ∧ (s.tmStart n).timer k = { s.timer k with unit_ := none }) := by
  rw [State.tmStart_timer, State.started_timer_ne h]
  unfold Timer.without
  split_ifs with hk hu
  · exact .inr ⟨hk.1, hk.2.1, hk.2.2, rfl⟩
  · exact .inl rfl
  · exact .inl rfl

theorem State.tmStart_sameBut (s : State) (n : Nat) : sameBut [.timers] (s.tmStart n) s :=
  List.foldlRecOn (motive := fun a => sameBut [.timers] a s) _ _ rfl fun a ha _ _ => by
    refine sameBut.trans ?_ ha
    dsimp only
    split <;> rfl

end Sys2Proof.Machine
end

section
/-! PROOFS. A timer's expiry or match, its signal along a chain, and its stop (04 R95, R96, R98, R100, R101, R105). -/

namespace Sys2Proof.Machine

variable {s t a : State} {n k m : Nat}

-- An expiry or match (04 R98, R100) ---------------------------------------------------------------------------

/-- What the token of an expiry may reach beside the timers: EVENT slots, loops and sequencers (04 R100). -/
def consumerParts : List Part := [.imp, .toks, .probe, .host]
def expiryParts : List Part := .timers :: consumerParts

/-- The timer has signalled: EXP is set and EXP_CNT counts (04 Table 4.4). -/
def Timer.signalled (t : Timer) : Timer := { t with exp := true, expCnt := incW 8 t.expCnt }

/-- The unit of an event at `mt` waits in timer k, chained to n with a higher number, for the cycle after it. -/
def State.passOn (n mt : Nat) (a : State) (k : Nat) : State :=
  if n < k ∧ (a.tmCfg k).src = 3 ∧ (a.tmCfg k).idx = n then (a.tmSettle k).onTimer k fun t => { t with unit_ := some (mt + 1) }
  else a

/-- A signal marks its timer, tells the consumers, and then walks the chain. -/
theorem State.tmSignal_eq (s : State) (n mt : Nat) : ∃ u : State,
    sameBut consumerParts u.quiet (s.onTimer n Timer.signalled).quiet ∧ s.tmSignal n mt = (List.range 32).foldl (State.passOn n mt) u := by
  unfold State.tmSignal
  extract_lets s1 s2 loops s3 s4
  refine ⟨s4, ?_, rfl⟩
  have slots : sameBut consumerParts s2.quiet s1.quiet := (s1.eventToken_frame ..).mono (by decide)
  have toLoops : sameBut consumerParts s3.quiet s2.quiet :=
    sameBut_ite (foldl_sameBut (fun a l => (a.onToks_frame _).mono (by decide)) _ _) rfl
  have sequencers : sameBut consumerParts s4.quiet s3.quiet :=
    foldl_sameBut (fun a g => sameBut_ite ((a.trigger_frame ..).mono (by decide)) rfl) _ _
  exact sequencers.trans (toLoops.trans slots)

/-- Telling the consumers changes no timer and nothing that the timers read. -/
theorem sameBut.tmLike (h : sameBut consumerParts t.quiet s.quiet) : t.tmLike s := by
  have cfg := fun n => h.tmCfg_eq (by decide) (by decide) (by decide) n
  refine ⟨fun n => (cfg n).1, fun n => (cfg n).2, ?_, by rw [h.timers_eq (by decide)]⟩
  exact State.bmt_congr (h.reprint_eq (by decide)) (by rw [h.time_eq (by decide)])

theorem State.passOn_tmLike (h : a.tmLike s) (n mt k : Nat) : (a.passOn n mt k).tmLike s := by
  unfold State.passOn
  split
  · exact (h.onTimer k _).onTimer k _
  · exact h

theorem State.passOn_timer_ne (n mt : Nat) (h : m ≠ k) : (a.passOn n mt m).timer k = a.timer k := by
  unfold State.passOn
  split
  · rw [State.onTimer_timer_ne h.symm, State.tmSettle, State.onTimer_timer_ne h.symm]
  · rfl

theorem State.passOn_timer_self (h : a.tmLike s) (hk : k < s.timers.length) (n mt : Nat) :
    (a.passOn n mt k).timer k = if n < k ∧ s.chained n k then { a.tmNow k with unit_ := some (mt + 1) } else a.timer k := by
  have hk' : k < a.timers.length := h.len ▸ hk
  unfold State.passOn
  rw [h.cfg]
  split
  · rw [State.onTimer_timer_self (by simpa [State.tmSettle] using hk'), State.tmSettle, State.onTimer_timer_self hk']
    rfl
  · rfl

/-- What a signal does to every timer: its own is marked, and a higher one chained to it waits for the unit (04 R98). -/
theorem State.tmSignal_timer (hk : k < s.timers.length) (n mt : Nat) : (s.tmSignal n mt).timer k =
    if k < 32 ∧ n < k ∧ s.chained n k then { s.tmNow k with unit_ := some (mt + 1) } else (s.onTimer n Timer.signalled).timer k := by
  obtain ⟨u, hu, heq⟩ := s.tmSignal_eq n mt
  have htimer (k : Nat) : u.timer k = (s.onTimer n Timer.signalled).timer k := State.timer_congr (hu.timers_eq (by decide)) k
  have hus : u.tmLike s := hu.tmLike.trans ((State.tmLike.refl s).onTimer n _)
  have hlike := fun a i (h : State.tmLike a s) => State.passOn_tmLike h n mt i
  have hne := fun a i (_ : State.tmLike a s) (hi : i ≠ k) => State.passOn_timer_ne (a := a) n mt hi
  rw [heq]
  by_cases h32 : k < 32
  · refine foldl_timer_of_mem (p := id) hlike hne List.nodup_range (List.mem_range.2 h32) hus fun a ha hak => ?_
    have hak : a.timer k = u.timer k := hak
    rw [id, State.passOn_timer_self ha hk]
    by_cases hchain : n < k ∧ s.chained n k
    · rw [if_pos hchain, if_pos ⟨h32, hchain⟩, ha.tmNow_eq (by rw [hak, htimer, State.onTimer_timer_ne (by omega)])]
    · rw [if_neg hchain, if_neg fun h => hchain h.2, hak, htimer]
  · rw [if_neg fun h => h32 h.1, ← htimer]
    exact foldl_timer_of_not_mem (p := id) hlike hne (by simpa using h32) hus

theorem State.tmSignal_timer_self (hn : n < s.timers.length) (mt : Nat) : (s.tmSignal n mt).timer n = (s.timer n).signalled := by
  rw [State.tmSignal_timer hn, if_neg (by omega), State.onTimer_timer_self hn]

theorem State.tmSignal_timer_below (hn : n < s.timers.length) (hk : k < n) (mt : Nat) : (s.tmSignal n mt).timer k = s.timer k := by
  rw [State.tmSignal_timer (by omega), if_neg (by omega), State.onTimer_timer_ne (by omega)]

theorem State.tmSignal_timer_above (hlen : k < s.timers.length) (hk : n < k) (h32 : k < 32) (mt : Nat) :
    if s.chained n k then ((s.tmSignal n mt).timer k).unit_ = some (mt + 1) else (s.tmSignal n mt).timer k = s.timer k := by
  rw [State.tmSignal_timer hlen]
  split
  next hchain => rw [if_pos ⟨h32, hk, hchain⟩]
  next hchain => rw [if_neg fun h => hchain h.2.2, State.onTimer_timer_ne (by omega)]

theorem State.tmSignal_frame (s : State) (n mt : Nat) : sameBut expiryParts (s.tmSignal n mt).quiet s.quiet := by
  obtain ⟨u, hu, heq⟩ := s.tmSignal_eq n mt
  rw [heq]
  refine (foldl_sameBut (fun a k => ?_) _ _).trans ((hu.mono (by decide)).trans rfl)
  exact sameBut_ite rfl rfl

-- A timer that fires (04 R95, R105) ---------------------------------------------------------------------------

/-- Expiries that source units have made are signalled in order, and change no count (04 R101). -/
theorem State.tmFire_of_due {d : Nat} {rest : List Nat} (hrep : s.store.reprint = none) (hunit : (s.timer n).unit_ = none)
    (hdue : (s.timer n).due = d :: rest) (hd : d ≤ s.now) :
    s.tmFire n = (s.onTimer n fun x => { x with due := rest }).tmSignal n d := by
  unfold State.tmFire
  simp only [State.tmSettle_of_none hunit, hdue, State.reach_of_live hrep hd]

/-- A SRC 0 timer fires at the instant at which its clock signals the exact one (04 R105). -/
theorem State.tmFire_of_expiry {e m : Nat} (hrep : s.store.reprint = none) (hunit : (s.timer n).unit_ = none)
    (hdue : (s.timer n).due = []) (he : tmExpiry (s.tmCfg n) (s.tmReload n) (s.timer n) = some e)
    (hm : m = if (s.timer n).lf then lfTick (s.timer n).lfMt e else e) (hle : m ≤ s.now) :
    s.tmFire n = (s.tmExpire n e).tmSignal n m := by
  unfold State.tmFire
  simp only [State.tmSettle_of_none hunit, hdue, tmSignalMt, he, Option.map_some, ← hm, State.reach_of_live hrep hle]

/-- The exact instant: a load of TM_RELOAD and PRESC + 1 cycles for each count (04 R96). -/
theorem tmExpiry_of_down {c : TmCfg} {x : Timer} (reload : Nat) (hst : x.st = .running) (hsrc : c.src = 0) (hmode : c.mode ≠ 2) :
    tmExpiry c reload x = some (x.anchor + x.cnt * (c.presc + 1)) := by simp [tmExpiry, hst, hsrc, hmode]

theorem tmExpiry_of_count {c : TmCfg} {x : Timer} {reload : Nat} (hst : x.st = .running) (hsrc : c.src = 0) (hmode : c.mode = 2)
    (hlt : x.cnt < reload) (hmax : reload < 2 ^ 32) :
    tmExpiry c reload x = some (x.anchor + (reload - x.cnt) * (c.presc + 1)) := by
  have hdist : (reload + (2 ^ 32 - x.cnt)) % 2 ^ 32 = reload - x.cnt := by omega
  have hpos : reload ≠ 0 ∧ reload - x.cnt ≠ 0 := by omega
  simp only [tmExpiry, hst, hsrc, hmode, hdist, hpos.1, hpos.2, ne_eq, not_true_eq_false, or_self, if_false, if_true]

/-- The timer of a configuration after its expiry or match at `e` (04 R95). -/
def Timer.expired (c : TmCfg) (reload e : Nat) (x : Timer) : Timer :=
  match c.mode with
  | 1 => { x with anchor := e, cnt := reload }
  | 2 => { tmSync c e x with st := x.st }
  | _ => { x with st := .expired, cnt := 0, anchor := e }

theorem State.tmExpire_eq (s : State) (n e : Nat) : s.tmExpire n e = s.onTimer n (Timer.expired (s.tmCfg n) (s.tmReload n) e) := rfl

theorem Timer.expired_of_once {c : TmCfg} {x : Timer} (reload e : Nat) (h : c.mode = 0 ∨ c.mode = 3) :
    x.expired c reload e = { x with st := .expired, cnt := 0, anchor := e } := by
  obtain h | h := h <;> simp [Timer.expired, h]
theorem Timer.expired_of_periodic {c : TmCfg} {x : Timer} (reload e : Nat) (h : c.mode = 1) :
    x.expired c reload e = { x with anchor := e, cnt := reload } := by simp [Timer.expired, h]

/-- A COUNT timer stands at TM_RELOAD when it matches and goes on (04 R95, Table 4.2). -/
theorem Timer.expired_of_count {c : TmCfg} {x : Timer} {reload e : Nat} (hst : x.st = .running) (hsrc : c.src = 0) (hmode : c.mode = 2)
    (hlt : x.cnt < reload) (hmax : reload < 2 ^ 32) (he : e = x.anchor + (reload - x.cnt) * (c.presc + 1)) :
    (x.expired c reload e).st = .running ∧ (x.expired c reload e).cnt = reload := by
  have hticks : (e - x.anchor) / (c.presc + 1) = reload - x.cnt := by
    rw [he, Nat.add_sub_cancel_left, Nat.mul_div_cancel _ (Nat.succ_pos _)]
  have hcnt : (x.cnt + (reload - x.cnt)) % 2 ^ 32 = reload := by omega
  simp only [Timer.expired, hmode, tmSync, hst, hsrc, hticks, hcnt, and_self, if_true]

theorem Timer.expired_expCnt (c : TmCfg) (reload e : Nat) (x : Timer) : (x.expired c reload e).expCnt = x.expCnt := by
  unfold Timer.expired
  split
  · rfl
  · unfold tmSync
    split <;> rfl
  · rfl

-- A stop (04 R96) ---------------------------------------------------------------------------------------------

theorem tmHalt_st (c : TmCfg) (reload mt : Nat) (x : Timer) : (tmHalt c reload mt x).st = .stopped := by
  unfold tmHalt
  dsimp only
  split <;> rfl

/-- A stop of a timer whose expiry does not come on this cycle or before touches that timer only. -/
theorem State.tmStop_of_not_due (h : ∀ m, tmSignalMt (s.tmCfg n) (s.tmReload n) (s.tmNow n) = some m → s.bmt < m) :
    s.tmStop n = s.onTimer n (tmHalt (s.tmCfg n) (s.tmReload n) s.bmt) := by
  unfold State.tmStop
  split
  next m hm => rw [if_neg (Nat.not_le.2 (h m hm))]
  · rfl

/-- The count freezes where it stands (04 R96). -/
theorem tmHalt_cnt_of_down {c : TmCfg} {x : Timer} (reload mt : Nat) (hst : x.st = .running) (hsrc : c.src = 0) (hmode : c.mode ≠ 2)
    (hlf : x.lf = false) (hunit : x.unit_ = none) : (tmHalt c reload mt x).cnt = x.cnt - (mt - x.anchor) / (c.presc + 1) := by
  simp [tmHalt, tmAt_of_none hunit, hst, tmCount, hsrc, hmode, hlf]

theorem State.reach_timers {u : State} (h : s.reach m = some u) : u.timers = s.timers := by
  unfold State.reach at h
  split at h
  all_goals
    obtain ⟨-, hu⟩ := Option.ite_none_right_eq_some.1 h
    rw [← Option.some.inj hu]
  rfl

theorem State.onTimer_stopped {f : Timer → Timer} (hf : (s.timer n).st = .stopped → (f (s.timer n)).st = .stopped)
    (hk : (s.timer k).st = .stopped) : ((s.onTimer n f).timer k).st = .stopped := by
  by_cases hkn : k = n
  · subst hkn
    by_cases hlen : k < s.timers.length
    · rw [State.onTimer_timer_self hlen]
      exact hf hk
    · rwa [State.onTimer_of_length_le (by omega)]
  · rwa [State.onTimer_timer_ne hkn]

/-- No signal makes a stopped timer run: it passes units on, and a stopped timer counts none. -/
theorem State.tmSignal_stopped (n mt : Nat) (hk : (s.timer k).st = .stopped) : ((s.tmSignal n mt).timer k).st = .stopped := by
  obtain ⟨u, hu, heq⟩ := s.tmSignal_eq n mt
  have huk : (u.timer k).st = .stopped := by
    rw [State.timer_congr (hu.timers_eq (by decide))]
    exact State.onTimer_stopped id hk
  rw [heq]
  refine List.foldlRecOn (motive := fun a : State => (a.timer k).st = .stopped) _ _ huk fun a ha i _ => ?_
  unfold State.passOn
  split
  · exact State.onTimer_stopped id (State.onTimer_stopped (tmAt_st_of_stopped _ _) ha)
  · exact ha

theorem State.tmFire_stopped (h : k ≠ n) (hk : (s.timer k).st = .stopped) : ((s.tmFire n).timer k).st = .stopped := by
  have settled : ((s.tmSettle n).timer k).st = .stopped := by rwa [State.tmSettle, State.onTimer_timer_ne h]
  have fired {u : State} {d : Nat} (f : Timer → Timer) (mt : Nat) (hu : (s.tmSettle n).reach d = some u) :
      (((u.onTimer n f).tmSignal n mt).timer k).st = .stopped := by
    refine State.tmSignal_stopped n mt ?_
    rwa [State.onTimer_timer_ne h, State.timer_congr (State.reach_timers hu)]
  unfold State.tmFire
  dsimp only
  repeat' split
  next hu => exact fired _ _ hu
  · exact settled
  next hu => exact fired _ _ hu
  · exact settled
  · exact settled

theorem State.tmStop_stopped (s : State) (n : Nat) : ((s.tmStop n).timer n).st = .stopped := by
  unfold State.tmStop
  extract_lets u
  by_cases hn : n < u.timers.length
  · rw [State.onTimer_timer_self hn, tmHalt_st]
  · rw [State.onTimer_of_length_le (by omega), State.timer_of_length_le (by omega)]

theorem State.tmStop_keeps_stopped (n : Nat) (hk : (s.timer k).st = .stopped) : ((s.tmStop n).timer k).st = .stopped := by
  by_cases h : k = n
  · rw [h]
    exact s.tmStop_stopped n
  · unfold State.tmStop
    rw [State.onTimer_timer_ne h]
    repeat' split
    · exact State.tmFire_stopped h hk
    · exact hk
    · exact hk

end Sys2Proof.Machine
end

section
/-! PROOFS. The rows of one timer (04 R95 to R105; 03 R79). -/

namespace Sys2Proof.Machine

variable {s t u v : State} {n dt : Nat}

/-- What a timer and the others hold after it has changed and signalled. -/
theorem State.onTimer_tmSignal (hn : n < s.timers.length) (f : Timer → Timer) (mt : Nat) :
    let t := (s.onTimer n f).tmSignal n mt
    t.timer n = (f (s.timer n)).signalled ∧ (∀ k, k < n → t.timer k = s.timer k) ∧
    (∀ k, n < k → k < 32 → k < s.timers.length →
      if s.chained n k then (t.timer k).unit_ = some (mt + 1) else t.timer k = s.timer k) ∧
    sameBut expiryParts t.quiet s.quiet := by
  have hn' : n < (s.onTimer n f).timers.length := by simpa using hn
  refine ⟨?_, fun k hk => ?_, fun k hk h32 hlen => ?_, (State.tmSignal_frame _ n mt).trans rfl⟩
  · rw [State.tmSignal_timer_self hn', State.onTimer_timer_self hn]
  · rw [State.tmSignal_timer_below hn' hk, State.onTimer_timer_ne hk.ne]
  · have habove := State.tmSignal_timer_above (s := s.onTimer n f) (by simpa using hlen) hk h32 mt
    rwa [State.onTimer_timer_ne hk.ne'] at habove

-- The actions of a slot (04 R96; 03 R79) ----------------------------------------------------------------------

/-- The one action of the inbox is taken; nothing that a timer reads changes. -/
theorem State.takeAction_of_single {y : Firing} {action : Nat} (hbox : s.imp.inbox = [y]) (hact : y.action = action)
    (hidx : y.index = n) : ∃ v, s.takeAction action n = some (y, v) ∧ v.imp = { s.imp with inbox := [] } ∧
      v.timers = s.timers ∧ v.tmLike s ∧ sameBut [.imp] v s := by
  refine ⟨s.onImp fun i => { i with inbox := [] }, ?_, rfl, rfl, ⟨fun _ => rfl, fun _ => rfl, rfl, rfl⟩, rfl⟩
  simp [State.takeAction, hbox, hact, hidx, State.onImp]

/-- A timer action is accepted: the timers as the action left them, the slot told, the inbox empty (03 R79, R89). -/
theorem State.reportAcc_reads (ht : sameBut [.timers] t v) (himp : v.imp = { u.imp with inbox := [] })
    (hv : sameBut [.imp] v u) (slot : Nat) :
    (t.reportAcc slot .accepted).timers = t.timers ∧
    (keysRise u.imp.slots → ((t.reportAcc slot .accepted).slotLive slot).lastAcc = accCode .accepted) ∧
    (t.reportAcc slot .accepted).imp.inbox = [] ∧ (t.reportAcc slot .accepted).imp.refused = u.imp.refused ∧
    sameBut [.imp, .timers] u (t.reportAcc slot .accepted) := by
  have himpT : t.imp = { u.imp with inbox := [] } := (ht.part_eq (p := State.imp) fun _ => rfl).trans himp
  rw [State.reportAcc_accepted]
  refine ⟨rfl, fun hrise => ?_, by simp [State.setSlot, himpT], by simp [State.setSlot, himpT], ?_⟩
  · rw [State.setSlot_slotLive_of_keysRise _ (by simpa [himpT] using hrise)]
    rfl
  · exact ((ht.mono (by simp)).trans (hv.mono (by simp))).symm.trans rfl

theorem execTimerStart_of_taken {y : Firing} (htake : (s.elapse dt).takeAction 6 n = some (y, v)) :
    exec (.timerStart dt n) s = .next ((v.tmStart n).reportAcc y.slot .accepted) := by
  show execTimerStart dt n s = _
  simp only [execTimerStart, htake]

theorem execTimerStop_of_taken {y : Firing} (htake : (s.elapse dt).takeAction 7 n = some (y, v)) :
    exec (.timerStop dt n) s = .next ((v.tmStop n).reportAcc y.slot .accepted) := by
  show execTimerStop dt n s = _
  simp only [execTimerStop, htake]

/-- The row of a timer's mode fires it. -/
theorem exec_fires (dt n : Nat) (s : State) :
    exec (if (s.tmCfg n).mode = 2 then .timerMatch dt n else .timerExpiry dt n) s = .next ((s.elapse dt).tmFire n) := by
  split
  next h =>
    show execTimerMatch dt n s = _
    simp [execTimerMatch, h]
  next h =>
    show execTimerExpiry dt n s = _
    simp [execTimerExpiry, h]

theorem startTm_runs {c : TmCfg} {reload : Nat} (mt : Nat) (x : Timer) (h : 0 < reload ∨ c.mode = 2) :
    startTm c reload mt x = { x with st := .running, cnt := if c.mode = 2 then 0 else reload, anchor := mt, pres := 0, due := [] } :=
  if_neg (by omega)

/-- Settles O20: a start and a stop act on their own timer; a timer fires at its exact instant, and signals (04 R95 to R105). -/
theorem timersStartStopAndExpireExactly : Obligations.TimersStartStopAndExpireExactly := by
  rintro dt n s u c x hu hn hrep rfl rfl hchain
  have hrepU : u.store.reprint = none := by simpa [hu] using hrep
  have hnow : u.bmt = u.now := State.bmt_eq_now hrepU
  have htimer (k : Nat) : u.timer k = s.timer k := by simp [hu]
  have hcfg (k : Nat) : u.tmCfg k = s.tmCfg k := by simp [hu]
  have hreload (k : Nat) : u.tmReload k = s.tmReload k := by simp [hu]
  have himp : u.imp = s.imp := by simp [hu]
  have htimers : u.timers = s.timers := by simp [hu]
  have hfire := exec_fires dt n s
  rw [← hu] at hfire
  simp only [← htimer, ← hcfg, ← hreload, ← himp, ← htimers] at hn hchain hfire ⊢
  refine ⟨fun y hbox hact hidx => ?start, fun y hbox hact hidx hdue => ?stop, fun e m hst hdue hunit hsrc hmode he hm hle => ?expiry,
    fun hst hdue hunit hlf hsrc hmode hlt hmax hle => ?count, fun i d rest hdue hunit hd hi => ?due⟩
  case start =>
    obtain ⟨v, htake, himpV, htmV, hlike, hsame⟩ := State.takeAction_of_single hbox hact hidx
    obtain ⟨htm, hacc, hempty, href, hframe⟩ := State.reportAcc_reads (v.tmStart_sameBut n) himpV hsame y.slot
    have hread (k : Nat) := State.timer_congr htm k
    have hself : (v.tmStart n).timer n = startTm (u.tmCfg n) (u.tmReload n) u.now (u.tmNow n) := by
      have hloop : ¬v.chained n n := fun h => absurd (hchain (hlike.cfg n ▸ h.1)) (Nat.not_lt.2 (hlike.cfg n ▸ h.2.ge))
      rw [State.tmStart_timer_of_not_chained hloop, State.started_timer_self (hlike.len ▸ hn), hlike.cfg, hlike.reload, hlike.bmt,
        hlike.tmNow_eq (State.timer_congr htmV n), hnow]
    refine ⟨_, execTimerStart_of_taken (hu ▸ htake), (hread n).trans hself, fun hload => ?_, fun k hk => ?_, hacc, hempty, href, hframe⟩
    · rw [hread, hself, startTm_runs _ _ hload]
      exact ⟨rfl, rfl, rfl, rfl⟩
    · rw [hread, ← State.timer_congr htmV k, ← hlike.cfg]
      exact State.tmStart_timer_other hk
  case stop =>
    obtain ⟨v, htake, himpV, htmV, hlike, hsame⟩ := State.takeAction_of_single hbox hact hidx
    have hhalt : v.tmStop n = v.onTimer n (tmHalt (u.tmCfg n) (u.tmReload n) u.now) := by
      rw [State.tmStop_of_not_due, hlike.cfg, hlike.reload, hlike.bmt, hnow]
      rwa [hlike.cfg, hlike.reload, hlike.bmt, hlike.tmNow_eq (State.timer_congr htmV n), hnow]
    obtain ⟨htm, -, hempty, -, hframe⟩ := State.reportAcc_reads (t := v.tmStop n) (by rw [hhalt]; rfl) himpV hsame y.slot
    have hself : ((v.tmStop n).reportAcc y.slot .accepted).timer n = tmHalt (u.tmCfg n) (u.tmReload n) u.now (u.timer n) := by
      rw [State.timer_congr htm, hhalt, State.onTimer_timer_self (hlike.len ▸ hn), State.timer_congr htmV]
    refine ⟨_, execTimerStop_of_taken (hu ▸ htake), hself, ?_, fun hst hsrc hmode hlf hunit => ?_, fun k hk => ?_, hempty, hframe⟩
    · rw [hself, tmHalt_st]
    · rw [hself, tmHalt_cnt_of_down _ _ hst hsrc hmode hlf hunit]
    · rw [State.timer_congr htm, hhalt, State.onTimer_timer_ne hk, State.timer_congr htmV]
  case expiry =>
    rw [if_neg hmode, State.tmFire_of_expiry hrepU hunit hdue (tmExpiry_of_down _ hst hsrc hmode) (he ▸ hm) hle, ← he,
      State.tmExpire_eq] at hfire
    obtain ⟨hself, hbelow, habove, hframe⟩ := State.onTimer_tmSignal hn (Timer.expired (u.tmCfg n) (u.tmReload n) e) m
    refine ⟨_, hfire, ?_, ?_, fun honce => ?_, fun hper => ?_, hbelow, habove, hframe⟩
    · rw [hself]
      rfl
    · rw [hself, Timer.signalled, Timer.expired_expCnt]
    · rw [hself, Timer.expired_of_once _ _ honce]
      exact ⟨rfl, rfl⟩
    · rw [hself, Timer.expired_of_periodic _ _ hper]
      exact ⟨hst, rfl, rfl⟩
  case count =>
    rw [if_pos hmode, State.tmFire_of_expiry hrepU hunit hdue (tmExpiry_of_count hst hsrc hmode hlt hmax) rfl
      (by simpa [hlf] using hle), State.tmExpire_eq] at hfire
    obtain ⟨hself, hbelow, -, -⟩ := State.onTimer_tmSignal hn (Timer.expired (u.tmCfg n) (u.tmReload n) _) _
    obtain ⟨hruns, hcnt⟩ := Timer.expired_of_count hst hsrc hmode hlt hmax rfl
    refine ⟨_, hfire, ?_, ?_, ?_, ?_, hbelow⟩
    · rw [hself]
      rfl
    · rw [hself, Timer.signalled, Timer.expired_expCnt]
    · rw [hself]
      exact hruns
    · rw [hself]
      exact hcnt
  case due =>
    rw [← hi, State.tmFire_of_due hrepU hunit hdue hd] at hfire
    obtain ⟨hself, hbelow, -, -⟩ := State.onTimer_tmSignal hn (fun x => { x with due := rest }) d
    exact ⟨_, hfire, hself, hbelow⟩

end Sys2Proof.Machine
end

section
/-! PROOFS. GSTART and GSTOP (04 R99). -/

namespace Sys2Proof.Machine

variable {s t u a : State} {n k i mask : Nat}

-- GSTART (04 R99) ---------------------------------------------------------------------------------------------

def State.startMasked (mask : Nat) (a : State) (i : Nat) : State := if bitOf mask i then a.tmStart i else a

theorem State.gstart_eq (s : State) (mask : Nat) : s.gstart mask = (List.range 32).foldl (State.startMasked mask) s := rfl

/-- The timer as a group start leaves it, but for a chained unit. -/
def State.groupStarted (s : State) (mask k : Nat) : Timer :=
  if bitOf mask k then startTm (s.tmCfg k) (s.tmReload k) s.bmt (s.tmNow k) else s.timer k

theorem State.startMasked_tmLike (h : a.tmLike s) (mask i : Nat) : (a.startMasked mask i).tmLike s := by
  unfold State.startMasked
  split
  · exact State.tmStart_tmLike h i
  · exact h

theorem State.startMasked_without_ne (h : a.tmLike s) (hi : i ≠ k) :
    ((a.startMasked mask i).timer k).without s.bmt = (a.timer k).without s.bmt := by
  unfold State.startMasked
  split
  · rw [← h.bmt, State.tmStart_timer_without, State.started_timer_ne hi.symm]
  · rfl

theorem State.started_timer_of_tmLike (h : a.tmLike s) (hk : k < s.timers.length) :
    (a.started k).timer k = startTm (s.tmCfg k) (s.tmReload k) s.bmt (tmAt (s.tmCfg k) (s.tmReload k) s.bmt (a.timer k)) := by
  rw [State.started_timer_self (h.len ▸ hk), State.tmNow, h.cfg, h.reload, h.bmt]

/-- The starts before it on this cycle may only have taken back the unit of the next cycle, which is not counted yet. -/
theorem State.gstart_timer_without (hk : k < 32) (hlen : k < s.timers.length) (mask : Nat) :
    ((s.gstart mask).timer k).without s.bmt = (s.groupStarted mask k).without s.bmt := by
  rw [State.gstart_eq]
  refine foldl_timer_of_mem (p := Timer.without s.bmt) (R := fun a => a.tmLike s) (fun a i h => State.startMasked_tmLike h mask i)
    (fun a i h hi => State.startMasked_without_ne h hi) List.nodup_range (List.mem_range.2 hk) (State.tmLike.refl s) fun a h hak => ?_
  unfold State.startMasked State.groupStarted
  split
  · rw [← h.bmt, State.tmStart_timer_without, h.bmt, State.started_timer_of_tmLike h hlen, ← startTm_without, ← tmAt_without, hak,
      tmAt_without, startTm_without]
    rfl
  · exact hak

/-- A timer whose source is not started with it is exactly its own start, or unchanged. -/
theorem State.gstart_timer (hk : k < 32) (hlen : k < s.timers.length)
    (hfree : (s.tmCfg k).src = 3 → bitOf mask (s.tmCfg k).idx = false) : (s.gstart mask).timer k = s.groupStarted mask k := by
  have hexact {a : State} {i : Nat} (h : a.tmLike s) (hi : bitOf mask i = true) : (a.tmStart i).timer k = (a.started i).timer k := by
    refine State.tmStart_timer_of_not_chained fun hc => ?_
    rw [State.chained, h.cfg] at hc
    exact absurd (hfree hc.1) (by rw [hc.2, hi]; decide)
  rw [State.gstart_eq]
  refine foldl_timer_of_mem (p := id) (R := fun a => a.tmLike s) (fun a i h => State.startMasked_tmLike h mask i)
    (fun a i h hi => ?_) List.nodup_range (List.mem_range.2 hk) (State.tmLike.refl s) fun a h hak => ?_
  · unfold State.startMasked
    split
    next hbit => rw [hexact h hbit, State.started_timer_ne hi.symm]
    · rfl
  · have hak : a.timer k = s.timer k := hak
    unfold State.startMasked State.groupStarted
    split
    next hbit =>
      rw [id, hexact h hbit, State.started_timer_of_tmLike h hlen, hak]
      rfl
    · exact hak

theorem State.gstart_frame (s : State) (mask : Nat) : sameBut [.timers] (s.gstart mask).quiet s.quiet :=
  foldl_sameBut (fun a i => sameBut_ite (a.tmStart_frame i) rfl) _ _

theorem Timer.eq_but_unit_of_without {mt : Nat} {x y : Timer} (h : x.without mt = y.without mt) :
    { x with unit_ := none } = { y with unit_ := none } := by
  have blank (z : Timer) : { z with unit_ := none } = { z.without mt with unit_ := none } := by
    unfold Timer.without
    split <;> rfl
  rw [blank x, blank y, h]

-- GSTOP (04 R99) ----------------------------------------------------------------------------------------------

def State.stopMasked (mask : Nat) (a : State) (i : Nat) : State := if bitOf mask i then a.tmStop i else a

theorem State.gstop_eq (s : State) (mask : Nat) : s.gstop mask = (List.range 32).foldl (State.stopMasked mask) s := rfl

/-- An expiry of this cycle that a stop signals first makes no timer run that has been stopped. -/
theorem State.gstop_stopped (hk : k < 32) (hbit : bitOf mask k = true) (s : State) : ((s.gstop mask).timer k).st = .stopped := by
  rw [State.gstop_eq]
  refine foldl_brings (P := fun a => (a.timer k).st = .stopped) (fun a i ha => ?_) (fun a => ?_) (List.mem_range.2 hk) s
  · unfold State.stopMasked
    split
    · exact State.tmStop_keeps_stopped i ha
    · exact ha
  · rw [State.stopMasked, if_pos hbit]
    exact a.tmStop_stopped k

/-- No masked timer signals on this cycle or before. -/
def State.noneDue (mask : Nat) (s : State) : Prop :=
  ∀ k m, bitOf mask k = true → tmSignalMt (s.tmCfg k) (s.tmReload k) (s.tmNow k) = some m → s.bmt < m

theorem State.tmNow_stopped (h : (s.timer k).st = .stopped) : (s.tmNow k).st = .stopped := tmAt_st_of_stopped _ _ h
theorem tmSignalMt_of_stopped (c : TmCfg) (reload : Nat) {x : Timer} (h : x.st = .stopped) : tmSignalMt c reload x = none := by
  simp [tmSignalMt, tmExpiry, h]

theorem State.stopMasked_of_noneDue (h : a.noneDue mask) (i : Nat) : a.stopMasked mask i =
    if bitOf mask i then a.onTimer i (tmHalt (a.tmCfg i) (a.tmReload i) a.bmt) else a := by
  unfold State.stopMasked
  split
  next hbit => rw [State.tmStop_of_not_due fun m => h i m hbit]
  · rfl

/-- A stopped timer is not due, so the stops before it on this cycle leave a timer as it was. -/
theorem State.noneDue.stopMasked (h : a.noneDue mask) (i : Nat) : (a.stopMasked mask i).noneDue mask := by
  rw [State.stopMasked_of_noneDue h]
  split
  case isFalse => exact h
  intro k m hbit hm
  by_cases hki : k = i
  · subst hki
    have hst : ((a.onTimer k (tmHalt (a.tmCfg k) (a.tmReload k) a.bmt)).timer k).st = .stopped := by
      rw [← State.tmStop_of_not_due fun m => h k m hbit]
      exact a.tmStop_stopped k
    rw [tmSignalMt_of_stopped _ _ (State.tmNow_stopped hst)] at hm
    exact nomatch hm
  · rw [State.tmNow, State.onTimer_timer_ne hki] at hm
    exact h k m hbit hm

theorem State.stopMasked_tmLike (h : a.tmLike s) (hdue : a.noneDue mask) (i : Nat) : (a.stopMasked mask i).tmLike s := by
  rw [State.stopMasked_of_noneDue hdue]
  split
  · exact h.onTimer i _
  · exact h

/-- With none due each masked timer freezes where it stands, and no other changes. -/
theorem State.gstop_timer (hk : k < 32) (hlen : k < s.timers.length) (hdue : s.noneDue mask) :
    (s.gstop mask).timer k = if bitOf mask k then tmHalt (s.tmCfg k) (s.tmReload k) s.bmt (s.timer k) else s.timer k := by
  rw [State.gstop_eq]
  refine foldl_timer_of_mem (p := id) (R := fun a => a.tmLike s ∧ a.noneDue mask)
    (fun a i h => ⟨State.stopMasked_tmLike h.1 h.2 i, h.2.stopMasked i⟩) (fun a i h hi => ?_) List.nodup_range (List.mem_range.2 hk)
    ⟨State.tmLike.refl s, hdue⟩ fun a h hak => ?_
  · rw [State.stopMasked_of_noneDue h.2]
    split
    · exact State.onTimer_timer_ne hi.symm _
    · rfl
  · have hak : a.timer k = s.timer k := hak
    obtain ⟨hlike, hnone⟩ := h
    rw [State.stopMasked_of_noneDue hnone, id]
    split
    · rw [State.onTimer_timer_self (hlike.len ▸ hlen), hlike.cfg, hlike.reload, hlike.bmt, hak]
    · exact hak

theorem State.gstop_frame (hdue : s.noneDue mask) : sameBut [.timers] (s.gstop mask).quiet s.quiet := by
  have step {a : State} (ha : a.noneDue mask) (i : Nat) : sameBut [.timers] (a.stopMasked mask i).quiet a.quiet := by
    rw [State.stopMasked_of_noneDue ha]
    exact sameBut_ite (a.onTimer_frame ..) rfl
  rw [State.gstop_eq]
  refine And.right (List.foldlRecOn (motive := fun a : State => a.noneDue mask ∧ sameBut [.timers] a.quiet s.quiet) _ _ ⟨hdue, rfl⟩ ?_)
  exact fun a ha i _ => ⟨ha.1.stopMasked i, (step ha.1 i).trans ha.2⟩

-- The registers of the group (04 R99, Table 4.5) --------------------------------------------------------------

theorem lt_of_bitOf (hmask : mask < 2 ^ n) (h : bitOf mask k = true) : k < n := by
  by_contra hk
  have hzero : mask / 2 ^ k = 0 := Nat.div_eq_of_lt (hmask.trans_le (Nat.pow_le_pow_right (by decide) (Nat.le_of_not_lt hk)))
  simp [bitOf, hzero] at h

theorem State.onPower_frame (s : State) (f : PowerSt → PowerSt) : sameBut [.cols, .power] (s.onPower f).quiet s.quiet := rfl
theorem State.onCol_frame (s : State) (c : Nat) (f : Column → Column) : sameBut [.cols, .power] (s.onCol c f).quiet s.quiet := rfl

/-- A wake changes the clock of the timers only (13 R340; 04 R105). -/
theorem State.wakeUp_timers_length (s : State) : s.wakeUp.timers.length = s.timers.length := by
  have heated (x : State) : x.heat.timers = x.timers := by
    have heat_frame : sameBut [.cols, .power] x.heat.quiet x.quiet := by
      unfold State.heat
      dsimp only
      refine sameBut_ite ((State.onPower_frame _ _).trans (foldl_sameBut (fun a c => ?_) _ _)) rfl
      exact a.onCol_frame ..
    exact heat_frame.timers_eq (by decide)
  have woken : (s.enterPower 0).heat.timers.length = s.timers.length := by simp [heated, State.enterPower, State.tmLf]
  unfold State.wakeUp
  dsimp only
  split_ifs
  · rfl
  · exact woken
  · exact woken

@[simp] theorem State.wakeUp_tmCfg (s : State) (n : Nat) : s.wakeUp.tmCfg n = s.tmCfg n :=
  (State.tmCfg_congr (by simp) (by simp) (by simp) n).1
@[simp] theorem State.wakeUp_tmReload (s : State) (n : Nat) : s.wakeUp.tmReload n = s.tmReload n :=
  (State.tmCfg_congr (by simp) (by simp) (by simp) n).2

/-- What a reply leaves: the timers as they were, and the word with its status. -/
theorem State.reply_reads {addr val status : Nat} (h : t.quiet = (u.reply addr val status).quiet) :
    t.timers = u.timers ∧ t.host.lastWord = some (addr, val, status) ∧ sameBut [.timers, .host] t.quiet u.quiet := by
  have htimers : t.quiet.timers = (u.reply addr val status).quiet.timers := by rw [h]
  have hword : t.quiet.host.lastWord = (u.reply addr val status).quiet.host.lastWord := by rw [h]
  refine ⟨htimers, hword, ?_⟩
  rw [h]
  rfl

/-- Settles O21: a group write is a walk over the 32 timers at one MT; a start or stop leaves the others but for the unit that
a start takes back (04 R96, R98, R99, Table 4.6). -/
theorem groupStartIsSimultaneous : Obligations.GroupStartIsSimultaneous := by
  rintro dt sid mask s u hu hmask hlen
  have hlenU : u.timers.length = 32 := by rw [hu, State.wakeUp_timers_length, State.elapse_timers, hlen]
  have hcfg (k : Nat) : u.tmCfg k = s.tmCfg k := by simp [hu]
  have hreload (k : Nat) : u.tmReload k = s.tmReload k := by simp [hu]
  have hexecStart : exec (.gstart dt sid mask) s = .next (u.writeOne sid 0x580 mask) := by
    rw [hu]
    rfl
  have hexecStop : exec (.gstop dt sid mask) s = .next (u.writeOne sid 0x581 mask) := by
    rw [hu]
    rfl
  refine ⟨fun hcan => ?granted, fun x hx hrole => ?denied⟩
  case granted =>
    have hcanU : canWrite u sid 1 = true := by simpa [hu] using hcan
    have hnow : u.bmt = u.now := State.bmt_eq_now (by
      simp only [canWrite, Bool.and_eq_true, Option.isNone_iff_eq_none] at hcanU
      exact hcanU.2)
    simp only [← hcfg, ← hreload, ← hnow]
    obtain ⟨hstarted, hstartWord, hstartFrame⟩ := State.reply_reads (State.writeOne_granted (a := 0x580) hcanU hmask rfl rfl)
    obtain ⟨hstopped, hstopWord, hstopFrame⟩ := State.reply_reads (State.writeOne_granted (a := 0x581) hcanU hmask rfl rfl)
    refine ⟨⟨_, hexecStart, ?_, hstartWord, fun n x hn hx => ?_⟩,
      _, hexecStop, hstopWord, fun n hn hbit => ?_, fun hdue => ?_⟩
    · exact hstartFrame.trans ((u.gstart_frame mask).mono (by decide))
    · have hx : x = u.groupStarted mask n := hx
      rw [State.timer_congr hstarted, hx]
      exact ⟨Timer.eq_but_unit_of_without (State.gstart_timer_without hn (hlenU ▸ hn) mask), State.gstart_timer hn (hlenU ▸ hn)⟩
    · rw [State.timer_congr hstopped]
      exact State.gstop_stopped hn hbit u
    · have hnone : u.noneDue mask := fun k m hbit => hdue k m (lt_of_bitOf hmask hbit) hbit
      refine ⟨hstopFrame.trans ((State.gstop_frame hnone).mono (by decide)), fun n hn => ?_⟩
      rw [State.timer_congr hstopped]
      exact State.gstop_timer hn (hlenU ▸ hn) hnone
  case denied =>
    have hxU : u.session? sid = some x := by simpa [hu] using hx
    have refused {addr : Nat} (hacc : accRole (regAcc addr) = some 1) :=
      State.reply_reads (State.writeOne_denied hxU hmask hacc (by omega)).1
    obtain ⟨hstart, hstartWord, -⟩ := refused (addr := 0x580) rfl
    obtain ⟨hstop, hstopWord, -⟩ := refused (addr := 0x581) rfl
    exact ⟨⟨_, hexecStart, hstart, hstartWord⟩,
      _, hexecStop, hstop, hstopWord⟩

end Sys2Proof.Machine
end

section
/-! PROOFS. Columns and parcels (05 R110, R116): one column among four, one parcel among its column's, and what the rules of
the ledger read beside them. -/

namespace Sys2Proof.Machine

variable {ps : List Part} {s t a b : State} {c k i j : Nat}

-- One column among the columns ---------------------------------------------------------------------------------

theorem State.col_congr (h : s.cols = t.cols) (c : Nat) : s.col c = t.col c := by simp only [State.col, h]

@[simp] theorem State.elapse_col (s : State) (dt c : Nat) : (s.elapse dt).col c = s.col c := State.col_congr (by simp) c

theorem State.onCol_col_self (hc : c < s.cols.length) (f : Column → Column) : (s.onCol c f).col c = f (s.col c) := by
  simp [State.col, List.getD_eq_getElem?_getD, hc]
@[simp] theorem State.onCol_col_ne (h : k ≠ c) (f : Column → Column) : (s.onCol c f).col k = s.col k := by
  simp [State.col, List.getD_eq_getElem?_getD, List.getElem?_modify_ne _ _ (Ne.symm h)]
@[simp] theorem State.onCol_length (s : State) (c : Nat) (f : Column → Column) : (s.onCol c f).cols.length = s.cols.length := by
  simp

theorem State.cols_of_quiet (h : a.quiet = b.quiet) : a.cols = b.cols := by
  show a.quiet.cols = b.quiet.cols
  rw [h]
/-- What a change of one column leaves of every column, whichever it is. -/
theorem State.onCol_keeps {α : Type} {g : Column → α} {f : Column → Column} (hf : ∀ x, g (f x) = g x) (s : State) (c k : Nat) :
    g ((s.onCol c f).col k) = g (s.col k) := by
  by_cases hk : k = c
  · subst hk
    by_cases hlen : k < s.cols.length
    · rw [State.onCol_col_self hlen, hf]
    · rw [State.col_congr (t := s) (List.modify_eq_self (Nat.le_of_not_lt hlen))]
  · rw [State.onCol_col_ne hk]

/-- A walk that changes one column after the other leaves a column alone that it does not visit. -/
theorem foldl_onCol_col_of_not_mem (f : State → Nat → Column → Column) {l : List Nat} (hk : k ∉ l) (s : State) :
    (l.foldl (fun a c => a.onCol c (f a c)) s).col k = s.col k := by
  induction l generalizing s with
  | nil => rfl
  | cons c l ih =>
    simp only [List.mem_cons, not_or] at hk
    rw [List.foldl_cons, ih hk.2, State.onCol_col_ne hk.1]

/-- A column that it visits takes the change that the walk makes of it at its start, if that depends on no other column. -/
theorem foldl_onCol_col_of_mem {f : State → Nat → Column → Column} {l : List Nat} (hl : l.Nodup) (hk : k ∈ l) (hlen : k < s.cols.length)
    (hf : ∀ a : State, sameBut [.cols] a s → a.col k = s.col k → f a k = f s k) :
    (l.foldl (fun a c => a.onCol c (f a c)) s).col k = f s k (s.col k) := by
  obtain ⟨l₁, l₂, rfl⟩ := List.append_of_mem hk
  obtain ⟨-, hl₂, hdisj⟩ := List.nodup_append.1 hl
  have hk₁ : k ∉ l₁ := fun h => hdisj k h k List.mem_cons_self rfl
  have hk₂ : k ∉ l₂ := (List.nodup_cons.1 hl₂).1
  have hbefore := foldl_onCol_col_of_not_mem f hk₁ s
  have hrest : sameBut [.cols] (l₁.foldl (fun a c => a.onCol c (f a c)) s) s ∧
      (l₁.foldl (fun a c => a.onCol c (f a c)) s).cols.length = s.cols.length :=
    List.foldlRecOn (motive := fun a : State => sameBut [.cols] a s ∧ a.cols.length = s.cols.length) _ _ ⟨rfl, rfl⟩
      fun a ha c _ => ⟨sameBut.trans rfl ha.1, by rw [State.onCol_length, ha.2]⟩
  rw [List.foldl_append, List.foldl_cons, foldl_onCol_col_of_not_mem f hk₂, State.onCol_col_self (hrest.2 ▸ hlen),
    hf _ hrest.1 hbefore, hbefore]

-- The settings of a column (05 Table 5.5) ----------------------------------------------------------------------

theorem sameBut.pLdg_eq (h : sameBut ps s.quiet t.quiet) (hs : .store ∉ ps) (hu : .sup ∉ ps) (c o : Nat) : s.pLdg c o = t.pLdg c o := by
  simp only [State.pLdg, State.parN, h.par_eq hs hu]
theorem sameBut.formeOf_eq (h : sameBut ps s.quiet t.quiet) (hs : .store ∉ ps) (hu : .sup ∉ ps) (n : Nat) :
    s.formeOf n = t.formeOf n := by
  simp only [State.formeOf, h.reprint_eq hs, h.sup_eq hu]
theorem sameBut.geo_eq (h : sameBut ps s.quiet t.quiet) (hs : .store ∉ ps) (hu : .sup ∉ ps) (c : Nat) : s.geo c = t.geo c := by
  simp only [State.geo, h.formeOf_eq hs hu]

@[simp] theorem State.elapse_pLdg (s : State) (dt c o : Nat) : (s.elapse dt).pLdg c o = s.pLdg c o :=
  (s.elapse_frame dt).pLdg_eq (by decide) (by decide) c o
@[simp] theorem State.elapse_formeOf (s : State) (dt n : Nat) : (s.elapse dt).formeOf n = s.formeOf n :=
  (s.elapse_frame dt).formeOf_eq (by decide) (by decide) n
@[simp] theorem State.elapse_geo (s : State) (dt c : Nat) : (s.elapse dt).geo c = s.geo c := by simp [State.geo]
@[simp] theorem State.elapse_bstep (s : State) (dt c i : Nat) : (s.elapse dt).bstep c i = s.bstep c i := by simp [State.bstep]
@[simp] theorem State.onCol_geo (s : State) (n : Nat) (f : Column → Column) (c : Nat) : (s.onCol n f).geo c = s.geo c := rfl

/-- Whether a parcel's dose grows depends on the settings and on its own column only (05 R117, R123). -/
theorem State.heating_congr (hforme : a.formeOf 4 = s.formeOf 4) (hcol : a.col c = s.col c) (i : Nat) : a.heating c i = s.heating c i := by
  unfold State.heating State.bflag State.geo State.bstep
  rw [hforme, hcol]
@[simp] theorem State.elapse_heating (s : State) (dt c i : Nat) : (s.elapse dt).heating c i = s.heating c i :=
  State.heating_congr (by simp) (by simp) i

-- One parcel among the parcels ---------------------------------------------------------------------------------

theorem padParcels_getD (depth i : Nat) (ps : List Parcel) : (padParcels depth ps).getD i {} = ps.getD i {} := by
  unfold padParcels
  by_cases hi : i < ps.length
  · exact List.getD_append _ _ _ _ hi
  · rw [List.getD_append_right _ _ _ _ (Nat.le_of_not_lt hi), getD_replicate_default, List.getD_eq_default _ _ (Nat.le_of_not_lt hi)]

theorem length_padParcels (depth : Nat) (ps : List Parcel) : (padParcels depth ps).length = max depth ps.length := by
  simp only [padParcels, List.length_append, List.length_replicate]
  omega

theorem getD_modify_self {l : List Parcel} (h : i < l.length) (f : Parcel → Parcel) : (l.modify i f).getD i {} = f (l.getD i {}) := by
  simp [List.getD_eq_getElem?_getD, h]
theorem getD_modify_ne (h : j ≠ i) (l : List Parcel) (f : Parcel → Parcel) : (l.modify i f).getD j {} = l.getD j {} := by
  simp [List.getD_eq_getElem?_getD, List.getElem?_modify_ne _ _ h.symm]

theorem getD_mapIdx_padParcels {depth : Nat} (h : i < depth) (f : Nat → Parcel → Parcel) (ps : List Parcel) :
    ((padParcels depth ps).mapIdx f).getD i {} = f i (ps.getD i {}) := by
  have hlen : i < (padParcels depth ps).length := by rw [length_padParcels]; omega
  rw [← padParcels_getD depth i ps]
  simp [List.getD_eq_getElem?_getD, hlen]

theorem Column.modAt_at_self (x : Column) (i : Nat) (f : Parcel → Parcel) : (x.modAt i f).at_ i = f (x.at_ i) := by
  have hlen : i < (padParcels (i + 1) x.parcels).length := by rw [length_padParcels]; omega
  rw [Column.modAt, Column.at_, getD_modify_self hlen, padParcels_getD, ← Column.at_]
@[simp] theorem Column.modAt_at_ne (h : j ≠ i) (x : Column) (f : Parcel → Parcel) : (x.modAt i f).at_ j = x.at_ j := by
  rw [Column.modAt, Column.at_, getD_modify_ne h, padParcels_getD, ← Column.at_]

end Sys2Proof.Machine
end

section
/-! PROOFS. The heat integral (05 R116): what serving the millisecond boundaries makes of a column, and what it leaves alone. -/

namespace Sys2Proof.Machine

variable {s t : State} {c k n m₀ m₁ : Nat}

/-- No millisecond boundary waits for the heat integral. -/
def State.heatServed (s : State) : Prop := s.bmt / 100000 ≤ s.power.heatMs

theorem State.heat_of_served (h : s.heatServed) : s.heat = s := if_neg (Nat.not_lt.2 h)

/-- The walk over the columns that serves the boundaries up to `m₁`. -/
def State.heatCols (s : State) (m₀ m₁ : Nat) : State :=
  (List.range 4).foldl (fun a c => a.onCol c (heatCol (a.pLdg c 0x0D) m₀ m₁ (a.heating c) (a.geo c).depth)) s

theorem State.heat_of_due (h : s.power.heatMs < s.bmt / 100000) :
    s.heat = (s.heatCols s.power.heatMs (s.bmt / 100000)).onPower fun p => { p with heatMs := s.bmt / 100000 } := if_pos h

theorem State.heatCols_col (hc : c < 4) (hlen : c < s.cols.length) :
    (s.heatCols m₀ m₁).col c = heatCol (s.pLdg c 0x0D) m₀ m₁ (s.heating c) (s.geo c).depth (s.col c) :=
  foldl_onCol_col_of_mem List.nodup_range (List.mem_range.2 hc) hlen fun a ha hcol => by
    have hsame : sameBut [.cols] a.quiet s.quiet := congrArg State.quiet ha
    rw [hsame.pLdg_eq (by decide) (by decide), hsame.geo_eq (by decide) (by decide),
      funext (State.heating_congr (hsame.formeOf_eq (by decide) (by decide) 4) hcol)]

theorem State.heatCols_sameBut (s : State) (m₀ m₁ : Nat) : sameBut [.cols] (s.heatCols m₀ m₁) s :=
  List.foldlRecOn (motive := fun a : State => sameBut [.cols] a s) _ _ rfl fun _ ha _ _ => sameBut.trans rfl ha

theorem State.onPower_sameBut_power (s : State) (f : PowerSt → PowerSt) : sameBut [.cols, .power] (s.onPower f) s := rfl

theorem State.heat_sameBut_cols (s : State) : sameBut [.cols, .power] s.heat s := by
  by_cases h : s.heatServed
  · rw [State.heat_of_served h]
    rfl
  · rw [State.heat_of_due (Nat.lt_of_not_le h)]
    exact (State.onPower_sameBut_power _ _).trans ((s.heatCols_sameBut _ _).mono (by decide))

/-- What the heat integral leaves of every column. -/
theorem State.heatCols_keeps {α : Type} {g : Column → α} (hg : ∀ hold m₀ m₁ inH depth x, g (heatCol hold m₀ m₁ inH depth x) = g x)
    (s : State) (m₀ m₁ k : Nat) : g ((s.heatCols m₀ m₁).col k) = g (s.col k) := by
  unfold State.heatCols
  exact List.foldlRecOn (motive := fun a : State => g (a.col k) = g (s.col k)) _ _ rfl fun a ha c _ =>
    (State.onCol_keeps (fun x => hg _ m₀ m₁ _ _ x) a c k).trans ha
theorem State.heat_keeps {α : Type} {g : Column → α} (hg : ∀ hold m₀ m₁ inH depth x, g (heatCol hold m₀ m₁ inH depth x) = g x)
    (s : State) (k : Nat) : g (s.heat.col k) = g (s.col k) := by
  by_cases h : s.heatServed
  · rw [State.heat_of_served h]
  · rw [State.heat_of_due (Nat.lt_of_not_le h), State.col_congr (State.onPower_cols _ _), State.heatCols_keeps hg]
theorem State.heat_cols_length (s : State) : s.heat.cols.length = s.cols.length := by
  by_cases h : s.heatServed
  · rw [State.heat_of_served h]
  · rw [State.heat_of_due (Nat.lt_of_not_le h), State.onPower_cols, State.heatCols]
    exact List.foldlRecOn (motive := fun a : State => a.cols.length = s.cols.length) _ _ rfl fun a ha c _ =>
      (State.onCol_length ..).trans ha

-- How many boundaries had a plenum value (05 R116) ---------------------------------------------------------------

theorem length_filter_range_add_le (m₀ q n : Nat) : ((List.range n).filter fun j => decide (m₀ + 1 + j ≤ q)).length = min n (q - m₀) := by
  induction n with
  | zero => simp
  | succ n ih =>
    rw [List.range_succ, List.filter_append, List.length_append, ih]
    by_cases h : m₀ + 1 + n ≤ q <;> simp [h] <;> omega

/-- The boundaries of a column that had a plenum value: valid, and not older than `hold` ticks. -/
def Column.plenBoundaries (x : Column) (hold m₀ m₁ : Nat) : Nat :=
  ((List.range (m₁ - m₀)).filter fun j => x.plen.any fun p => decide ((m₀ + 1 + j) * 100000 ≤ p.2 + hold)).length

theorem heatCol_eq (x : Column) (hold m₀ m₁ depth : Nat) (inH : Nat → Bool) :
    heatCol hold m₀ m₁ inH depth x =
      { x with
        s := uw 64 ((x.s : Int) + (x.plenBoundaries (hold * 10000000) m₀ m₁ : Nat) * (x.plen.map (·.1)).getD 0)
        parcels := if x.plenBoundaries (hold * 10000000) m₀ m₁ < m₁ - m₀ then
            (padParcels depth x.parcels).mapIdx fun i p => if inH i then { p with flags := p.flags ||| 4 } else p
          else x.parcels } := by
  unfold heatCol Column.plenBoundaries
  cases hplen : x.plen with
  | none => simp
  | some p =>
    obtain ⟨v, stamp⟩ := p
    have hcount := length_filter_range_add_le m₀ ((stamp + hold * 10000000) / 100000) (m₁ - m₀)
    have hmin : min m₁ ((stamp + hold * 10000000) / 100000) - m₀ = min (m₁ - m₀) ((stamp + hold * 10000000) / 100000 - m₀) := by omega
    simp only [Option.any_some, Option.map_some, Option.getD_some, ← Nat.le_div_iff_mul_le (show 0 < 100000 by decide), hcount, hmin]

/-- Without a boundary to serve nothing is added: S stands in its 64 bits. -/
theorem heatCol_self {x : Column} (hs : x.s < 2 ^ 64) (hold m depth : Nat) (inH : Nat → Bool) : heatCol hold m m inH depth x = x := by
  have hnone : x.plenBoundaries (hold * 10000000) m m = 0 := by simp [Column.plenBoundaries]
  have hS : uw 64 (x.s : Int) = x.s := by simp only [uw]; omega
  rw [heatCol_eq, hnone, Nat.sub_self, if_neg (Nat.lt_irrefl 0), Nat.cast_zero, zero_mul, add_zero, hS]

/-- A column and the served boundary after HEAT_INTEGRAL_TICK, whether a boundary was due or not. -/
theorem State.heat_reads (hc : c < 4) (hlen : c < s.cols.length) (hs : (s.col c).s < 2 ^ 64) (hm : s.power.heatMs ≤ s.bmt / 100000) :
    s.heat.col c = heatCol (s.pLdg c 0x0D) s.power.heatMs (s.bmt / 100000) (s.heating c) (s.geo c).depth (s.col c) ∧
    s.heat.power = { s.power with heatMs := s.bmt / 100000 } := by
  rcases hm.lt_or_eq with hdue | hserved
  · have hpower : (s.heatCols s.power.heatMs (s.bmt / 100000)).power = s.power :=
      (s.heatCols_sameBut _ _).part_eq (p := State.power) fun _ => rfl
    rw [State.heat_of_due hdue, ← State.heatCols_col hc hlen, State.onPower_power, hpower]
    exact ⟨State.col_congr (State.onPower_cols _ _) c, rfl⟩
  · rw [State.heat_of_served hserved.ge, ← hserved, heatCol_self hs]
    exact ⟨rfl, rfl⟩

/-- Settles O22: of the boundaries since the last one served those with a plenum value add it to S, and one without marks the
parcels of the heat section (05 R116). -/
theorem heatIntegralGrowsByThePlenum : Obligations.HeatIntegralGrowsByThePlenum := by
  rintro dt c m₀ m₁ k v s x hc hcols hx hrep hm₀ hm₁ hle hS hv hk
  have hnow : (s.elapse dt).bmt = (s.elapse dt).now := State.bmt_eq_now (by simpa using hrep)
  have hserved : (s.elapse dt).power.heatMs = m₀ := by simpa using hm₀
  obtain ⟨hcol, hpower⟩ := State.heat_reads (s := s.elapse dt) hc (by simp [hcols, hc]) (by rwa [State.elapse_col, hx])
    (by rwa [hserved, hnow, hm₁])
  rw [hserved, hnow, hm₁, State.elapse_col, hx, State.elapse_pLdg, State.elapse_geo, funext (s.elapse_heating dt c), heatCol_eq] at hcol
  have hk : x.plenBoundaries (s.pLdg c 0x0D * 10000000) m₀ m₁ = k := hk.symm
  rw [hk, hv] at hcol
  refine ⟨_, rfl, ?_, fun hall => ?_, fun hsome i hi => ?_, ?_, (State.heat_sameBut_cols _).symm⟩
  · rw [hcol]
  · rw [hcol, hall, if_neg (Nat.lt_irrefl _)]
  · rw [hcol, if_pos hsome]
    exact getD_mapIdx_padParcels hi _ _
  · rw [hpower, hnow, hm₁]

end Sys2Proof.Machine
end

section
/-! PROOFS. Parcels that have left (05 R122): what becomes of the ledger when they go. -/

namespace Sys2Proof.Machine

variable {s t a b : State} {c k i j depth : Nat} {keep : Nat → Bool}

/-- What a change makes of a column depends on what it makes of the column that stands there. -/
theorem State.onCol_congr {f g : Column → Column} (h : f (s.col c) = g (s.col c)) : s.onCol c f = s.onCol c g := by
  have hlist : s.cols.modify c f = s.cols.modify c g := by
    refine List.ext_getElem (by simp) fun i hi _ => ?_
    have hi' : i < s.cols.length := by simpa using hi
    simp only [List.getElem_modify]
    split
    next hci =>
      subst hci
      simpa [State.col, List.getD_eq_getElem?_getD, hi'] using h
    · rfl
  simp only [State.onCol, hlist]

@[simp] theorem State.parcelSlug_quiet (s : State) (c : Nat) (p : Parcel) : (s.parcelSlug c p).quiet = s.quiet := by
  unfold State.parcelSlug
  split
  · exact State.slug_quiet ..
  · rfl

/-- A parcel beyond the ledger's depth that waits for no mean has left. -/
def hasLeft (depth : Nat) (keep : Nat → Bool) (k : Nat) : Bool := decide (depth ≤ k) && !keep k
/-- The places up to the last one that has not been left. -/
def placesKept (depth : Nat) (keep : Nat → Bool) (n : Nat) : Nat :=
  ((List.range n).filter fun k => !hasLeft depth keep k).foldl (fun m k => max m (k + 1)) 0
/-- The parcels once those that have left are sent, and the last of them gone. -/
def flushed (depth : Nat) (keep : Nat → Bool) (ps : List Parcel) : List Parcel :=
  (ps.mapIdx fun k p => if hasLeft depth keep k then { p with sent := true } else p).take (placesKept depth keep ps.length)

theorem lt_foldl_max {l : List Nat} (h : k ∈ l) (m : Nat) : k < l.foldl (fun m k => max m (k + 1)) m := by
  have mono (l : List Nat) (m : Nat) : m ≤ l.foldl (fun m k => max m (k + 1)) m := by
    induction l generalizing m with
    | nil => exact Nat.le_refl m
    | cons i l ih => exact (Nat.le_max_left m (i + 1)).trans (ih _)
  induction l generalizing m with
  | nil => exact absurd h (List.not_mem_nil)
  | cons i l ih =>
    rcases List.mem_cons.1 h with rfl | h
    · exact (Nat.le_max_right m (k + 1)).trans (mono l _)
    · exact ih h _

/-- A parcel that has not left keeps its place and its record. -/
theorem flushed_getD (hi : hasLeft depth keep i = false) (ps : List Parcel) : (flushed depth keep ps).getD i {} = ps.getD i {} := by
  by_cases hlen : i < ps.length
  · have hkept : i < placesKept depth keep ps.length := lt_foldl_max (by simp [hlen, hi]) 0
    simp [flushed, List.getD_eq_getElem?_getD, hkept, hlen, hi]
  · have hshort : (flushed depth keep ps).length ≤ i := by
      simp only [flushed, List.length_take, List.length_mapIdx]
      omega
    rw [List.getD_eq_default _ _ hshort, List.getD_eq_default _ _ (Nat.le_of_not_lt hlen)]

/-- Slugs aside, the parcels that have left are all that goes. -/
theorem State.flushGone_quiet (s : State) (c depth : Nat) (keep : Nat → Bool) :
    (s.flushGone c depth keep).quiet = (s.onCol c fun x => { x with parcels := flushed depth keep x.parcels }).quiet := by
  have slugs (l : List Parcel) (a : State) : (l.foldl (fun a p => a.parcelSlug c p) a).quiet = a.quiet :=
    List.foldlRecOn (motive := fun b : State => b.quiet = a.quiet) _ _ rfl fun b hb p _ => (b.parcelSlug_quiet c p).trans hb
  exact (slugs _ _).trans (congrArg State.quiet (State.onCol_congr rfl))

theorem State.flushGone_frame (s : State) (c depth : Nat) (keep : Nat → Bool) : sameBut [.cols] (s.flushGone c depth keep).quiet s.quiet := by
  rw [State.flushGone_quiet]
  rfl

theorem State.flushGone_col (hc : c < s.cols.length) : (s.flushGone c depth keep).col c =
    { s.col c with parcels := flushed depth keep (s.col c).parcels } := by
  rw [State.col_congr (State.cols_of_quiet (s.flushGone_quiet c depth keep)), State.onCol_col_self hc]
theorem State.flushGone_col_ne (hk : k ≠ c) : (s.flushGone c depth keep).col k = s.col k := by
  rw [State.col_congr (State.cols_of_quiet (s.flushGone_quiet c depth keep)), State.onCol_col_ne hk]
theorem State.flushGone_at (hc : c < s.cols.length) (hi : hasLeft depth keep i = false) :
    ((s.flushGone c depth keep).col c).at_ i = (s.col c).at_ i := by
  rw [State.flushGone_col hc]
  exact flushed_getD hi _

theorem hasLeft_of_lt (h : i < depth) (keep : Nat → Bool) : hasLeft depth keep i = false := by simp [hasLeft, h]

end Sys2Proof.Machine
end

section
/-! PROOFS. Samples that reach a column (05 R114 to R116, R123), and the close of means with the bias (05 R115, R119). -/

namespace Sys2Proof.Machine

variable {s u : State} {c k i j dt mt out role : Nat} {x : Column} {y : VTok} {p : Parcel} {cl : Closing}

-- The token of a sample (05 R114; 01 R20) ------------------------------------------------------------------------

/-- The unit when its one waiting token has been taken. -/
def State.tokenTaken (s : State) (dt : Nat) : State := { s.elapse dt with toks := [] }

theorem execLedgerSample_of_single (htoks : s.toks = [y]) (hcons : y.cons = 1) (hobj : y.obj = c) (dt : Nat) :
    exec (.ledgerSample dt c) s =
      .next (if y.epoch = s.epochOf y.station then (s.tokenTaken dt).ledgerTok c y else s.tokenTaken dt) := by
  have htake : (s.elapse dt).takeTok 1 c = some (y, s.tokenTaken dt) := by
    simp [State.takeTok, htoks, hcons, hobj, State.onToks, State.tokenTaken]
  have hfresh : (s.tokenTaken dt).epochOf y.station = s.epochOf y.station := by
    simp [State.epochOf, State.node, State.tokenTaken]
  show execLedgerSample dt c s = _
  simp only [execLedgerSample, htake, State.freshTok, hfresh, decide_eq_true_eq]

/-- What a sample leaves when it has changed its column only. -/
theorem State.tokenTaken_onCol (hc : c < s.cols.length) (dt : Nat) (f : Column → Column) :
    ((s.tokenTaken dt).onCol c f).col c = f (s.col c) ∧ (∀ k, k ≠ c → ((s.tokenTaken dt).onCol c f).col k = s.col k) ∧
    ((s.tokenTaken dt).onCol c f).toks = [] ∧ sameBut [.cols, .toks] (s.elapse dt) ((s.tokenTaken dt).onCol c f) := by
  have hcol (k : Nat) : (s.tokenTaken dt).col k = s.col k := State.col_congr (s.elapse_cols dt) k
  refine ⟨?_, fun k hk => ?_, rfl, rfl⟩
  · rw [State.onCol_col_self (s := s.tokenTaken dt) (show c < (s.elapse dt).cols.length by simpa using hc), hcol]
  · rw [State.onCol_col_ne hk, hcol]

-- Where a sample belongs (05 R114, R115, R123) -------------------------------------------------------------------

theorem sampleIdx_of_closed (h : mt < x.closedMt) (out role : Nat) : sampleIdx x out role mt = none := if_pos h

/-- With at most one shift open, a sample from before its crossing belongs to the parcel that it moved. -/
theorem sampleIdx_of_open (hclosed : x.closedMt ≤ mt) (hone : x.closing.length ≤ 1)
    (hbefore : ∀ cl ∈ x.closing, mt < cl.cross → i = if role = 2 then cl.out + 1 else 1)
    (hafter : (∀ cl ∈ x.closing, cl.cross ≤ mt) → i = if role = 2 then out else 0) : sampleIdx x out role mt = some i := by
  unfold sampleIdx
  dsimp only
  rw [if_neg (Nat.not_lt.2 hclosed)]
  match hx : x.closing, hone with
  | [], _ => simp [hafter (by simp [hx])]
  | [cl], _ =>
    by_cases hmt : mt < cl.cross
    · simp [List.range_one, hmt, hbefore cl (by simp [hx]) hmt]
    · simp [List.range_one, hmt, hafter (by simpa [hx] using hmt)]

theorem Column.flagsAt_of_single {m f : Nat} (hx : x.phases = [(m, f)]) (hm : m ≤ mt) : x.flagsAt mt = f := by
  simp [Column.flagsAt, hx, hm]

-- What a sample does (05 R114 to R116) ---------------------------------------------------------------------------

theorem State.ledgerTok_of_bad_plenum (hrole : y.role = 3) (hcode : y.code ≠ .ok) : u.ledgerTok c y = u := by
  simp [State.ledgerTok, hrole, hcode]

theorem State.ledgerTok_of_plenum {v : Int} (hrole : y.role = 3) (hcode : y.code = .ok) (hv : y.value = some v) (hheat : u.heatServed) :
    u.ledgerTok c y = u.onCol c fun x => { x with plen := some (v, u.fullMt y.stamp) } := by
  simp [State.ledgerTok, hrole, hcode, hv, State.heat_of_served hheat]

theorem State.ledgerTok_of_late (hrole : y.role < 3) (hlate : (u.geo c).mode = 1 ∧ u.fullMt y.stamp < (u.col c).closedMt ∨
    (u.geo c).mode = 2 ∧ u.fullMt y.stamp < (u.col c).recMt) : u.ledgerTok c y = u.onCol c Column.late := by
  unfold State.ledgerTok
  dsimp only
  rw [if_neg (by omega)]
  rcases hlate with ⟨hmode, hmt⟩ | ⟨hmode, hmt⟩
  · rw [if_neg (by omega), if_pos hmode, sampleIdx_of_closed hmt]
  · rw [if_pos hmode, if_pos hmt]

/-- The parcel of the column to which a sample of this role and stamp belongs. -/
def State.takesSample (u : State) (c role mt i : Nat) : Prop :=
  (u.geo c).mode = 1 ∧ sampleIdx (u.col c) (u.geo c).out role mt = some i ∨
  (u.geo c).mode = 2 ∧ (u.col c).recMt ≤ mt ∧ i = 0 ∧ bitOf ((u.col c).flagsAt mt) (if role = 2 then 2 else 1) = true

theorem State.ledgerTok_of_taken (hrole : y.role < 3) (htakes : u.takesSample c y.role (u.fullMt y.stamp) i) : u.ledgerTok c y =
    u.onCol c fun x => x.modAt i (takeSample y.role (decide (y.code = .ok) && y.value.isSome) (y.value.getD 0)) := by
  unfold State.ledgerTok
  dsimp only
  rw [if_neg (by omega)]
  rcases htakes with ⟨hmode, hidx⟩ | ⟨hmode, hmt, rfl, hflag⟩
  · rw [if_neg (by omega), if_pos hmode, hidx]
  · rw [if_pos hmode, if_neg (Nat.not_lt.2 hmt), if_pos hflag]

/-- A parcel whose open means a reset has discarded takes no sample of them (05 R131). -/
theorem takeSample_of_void (hrole : role < 3) (h : (if role = 2 then p.voidOut else p.voidIn) = true) (ok : Bool) (v : Int) :
    takeSample role ok v p = p := by
  match role, hrole with
  | 0, _ => exact if_pos h
  | 1, _ => exact if_pos (.inl h)
  | 2, _ => exact if_pos h

/-- A sample excluded by its status is not added; in the moisture roles the parcel is marked (05 R114, Table 5.2). -/
theorem takeSample_of_excluded (hrole : role < 3) (h : (if role = 2 then p.voidOut else p.voidIn) = false) (v : Int) :
    takeSample role false v p = if role = 1 then p else { p with flags := p.flags ||| 128 } := by
  match role, hrole with
  | 0, _ => simp_all [takeSample]
  | 1, _ => simp [takeSample]
  | 2, _ => simp_all [takeSample]

theorem takeSample_moistIn (h : p.voidIn = false) (v : Int) :
    takeSample 0 true v p = { p with sumIn := p.sumIn + v, cntIn := p.cntIn + 1, nIn := min 255 (p.cntIn + 1) } := by
  simp [takeSample, h]
theorem takeSample_tempIn (h : p.voidIn = false) (v : Int) : takeSample 1 true v p = { p with sumT := p.sumT + v, cntT := p.cntT + 1 } := by
  simp [takeSample, h]
theorem takeSample_moistOut (h : p.voidOut = false) (v : Int) :
    takeSample 2 true v p = { p with sumOut := p.sumOut + v, cntOut := p.cntOut + 1, nOut := min 255 (p.cntOut + 1) } := by
  simp [takeSample, h]

-- The close of means (05 R115, R119) -----------------------------------------------------------------------------

/-- The means of one open shift close: inlet means of the parcel behind the new one, outlet mean of the one that left the outlet. -/
def Column.meansClosed (cl : Closing) (x : Column) : Column :=
  { (x.modAt 1 closeIn).modAt (cl.out + 1) closeOut with closing := [], closedMt := cl.cross }

/-- The bias learns from a parcel whose outlet mean and prediction are known. -/
def Column.trained (K M i : Nat) (x : Column) : Column :=
  match (x.at_ i).mOut, (x.at_ i).mPred with
  | some mo, some mp => { x with bias := biasNext K M x.bias mo mp }
  | _, _ => x

theorem Column.meansClosed_at (cl : Closing) (x : Column) (i : Nat) : (x.meansClosed cl).at_ i =
    (if i = cl.out + 1 then closeOut else id) ((if i = 1 then closeIn else id) (x.at_ i)) := by
  have hat : (x.meansClosed cl).at_ i = ((x.modAt 1 closeIn).modAt (cl.out + 1) closeOut).at_ i := rfl
  have hin : (x.modAt 1 closeIn).at_ i = (if i = 1 then closeIn else id) (x.at_ i) := by
    split
    next h => rw [h, Column.modAt_at_self]
    next h => exact Column.modAt_at_ne h ..
  rw [hat, ← hin]
  split
  next h => rw [h, Column.modAt_at_self]
  next h => exact Column.modAt_at_ne h ..

theorem Column.trained_eq (K M i : Nat) (x : Column) : x.trained K M i = { x with bias := (x.trained K M i).bias } := by
  unfold Column.trained
  split <;> rfl

@[simp] theorem Column.trained_at (K M i : Nat) (x : Column) (j : Nat) : (x.trained K M i).at_ j = x.at_ j := by
  rw [Column.trained_eq]
  rfl

theorem Column.trained_bias {K M : Nat} {mo mp : Int} (ho : (x.at_ i).mOut = some mo) (hp : (x.at_ i).mPred = some mp) :
    (x.trained K M i).bias = biasNext K M x.bias mo mp := by
  simp [Column.trained, ho, hp]
theorem Column.trained_bias_of_unknown {K M : Nat} (h : (x.at_ i).mOut = none ∨ (x.at_ i).mPred = none) : (x.trained K M i).bias = x.bias := by
  unfold Column.trained
  split
  next ho hp => simp [ho, hp] at h
  · rfl

/-- The means of the one open shift close, the bias learns, and the parcels that wait no more are gone. -/
def State.shiftClosed (u : State) (c : Nat) (cl : Closing) (keep : Nat → Bool) : State :=
  ((u.onCol c (Column.meansClosed cl)).onCol c (Column.trained (u.pLdg c 0x11) (u.pLdg c 0x12) (cl.out + 1))).flushGone c (u.geo c).depth keep

theorem Column.meansClosed_mOut (cl : Closing) (x : Column) : ((x.meansClosed cl).at_ (cl.out + 1)).mOut =
    meanOf (x.at_ (cl.out + 1)).sumOut (x.at_ (cl.out + 1)).cntOut (x.at_ (cl.out + 1)).voidOut := by
  rw [Column.meansClosed_at, if_pos rfl]
  split <;> rfl
theorem Column.meansClosed_mPred (cl : Closing) (x : Column) : ((x.meansClosed cl).at_ (cl.out + 1)).mPred = (x.at_ (cl.out + 1)).mPred := by
  rw [Column.meansClosed_at, if_pos rfl]
  split <;> rfl

/-- The bias learns from the parcel that left the outlet, or stands where its mean or its prediction is unknown. -/
theorem Column.learned_bias {mp : Int} (K M : Nat) (hvoid : (x.at_ (cl.out + 1)).voidOut = false) (hcnt : 0 < (x.at_ (cl.out + 1)).cntOut)
    (hmp : (x.at_ (cl.out + 1)).mPred = some mp) : ((x.meansClosed cl).trained K M (cl.out + 1)).bias =
      biasNext K M x.bias (rdiv (x.at_ (cl.out + 1)).sumOut (x.at_ (cl.out + 1)).cntOut) mp := by
  have hmo : ((x.meansClosed cl).at_ (cl.out + 1)).mOut = some (rdiv (x.at_ (cl.out + 1)).sumOut (x.at_ (cl.out + 1)).cntOut) := by
    rw [Column.meansClosed_mOut, meanOf, if_neg (by simp [hvoid, hcnt.ne'])]
  rw [Column.trained_bias hmo ((Column.meansClosed_mPred cl x).trans hmp)]
  rfl
theorem Column.learned_bias_of_unknown (K M : Nat)
    (h : (x.at_ (cl.out + 1)).cntOut = 0 ∨ (x.at_ (cl.out + 1)).voidOut = true ∨ (x.at_ (cl.out + 1)).mPred = none) :
    ((x.meansClosed cl).trained K M (cl.out + 1)).bias = x.bias := by
  rw [Column.trained_bias_of_unknown]
  · rfl
  rw [Column.meansClosed_mOut, Column.meansClosed_mPred]
  rcases h with h | h | h
  · exact .inl (if_pos (.inl h))
  · exact .inl (if_pos (.inr h))
  · exact .inr h

/-- What a closed shift leaves of the columns. -/
theorem State.shiftClosed_reads (hlen : c < u.cols.length) (hx : u.col c = x) {keep : Nat → Bool} {t : State}
    (ht : u.shiftClosed c cl keep = t) :
    (∃ ps, t.col c = { (x.meansClosed cl).trained (u.pLdg c 0x11) (u.pLdg c 0x12) (cl.out + 1) with parcels := ps }) ∧
    (∀ i, i < (u.geo c).depth → (t.col c).at_ i = (x.meansClosed cl).at_ i) ∧
    (∀ k, k ≠ c → t.col k = u.col k) ∧ sameBut [.cols] t.quiet u.quiet := by
  subst ht
  have hcol : (u.shiftClosed c cl keep).col c = { (x.meansClosed cl).trained (u.pLdg c 0x11) (u.pLdg c 0x12) (cl.out + 1) with
      parcels := flushed (u.geo c).depth keep
        ((x.meansClosed cl).trained (u.pLdg c 0x11) (u.pLdg c 0x12) (cl.out + 1)).parcels } := by
    rw [State.shiftClosed, State.flushGone_col (by simpa using hlen), State.onCol_col_self (by simpa using hlen),
      State.onCol_col_self hlen, hx]
  refine ⟨⟨_, hcol⟩, fun i hi => ?_, fun k hk => ?_, ?_⟩
  · rw [hcol, ← Column.trained_at (u.pLdg c 0x11) (u.pLdg c 0x12) (cl.out + 1) (x.meansClosed cl)]
    exact flushed_getD (hasLeft_of_lt hi keep) _
  · rw [State.shiftClosed, State.flushGone_col_ne hk, State.onCol_col_ne hk, State.onCol_col_ne hk]
  · rw [sameBut, State.shiftClosed, State.flushGone_quiet]
    rfl

theorem execParcelClose_of_early (hrep : s.store.reprint = none) (hcl : (s.col c).closing = [cl]) (h : (s.elapse dt).now < cl.at_) :
    exec (.parcelClose dt c) s = .next (s.elapse dt) := by
  have hreach : (s.elapse dt).reach cl.at_ = none := by
    simp only [State.reach, State.elapse_store, hrep]
    exact if_neg (Nat.not_le.2 h)
  show execParcelClose dt c s = _
  simp only [execParcelClose, State.elapse_col, hcl, hreach]

theorem State.onCol_of_fixed {f : Column → Column} (h : f (u.col c) = u.col c) : u.onCol c f = u :=
  (State.onCol_congr (g := id) h).trans (by simp only [State.onCol, List.modify_id])

theorem execParcelClose_of_due (hrep : s.store.reprint = none) (hcl : (s.col c).closing = [cl])
    (h : cl.at_ ≤ (s.elapse dt).now) : ∃ keep, exec (.parcelClose dt c) s = .next ((s.elapse dt).shiftClosed c cl keep) := by
  have hclosing : ((s.elapse dt).col c).closing = [cl] := by rw [State.elapse_col, hcl]
  have hreach : (s.elapse dt).reach cl.at_ = some (s.elapse dt) := State.reach_of_live (by simpa using hrep) h
  show ∃ keep, execParcelClose dt c s = _
  unfold execParcelClose
  extract_lets u
  split
  next hnil => exact absurd (hclosing.symm.trans hnil) (List.cons_ne_nil _ _)
  next cl' rest hcons =>
    obtain ⟨rfl, rfl⟩ := List.cons.inj (hclosing.symm.trans hcons)
    split
    next hnone => exact nomatch hreach.symm.trans hnone
    next v hsome =>
      obtain rfl : u = v := Option.some.inj (hreach.symm.trans hsome)
      extract_lets m s2 p s3
      have hm : m = 1 := by simp only [m, u, hclosing, List.length_singleton]
      have hclosed : s2 = u.onCol c (Column.meansClosed cl) := by
        simp only [s2, hm]
        rfl
      have htrained : s3 = s2.onCol c (Column.trained (u.pLdg c 0x11) (u.pLdg c 0x12) (cl.out + 1)) := by
        simp only [s3, p, hm]
        split
        next mo mp ho hp => exact State.onCol_congr (by simp only [Column.trained, ho, hp]; rfl)
        next hunknown =>
          refine (State.onCol_of_fixed ?_).symm
          unfold Column.trained
          split
          next mo mp ho hp => exact absurd hp (hunknown mo mp ho)
          · rfl
      exact ⟨_, by rw [htrained, hclosed]; rfl⟩

-- The rows (05 R114, R115) ---------------------------------------------------------------------------------------

/-- A sample taken by a parcel: what the parcel then holds. -/
theorem takeSample_reads (hrole : y.role < 3) {z : Parcel}
    (hz : z = takeSample y.role (decide (y.code = .ok) && y.value.isSome) (y.value.getD 0) p) :
    ((if y.role = 2 then p.voidOut else p.voidIn) = true → z = p) ∧
    ((if y.role = 2 then p.voidOut else p.voidIn) = false →
      (∀ v, y.code = .ok → y.value = some v →
        (y.role = 0 → z = { p with sumIn := p.sumIn + v, cntIn := p.cntIn + 1, nIn := min 255 (p.cntIn + 1) }) ∧
        (y.role = 1 → z = { p with sumT := p.sumT + v, cntT := p.cntT + 1 }) ∧
        (y.role = 2 → z = { p with sumOut := p.sumOut + v, cntOut := p.cntOut + 1, nOut := min 255 (p.cntOut + 1) })) ∧
      (y.code ≠ .ok → z = if y.role = 1 then p else { p with flags := p.flags ||| 128 })) := by
  subst hz
  refine ⟨fun hvoid => takeSample_of_void hrole hvoid _ _, fun hvoid => ⟨fun v hcode hv => ?_, fun hcode => ?_⟩⟩
  · have hok : (decide (y.code = .ok) && y.value.isSome) = true := by simp [hcode, hv]
    rw [hok, hv, Option.getD_some]
    refine ⟨fun h => ?_, fun h => ?_, fun h => ?_⟩ <;> rw [h] at hvoid ⊢
    · exact takeSample_moistIn hvoid v
    · exact takeSample_tempIn hvoid v
    · exact takeSample_moistOut hvoid v
  · have hbad : (decide (y.code = .ok) && y.value.isSome) = false := by simp [hcode]
    rw [hbad]
    exact takeSample_of_excluded hrole hvoid _

/-- Settles O24: a sample reaches the parcel that its stamp names, or is late; the means of an open shift close 100 µs after its
crossing, and the bias learns from them (05 R114 to R116, R119, R123). -/
theorem parcelMeansCloseAndTrainTheBias : Obligations.ParcelMeansCloseAndTrainTheBias := by
  refine ⟨?samples, ?close⟩
  case samples =>
    rintro dt c mt s x t hc hcols hx htoks hcons hobj hrep hmt
    have hlen : c < s.cols.length := by omega
    have hnow : (s.tokenTaken dt).bmt = (s.elapse dt).now := State.bmt_eq_now (s := s.tokenTaken dt) (by simpa [State.tokenTaken] using hrep)
    have hfull : (s.tokenTaken dt).fullMt t.stamp = mt := by rw [State.fullMt, hnow, hmt]
    have hcol : (s.tokenTaken dt).col c = x := (State.col_congr (s.elapse_cols dt) c).trans hx
    have hgeo : (s.tokenTaken dt).geo c = s.geo c := s.elapse_geo dt c
    have hexec := execLedgerSample_of_single htoks hcons hobj dt
    refine ⟨fun hold => by rw [hexec, if_neg hold]; rfl, fun hfresh => ?_⟩
    rw [if_pos hfresh] at hexec
    refine ⟨fun hrole hcode => ?badPlenum, fun v hrole hcode hv hheat => ?plenum, fun hrole hlate => ?late, fun i hrole hidx => ?taken⟩
    case badPlenum =>
      rw [hexec, State.ledgerTok_of_bad_plenum hrole hcode]
      rfl
    case plenum =>
      have hserved : (s.tokenTaken dt).heatServed := by
        have hms : (s.elapse dt).power.heatMs = s.power.heatMs := by simp
        show (s.tokenTaken dt).bmt / 100000 ≤ (s.elapse dt).power.heatMs
        rwa [hnow, hms]
      rw [hexec, State.ledgerTok_of_plenum hrole hcode hv hserved, hfull]
      obtain ⟨hself, hothers, htoks', hframe⟩ := State.tokenTaken_onCol hlen dt fun x => { x with plen := some (v, mt) }
      exact ⟨_, rfl, by rw [hself, hx], hothers, htoks', hframe⟩
    case late =>
      rw [hexec, State.ledgerTok_of_late hrole (by rwa [hgeo, hfull, hcol])]
      obtain ⟨hself, hothers, htoks', hframe⟩ := State.tokenTaken_onCol hlen dt Column.late
      exact ⟨_, rfl, by rw [hself, hx]; rfl, hothers, htoks', hframe⟩
    case taken =>
      have htakes : (s.tokenTaken dt).takesSample c t.role ((s.tokenTaken dt).fullMt t.stamp) i := by
        rw [State.takesSample, hgeo, hfull, hcol]
        rcases hidx with ⟨hmode, hclosed, hone, hbefore, hafter⟩ | ⟨hmode, hrec, rfl, m, f, hphases, hm, hflag⟩
        · exact .inl ⟨hmode, sampleIdx_of_open hclosed hone hbefore hafter⟩
        · exact .inr ⟨hmode, hrec, rfl, by rwa [Column.flagsAt_of_single hphases hm]⟩
      rw [hexec, State.ledgerTok_of_taken hrole htakes]
      obtain ⟨hself, hothers, htoks', hframe⟩ := State.tokenTaken_onCol hlen dt fun x =>
        x.modAt i (takeSample t.role (decide (t.code = .ok) && t.value.isSome) (t.value.getD 0))
      rw [hx] at hself
      obtain ⟨hvoid, hopen⟩ := takeSample_reads (p := x.at_ i) hrole rfl
      refine ⟨_, _, _, rfl, rfl, (congrArg (·.at_ i) hself).trans (Column.modAt_at_self ..), fun j hj => ?_, ?_, hvoid, hopen, hothers, htoks', hframe⟩
      · rw [hself, Column.modAt_at_ne hj]
      · rw [hself]
        rfl
  case close =>
    rintro dt c s x cl hc hcols hx hrep hcl
    rw [← hx] at hcl
    refine ⟨fun hearly => execParcelClose_of_early hrep hcl hearly, fun hdue hout => ?_⟩
    obtain ⟨keep, hexec⟩ := execParcelClose_of_due (dt := dt) hrep hcl hdue
    have hlen : c < (s.elapse dt).cols.length := by rw [State.elapse_cols]; omega
    generalize ht : (s.elapse dt).shiftClosed c cl keep = t at *
    obtain ⟨⟨ps, hcol⟩, hat, hothers, hframe⟩ := State.shiftClosed_reads hlen ((s.elapse_col dt c).trans hx) ht
    rw [State.elapse_pLdg, State.elapse_pLdg, Column.trained_eq] at hcol
    rw [State.elapse_geo] at hat
    refine ⟨t, _, hexec, rfl, congrArg Column.closing hcol, congrArg Column.closedMt hcol, ?inMeans, ?outMean, fun i hi hi1 hio => ?kept,
      ?learns, ?unknown, (congrArg Column.s hcol :), fun k hk => by rw [hothers k hk, State.elapse_col], hframe⟩
    case inMeans =>
      rintro p hdepth rfl
      rw [hat 1 hdepth, Column.meansClosed_at, if_pos rfl]
      split <;> exact ⟨rfl, rfl⟩
    case outMean =>
      rintro p hdepth rfl
      rw [hat _ hdepth, Column.meansClosed_mOut]
      rfl
    case kept =>
      rw [hat i hi, Column.meansClosed_at, if_neg hio, if_neg hi1]
      rfl
    case learns =>
      rintro p mp rfl hvoid hcnt hmp
      exact (congrArg Column.bias hcol).trans (Column.learned_bias _ _ hvoid hcnt hmp)
    case unknown =>
      rintro p rfl hunknown
      exact (congrArg Column.bias hcol).trans (Column.learned_bias_of_unknown _ _ hunknown)

end Sys2Proof.Machine
end

section
/-! PROOFS. One shift of a continuous column, parcel by parcel (05 R117 to R122). -/

namespace Sys2Proof.Machine

variable {s a b : State} {c k i j sN : Nat} {g : LdgGeo} {p new : Parcel} {f : Parcel → Parcel}

theorem State.predict_congr (hpar : ∀ o, a.pLdg c o = s.pLdg c o) (hbias : (a.col c).bias = (s.col c).bias) : a.predict c = s.predict c := by
  funext dose p
  simp only [State.predict, hpar, hbias]

-- Changes of parcels only ----------------------------------------------------------------------------------------

/-- The two states differ in the parcels of one column only. -/
structure State.onlyParcels (c : Nat) (a s : State) : Prop where
  rest : { a.col c with parcels := [] } = { s.col c with parcels := [] }
  others : ∀ k, k ≠ c → a.col k = s.col k
  len : a.cols.length = s.cols.length
  frame : sameBut [.cols] a s

namespace State.onlyParcels

theorem refl (c : Nat) (s : State) : s.onlyParcels c s := ⟨rfl, fun _ _ => rfl, rfl, rfl⟩
theorem trans (h : a.onlyParcels c b) (h' : b.onlyParcels c s) : a.onlyParcels c s :=
  ⟨h.rest.trans h'.rest, fun k hk => (h.others k hk).trans (h'.others k hk), h.len.trans h'.len, h.frame.trans h'.frame⟩

theorem modAt (s : State) (c i : Nat) (f : Parcel → Parcel) : (s.onCol c fun x => x.modAt i f).onlyParcels c s where
  rest := State.onCol_keeps (g := fun x => { x with parcels := [] }) (f := fun x => x.modAt i f) (fun _ => rfl) s c c
  others _ hk := State.onCol_col_ne hk _
  len := State.onCol_length ..
  frame := rfl

theorem quiet (h : a.onlyParcels c s) : sameBut [.cols] a.quiet s.quiet := congrArg State.quiet h.frame
theorem geo_eq (h : a.onlyParcels c s) (k : Nat) : a.geo k = s.geo k := h.quiet.geo_eq (by decide) (by decide) k
theorem pLdg_eq (h : a.onlyParcels c s) (k o : Nat) : a.pLdg k o = s.pLdg k o := h.quiet.pLdg_eq (by decide) (by decide) k o
/-- What reads no parcel of the column reads the same. -/
theorem col_eq {α : Type} (h : a.onlyParcels c s) (g : Column → α) (hg : ∀ x : Column, g { x with parcels := [] } = g x) :
    g (a.col c) = g (s.col c) := by rw [← hg, h.rest, hg]
theorem predict_eq (h : a.onlyParcels c s) : a.predict c = s.predict c :=
  State.predict_congr (h.pLdg_eq c) (h.col_eq Column.bias fun _ => rfl)

end State.onlyParcels

theorem State.onCol_modAt_at (hc : c < s.cols.length) (i j : Nat) (f : Parcel → Parcel) :
    ((s.onCol c fun x => x.modAt i f).col c).at_ j = if j = i then f ((s.col c).at_ j) else (s.col c).at_ j := by
  rw [State.onCol_col_self hc]
  split
  next h => rw [h, Column.modAt_at_self]
  next h => exact Column.modAt_at_ne h ..

-- The stages of a shift (05 R117, R118) --------------------------------------------------------------------------

/-- A parcel leaves the heat section: its dose is frozen, and its outlet moisture predicted from it. -/
def State.leaving (s : State) (c sN : Nat) (p : Parcel) : Parcel := s.predict c (freezeDose sN p).dose (freezeDose sN p)

/-- The parcel at the discharge leaves a heat section that ends there. -/
def State.leaveAtDischarge (g : LdgGeo) (c sN : Nat) (s : State) : State :=
  if g.hs < g.he ∧ g.he = g.depth then
    (s.onCol c fun x => x.modAt (g.depth - 1) (freezeDose sN)).onCol c fun x => x.modAt (g.depth - 1) fun p =>
      (s.onCol c fun x => x.modAt (g.depth - 1) (freezeDose sN)).predict c p.dose p
  else s
/-- A new parcel stands at index 0, and every other one has moved down. -/
def Column.opened (g : LdgGeo) (new : Parcel) (cross : Nat) (x : Column) : Column :=
  { x with
    parcels := new :: padParcels g.depth x.parcels, nextSeq := incW 16 x.nextSeq, shifts := incW 16 x.shifts
    closing := x.closing ++ [{ at_ := cross + 10000, cross, out := g.out }] }
/-- The parcel that has moved into the heat section takes S_ENTRY. -/
def State.enterSection (g : LdgGeo) (c sN : Nat) (s : State) : State :=
  if 0 < g.hs ∧ g.hs < g.he ∧ g.hs < g.depth then s.onCol c fun x => x.modAt g.hs (enterHeat sN) else s
/-- The parcel that has moved out of the heat section leaves it. -/
def State.leaveSection (g : LdgGeo) (c sN : Nat) (s : State) : State :=
  if g.hs < g.he ∧ g.he < g.depth then (s.onCol c fun x => x.modAt g.he (freezeDose sN)).predictAt c g.he else s
/-- The parcel that a shift opens (05 R111, Table 5.2). -/
def newParcel (x : Column) (target marks : Nat) : Parcel where
  entryPos := target % 2 ^ 48
  seq := x.nextSeq
  flags := 16 * b2n (bitOf marks 0) + 32 * b2n (bitOf marks 2)
  sEntry := x.s % 2 ^ 48

/-- The column with its parcels moved and their doses and the prediction of the feedforward parcel taken. -/
def State.moved (s : State) (g : LdgGeo) (c sN : Nat) (new : Parcel) (cross : Nat) : State :=
  (((s.leaveAtDischarge g c sN).onCol c (Column.opened g new cross)).enterSection g c sN).leaveSection g c sN

theorem State.shift1_eq (h : s.heatServed) (c target marks cross before : Nat) :
    s.shift1 c target marks cross before =
      let t := ((s.moved (s.geo c) c (s.col c).s (newParcel (s.col c) target marks) cross).predictAt c (s.geo c).ff).publish c before
      t.flushGone c (s.geo c).depth (t.keepGone c) := by
  unfold State.shift1
  rw [State.heat_of_served h]
  rfl

theorem State.leaveAtDischarge_only (g : LdgGeo) (c sN : Nat) (s : State) : (s.leaveAtDischarge g c sN).onlyParcels c s := by
  unfold State.leaveAtDischarge
  split
  · exact (State.onlyParcels.modAt ..).trans (.modAt ..)
  · exact .refl c s
theorem State.enterSection_only (g : LdgGeo) (c sN : Nat) (s : State) : (s.enterSection g c sN).onlyParcels c s := by
  unfold State.enterSection
  split
  · exact .modAt ..
  · exact .refl c s
theorem State.leaveSection_only (g : LdgGeo) (c sN : Nat) (s : State) : (s.leaveSection g c sN).onlyParcels c s := by
  unfold State.leaveSection
  split
  · exact (State.onlyParcels.modAt ..).trans (.modAt ..)
  · exact .refl c s

theorem State.leaveAtDischarge_at (hc : c < s.cols.length) (i : Nat) : ((s.leaveAtDischarge g c sN).col c).at_ i =
    if (g.hs < g.he ∧ g.he = g.depth) ∧ i = g.depth - 1 then s.leaving c sN ((s.col c).at_ i) else (s.col c).at_ i := by
  have hfrozen := State.onlyParcels.modAt s c (g.depth - 1) (freezeDose sN)
  unfold State.leaveAtDischarge
  by_cases hsec : g.hs < g.he ∧ g.he = g.depth
  · rw [if_pos hsec, State.onCol_modAt_at (hfrozen.len ▸ hc), State.onCol_modAt_at hc, hfrozen.predict_eq]
    by_cases hi : i = g.depth - 1
    · rw [if_pos hi, if_pos hi, if_pos ⟨hsec, hi⟩]
      rfl
    · rw [if_neg hi, if_neg hi, if_neg fun h => hi h.2]
  · rw [if_neg hsec, if_neg fun h => hsec h.1]

theorem State.enterSection_at (hc : c < s.cols.length) (i : Nat) : ((s.enterSection g c sN).col c).at_ i =
    if (0 < g.hs ∧ g.hs < g.he ∧ g.hs < g.depth) ∧ i = g.hs then enterHeat sN ((s.col c).at_ i) else (s.col c).at_ i := by
  unfold State.enterSection
  by_cases hsec : 0 < g.hs ∧ g.hs < g.he ∧ g.hs < g.depth
  · rw [if_pos hsec, State.onCol_modAt_at hc]
    simp only [hsec, and_self, true_and]
  · rw [if_neg hsec, if_neg fun h => hsec h.1]

theorem State.heating_of_continuous (hmode : (s.geo c).mode = 1) (i : Nat) : s.heating c i = inHeat (s.geo c) i := by
  simp [State.heating, hmode]

theorem State.leaveSection_at (hc : c < s.cols.length) (hg : s.geo c = g) (hmode : g.mode = 1) (i : Nat) :
    ((s.leaveSection g c sN).col c).at_ i =
      if (g.hs < g.he ∧ g.he < g.depth) ∧ i = g.he then s.leaving c sN ((s.col c).at_ i) else (s.col c).at_ i := by
  have hfrozen := State.onlyParcels.modAt s c g.he (freezeDose sN)
  unfold State.leaveSection
  by_cases hsec : g.hs < g.he ∧ g.he < g.depth
  · have hout : inHeat g g.he = false := by simp [inHeat]
    have hdose : (s.onCol c fun x => x.modAt g.he (freezeDose sN)).doseAt c g.he = (freezeDose sN ((s.col c).at_ g.he)).dose := by
      rw [State.doseAt, State.heating_of_continuous (by rw [hfrozen.geo_eq, hg, hmode]), hfrozen.geo_eq, hg, hout, State.onCol_modAt_at hc]
      simp
    rw [if_pos hsec, State.predictAt, State.onCol_modAt_at (hfrozen.len ▸ hc), State.onCol_modAt_at hc, hfrozen.predict_eq, hdose]
    by_cases hi : i = g.he
    · rw [if_pos hi, if_pos hi, if_pos ⟨hsec, hi⟩, hi]
      rfl
    · rw [if_neg hi, if_neg hi, if_neg fun h => hi h.2]
  · rw [if_neg hsec, if_neg fun h => hsec h.1]

-- Every parcel after a shift (05 R117) ----------------------------------------------------------------------------

theorem Column.opened_at_zero (g : LdgGeo) (new : Parcel) (cross : Nat) (x : Column) : (x.opened g new cross).at_ 0 = new := rfl
theorem Column.opened_at_succ (g : LdgGeo) (new : Parcel) (cross : Nat) (x : Column) (i : Nat) :
    (x.opened g new cross).at_ (i + 1) = x.at_ i := padParcels_getD _ _ _

/-- The parcel at an index after a shift, but for the new prediction of the feedforward parcel. -/
def State.shifted (s : State) (g : LdgGeo) (c sN : Nat) (new : Parcel) : Nat → Parcel
  | 0 => new
  | i + 1 =>
    if g.hs < g.he ∧ i + 1 = g.he then s.leaving c sN ((s.col c).at_ i)
    else if g.hs < g.he ∧ i + 1 = g.hs then enterHeat sN ((s.col c).at_ i)
    else (s.col c).at_ i

variable {cross target marks : Nat}

/-- What a shift leaves of its column and the others, the parcels aside. -/
theorem State.moved_reads (hc : c < s.cols.length) : (s.moved g c sN new cross).onlyParcels c (s.onCol c (Column.opened g new cross)) := by
  have hleft := s.leaveAtDischarge_only g c sN
  have hopened : ((s.leaveAtDischarge g c sN).onCol c (Column.opened g new cross)).onlyParcels c (s.onCol c (Column.opened g new cross)) := by
    refine ⟨?_, fun k hk => ?_, ?_, sameBut.trans rfl (hleft.frame.trans rfl)⟩
    · rw [State.onCol_col_self (hleft.len ▸ hc), State.onCol_col_self hc]
      exact hleft.col_eq (fun x => { x.opened g new cross with parcels := [] }) fun _ => rfl
    · rw [State.onCol_col_ne hk, State.onCol_col_ne hk, hleft.others k hk]
    · rw [State.onCol_length, State.onCol_length, hleft.len]
  exact (State.leaveSection_only ..).trans ((State.enterSection_only ..).trans hopened)

theorem State.moved_at (hc : c < s.cols.length) (hg : s.geo c = g) (hmode : g.mode = 1) (hhe : g.he ≤ g.depth) (i : Nat) :
    ((s.moved g c sN new cross).col c).at_ i = s.shifted g c sN new i := by
  have hleft := s.leaveAtDischarge_only g c sN
  have hcL : c < (s.leaveAtDischarge g c sN).cols.length := hleft.len ▸ hc
  generalize ho : (s.leaveAtDischarge g c sN).onCol c (Column.opened g new cross) = o
  have hcO : c < o.cols.length := by rw [← ho, State.onCol_length]; exact hcL
  have hent := o.enterSection_only g c sN
  have hgeo : (o.enterSection g c sN).geo c = g := by rw [hent.geo_eq, ← ho, State.onCol_geo, hleft.geo_eq, hg]
  have hpred : (o.enterSection g c sN).leaving c sN = s.leaving c sN := by
    have hopened : o.predict c = (s.leaveAtDischarge g c sN).predict c := by
      rw [← ho]
      refine State.predict_congr (fun _ => rfl) ?_
      rw [State.onCol_col_self hcL]
      rfl
    funext p
    simp only [State.leaving, hent.predict_eq, hopened, hleft.predict_eq]
  rw [State.moved, ho, State.leaveSection_at (hent.len ▸ hcO) hgeo hmode, State.enterSection_at hcO, hpred]
  cases i with
  | zero =>
    have hnew : (o.col c).at_ 0 = new := by rw [← ho, State.onCol_col_self hcL, Column.opened_at_zero]
    rw [hnew, if_neg (by omega), if_neg (by omega)]
    rfl
  | succ i =>
    have hat : (o.col c).at_ (i + 1) = ((s.leaveAtDischarge g c sN).col c).at_ i := by
      rw [← ho, State.onCol_col_self hcL, Column.opened_at_succ]
    rw [hat, State.leaveAtDischarge_at hc, State.shifted]
    by_cases hleaves : g.hs < g.he ∧ i + 1 = g.he
    · have hstays : ¬((0 < g.hs ∧ g.hs < g.he ∧ g.hs < g.depth) ∧ i + 1 = g.hs) := by omega
      rw [if_pos hleaves, if_neg hstays]
      rcases hhe.lt_or_eq with hinside | hend
      · rw [if_pos (by omega), if_neg (by omega)]
      · rw [if_neg (by omega), if_pos (by omega)]
    · have hstays : ¬((g.hs < g.he ∧ g.he = g.depth) ∧ i = g.depth - 1) := by omega
      rw [if_neg hleaves, if_neg (by omega), if_neg hstays]
      by_cases henters : g.hs < g.he ∧ i + 1 = g.hs
      · rw [if_pos henters, if_pos (by omega)]
      · rw [if_neg henters, if_neg (by omega)]

end Sys2Proof.Machine
end

section
/-! PROOFS. What a shift publishes (05 R120, R121), which parcels it keeps (05 R122), and LEDGER_SHIFT (05 R111; 03 Table 3.8). -/

namespace Sys2Proof.Machine

variable {s t u v a : State} {c k i l n sN cross target marks before : Nat} {g : LdgGeo} {p new : Parcel} {x : Column}

-- FFV (05 R120, R121) --------------------------------------------------------------------------------------------

/-- The column with the FFV of its feedforward parcel. -/
def Column.published (tgt : Int) (loss : Nat) (p : Parcel) (x : Column) : Column :=
  { x with
    ffv := (p.mPred.map fun m => sat16 (m - tgt)).getD (if loss = 1 then x.lastFf else 0)
    ffOk := p.mPred.isSome, ffSeq := p.seq, lastFf := (p.mPred.map fun m => sat16 (m - tgt)).getD x.lastFf }

/-- The token of a column's FFV, to the loop of LDG_FF_LOOP under the ledger's epoch. -/
def State.ffToken (s : State) (c : Nat) (x : Column) : VTok where
  kind := 3
  index := c
  station := 4
  epoch := s.epochOf 4
  code := if x.ffOk then .ok else .suspect
  value := some x.ffv
  stamp := s.bmt
  cons := 3
  obj := s.pLdg c 8
  role := 0
  n := x.ffSeq

theorem putToken_splits (l : Nat) (t : VTok) (k : Nat) (ts : List VTok) : ∃ a b, ts = a ++ b ∧ putToken l t k ts = a ++ t :: b := by
  induction ts generalizing k with
  | nil => exact ⟨[], [], rfl, rfl⟩
  | cons y r ih =>
    unfold putToken
    dsimp only
    split
    · exact ⟨[], y :: r, rfl, rfl⟩
    · obtain ⟨a, b, hr, hput⟩ := ih (if (decide (y.cons = 4) && decide (y.obj = l) && decide (y.role = 0)) = true then k - 1 else k)
      exact ⟨y :: a, b, by rw [hr]; rfl, by rw [hput]; rfl⟩

theorem State.publish_eq (hc : c < s.cols.length) (before : Nat) :
    s.publish c before =
      let f := Column.published (s.pLdg c 0x10) (s.pLdg c 0x13) ((s.col c).at_ (s.geo c).ff)
      if s.pLdg c 8 < 48 then (s.onCol c f).onToks (putToken (s.pLdg c 8) (s.ffToken c (f (s.col c))) before)
      else (s.onCol c f).onCol c fun x => { x with ffvCle := x.ffv } := by
  have hpub (p : Parcel) : (fun x : Column => match p.mPred with
      | some m => { x with ffv := sat16 (m - s.pLdg c 0x10), ffOk := true, ffSeq := p.seq, lastFf := sat16 (m - s.pLdg c 0x10) }
      | none => { x with ffv := if s.pLdg c 0x13 = 1 then x.lastFf else 0, ffOk := false, ffSeq := p.seq }) =
      Column.published (s.pLdg c 0x10) (s.pLdg c 0x13) p := by
    funext x
    cases h : p.mPred <;> simp [Column.published, h]
  have htoken (f : Column → Column) (hf : (f (s.col c)).ffSeq = ((s.col c).at_ (s.geo c).ff).seq) :
      s.ffToken c (f (s.col c)) = { s.ffToken c ((s.onCol c f).col c) with n := ((s.col c).at_ (s.geo c).ff).seq } := by
    rw [State.onCol_col_self hc, ← hf]
    rfl
  dsimp only
  rw [htoken _ rfl, ← hpub]
  rfl

/-- What a publication leaves: the FFV of its column, and a token for the loop that takes it. -/
theorem State.publish_reads (hc : c < s.cols.length) (before : Nat) {y : Column}
    (hy : (s.col c).published (s.pLdg c 0x10) (s.pLdg c 0x13) ((s.col c).at_ (s.geo c).ff) = y) :
    (∃ e, (s.publish c before).col c = { y with ffvCle := e }) ∧ (∀ k, k ≠ c → (s.publish c before).col k = s.col k) ∧
    (s.publish c before).cols.length = s.cols.length ∧
    (48 ≤ s.pLdg c 8 → (s.publish c before).toks = s.toks) ∧
    (s.pLdg c 8 < 48 → ∃ a b, s.toks = a ++ b ∧ (s.publish c before).toks = a ++ s.ffToken c y :: b) ∧
    sameBut [.cols, .toks] (s.publish c before) s := by
  rw [State.publish_eq hc]
  dsimp only
  rw [hy]
  split
  next hloop =>
    refine ⟨⟨y.ffvCle, ?_⟩, fun k hk => State.onCol_col_ne hk _, State.onCol_length .., fun h => absurd hloop (Nat.not_lt.2 h),
      fun _ => putToken_splits .., rfl⟩
    exact (State.onCol_col_self hc _).trans hy
  next hnone =>
    refine ⟨⟨y.ffv, ?_⟩, fun k hk => ?_, ?_, fun _ => rfl, fun h => absurd h hnone, rfl⟩
    · rw [State.onCol_col_self (by simpa using hc), State.onCol_col_self hc, hy]
    · rw [State.onCol_col_ne hk, State.onCol_col_ne hk]
    · rw [State.onCol_length, State.onCol_length]

-- One shift ------------------------------------------------------------------------------------------------------

/-- The parcel of the newest shift that stands behind its outlet waits for its outlet mean (05 R115). -/
theorem closingIdx_newest (cls : List Closing) (cl : Closing) : cl.out + 1 ∈ closingIdx (cls ++ [cl]) := by
  simp only [closingIdx, List.length_append, List.length_singleton, List.mem_flatMap, List.mem_range]
  exact ⟨cls.length, Nat.lt_succ_self _, by simp [List.getD_eq_getElem?_getD]⟩

/-- M_PRED of a parcel at an index, from its dose there (05 R118). -/
def State.predicted (s : State) (g : LdgGeo) (c sN i : Nat) (p : Parcel) : Parcel :=
  s.predict c (if inHeat g i then (liveDose sN p).1 else p.dose) p

/-- The parcel at an index after a shift. -/
def State.shiftedFf (s : State) (g : LdgGeo) (c sN : Nat) (new : Parcel) (i : Nat) : Parcel :=
  if i = g.ff then s.predicted g c sN i (s.shifted g c sN new i) else s.shifted g c sN new i

/-- The state of a shift before it publishes: the column opened, its parcels moved, the feedforward parcel predicted. -/
theorem State.moved_predictAt (hc : c < s.cols.length) (hg : s.geo c = g) (hmode : g.mode = 1) (hhe : g.he ≤ g.depth)
    (hS : (s.col c).s = sN) (cross : Nat) {b : State} (hb : (s.moved g c sN new cross).predictAt c g.ff = b) :
    b.onlyParcels c (s.onCol c (Column.opened g new cross)) ∧ ∀ i, (b.col c).at_ i = s.shiftedFf g c sN new i := by
  have hmoved := State.moved_reads (sN := sN) (new := new) (cross := cross) (g := g) hc
  have hat := fun i => State.moved_at (sN := sN) (new := new) (cross := cross) hc hg hmode hhe i
  generalize s.moved g c sN new cross = m at *
  have hcm : c < m.cols.length := by rw [hmoved.len, State.onCol_length]; exact hc
  have hgeo : m.geo c = g := by rw [hmoved.geo_eq, State.onCol_geo, hg]
  have hself : (s.onCol c (Column.opened g new cross)).col c = (s.col c).opened g new cross := State.onCol_col_self hc _
  have hpred : m.predict c = s.predict c := by
    rw [hmoved.predict_eq]
    exact State.predict_congr (fun _ => rfl) (by rw [hself]; rfl)
  have hdose : m.doseAt c g.ff = if inHeat g g.ff then (liveDose sN (s.shifted g c sN new g.ff)).1 else (s.shifted g c sN new g.ff).dose := by
    have hs : (m.col c).s = sN := by
      rw [hmoved.col_eq Column.s fun _ => rfl, hself, ← hS]
      rfl
    rw [State.doseAt, State.heating_of_continuous (by rw [hgeo, hmode]), hgeo, hat, hs]
  subst hb
  refine ⟨(State.onlyParcels.modAt ..).trans hmoved, fun i => ?_⟩
  rw [State.predictAt, State.onCol_modAt_at hcm, hat, hpred, hdose, State.shiftedFf]
  split
  next h => rw [h]; rfl
  · rfl

/-- One shift: the column with its FFV, every parcel of the ledger and the one that has just left the outlet, the token, and
what stays as it was. -/
theorem State.shift1_reads (hc : c < s.cols.length) (hserved : s.heatServed) (hg : s.geo c = g) (hmode : g.mode = 1)
    (hhe : g.he ≤ g.depth) (hff : g.ff < g.depth) (hx : s.col c = x) (hnew : newParcel x target marks = new) {t : State}
    (ht : s.shift1 c target marks cross before = t) :
    (∃ e ps, t.col c = { (x.opened g new cross).published (s.pLdg c 0x10) (s.pLdg c 0x13) ((t.col c).at_ g.ff) with
      ffvCle := e, parcels := ps }) ∧
    (∀ i, i < g.depth ∨ i = g.out + 1 → (t.col c).at_ i = s.shiftedFf g c x.s new i) ∧
    (∀ k, k ≠ c → t.col k = s.col k) ∧
    (48 ≤ s.pLdg c 8 → t.toks = s.toks) ∧
    (s.pLdg c 8 < 48 → ∃ a b, s.toks = a ++ b ∧ t.toks = a ++ s.ffToken c (t.col c) :: b) ∧
    sameBut [.cols, .toks] t.quiet s.quiet := by
  rw [State.shift1_eq hserved, hg, hx, hnew] at ht
  obtain ⟨honly, hat⟩ := State.moved_predictAt (new := new) hc hg hmode hhe (by rw [hx]) cross rfl
  generalize (s.moved g c x.s new cross).predictAt c g.ff = b at *
  have hcb : c < b.cols.length := by rw [honly.len, State.onCol_length]; exact hc
  have hpar (o : Nat) : b.pLdg c o = s.pLdg c o := honly.pLdg_eq c o
  have hopened : b.col c = { x.opened g new cross with parcels := (b.col c).parcels } := by
    have hrest := honly.rest
    rw [State.onCol_col_self hc, hx] at hrest
    exact congrArg (fun y : Column => { y with parcels := (b.col c).parcels }) hrest
  have hsame : sameBut [.cols] b s := honly.frame.trans rfl
  have hgeo : b.geo c = g := by rw [honly.geo_eq, State.onCol_geo, hg]
  obtain ⟨⟨e, hpub⟩, hothers, hlen, hnotoks, htoks, hframe⟩ := State.publish_reads hcb before rfl
  rw [hpar, hpar, hgeo] at hpub
  rw [hpar] at hnotoks htoks
  generalize b.publish c before = q at *
  have hcq : c < q.cols.length := hlen ▸ hcb
  have hclosing : (q.col c).closing = x.closing ++ [{ at_ := cross + 10000, cross, out := g.out }] := by rw [hpub, hopened]; rfl
  have hkept (i : Nat) (hi : i < g.depth ∨ i = g.out + 1) : (t.col c).at_ i = (b.col c).at_ i := by
    have hstays : hasLeft g.depth (q.keepGone c) i = false := by
      rcases hi with hi | rfl
      · exact hasLeft_of_lt hi _
      · have hwaits : q.keepGone c (g.out + 1) = true := by
          rw [State.keepGone, hclosing, List.contains_iff_mem]
          exact closingIdx_newest x.closing { at_ := cross + 10000, cross, out := g.out }
        simp [hasLeft, hwaits]
    rw [← ht, State.flushGone_at hcq hstays, hpub]
    rfl
  have hcol : t.col c = { (x.opened g new cross).published (s.pLdg c 0x10) (s.pLdg c 0x13) ((b.col c).at_ g.ff) with
      ffvCle := e, parcels := flushed g.depth (q.keepGone c) (q.col c).parcels } := by
    rw [← ht, State.flushGone_col hcq, hpub, hopened]
    rfl
  have htoken : b.ffToken c ((b.col c).published (s.pLdg c 0x10) (s.pLdg c 0x13) ((b.col c).at_ (b.geo c).ff)) = s.ffToken c (t.col c) := by
    have hepoch : b.epochOf 4 = s.epochOf 4 := hsame.part_eq (p := fun x => x.epochOf 4) fun _ => rfl
    have hbmt : b.bmt = s.bmt := hsame.part_eq (p := State.bmt) fun _ => rfl
    rw [hgeo, hcol, hopened]
    simp only [State.ffToken, hepoch, hbmt, hpar]
    rfl
  rw [hpar, hpar, htoken] at htoks
  have hflush : sameBut [.cols] t.quiet q.quiet := by rw [← ht]; exact State.flushGone_frame ..
  have htoksT : t.toks = q.toks := hflush.part_eq (p := State.toks) fun _ => rfl
  have htoksB : b.toks = s.toks := hsame.part_eq (p := State.toks) fun _ => rfl
  rw [htoksB] at htoks hnotoks
  refine ⟨⟨e, _, by rw [hkept g.ff (.inl hff)]; exact hcol⟩, fun i hi => (hkept i hi).trans (hat i), fun k hk => ?_, fun h => htoksT.trans (hnotoks h), fun h => ?_, ?_⟩
  · rw [← ht, State.flushGone_col_ne hk, hothers k hk, honly.others k hk, State.onCol_col_ne hk]
  · rw [htoksT]
    exact htoks h
  · have hquiet : sameBut [.cols, .toks] q.quiet b.quiet := congrArg State.quiet hframe
    exact (hflush.mono (by decide)).trans (hquiet.trans ((honly.quiet.trans rfl).mono (by decide)))

end Sys2Proof.Machine
end

section
/-! PROOFS. LEDGER_SHIFT (05 R111, R122; 03 R79, R89, Table 3.8): the parcels after a shift one by one, and the row. -/

namespace Sys2Proof.Machine

variable {s t u v : State} {c i dt sN : Nat} {g : LdgGeo} {p new : Parcel} {y : Firing}

-- The parcels after a shift (05 R117, R118, R120) -----------------------------------------------------------------

/-- The prediction of the feedforward parcel changes nothing else of it. -/
theorem State.shiftedFf_keeps {α : Type} (f : Parcel → α) (hf : ∀ p m, f { p with mPred := m } = f p) (i : Nat) :
    f (s.shiftedFf g c sN new i) = f (s.shifted g c sN new i) := by
  unfold State.shiftedFf
  split
  · exact hf _ _
  · rfl

theorem State.shifted_of_plain (hi : 0 < i) (h : g.hs < g.he → i ≠ g.hs ∧ i ≠ g.he) :
    s.shifted g c sN new i = (s.col c).at_ (i - 1) := by
  obtain ⟨i, rfl⟩ := Nat.exists_eq_add_one.2 hi
  rw [State.shifted, if_neg fun hsec => (h hsec.1).2 hsec.2, if_neg fun hsec => (h hsec.1).1 hsec.2]
  rfl

theorem State.shifted_hs (hpos : 0 < g.hs) (hsec : g.hs < g.he) :
    s.shifted g c sN new g.hs = enterHeat sN ((s.col c).at_ (g.hs - 1)) := by
  obtain ⟨i, hi⟩ := Nat.exists_eq_add_one.2 hpos
  rw [hi, State.shifted, if_neg (by omega), if_pos ⟨hsec, hi.symm⟩]
  rfl

/-- The parcel that left the heat section has the prediction of its frozen dose, also as the feedforward parcel. -/
theorem State.shiftedFf_he (hsec : g.hs < g.he) : s.shiftedFf g c sN new g.he = s.leaving c sN ((s.col c).at_ (g.he - 1)) := by
  obtain ⟨i, hi⟩ := Nat.exists_eq_add_one.2 (Nat.zero_lt_of_lt hsec)
  have hleft : s.shifted g c sN new g.he = s.leaving c sN ((s.col c).at_ (g.he - 1)) := by
    rw [hi, State.shifted, if_pos ⟨hsec, hi.symm⟩]
    rfl
  have hout : inHeat g g.he = false := by simp [inHeat]
  rw [State.shiftedFf, hleft]
  split
  · rw [State.predicted, hout]
    rfl
  · rfl

theorem State.shiftedFf_ff : s.shiftedFf g c sN new g.ff = s.predicted g c sN g.ff (s.shifted g c sN new g.ff) := if_pos rfl

theorem State.predict_mPred (s : State) (c : Nat) (dose : Int) (p : Parcel) : (s.predict c dose p).mPred =
    p.mIn.map fun m => max (s.pLdg c 0x0F : Int) (m - (dose * s.pLdg c 0x0E + 2 ^ 23) / 2 ^ 24 + (s.col c).bias) := rfl

-- The row (05 R111; 03 R89) --------------------------------------------------------------------------------------

theorem State.reportAcc_imp (s : State) (slot : Nat) (a : Acc) : ∃ l r e, l.lastAcc = accCode a ∧
    (s.reportAcc slot a).imp = { (s.setSlot slot l).imp with refused := r, evt := e } := by
  unfold State.reportAcc
  dsimp only
  split
  · split
    · exact ⟨_, _, _, rfl, State.slug_imp ..⟩
    · exact ⟨_, _, _, rfl, rfl⟩
  · exact ⟨_, _, _, rfl, rfl⟩
theorem State.reportAcc_frame (s : State) (slot : Nat) (a : Acc) : sameBut [.imp] (s.reportAcc slot a).quiet s.quiet := by
  unfold State.reportAcc
  dsimp only
  refine sameBut_ite (sameBut_ite ?_ rfl) rfl
  rw [State.slug_quiet]
  rfl

/-- A slot is told how its action was taken; the inbox is not touched. -/
theorem State.reportAcc_told (hrise : keysRise s.imp.slots) (slot : Nat) (a : Acc) :
    ((s.reportAcc slot a).slotLive slot).lastAcc = accCode a ∧ (s.reportAcc slot a).imp.inbox = s.imp.inbox := by
  obtain ⟨l, r, e, hl, himp⟩ := s.reportAcc_imp slot a
  refine ⟨?_, by rw [himp]; rfl⟩
  rw [State.slotLive_congr (t := s.setSlot slot l) (by rw [himp]), State.setSlot_slotLive_of_keysRise l hrise, hl]

theorem execLedgerShift_of_other (htake : (s.elapse dt).takeAction 8 c = some (y, v)) (hmode : (v.geo c).mode ≠ 1) :
    exec (.ledgerShift dt c) s = .next (v.reportAcc y.slot .discarded) := by
  show execLedgerShift dt c s = _
  simp only [execLedgerShift, htake, if_pos hmode]

/-- The slot of a firing that was not kept waiting is told that the action was taken. -/
def State.acceptedTold (t : State) (y : Firing) : State := if y.pended then t else t.reportAcc y.slot .accepted

/-- One occurrence in continuous mode is one shift, to the token's own target. -/
theorem execLedgerShift_of_single (htake : (s.elapse dt).takeAction 8 c = some (y, v)) (hmode : (v.geo c).mode = 1) (hocc : y.occ = 1) :
    ∃ before, exec (.ledgerShift dt c) s = .next
      ((v.shift1 c (uw 48 y.target) y.marks y.mt before).acceptedTold y) := by
  have hone : ¬(v.geo c).mode ≠ 1 := not_not.2 hmode
  have hrow : exec (.ledgerShift dt c) s = execLedgerShift dt c s := rfl
  rw [hrow]
  simp only [execLedgerShift, htake, if_neg hone, hocc, List.range_one, List.foldl_cons, List.foldl_nil, Nat.sub_self, Nat.zero_mul,
    Nat.cast_zero, sub_zero]
  exact ⟨_, rfl⟩

theorem newParcel_wrapped (x : Column) (target marks : Nat) : newParcel x (uw 48 target) marks = newParcel x target marks := by
  have hwrap : uw 48 (target : Int) % 2 ^ 48 = target % 2 ^ 48 := by
    simp only [uw]
    omega
  simp only [newParcel, hwrap]

-- What a shift finds and what its slot is told (03 R89, Table 3.8) -------------------------------------------------

section
variable (hv : sameBut [.imp] v (s.elapse dt))
include hv

theorem firing_col (k : Nat) : v.col k = s.col k := by
  rw [State.col_congr (hv.part_eq (p := State.cols) fun _ => rfl), State.elapse_col]
theorem firing_cols : v.cols = s.cols := (hv.part_eq (p := State.cols) fun _ => rfl).trans (s.elapse_cols dt)
theorem firing_toks : v.toks = s.toks := (hv.part_eq (p := State.toks) fun _ => rfl).trans (s.elapse_toks dt)
theorem firing_quiet : sameBut [.imp] v.quiet (s.elapse dt).quiet := congrArg State.quiet hv
theorem firing_pLdg (o : Nat) : v.pLdg c o = s.pLdg c o := by
  rw [(firing_quiet hv).pLdg_eq (by decide) (by decide), State.elapse_pLdg]
theorem firing_geo : v.geo c = s.geo c := by rw [(firing_quiet hv).geo_eq (by decide) (by decide), State.elapse_geo]
theorem firing_epochOf (n : Nat) : v.epochOf n = s.epochOf n := by
  rw [hv.part_eq (p := fun x => x.epochOf n) fun _ => rfl]
  simp [State.epochOf, State.node]
theorem firing_bmt (hrep : s.store.reprint = none) : v.bmt = (s.elapse dt).now := by
  rw [hv.part_eq (p := State.bmt) fun _ => rfl, State.bmt_eq_now (by simpa using hrep)]
theorem firing_heatServed (hrep : s.store.reprint = none) (hheat : (s.elapse dt).now / 100000 ≤ s.power.heatMs) : v.heatServed := by
  have hms : v.power.heatMs = s.power.heatMs := by
    rw [hv.part_eq (p := State.power) fun _ => rfl]
    simp
  rwa [State.heatServed, firing_bmt hv hrep, hms]

end

theorem State.acceptedTold_reads (hrise : keysRise t.imp.slots) {w : State} (hw : t.acceptedTold y = w) :
    sameBut [.imp] w.quiet t.quiet ∧ w.imp.inbox = t.imp.inbox ∧ (y.pended = false → (w.slotLive y.slot).lastAcc = accCode .accepted) := by
  obtain ⟨hacc, hinbox⟩ := State.reportAcc_told hrise y.slot .accepted
  subst hw
  unfold State.acceptedTold
  split
  next hp => exact ⟨rfl, rfl, fun h => nomatch hp.symm.trans h⟩
  · exact ⟨t.reportAcc_frame .., hinbox, fun _ => hacc⟩

/-- Settles O23: a shift opens a parcel, moves the others down, freezes doses where the heat section ends, predicts and publishes;
in another mode the action is discarded (05 R111, R117, R118, R120 to R122; 03 Table 3.8). -/
theorem ledgerShiftMovesEveryParcel : Obligations.LedgerShiftMovesEveryParcel := by
  rintro dt c s x g y hc hcols rfl rfl hrep hheat hbox hact hidx hrise
  obtain ⟨v, htake, himp, -, -, hv⟩ := State.takeAction_of_single (s := s.elapse dt) (n := c) (by simpa using hbox) hact hidx
  have hriseV : keysRise v.imp.slots := by
    rw [himp]
    show keysRise (s.elapse dt).imp.slots
    rwa [State.elapse_imp]
  have hboxV : v.imp.inbox = [] := by rw [himp]
  have hgeo : v.geo c = s.geo c := firing_geo hv
  have hquiet := firing_quiet hv
  refine ⟨fun hmode => ?other, fun hmode hocc hhe hout hff => ?continuous⟩
  case other =>
    obtain ⟨hacc, hinbox⟩ := State.reportAcc_told hriseV y.slot .discarded
    exact ⟨_, execLedgerShift_of_other htake (by rwa [hgeo]), hinbox.trans hboxV, hacc, (v.reportAcc_frame _ _).trans hquiet⟩
  case continuous =>
    have hpar (o : Nat) : v.pLdg c o = s.pLdg c o := firing_pLdg hv o
    have hvx : v.col c = s.col c := firing_col hv c
    have hlen : c < v.cols.length := by
      rw [firing_cols hv]
      omega
    obtain ⟨before, hexec⟩ := execLedgerShift_of_single htake (by rw [hgeo, hmode]) hocc
    generalize ht : v.shift1 c (uw 48 y.target) y.marks y.mt before = t at *
    obtain ⟨⟨e, ps, hz⟩, hat, hothers, hnotoks, htoks, hframe⟩ :=
      State.shift1_reads hlen (firing_heatServed hv hrep hheat) hgeo hmode hhe hff hvx (newParcel_wrapped (s.col c) y.target y.marks) ht
    rw [firing_toks hv] at hnotoks htoks
    rw [hpar] at hnotoks htoks
    have htimp : t.imp = v.imp := hframe.part_eq (p := State.imp) fun _ => rfl
    have hat0 {α : Type} (f : Parcel → α) (hf : ∀ p m, f { p with mPred := m } = f p) :
        f ((t.col c).at_ 0) = f (newParcel (s.col c) y.target y.marks) := by
      rw [hat 0 (.inl (by omega)), State.shiftedFf_keeps f hf]
      rfl
    generalize hw : t.acceptedTold y = w at *
    obtain ⟨hwt, hwbox, hwacc⟩ := State.acceptedTold_reads (by rwa [htimp]) hw
    have hwcol (k : Nat) : w.col k = t.col k := State.col_congr (hwt.part_eq (p := State.cols) fun _ => rfl) k
    have hwtoks : w.toks = t.toks := hwt.part_eq (p := State.toks) fun _ => rfl
    refine ⟨w, t.col c, hexec, hwcol c, fun k hk => ?others, (congrArg Column.s hz :), hat0 Parcel.entryPos fun _ _ => rfl,
      hat0 Parcel.seq fun _ _ => rfl, hat0 Parcel.sEntry fun _ _ => rfl, hat0 Parcel.flags fun _ _ => rfl, hat0 Parcel.cntIn fun _ _ => rfl,
      (congrArg Column.nextSeq hz :), (congrArg Column.shifts hz :), (congrArg Column.bias hz :), (congrArg Column.closing hz :),
      fun i hpos hi hplain => ?plain, fun hpos hsec => ?enters, fun p d hsec hend hp hd => ?leaves, fun q d hq hd => ?feedforward,
      (congrArg Column.ffSeq hz :), (congrArg Column.ffOk hz :), fun m hm => ?known, fun hm => ?unknown,
      fun hl => hwtoks.trans (hnotoks hl), fun hl => ?token, hwbox.trans (by rw [htimp, hboxV]), hwacc,
      (hwt.mono (by decide)).trans ((hframe.mono (by decide)).trans (hquiet.mono (by decide)))⟩
    case others => rw [hwcol, hothers k hk, firing_col hv]
    case plain =>
      have hbare : { (t.col c).at_ i with mPred := none } =
          { v.shifted (s.geo c) c (s.col c).s (newParcel (s.col c) y.target y.marks) i with mPred := none } := by
        rw [hat i (.inl hi)]
        exact State.shiftedFf_keeps (fun p => { p with mPred := none }) (fun _ _ => rfl) i
      rw [State.shifted_of_plain hpos hplain, hvx] at hbare
      refine ⟨hbare, fun hne => ?_⟩
      rw [hat i (.inl hi), State.shiftedFf, if_neg hne, State.shifted_of_plain hpos hplain, hvx]
    case enters =>
      rw [hat (s.geo c).hs (.inl (by omega))]
      refine (State.shiftedFf_keeps (fun p => { p with mPred := none }) (fun _ _ => rfl) (s.geo c).hs).trans ?_
      rw [State.shifted_hs hpos hsec, hvx]
      rfl
    case leaves =>
      rw [hat (s.geo c).he (by omega), State.shiftedFf_he hsec, hvx, hp, hd]
      refine ⟨rfl, rfl, ?_⟩
      rw [State.leaving, State.predict_mPred, hpar, hpar, hvx]
      rfl
    case feedforward =>
      rw [hat (s.geo c).ff (.inl hff), State.shiftedFf_ff] at hq
      rw [← hq, hd, ← hq, State.predicted, State.predict_mPred, hpar, hpar, hvx]
      simp only [inHeat, decide_eq_true_eq]
      rfl
    case known =>
      rw [congrArg Column.ffv hz]
      simp [Column.published, hm, hpar]
    case unknown =>
      rw [congrArg Column.ffv hz]
      simp [Column.published, hm, hpar]
      rfl
    case token =>
      obtain ⟨a, b, hab, htok⟩ := htoks hl
      refine ⟨a, b, hab, ?_⟩
      rw [hwtoks, htok, State.ffToken, firing_epochOf hv, firing_bmt hv hrep, hpar]

end Sys2Proof.Machine
end

section
/-! PROOFS. A loop register written by a batch program (08 R191, R207, R209): what the inputs applied before it and the write itself
leave alone. -/

namespace Sys2Proof.Machine

variable {a b s t : State} {c k l : Nat} {v : Int}

-- Inputs applied ahead of a write (08 R191) -------------------------------------------------------------------------

/-- The engine, the inboxes and the FFV that the engine has applied are all that differs. -/
structure State.inputsApplied (a s : State) : Prop where
  frame : sameBut [.cols, .cle, .imp, .toks] a.quiet s.quiet
  cols : ∀ k, { a.col k with ffvCle := 0 } = { s.col k with ffvCle := 0 }
  len : a.cols.length = s.cols.length
  loops : a.cle.loops.length = s.cle.loops.length

namespace State.inputsApplied

theorem refl (s : State) : s.inputsApplied s := ⟨rfl, fun _ => rfl, rfl, rfl⟩
theorem trans (h : a.inputsApplied b) (h' : b.inputsApplied s) : a.inputsApplied s :=
  ⟨h.frame.trans h'.frame, fun k => (h.cols k).trans (h'.cols k), h.len.trans h'.len, h.loops.trans h'.loops⟩

/-- An update that touches no column and no loop count. -/
theorem of_frame (hframe : sameBut [.cle, .imp, .toks] a.quiet s.quiet) (hloops : a.cle.loops.length = s.cle.loops.length) :
    a.inputsApplied s := by
  have hcols : a.cols = s.cols := hframe.part_eq (p := State.cols) fun _ => rfl
  exact ⟨hframe.mono (by decide), fun k => by rw [State.col_congr hcols], congrArg List.length hcols, hloops⟩
theorem of_quiet (h : a.quiet = s.quiet) : a.inputsApplied s := by
  refine of_frame (congrArg (State.but _) h) ?_
  show a.quiet.cle.loops.length = s.quiet.cle.loops.length
  rw [h]

theorem onLoop (h : a.inputsApplied s) {f : Loop → Loop} : (a.onLoop l f).inputsApplied s :=
  trans (b := a) (of_frame rfl (List.length_modify ..)) h
theorem onToks (h : a.inputsApplied s) {f : List VTok → List VTok} : (a.onToks f).inputsApplied s := trans (b := a) (of_frame rfl rfl) h
theorem onImp (h : a.inputsApplied s) {f : ImpSt → ImpSt} : (a.onImp f).inputsApplied s := trans (b := a) (of_frame rfl rfl) h
theorem onAccepted (h : a.inputsApplied s) {f : Nat → Nat} : (a.onCle fun c => { c with accepted := f c.accepted }).inputsApplied s :=
  trans (b := a) (of_frame rfl rfl) h
theorem applyFfv (h : a.inputsApplied s) : (a.onCol c fun x => { x with ffvCle := v }).inputsApplied s :=
  trans (b := a) ⟨rfl, fun k => State.onCol_keeps (g := fun x : Column => { x with ffvCle := 0 }) (f := fun x => { x with ffvCle := v })
    (fun _ => rfl) a c k, State.onCol_length .., rfl⟩ h
theorem reportAcc (h : a.inputsApplied s) {slot : Nat} {x : Acc} : (a.reportAcc slot x).inputsApplied s := by
  have hcle : (a.reportAcc slot x).cle = a.cle := (a.reportAcc_frame slot x).part_eq (p := State.cle) fun _ => rfl
  exact trans (b := a) (of_frame ((a.reportAcc_frame slot x).mono (by decide)) (by rw [hcle])) h

theorem isSt_eq (h : a.inputsApplied s) (u : UState) : a.isSt u = s.isSt u := by
  have hunit : a.unit = s.unit := h.frame.part_eq (p := State.unit) fun _ => rfl
  simp only [State.isSt, hunit]

theorem mkSnap (h : a.inputsApplied s) {trigMt inMt : Nat} {acc : Acc} {yi fi : LIn} : (a.mkSnap l trigMt inMt acc yi fi).2.inputsApplied s :=
  h.onLoop.onAccepted

theorem takeAction (h : a.inputsApplied s) {action index : Nat} {y : Firing} (ht : a.takeAction action index = some (y, t)) :
    t.inputsApplied s := by
  unfold State.takeAction at ht
  split at ht
  · obtain ⟨-, rfl⟩ := Prod.mk.inj (Option.some.inj ht)
    exact h.onImp
  · exact nomatch ht

theorem takeTok (h : a.inputsApplied s) {cons obj : Nat} {y : VTok} (ht : a.takeTok cons obj = some (y, t)) : t.inputsApplied s := by
  unfold State.takeTok at ht
  dsimp only at ht
  split at ht
  · obtain ⟨-, rfl⟩ := Prod.mk.inj (Option.some.inj ht)
    exact h.onToks
  · exact nomatch ht

variable (hlive : s.isSt .reprint = false)
include hlive

theorem loopRec (h : a.inputsApplied s) {sn : Snap} {outcome : Nat} {u : Int} : (a.loopRec l sn outcome u).inputsApplied s := by
  refine trans (b := a) (of_quiet ?_) h
  unfold State.loopRec
  rw [h.isSt_eq, hlive, if_neg Bool.false_ne_true]
  exact State.record_quiet ..

theorem dropTrig (h : a.inputsApplied s) {trigMt : Nat} : (a.dropTrig l trigMt).inputsApplied s := h.onLoop.loopRec hlive

theorem loopTrigger (h : a.inputsApplied s) {trigMt inMt : Nat} : (a.loopTrigger l trigMt inMt).2.inputsApplied s := by
  unfold State.loopTrigger
  rw [h.isSt_eq, hlive]
  dsimp only
  split
  · exact h
  · rw [if_neg Bool.false_ne_true]
    split
    · exact h.mkSnap.onLoop
    · split
      · split
        · exact h.mkSnap.onLoop
        · exact h.dropTrig hlive
      · exact (h.onLoop.onLoop.loopRec hlive).mkSnap.onLoop
      · exact h.dropTrig hlive

theorem cleTake (h : t.inputsApplied s) {y : VTok} : (a.cleTake l y t).inputsApplied s := by
  unfold State.cleTake
  split
  · split
    · split
      · exact h
      next hx => exact ((h.takeAction hx).loopTrigger hlive).reportAcc
    · split
      · exact h
      · exact h.loopTrigger hlive
  · split
    · exact h
    split
    · exact h.applyFfv
    split
    · exact h.onLoop
    · exact h.onLoop

theorem cleDrain (h : a.inputsApplied s) {trig : Bool} {n : Nat} : (State.cleDrain trig l n a).inputsApplied s := by
  induction n generalizing a with
  | zero => exact h
  | succ n ih =>
    unfold State.cleDrain
    split
    · exact h
    next hx =>
      dsimp only
      split
      · exact (h.takeTok hx).cleTake hlive
      · exact ih ((h.takeTok hx).cleTake hlive)

end State.inputsApplied

theorem State.cleAhead_applied (s : State) (l : Nat) : (s.cleAhead l).inputsApplied s := by
  unfold State.cleAhead
  split
  · exact .refl s
  next hlive => exact (State.inputsApplied.refl s).cleDrain (Bool.eq_false_iff.2 hlive)

theorem State.cleAhead_of_empty (h : s.toks = []) (l : Nat) : s.cleAhead l = s := by
  unfold State.cleAhead
  rw [h]
  exact ite_self s

-- The write (08 R207, R209) ---------------------------------------------------------------------------------------

theorem State.onLoop_loop_self (hl : l < s.cle.loops.length) (f : Loop → Loop) : (s.onLoop l f).loop l = f (s.loop l) := by
  simp [State.loop, State.onLoop, List.getD_eq_getElem?_getD, hl]

/-- The inputs are applied, then the register and its live parameter are written, and the galleys note it. -/
theorem State.loopWrite_eq (s : State) (l off : Nat) (v : Int) : ∃ (g : Sparse Int → Sparse Int) (f : Galley → Galley),
    s.loopWrite l off v = (((s.cleAhead l).onSup fun u => { u with live := g u.live }).onLoop l (setReg off v)).onGals l f := by
  unfold State.loopWrite
  dsimp only
  generalize s.cleAhead l = a
  split
  · exact ⟨id, _, rfl⟩
  · exact ⟨fun live => spSet 0 live (0x6000 + 0x40 * l + off) v, _, rfl⟩

/-- The write itself changes the engine and the live parameters. -/
theorem State.loopWrite_frame (s : State) (l off : Nat) (v : Int) : sameBut [.cle, .sup] (s.loopWrite l off v) (s.cleAhead l) := by
  obtain ⟨g, f, hwrite⟩ := s.loopWrite_eq l off v
  rw [hwrite]
  generalize s.cleAhead l = a
  rfl

theorem State.loopWrite_setpoint (hl : l < s.cle.loops.length) (v : Int) : ((s.loopWrite l 5 v).loop l).sp = v := by
  have hlen : l < (s.cleAhead l).cle.loops.length := by rw [(s.cleAhead_applied l).loops]; exact hl
  obtain ⟨g, f, hwrite⟩ := s.loopWrite_eq l 5 v
  have hgals (b : State) : (b.onGals l f).loop l = b.loop l := rfl
  rw [hwrite, hgals, State.onLoop_loop_self (s := (s.cleAhead l).onSup _) hlen]
  rfl

theorem State.loopWrite_loops (s : State) (l off : Nat) (v : Int) : (s.loopWrite l off v).cle.loops.length = s.cle.loops.length := by
  obtain ⟨g, f, hwrite⟩ := s.loopWrite_eq l off v
  rw [← (s.cleAhead_applied l).loops, hwrite]
  exact List.length_modify ..

/-- The forme in force is not a live parameter. -/
theorem State.loopWrite_formeOf (s : State) (l off : Nat) (v : Int) (n : Nat) : (s.loopWrite l off v).formeOf n = s.formeOf n := by
  have happlied : (s.cleAhead l).formeOf n = s.formeOf n := (s.cleAhead_applied l).frame.formeOf_eq (by decide) (by decide) n
  obtain ⟨g, f, hwrite⟩ := s.loopWrite_eq l off v
  rw [← happlied, hwrite]
  generalize s.cleAhead l = a
  rfl

end Sys2Proof.Machine
end

section
/-! PROOFS. Batch programs (05 R123 to R127): what the rules of one column leave alone, and what they make of its program. -/

namespace Sys2Proof.Machine

variable {a b s t : State} {c k i l : Nat} {v : Int} {x : Column}

-- What the rules of one column leave alone -------------------------------------------------------------------------

/-- Nothing waits to be applied or served before a batch rule acts. -/
def State.calm (s : State) : Prop := s.toks = [] ∧ s.heatServed

/-- What a batch rule of column c leaves: what the rules read besides the column, the other programs, and in a calm unit
everything but the column and the engine with its live parameters. -/
structure State.batched (c : Nat) (a s : State) : Prop where
  forme : a.formeOf 4 = s.formeOf 4
  bmt : a.bmt = s.bmt
  unit : a.unit = s.unit
  len : a.cols.length = s.cols.length
  loops : a.cle.loops.length = s.cle.loops.length
  others : ∀ k, k ≠ c → (a.col k).bst = (s.col k).bst
  calm : s.calm → (∀ k, k ≠ c → a.col k = s.col k) ∧ sameBut [.cols, .cle, .sup] a.quiet s.quiet

/-- A step that takes time has been entered, but its setpoint is not written. -/
def State.batchEntered (s0 : State) (c i : Nat) : State :=
  let s := s0.heat
  let st := s.bstep c i
  let p := (s.wheel (s.pLdg c 1)).pos
  let s1 := s.onCol c fun x => { x.phase s.bmt st.flags with
    bst := .running, step := i, entryMt := s.bmt, entryP := s.time.wheels.map (·.pos), hostC := false
    doOut := st.doOn &&& s.pLdg c 0x17 }
  let s2 := if bitOf st.flags 0 then s1.onCol c Column.doseOn else s1
  if st.typ = 5 ∧ !(s2.col c).discharged then
    s2.onCol c fun x => { x.modAt 0 (fun q => { q with entryPos := p }) with discharged := true } else s2

theorem State.batchEnter_eq (s : State) (c i : Nat) : s.batchEnter c i =
    if (s.heat.bstep c i).sp = 0x7FFF then s.batchEntered c i else (s.batchEntered c i).batchSp c (s.heat.bstep c i).sp := rfl

theorem State.calm_of_frame (h : sameBut [.cols, .cle, .sup] a.quiet s.quiet) (hs : s.calm) : a.calm := by
  have htoks : a.toks = s.toks := h.part_eq (p := State.toks) fun _ => rfl
  have hbmt : a.bmt = s.bmt := h.part_eq (p := State.bmt) fun _ => rfl
  have hpower : a.power = s.power := h.part_eq (p := State.power) fun _ => rfl
  obtain ⟨hempty, hserved⟩ := hs
  exact ⟨htoks.trans hempty, by rwa [State.heatServed, hbmt, hpower]⟩

namespace State.batched

theorem refl (c : Nat) (s : State) : s.batched c s := ⟨rfl, rfl, rfl, rfl, rfl, fun _ _ => rfl, fun _ => ⟨fun _ _ => rfl, rfl⟩⟩
theorem trans (h : a.batched c b) (h' : b.batched c s) : a.batched c s where
  forme := h.forme.trans h'.forme
  bmt := h.bmt.trans h'.bmt
  unit := h.unit.trans h'.unit
  len := h.len.trans h'.len
  loops := h.loops.trans h'.loops
  others k hk := (h.others k hk).trans (h'.others k hk)
  calm hs := by
    obtain ⟨hcols', hframe'⟩ := h'.calm hs
    obtain ⟨hcols, hframe⟩ := h.calm (State.calm_of_frame hframe' hs)
    exact ⟨fun k hk => (hcols k hk).trans (hcols' k hk), hframe.trans hframe'⟩

theorem onCol (h : a.batched c s) {f : Column → Column} : (a.onCol c f).batched c s :=
  trans (b := a) ⟨rfl, rfl, rfl, State.onCol_length .., rfl, fun k hk => by rw [State.onCol_col_ne hk],
    fun _ => ⟨fun k hk => State.onCol_col_ne hk _, rfl⟩⟩ h

theorem parcelSlug (h : a.batched c s) {p : Parcel} : (a.parcelSlug c p).batched c s := by
  have hsame : sameBut [] (a.parcelSlug c p).quiet a.quiet := congrArg (State.but []) (a.parcelSlug_quiet c p)
  have hcols : (a.parcelSlug c p).cols = a.cols := hsame.part_eq (p := State.cols) fun _ => rfl
  have hcle : (a.parcelSlug c p).cle = a.cle := hsame.part_eq (p := State.cle) fun _ => rfl
  exact trans (b := a) ⟨hsame.formeOf_eq (by decide) (by decide) 4, hsame.part_eq (p := State.bmt) fun _ => rfl,
    hsame.part_eq (p := State.unit) fun _ => rfl, by rw [hcols], by rw [hcle], fun k _ => by rw [State.col_congr hcols],
    fun _ => ⟨fun k _ => State.col_congr hcols k, hsame.mono (by decide)⟩⟩ h

theorem heat (h : a.batched c s) : a.heat.batched c s := by
  have hsame := a.heat_sameBut_cols
  have hquiet : sameBut [.cols, .power] a.heat.quiet a.quiet := congrArg State.quiet hsame
  have hcle : a.heat.cle = a.cle := hsame.part_eq (p := State.cle) fun _ => rfl
  refine trans (b := a) ⟨hquiet.formeOf_eq (by decide) (by decide) 4, hsame.part_eq (p := State.bmt) fun _ => rfl,
    hsame.part_eq (p := State.unit) fun _ => rfl, a.heat_cols_length, by rw [hcle], fun k _ => ?_, fun hcalm => ?_⟩ h
  · exact a.heat_keeps (g := Column.bst) (fun _ _ _ _ _ _ => rfl) k
  · rw [State.heat_of_served hcalm.2]
    exact ⟨fun _ _ => rfl, rfl⟩

theorem loopWrite (h : a.batched c s) {l off : Nat} {v : Int} : (a.loopWrite l off v).batched c s := by
  have happlied := a.cleAhead_applied l
  have hwritten : sameBut [.cle, .sup] (a.loopWrite l off v).quiet (a.cleAhead l).quiet := congrArg State.quiet (a.loopWrite_frame l off v)
  have hframe : sameBut [.cols, .cle, .imp, .toks, .sup] (a.loopWrite l off v).quiet a.quiet :=
    (hwritten.mono (by decide)).trans (happlied.frame.mono (by decide))
  have hcols : (a.loopWrite l off v).cols = (a.cleAhead l).cols := hwritten.part_eq (p := State.cols) fun _ => rfl
  refine trans (b := a) ⟨a.loopWrite_formeOf l off v 4, hframe.part_eq (p := State.bmt) fun _ => rfl,
    hframe.part_eq (p := State.unit) fun _ => rfl, by rw [hcols, happlied.len], a.loopWrite_loops l off v, fun k _ => ?_, fun hcalm => ?_⟩ h
  · rw [State.col_congr hcols]
    exact (congrArg Column.bst (happlied.cols k) :)
  · rw [State.cleAhead_of_empty hcalm.1] at hcols hwritten
    exact ⟨fun k _ => State.col_congr hcols k, hwritten.mono (by decide)⟩

theorem batchSp (h : a.batched c s) : (a.batchSp c v).batched c s := by
  unfold State.batchSp
  dsimp only
  split
  · exact h.loopWrite
  · exact h
theorem batchSafe (h : a.batched c s) : (a.batchSafe c).batched c s := h.onCol.batchSp
theorem batchExit (h : a.batched c s) : (a.batchExit c).batched c s := by
  unfold State.batchExit
  split
  · exact h.heat.onCol.onCol
  · exact h
theorem batchClose (h : a.batched c s) {aborted : Bool} : (a.batchClose c aborted).batched c s := h.onCol.onCol.parcelSlug
theorem batchEntered (h : a.batched c s) : (a.batchEntered c i).batched c s := by
  unfold State.batchEntered
  extract_lets u st p s1 s2
  have h1 : s1.batched c s := h.heat.onCol
  have h2 : s2.batched c s := by
    unfold s2
    split
    · exact h1.onCol
    · exact h1
  split
  · exact h2.onCol
  · exact h2
theorem batchEnter (h : a.batched c s) : (a.batchEnter c i).batched c s := by
  rw [State.batchEnter_eq]
  split
  · exact h.batchEntered
  · exact h.batchEntered.batchSp
theorem batchGo (h : a.batched c s) {n : Nat} : (State.batchGo c n i a).batched c s := by
  induction n generalizing a i with
  | zero => exact h
  | succ n ih =>
    unfold State.batchGo
    dsimp only
    split
    · exact h.batchClose.onCol.batchSafe
    split
    · split
      · exact ih h.onCol
      · exact ih h.onCol
    · exact h.batchEnter
theorem batchTo (h : a.batched c s) : (a.batchTo c i).batched c s := h.batchExit.batchGo
theorem batchPause (h : a.batched c s) : (a.batchPause c).batched c s := by
  unfold State.batchPause
  split
  · exact h.batchExit.onCol.batchSafe
  · exact h

end State.batched

end Sys2Proof.Machine
end

section
/-! PROOFS. The steps of a batch program (05 R123 to R127): what is entered, ended and paused, as Table 5.8 shows it. -/

namespace Sys2Proof.Machine

variable {a b s t : State} {c k i l n : Nat} {v : Int} {x : Column}

-- What a program shows (05 Table 5.8) ------------------------------------------------------------------------------

/-- What shows of a column's program, with the SEQs of its records. -/
structure ProgramView where
  bst : BState
  step : Nat
  entryMt : Nat
  hostC : Bool
  doOut : Nat
  nextSeq : Nat
  seqs : Nat → Nat

def Column.view (x : Column) : ProgramView where
  bst := x.bst
  step := x.step
  entryMt := x.entryMt
  hostC := x.hostC
  doOut := x.doOut
  nextSeq := x.nextSeq
  seqs i := (x.at_ i).seq

/-- A change of one record that keeps its SEQ does not show. -/
theorem Column.modAt_view {f : Parcel → Parcel} (hf : ∀ p, (f p).seq = p.seq) (x : Column) (i : Nat) : (x.modAt i f).view = x.view := by
  have hseqs (j : Nat) : ((x.modAt i f).at_ j).seq = (x.at_ j).seq := by
    by_cases hj : j = i
    · rw [hj, Column.modAt_at_self, hf]
    · rw [Column.modAt_at_ne hj]
  simp only [Column.view, hseqs]
  rfl

theorem getD_mapIdx_seq {f : Nat → Parcel → Parcel} (hf : ∀ i p, (f i p).seq = p.seq) (ps : List Parcel) (j : Nat) :
    ((ps.mapIdx f).getD j {}).seq = (ps.getD j {}).seq := by
  simp only [List.getD_eq_getElem?_getD, List.getElem?_mapIdx]
  cases ps[j]? with
  | none => rfl
  | some p => exact hf j p

theorem heatCol_view (hold m₀ m₁ : Nat) (inH : Nat → Bool) (depth : Nat) (x : Column) : (heatCol hold m₀ m₁ inH depth x).view = x.view := by
  have hseqs (j : Nat) : ((heatCol hold m₀ m₁ inH depth x).at_ j).seq = (x.at_ j).seq := by
    rw [heatCol_eq, Column.at_]
    dsimp only
    split
    · rw [getD_mapIdx_seq fun i p => by split <;> rfl, padParcels_getD, ← Column.at_]
    · rfl
  simp only [Column.view, hseqs]
  rfl

theorem Column.doseOn_view (x : Column) : x.doseOn.view = x.view := by
  unfold Column.doseOn
  split
  · refine Column.modAt_view (fun p => ?_) x 0
    rfl
  · exact Column.modAt_view (f := enterHeat x.s) (fun _ => rfl) x 0

theorem State.heat_view (s : State) (k : Nat) : (s.heat.col k).view = (s.col k).view := s.heat_keeps heatCol_view k

theorem State.loopWrite_view (s : State) (l off : Nat) (v : Int) (k : Nat) : ((s.loopWrite l off v).col k).view = (s.col k).view := by
  have hcols : (s.loopWrite l off v).cols = (s.cleAhead l).cols := (s.loopWrite_frame l off v).part_eq (p := State.cols) fun _ => rfl
  rw [State.col_congr hcols]
  exact (congrArg Column.view ((s.cleAhead_applied l).cols k) :)

theorem State.batchSp_view (s : State) (c : Nat) (v : Int) (k : Nat) : ((s.batchSp c v).col k).view = (s.col k).view := by
  unfold State.batchSp
  dsimp only
  split
  · exact s.loopWrite_view ..
  · rfl

/-- The setpoint that a program writes reaches the loop of LDG_BATCH_LOOP. -/
theorem State.batchSp_sp (hl : s.pLdg c 0x16 = l) (hl48 : l < 48) (hlen : s.cle.loops.length = 48) (v : Int) :
    ((s.batchSp c v).loop l).sp = v := by
  rw [State.batchSp, hl, if_pos hl48]
  exact State.loopWrite_setpoint (by omega) v

-- Settings in force (05 Table 5.5) ---------------------------------------------------------------------------------

/-- The settings of the columns are forme parameters of the ledger. -/
theorem State.par_ledger {id : Nat} (hid : id / 0x1000 = 3) (s : State) : s.par id = (s.formeOf 4).par id := by
  simp only [State.par, hid]

theorem State.batched.par_eq {id : Nat} (h : a.batched c s) (hid : id / 0x1000 = 3) : a.par id = s.par id := by
  rw [State.par_ledger hid, State.par_ledger hid, h.forme]
theorem State.batched.pLdg_eq (h : a.batched c s) (hc : c < 4) (hi : i < 0x40) : a.pLdg c i = s.pLdg c i := by
  simp only [State.pLdg, State.parN, h.par_eq (id := 0x3000 + 0x40 * c + i) (by omega)]
theorem State.batched.geo_eq (h : a.batched c s) (k : Nat) : a.geo k = s.geo k := by simp only [State.geo, h.forme]
theorem State.batched.bstep_eq (h : a.batched c s) (k i : Nat) : a.bstep k i = s.bstep k i := by simp only [State.bstep, h.forme]

-- Leaving, ending and entering (05 R123, R125 to R127) --------------------------------------------------------------

theorem State.batchExit_view (s : State) (c k : Nat) : ((s.batchExit c).col k).view = (s.col k).view := by
  unfold State.batchExit
  split
  · dsimp only
    have hpredict (a : State) : ((a.onCol c fun x => x.modAt 0 fun p => a.predict c p.dose p).col k).view = (a.col k).view := by
      refine State.onCol_keeps (g := Column.view) (fun x => Column.modAt_view (fun p => ?_) x 0) a c k
      rfl
    have hfreeze (a : State) : ((a.onCol c fun x => { x.modAt 0 (fun p => freezeDose x.s (closeIn p)) with doseS := x.s }).col k).view =
        (a.col k).view :=
      State.onCol_keeps (g := Column.view) (f := fun x => { x.modAt 0 (fun p => freezeDose x.s (closeIn p)) with doseS := x.s })
        (fun x => Column.modAt_view (f := fun p => freezeDose x.s (closeIn p)) (fun _ => rfl) x 0) a c k
    rw [hpredict, hfreeze, State.heat_view]
  · rfl

theorem State.batchSafe_view (hc : c < s.cols.length) : ((s.batchSafe c).col c).view = { (s.col c).view with doOut := 0 } := by
  rw [State.batchSafe, State.batchSp_view, State.onCol_col_self hc]
  rfl
theorem State.batchSafe_eq (s : State) (c : Nat) : s.batchSafe c =
    (s.onCol c fun x => { x.phase s.bmt 0 with doOut := 0 }).batchSp c (s.par (0x3000 + 0x40 * c + 0x18)) := rfl
theorem State.batchSafe_sp (hl : s.pLdg c 0x16 = l) (hl48 : l < 48) (hlen : s.cle.loops.length = 48) :
    ((s.batchSafe c).loop l).sp = s.par (0x3018 + 0x40 * c) := by
  have hid : 0x3018 + 0x40 * c = 0x3000 + 0x40 * c + 0x18 := by omega
  have hl' : (s.onCol c fun x => { x.phase s.bmt 0 with doOut := 0 }).pLdg c 0x16 = l := hl
  rw [hid, State.batchSafe_eq, State.batchSp_sp hl' hl48 hlen]

theorem getD_take (h : i < n) (ps : List Parcel) : (ps.take n).getD i {} = ps.getD i {} := by
  simp [List.getD_eq_getElem?_getD, h]

/-- A batch that ends leaves its record at index 1, under its SEQ, and opens a fresh one with the next. -/
theorem State.batchClose_view (hc : c < s.cols.length) (aborted : Bool) : ∃ q, ((s.batchClose c aborted).col c).view =
      { (s.col c).view with nextSeq := incW 16 (s.col c).nextSeq, seqs := q } ∧
    (1 < (s.geo c).depth → q 0 = (s.col c).nextSeq ∧ q 1 = ((s.col c).at_ 0).seq) := by
  unfold State.batchClose
  extract_lets close s1 p s2
  have hclosed : s1.col c = (s.col c).modAt 0 close := State.onCol_col_self hc _
  have hcol : (s2.parcelSlug c p).col c = s2.col c := State.col_congr (State.cols_of_quiet (s2.parcelSlug_quiet c p)) c
  have hopened := State.onCol_col_self (s := s1) (show c < s1.cols.length by simpa [s1] using hc) fun x => { x with
    parcels := ({ flags := 0, seq := x.nextSeq } :: padParcels (s1.geo c).depth x.parcels).take (s1.geo c).depth
    nextSeq := incW 16 x.nextSeq, dosed := false, discharged := false, recMt := s.bmt, phases := [] }
  rw [hcol, hopened, hclosed]
  refine ⟨_, rfl, fun hdepth => ⟨?_, ?_⟩⟩
  · show (List.getD (α := Parcel) (List.take (s.geo c).depth _) 0 {}).seq = _
    rw [getD_take (by omega)]
    rfl
  · show (List.getD (α := Parcel) (List.take (s.geo c).depth _) 1 {}).seq = _
    rw [getD_take hdepth, List.getD_cons_succ, padParcels_getD, ← Column.at_, Column.modAt_at_self]
    rfl

/-- A program that has entered a step. -/
def ProgramView.entered (i mt doOut : Nat) (v : ProgramView) : ProgramView :=
  { v with bst := .running, step := i, entryMt := mt, hostC := false, doOut := doOut }

theorem State.heat_bstep (s : State) (c i : Nat) : s.heat.bstep c i = s.bstep c i := (State.batched.refl c s).heat.bstep_eq c i

theorem State.batchEntered_view (hc : c < s.cols.length) (i : Nat) :
    ((s.batchEntered c i).col c).view = (s.col c).view.entered i s.bmt ((s.bstep c i).doOn &&& s.pLdg c 0x17) := by
  have hheat : sameBut [.cols, .power] s.heat.quiet s.quiet := congrArg State.quiet s.heat_sameBut_cols
  have hbmt : s.heat.bmt = s.bmt := hheat.part_eq (p := State.bmt) fun _ => rfl
  have hpar : s.heat.pLdg c 0x17 = s.pLdg c 0x17 := hheat.pLdg_eq (by decide) (by decide) c 0x17
  have hview := s.heat_view c
  unfold State.batchEntered
  extract_lets u st p s1 s2
  have hentered : (s1.col c).view = (u.col c).view.entered i u.bmt (st.doOn &&& u.pLdg c 0x17) := by
    rw [State.onCol_col_self (show c < u.cols.length by rw [State.heat_cols_length]; exact hc)]
    rfl
  have hdosed : (s2.col c).view = (s1.col c).view := by
    unfold s2
    split
    · exact State.onCol_keeps (g := Column.view) Column.doseOn_view s1 c c
    · rfl
  rw [← hview, ← hbmt, ← s.heat_bstep, ← hpar, ← hentered, ← hdosed]
  split
  · exact State.onCol_keeps (g := Column.view) (f := fun x => { x.modAt 0 (fun q => { q with entryPos := p }) with discharged := true })
      (fun x => Column.modAt_view (f := fun q => { q with entryPos := p }) (fun _ => rfl) x 0) s2 c c
  · rfl

/-- The program enters a step that takes time: its view, and its setpoint at the loop. -/
theorem State.batchEnter_reads (hc4 : c < 4) (hc : c < s.cols.length) (i : Nat) :
    ((s.batchEnter c i).col c).view = (s.col c).view.entered i s.bmt ((s.bstep c i).doOn &&& s.pLdg c 0x17) ∧
    ((s.bstep c i).sp ≠ 0x7FFF → s.pLdg c 0x16 < 48 → s.cle.loops.length = 48 →
      ((s.batchEnter c i).loop (s.pLdg c 0x16)).sp = (s.bstep c i).sp) := by
  have hbatched : (s.batchEntered c i).batched c s := (State.batched.refl c s).batchEntered
  rw [State.batchEnter_eq, State.heat_bstep, ← State.batchEntered_view hc i]
  split
  next h => exact ⟨rfl, fun hsp => absurd h hsp⟩
  · refine ⟨State.batchSp_view .., fun _ hl hlen => State.batchSp_sp (hbatched.pLdg_eq hc4 (by decide)) hl (hbatched.loops.trans hlen) _⟩

/-- The program is paused, its outputs off. -/
theorem State.batchPause_reads (hc4 : c < 4) (hc : c < s.cols.length) (hrun : (s.col c).bst = .running) :
    ((s.batchPause c).col c).view = { (s.col c).view with bst := .paused, doOut := 0 } ∧
    (s.pLdg c 0x16 < 48 → s.cle.loops.length = 48 → ((s.batchPause c).loop (s.pLdg c 0x16)).sp = s.par (0x3018 + 0x40 * c)) := by
  have hbatched : (s.batchExit c).batched c s := (State.batched.refl c s).batchExit
  have hlen : c < (s.batchExit c).cols.length := hbatched.len ▸ hc
  have hpaused : ((s.batchExit c).onCol c fun x => { x with bst := .paused }).batched c s := hbatched.onCol
  have hpar : ((s.batchExit c).onCol c fun x => { x with bst := .paused }).par (0x3018 + 0x40 * c) = s.par (0x3018 + 0x40 * c) :=
    hpaused.par_eq (by omega)
  rw [State.batchPause, if_pos hrun]
  refine ⟨?_, fun hl hloops => ?_⟩
  · rw [State.batchSafe_view (by simpa using hlen), State.onCol_col_self hlen, ← State.batchExit_view s c c]
    rfl
  · rw [State.batchSafe_sp (hpaused.pLdg_eq hc4 (by decide)) hl (hpaused.loops.trans hloops), hpar]

-- From one step to the next (05 R126) -------------------------------------------------------------------------------

theorem State.batchGo_of_step (hi : i < 16) (hlo : 0 < (s.bstep c i).typ) (hhi : (s.bstep c i).typ < 6) (n : Nat) :
    State.batchGo c (n + 1) i s = s.batchEnter c i := by
  rw [State.batchGo]
  rw [if_neg (by omega), if_neg (by omega)]

theorem State.batchGo_of_end (h : 15 < i ∨ (s.bstep c i).typ = 0) (n : Nat) :
    State.batchGo c (n + 1) i s = ((s.batchClose c false).onCol c fun x => { x with bst := .done }).batchSafe c := by
  rw [State.batchGo]
  rw [if_pos h]

/-- A step that takes time is entered from the one that the program leaves. -/
theorem State.batchTo_step (hc4 : c < 4) (hc : c < s.cols.length) (hi : i < 16) (hlo : 0 < (s.bstep c i).typ) (hhi : (s.bstep c i).typ < 6) :
    ((s.batchTo c i).col c).view = (s.col c).view.entered i s.bmt ((s.bstep c i).doOn &&& s.pLdg c 0x17) ∧
    ((s.bstep c i).sp ≠ 0x7FFF → s.pLdg c 0x16 < 48 → s.cle.loops.length = 48 →
      ((s.batchTo c i).loop (s.pLdg c 0x16)).sp = (s.bstep c i).sp) := by
  have hleft : (s.batchExit c).batched c s := (State.batched.refl c s).batchExit
  obtain ⟨hview, hsp⟩ := State.batchEnter_reads (s := s.batchExit c) hc4 (hleft.len ▸ hc) i
  rw [State.batchExit_view, hleft.bmt, hleft.bstep_eq, hleft.pLdg_eq hc4 (by decide)] at hview
  rw [hleft.bstep_eq, hleft.pLdg_eq hc4 (by decide), hleft.loops] at hsp
  rw [State.batchTo, State.batchGo_of_step hi (by rwa [hleft.bstep_eq]) (by rwa [hleft.bstep_eq])]
  exact ⟨hview, hsp⟩

/-- An END step or 0xFF closes the record and ends in DONE. -/
theorem State.batchTo_end (hc4 : c < 4) (hc : c < s.cols.length) (h : 15 < i ∨ (s.bstep c i).typ = 0) :
    (∃ q, ((s.batchTo c i).col c).view =
        { (s.col c).view with bst := .done, doOut := 0, nextSeq := incW 16 (s.col c).nextSeq, seqs := q } ∧
      (1 < (s.geo c).depth → q 0 = (s.col c).nextSeq ∧ q 1 = ((s.col c).at_ 0).seq)) ∧
    (s.pLdg c 0x16 < 48 → s.cle.loops.length = 48 → ((s.batchTo c i).loop (s.pLdg c 0x16)).sp = s.par (0x3018 + 0x40 * c)) := by
  have hleft : (s.batchExit c).batched c s := (State.batched.refl c s).batchExit
  have hclosed : ((s.batchExit c).batchClose c false).batched c s := hleft.batchClose
  have hdone : (((s.batchExit c).batchClose c false).onCol c fun x => { x with bst := .done }).batched c s := hclosed.onCol
  have hview := State.batchExit_view s c c
  have hseq : ((s.batchExit c).col c).nextSeq = (s.col c).nextSeq := congrArg ProgramView.nextSeq hview
  have hat0 : (((s.batchExit c).col c).at_ 0).seq = ((s.col c).at_ 0).seq := congrFun (congrArg ProgramView.seqs hview) 0
  obtain ⟨q, hq, hseqs⟩ := State.batchClose_view (s := s.batchExit c) (hleft.len ▸ hc) false
  rw [hview, hseq] at hq
  rw [hleft.geo_eq, hseq, hat0] at hseqs
  rw [State.batchTo, State.batchGo_of_end (by rwa [hleft.bstep_eq])]
  refine ⟨⟨q, ?_, hseqs⟩, fun hl hloops => ?_⟩
  · rw [State.batchSafe_view (hdone.len ▸ hc), State.onCol_col_self (hclosed.len ▸ hc)]
    exact congrArg (fun v : ProgramView => { v with bst := BState.done, doOut := 0 }) hq
  · rw [State.batchSafe_sp (hdone.pLdg_eq hc4 (by decide)) hl (hdone.loops.trans hloops), hdone.par_eq (by omega)]

end Sys2Proof.Machine
end

section
/-! PROOFS. BATCH_CONDITION_TICK and BATCH_TMAX (05 R125, R127, Table 5.6). -/

namespace Sys2Proof.Machine

variable {a s t u : State} {c k l n dt : Nat}

-- The conditions of one column (05 R125) ---------------------------------------------------------------------------

theorem State.batchCol_of_still (h : (s.col k).bst ≠ .running) : s.batchCol k = s := if_neg fun hrun => h hrun.1

/-- The rules of a millisecond apply to the column's program. -/
structure State.programRuns (s : State) (c : Nat) : Prop where
  running : (s.col c).bst = .running
  mode : (s.geo c).mode = 2
  evaluating : s.evaluating = true

/-- Condition A is taken before condition B. -/
theorem State.batchCol_takes (h : s.programRuns c)
    (hn : s.batchCond c (s.bstep c (s.col c).step).a = true ∧ n = (s.bstep c (s.col c).step).nextA ∨
      s.batchCond c (s.bstep c (s.col c).step).a = false ∧ s.batchCond c (s.bstep c (s.col c).step).b = true ∧
        n = (s.bstep c (s.col c).step).nextB) : s.batchCol c = s.batchTo c n := by
  unfold State.batchCol
  dsimp only
  rw [if_pos ⟨h.running, h.mode, h.evaluating⟩]
  rcases hn with ⟨hA, rfl⟩ | ⟨hA, hB, rfl⟩
  · rw [if_pos hA]
  · rw [if_neg (by simp [hA]), if_pos hB]

theorem State.batchCol_stays (hA : s.batchCond c (s.bstep c (s.col c).step).a = false) (hB : s.batchCond c (s.bstep c (s.col c).step).b = false) :
    s.batchCol c = s := by
  unfold State.batchCol
  dsimp only
  rw [hA, hB]
  simp

theorem State.batched.batchCol (h : a.batched c s) : (a.batchCol c).batched c s := by
  unfold State.batchCol
  dsimp only
  split
  · split
    · exact h.batchTo
    split
    · exact h.batchTo
    · exact h
  · exact h

/-- A walk over columns whose programs do not run changes nothing. -/
theorem foldl_batchCol_of_still {ks : List Nat} (h : ∀ k ∈ ks, (s.col k).bst ≠ .running) : ks.foldl State.batchCol s = s := by
  induction ks with
  | nil => rfl
  | cons k ks ih =>
    rw [List.foldl_cons, State.batchCol_of_still (h k List.mem_cons_self), ih fun j hj => h j (List.mem_cons_of_mem k hj)]

/-- With one program running a millisecond is that program's. -/
theorem foldl_batchCol_of_alone (hc : c < 4) (halone : ∀ k, k < 4 → k ≠ c → (s.col k).bst ≠ .running) :
    (List.range 4).foldl State.batchCol s = s.batchCol c := by
  obtain ⟨l₁, l₂, hsplit⟩ := List.append_of_mem (List.mem_range.2 hc)
  have hnodup : (l₁ ++ c :: l₂).Nodup := hsplit ▸ List.nodup_range
  have hbound {k : Nat} (hk : k ∈ l₁ ++ c :: l₂) : k < 4 := List.mem_range.1 (hsplit ▸ hk)
  obtain ⟨-, htail, hdisj⟩ := List.nodup_append.1 hnodup
  have hstill₁ (k : Nat) (hk : k ∈ l₁) : (s.col k).bst ≠ .running :=
    halone k (hbound (by simp [hk])) fun h => hdisj k hk c List.mem_cons_self h
  have hstill₂ (k : Nat) (hk : k ∈ l₂) : ((s.batchCol c).col k).bst ≠ .running := by
    have hne : k ≠ c := fun h => (List.nodup_cons.1 htail).1 (h ▸ hk)
    rw [(State.batched.refl c s).batchCol.others k hne]
    exact halone k (hbound (by simp [hk])) hne
  rw [hsplit, List.foldl_append, List.foldl_cons, foldl_batchCol_of_still hstill₁, foldl_batchCol_of_still hstill₂]

-- The rows (05 R125, R127) -----------------------------------------------------------------------------------------

theorem State.batchTick_of_due (h : s.power.batchMs < s.bmt / 100000) :
    s.batchTick = ((List.range 4).foldl State.batchCol s).onPower fun p => { p with batchMs := s.bmt / 100000 } := if_pos h
theorem State.batchTick_of_served (h : s.bmt / 100000 ≤ s.power.batchMs) : s.batchTick = s := if_neg (Nat.not_lt.2 h)

@[simp] theorem State.onPower_col (s : State) (f : PowerSt → PowerSt) (c : Nat) : (s.onPower f).col c = s.col c := rfl

@[simp] theorem State.onPower_bstep (s : State) (f : PowerSt → PowerSt) (c i : Nat) : (s.onPower f).bstep c i = s.bstep c i := rfl
@[simp] theorem State.onPower_par (s : State) (f : PowerSt → PowerSt) (id : Nat) : (s.onPower f).par id = s.par id := rfl
@[simp] theorem State.onPower_pLdg (s : State) (f : PowerSt → PowerSt) (c o : Nat) : (s.onPower f).pLdg c o = s.pLdg c o := rfl
@[simp] theorem State.onPower_bmt (s : State) (f : PowerSt → PowerSt) : (s.onPower f).bmt = s.bmt := rfl

/-- At TMAX the program is paused, whatever slug that writes. -/
theorem execBatchTmax_of_due (dt : Nat) (hu : (s.elapse dt).batchTick = u) (hrun : (u.col c).bst = .running)
    (hmax : 0 < (u.bstep c (u.col c).step).tmax)
    (hdue : (u.col c).entryMt + (u.bstep c (u.col c).step).tmax * 100000000 ≤ u.bmt) :
    ∃ t, exec (.batchTmax dt c) s = .next t ∧ t.cols = (u.batchPause c).cols ∧ t.cle = (u.batchPause c).cle := by
  have hrow : exec (.batchTmax dt c) s = execBatchTmax dt c s := rfl
  rw [hrow]
  unfold execBatchTmax
  dsimp only
  rw [hu, if_pos ⟨hrun, hmax.ne', hdue⟩]
  exact ⟨_, rfl, State.slug_cols .., State.slug_cle ..⟩

end Sys2Proof.Machine
end

section
/-! PROOFS. BATCH_STEP and LEDGER_READ (05 R134, R135, Tables 5.8, 5.9), and the batch rows together. -/

namespace Sys2Proof.Machine

variable {a s t u : State} {c f i op dt : Nat} {b : BState} {fl : Flight}

-- BATCH_STEP (05 R134, R135, Table 5.9) ----------------------------------------------------------------------------

/-- Table 5.9: the status of an operation in a batch state, and the batch state after it. -/
def batchOutcome (op : Nat) (b : BState) : Nat × BState :=
  match op, b with
  | 0, .running => (sBUSY, .running)
  | 0, .paused => (sBUSY, .paused)
  | 0, _ => (sOK, .running)
  | 1, .running => (sOK, .paused)
  | 1, .paused => (sOK, .paused)
  | 2, .running => (sOK, .running)
  | 2, .paused => (sOK, .running)
  | 3, .running => (sOK, .running)
  | 3, .paused => (sOK, .paused)
  | 4, .running => (sOK, .idle)
  | 4, .paused => (sOK, .idle)
  | 4, b => (sOK, b)
  | 5, .running => (sOK, .running)
  | _, b => (sNOTST, b)

/-- Table 5.9 row by row. -/
def batchRows : List (Nat × BState × Nat × BState) := [
  (0, .idle, sOK, .running), (0, .running, sBUSY, .running), (0, .paused, sBUSY, .paused), (0, .done, sOK, BState.running),
  (1, .idle, sNOTST, .idle), (1, .running, sOK, .paused), (1, .paused, sOK, .paused), (1, .done, sNOTST, .done),
  (2, .idle, sNOTST, .idle), (2, .running, sOK, .running), (2, .paused, sOK, .running), (2, .done, sNOTST, .done),
  (3, .idle, sNOTST, .idle), (3, .running, sOK, .running), (3, .paused, sOK, .paused), (3, .done, sNOTST, .done),
  (4, .idle, sOK, .idle), (4, .running, sOK, .idle), (4, .paused, sOK, .idle), (4, .done, sOK, .done),
  (5, .idle, sNOTST, .idle), (5, .running, sOK, .running), (5, .paused, sNOTST, .paused), (5, .done, sNOTST, .done)]

theorem batchOutcome_of_row : ∀ r ∈ batchRows, r.1 < 6 ∧ batchOutcome r.1 r.2.1 = r.2.2 := by decide

/-- What BATCH_STEP may be asked of a program that can run (05 R134). -/
structure State.stepMayRun (s : State) (c i : Nat) : Prop where
  col : c < 4
  len : s.cols.length = 4
  mode : (s.geo c).mode = 2
  evaluating : s.evaluating = true
  idx : i < 16
  takesTime : 0 < (s.bstep c i).typ ∧ (s.bstep c i).typ < 6

/-- The answer to an operation has the status of its outcome and leaves its batch state; a refusal changes nothing, and what
START and SKIP, or CONDITION, set is set. -/
def Ans.carriesOut (a : Ans) (s : State) (c op i : Nat) (o : Nat × BState) : Prop :=
  ∃ t res, a = .done t o.1 res ∧ (t.col c).bst = o.2 ∧ (o.1 ≠ sOK → t = s ∧ res = []) ∧
    ((op = 3 ∨ op = 0) → o.1 = sOK → (t.col c).step = i) ∧ (op = 5 → o.1 = sOK → (t.col c).hostC = true)

theorem Ans.carriesOut_err {status : Nat} (hb : (s.col c).bst = b) (h : status ≠ sOK) : (Ans.err s status).carriesOut s c op i (status, b) :=
  ⟨s, [], rfl, hb, fun _ => ⟨rfl, rfl⟩, fun _ hok => absurd hok h, fun _ hok => absurd hok h⟩

theorem Ans.carriesOut_ok {v : ProgramView} (ht : (t.col c).view = v) (hb : v.bst = b) (hi : op = 3 ∨ op = 0 → v.step = i)
    (hh : op = 5 → v.hostC = true) (sid : Nat) (args res : List Nat) :
    (Ans.ok (t.recHost sid 0x31 c op 0 args) res).carriesOut s c op i (sOK, b) := by
  have hcol : (t.recHost sid 0x31 c op 0 args).col c = t.col c := State.col_congr (State.recHost_cols ..) c
  subst ht
  refine ⟨_, res, rfl, ?_, fun h => absurd rfl h, fun hop _ => ?_, fun hop _ => ?_⟩ <;> rw [hcol]
  · exact hb
  · exact hi hop
  · exact hh hop

/-- Nothing runs in the column after an abort. -/
theorem State.batchAborted_bst (hc : c < a.cols.length) :
    ((((a.batchClose c true).onCol c fun x => { x with bst := .idle }).batchSafe c).col c).view.bst = .idle := by
  have hclosed : c < (a.batchClose c true).cols.length := (State.batched.refl c a).batchClose.len ▸ hc
  rw [State.batchSafe_view (by simpa using hclosed), State.onCol_col_self hclosed]
  rfl

theorem batchOutcome_start (hr : b ≠ .running) (hp : b ≠ .paused) : batchOutcome 0 b = (sOK, .running) := by
  cases b with
  | running => exact absurd rfl hr
  | paused => exact absurd rfl hp
  | idle => rfl
  | done => rfl
theorem batchOutcome_abort (hr : b ≠ .running) (hp : b ≠ .paused) : batchOutcome 4 b = (sOK, b) := by
  cases b with
  | running => exact absurd rfl hr
  | paused => exact absurd rfl hp
  | idle => rfl
  | done => rfl

/-- Each branch of BATCH_STEP is a row of Table 5.9. -/
theorem batchStepBody_carriesOut (h : s.stepMayRun c i) (hc : argB fl.e 0 = c) (hop : argB fl.e 1 = op) (hi : argB fl.e 2 = i)
    (hop5 : op < 6) (hstep : (s.col c).step < 16 ∧ 0 < (s.bstep c (s.col c).step).typ ∧ (s.bstep c (s.col c).step).typ < 6)
    (hb : (s.col c).bst = b) : (batchStepBody fl s).carriesOut s c op i (batchOutcome op b) := by
  obtain ⟨hc4, hlen, hmode, heval, hi16, hlo, hhi⟩ := h
  have hcl : c < s.cols.length := by omega
  unfold batchStepBody
  dsimp only
  rw [hc, hop, hi, hb, if_neg (by omega), if_neg (by simp [heval])]
  split
  · exact Ans.carriesOut_err hb (by decide)
  · exact Ans.carriesOut_err hb (by decide)
  · next hnr hnp =>
    rw [batchOutcome_start hnr hnp, State.batchGo_of_step (s := s.onCol c _) hi16 hlo hhi]
    exact Ans.carriesOut_ok (State.batchEnter_reads hc4 (by simpa using hcl) i).1 rfl (fun _ => rfl) (by simp) ..
  · exact Ans.carriesOut_ok (State.batchPause_reads hc4 hcl hb).1 rfl (by simp) (by simp) ..
  · exact Ans.carriesOut_ok rfl hb (by simp) (by simp) ..
  · exact Ans.carriesOut_ok rfl hb (by simp) (by simp) ..
  · obtain ⟨hs16, hslo, hshi⟩ := hstep
    rw [State.batchGo_of_step hs16 hslo hshi]
    exact Ans.carriesOut_ok (State.batchEnter_reads hc4 hcl _).1 rfl (by simp) (by simp) ..
  · exact Ans.carriesOut_ok (State.batchTo_step hc4 hcl hi16 hlo hhi).1 rfl (fun _ => rfl) (by simp) ..
  · refine Ans.carriesOut_ok (congrArg Column.view (State.onCol_col_self hcl _)) ?_ (fun _ => rfl) (by simp) ..
    exact hb
  · have hleft : (s.batchExit c).batched c s := (State.batched.refl c s).batchExit
    exact Ans.carriesOut_ok rfl (State.batchAborted_bst (hleft.len ▸ hcl)) (by simp) (by simp) ..
  · exact Ans.carriesOut_ok rfl (State.batchAborted_bst hcl) (by simp) (by simp) ..
  · next hnr hnp =>
    rw [batchOutcome_abort hnr hnp]
    exact Ans.carriesOut_ok rfl hb (by simp) (by simp) ..
  · refine Ans.carriesOut_ok (congrArg Column.view (State.onCol_col_self hcl _)) ?_ (by simp) (fun _ => rfl) ..
    exact hb
  · simp only [batchOutcome]
    exact Ans.carriesOut_err hb (by decide)

end Sys2Proof.Machine
end

section
/-! PROOFS. The rows BATCH_STEP and LEDGER_READ (05 R134, Tables 5.8, 5.9). -/

namespace Sys2Proof.Machine

variable {s u : State} {c f i dt : Nat} {fl : Flight}

-- BATCH_STEP -------------------------------------------------------------------------------------------------------

/-- In a served millisecond the row is its body's answer. -/
theorem exec_batchStep_of_served (hfl : s.flight? f = some fl) (hready : ready fl 0x31 = true)
    (hserved : (s.elapse dt).bmt / 100000 ≤ s.power.batchMs) {status : Nat} {res : List Nat}
    (hbody : batchStepBody fl (s.elapse dt) = .done u status res) : exec (.batchStep dt f) s = .next (u.complete f status res) := by
  have hrow : exec (.batchStep dt f) s = .next (runCmd 0x31 f batchStepBody (s.elapse dt).batchTick) := rfl
  rw [hrow, State.batchTick_of_served (by simpa using hserved), runCmd_ready _ (by simpa using hfl) hready, hbody]

-- LEDGER_READ ------------------------------------------------------------------------------------------------------

/-- Fields behind a prefix are read as if it were not there (00 R7). -/
theorem bytesAt_append {a : List Nat} {n : Nat} (ha : a.length = n) (r : List Nat) (k : Nat) : bytesAt (a ++ r) n k = bytesAt r 0 k := by
  subst ha
  simp only [bytesAt, List.getD_eq_getElem?_getD, List.getElem?_append_right (Nat.le_add_right ..), Nat.add_sub_cancel_left, Nat.zero_add]

theorem exec_ledgerRead_of_ready (hfl : s.flight? f = some fl) (hready : ready fl 0x30 = true) {status : Nat} {res : List Nat}
    (hbody : ledgerReadBody fl (s.elapse dt) = .done u status res) : exec (.ledgerRead dt f) s = .next (u.complete f status res) := by
  have hrow : exec (.ledgerRead dt f) s = .next (runCmd 0x30 f ledgerReadBody (s.elapse dt)) := rfl
  rw [hrow, runCmd_ready _ (by simpa using hfl) hready, hbody]

theorem State.heat_geo (s : State) (k : Nat) : s.heat.geo k = s.geo k := (State.batched.refl k s).heat.geo_eq k

/-- The status of a column begins with its depth, its mode, its batch state, 5 bytes of its program, its shifts and FFV. -/
theorem ledgerReadBody_status (hc : argB fl.e 0 = c) (hc4 : c < 4) (hv : argB fl.e 1 = 0) : ∃ (shifts : Nat) (step rpt : Nat) (r : List Nat),
    ledgerReadBody fl s = .ok s.heat (le 2 (s.geo c).depth ++ ((s.geo c).mode :: bCode (s.col c).bst :: step :: rpt ::
      (le 2 shifts ++ (leI 2 (s.col c).ffv ++ r)))) := by
  have hbst : (s.heat.col c).bst = (s.col c).bst := s.heat_keeps (g := Column.bst) (fun _ _ _ _ _ _ => rfl) c
  have hffv : (s.heat.col c).ffv = (s.col c).ffv := s.heat_keeps (g := Column.ffv) (fun _ _ _ _ _ _ => rfl) c
  refine ⟨(s.heat.col c).shifts, (s.heat.col c).step, s.heat.rptCounter c, [b2n !(s.heat.col c).ffOk, min 255 (s.heat.pendShifts c)] ++
    (leI 2 (s.heat.col c).bias ++ le 2 (s.heat.col c).lateSmp), ?_⟩
  unfold ledgerReadBody
  dsimp only
  rw [hc, hv, if_neg (by omega), hbst, hffv, State.heat_geo]
  simp only [List.append_assoc, List.cons_append, List.nil_append]

/-- What the status of a column says (05 Table 5.8). -/
theorem status_reads (depth mode b step rpt shifts : Nat) (ffv : Int) (r : List Nat) {res : List Nat}
    (hres : res = le 2 depth ++ (mode :: b :: step :: rpt :: (le 2 shifts ++ (leI 2 ffv ++ r)))) :
    numAt res 0 2 = depth % 65536 ∧ res.getD 2 0 = mode ∧ res.getD 3 0 = b ∧ intAt res 8 2 = sx 16 (ffv % 65536).toNat := by
  subst hres
  have hffv : intAt (le 2 depth ++ (mode :: b :: step :: rpt :: (le 2 shifts ++ (leI 2 ffv ++ r)))) 8 2 = intAt (leI 2 ffv ++ r) 0 2 := by
    have hfields : le 2 depth ++ (mode :: b :: step :: rpt :: (le 2 shifts ++ (leI 2 ffv ++ r))) =
        (le 2 depth ++ [mode, b, step, rpt] ++ le 2 shifts) ++ (leI 2 ffv ++ r) := by simp
    rw [hfields, intAt, numAt, bytesAt_append (by simp), intAt, numAt]
  refine ⟨numAt_le_append .., ?_, ?_, ?_⟩
  · simp [List.getD_eq_getElem?_getD]
  · simp [List.getD_eq_getElem?_getD, List.getElem?_append_right]
  · rw [hffv, intAt, leI, numAt_le_append]
    simp [sx, uw]

/-- LEDGER_READ's halves of a record. -/
theorem ledgerReadBody_record {v : Nat} (hc : argB fl.e 0 = c) (hc4 : c < 4) (hv : argB fl.e 1 = v) (hi : argN fl.e 2 2 = i)
    (hhalf : v = 1 ∨ v = 2) (hdepth : i < (s.geo c).depth) : ledgerReadBody fl s =
      .ok s.heat ((if v = 1 then (s.heat.recordAt c i).take 16 else (s.heat.recordAt c i).drop 16) ++ le 2 i) := by
  unfold ledgerReadBody
  dsimp only
  rw [hc, hv, hi, State.heat_geo, if_neg (by omega)]
  rcases hhalf with rfl | rfl
  · rfl
  · rfl

/-- A view that there is none of, or a record outside the ledger, is refused before the integral is served. -/
theorem ledgerReadBody_bad {v : Nat} (hc : argB fl.e 0 = c) (hv : argB fl.e 1 = v) (hi : argN fl.e 2 2 = i)
    (hbad : 3 < v ∨ v ≠ 0 ∧ (s.geo c).depth ≤ i) : ledgerReadBody fl s = .bad s := by
  unfold ledgerReadBody
  dsimp only
  rw [hc, hv, hi, State.heat_geo, if_pos (Or.inr hbad)]

end Sys2Proof.Machine
end

section
/-! PROOFS. BATCH_CONDITION_TICK in a unit with one running program (05 R125 to R127), and the batch rows together. -/

namespace Sys2Proof.Machine

variable {s t u : State} {c dt f i l n : Nat}

theorem State.elapse_par_ledger {id : Nat} (hid : id / 0x1000 = 3) (s : State) (dt : Nat) : (s.elapse dt).par id = s.par id := by
  rw [State.par_ledger hid, State.par_ledger hid, State.elapse_formeOf]

/-- The one running program of a unit, in a millisecond that is not served. -/
structure State.batchAlone (s : State) (dt c : Nat) : Prop where
  col : c < 4
  len : s.cols.length = 4
  running : (s.col c).bst = .running
  mode : (s.geo c).mode = 2
  run : s.isSt .run = true
  live : s.store.reprint = none
  due : s.power.batchMs < (s.elapse dt).now / 100000
  others : ∀ k, k < 4 → k ≠ c → (s.col k).bst ≠ .running
  loops : s.cle.loops.length = 48

namespace State.batchAlone

variable (h : s.batchAlone dt c)
include h

theorem bmt : (s.elapse dt).bmt = (s.elapse dt).now := State.bmt_eq_now (by simpa using h.live)
theorem colLen : c < (s.elapse dt).cols.length := by
  have hcol := h.col
  simp [h.len, hcol]
theorem runs : (s.elapse dt).programRuns c := ⟨by simpa using h.running, by simpa using h.mode, by simp [State.evaluating, h.run]⟩

/-- The millisecond is the program's. -/
theorem tick : (s.elapse dt).batchTick =
    ((s.elapse dt).batchCol c).onPower fun p => { p with batchMs := (s.elapse dt).now / 100000 } := by
  have hdue : (s.elapse dt).power.batchMs < (s.elapse dt).bmt / 100000 := by
    rw [h.bmt]
    simpa using h.due
  rw [State.batchTick_of_due hdue, foldl_batchCol_of_alone h.col (by simpa using h.others), h.bmt]

end State.batchAlone

/-- The state that a condition leaves: the program went on to a step, and the millisecond is served. -/
def State.tickedTo (u : State) (c n : Nat) : State := (u.batchTo c n).onPower fun p => { p with batchMs := u.now / 100000 }

/-- Without a condition that is met, only the millisecond is served. -/
theorem State.batchAlone.tick_stays (h : s.batchAlone dt c) (hA : (s.elapse dt).batchCond c (s.bstep c (s.col c).step).a = false)
    (hB : (s.elapse dt).batchCond c (s.bstep c (s.col c).step).b = false) :
    (s.elapse dt).batchTick = (s.elapse dt).onPower fun p => { p with batchMs := (s.elapse dt).now / 100000 } := by
  rw [h.tick, State.batchCol_stays (by simpa using hA) (by simpa using hB)]

theorem State.batchAlone.tick_takes (h : s.batchAlone dt c)
    (hn : (s.elapse dt).batchCond c (s.bstep c (s.col c).step).a = true ∧ n = (s.bstep c (s.col c).step).nextA ∨
      (s.elapse dt).batchCond c (s.bstep c (s.col c).step).a = false ∧ (s.elapse dt).batchCond c (s.bstep c (s.col c).step).b = true ∧
        n = (s.bstep c (s.col c).step).nextB) : (s.elapse dt).batchTick = (s.elapse dt).tickedTo c n := by
  rw [h.tick, State.batchCol_takes h.runs (by simpa using hn)]
  rfl

theorem State.batchAlone.tickedTo_step (h : s.batchAlone dt c) (hn : n < 16) (hlo : 0 < (s.bstep c n).typ) (hhi : (s.bstep c n).typ < 6) :
    (((s.elapse dt).tickedTo c n).col c).view =
      (s.col c).view.entered n (s.elapse dt).now ((s.bstep c n).doOn &&& s.pLdg c 0x17) ∧
    ((s.bstep c n).sp ≠ 0x7FFF → s.pLdg c 0x16 < 48 → (((s.elapse dt).tickedTo c n).loop (s.pLdg c 0x16)).sp = (s.bstep c n).sp) := by
  obtain ⟨hview, hsp⟩ := State.batchTo_step h.col h.colLen hn (by simpa using hlo) (by simpa using hhi)
  rw [h.bmt] at hview
  simp only [State.elapse_col, State.elapse_bstep, State.elapse_pLdg] at hview hsp
  exact ⟨hview, fun hv hl => hsp hv hl (by simpa using h.loops)⟩

theorem State.batchAlone.tickedTo_end (h : s.batchAlone dt c) (hend : 15 < n ∨ (s.bstep c n).typ = 0) :
    (∃ q, (((s.elapse dt).tickedTo c n).col c).view =
        { (s.col c).view with bst := .done, doOut := 0, nextSeq := incW 16 (s.col c).nextSeq, seqs := q } ∧
      (1 < (s.geo c).depth → q 0 = (s.col c).nextSeq ∧ q 1 = ((s.col c).at_ 0).seq)) ∧
    (s.pLdg c 0x16 < 48 → (((s.elapse dt).tickedTo c n).loop (s.pLdg c 0x16)).sp = s.par (0x3018 + 0x40 * c)) := by
  obtain ⟨hview, hsp⟩ := State.batchTo_end h.col h.colLen (by simpa using hend)
  have hcol := h.col
  rw [State.elapse_par_ledger (by omega)] at hsp
  simp only [State.elapse_col, State.elapse_geo, State.elapse_pLdg] at hview hsp
  exact ⟨hview, fun hl => hsp hl (by simpa using h.loops)⟩

theorem State.batchAlone.tickedTo_frame (h : s.batchAlone dt c) (htoks : s.toks = []) (hheat : (s.elapse dt).now / 100000 ≤ s.power.heatMs) :
    (∀ k, k ≠ c → ((s.elapse dt).tickedTo c n).col k = s.col k) ∧
    ((s.elapse dt).tickedTo c n).quiet.but [.cols, .cle, .sup, .power] = (s.elapse dt).quiet.but [.cols, .cle, .sup, .power] := by
  have hserved : (s.elapse dt).heatServed := by
    rw [State.heatServed, h.bmt]
    simpa using hheat
  obtain ⟨hcols, hframe⟩ := (State.batched.refl c (s.elapse dt)).batchTo (i := n) |>.calm ⟨by simpa using htoks, hserved⟩
  have hpower : sameBut [.power] ((s.elapse dt).tickedTo c n).quiet ((s.elapse dt).batchTo c n).quiet := rfl
  refine ⟨fun k hk => (hcols k hk).trans (State.elapse_col ..), ?_⟩
  exact (hpower.mono (by decide)).trans (hframe.mono (by decide))

/-- TMAX is tested after the conditions: where none is met and the time is up, the program is paused. -/
theorem State.batchAlone.tmax_pauses (h : s.batchAlone dt c) (hA : (s.elapse dt).batchCond c (s.bstep c (s.col c).step).a = false)
    (hB : (s.elapse dt).batchCond c (s.bstep c (s.col c).step).b = false) (hmax : 0 < (s.bstep c (s.col c).step).tmax)
    (hdue : (s.col c).entryMt + (s.bstep c (s.col c).step).tmax * 100000000 ≤ (s.elapse dt).now) :
    ∃ t, exec (.batchTmax dt c) s = .next t ∧ (t.col c).view = { (s.col c).view with bst := .paused, doOut := 0 } ∧
      (s.pLdg c 0x16 < 48 → (t.loop (s.pLdg c 0x16)).sp = s.par (0x3018 + 0x40 * c)) := by
  have hcol := h.col
  have hidle := h.tick_stays hA hB
  obtain ⟨v, hv⟩ : ∃ v, v = (s.elapse dt).onPower fun p => { p with batchMs := (s.elapse dt).now / 100000 } := ⟨_, rfl⟩
  have hrun : (v.col c).bst = .running := hv ▸ h.runs.running
  have hlen : c < v.cols.length := hv ▸ h.colLen
  obtain ⟨t, hexec, hcols, hcle⟩ := execBatchTmax_of_due dt (hidle.trans hv.symm) hrun (by simpa [hv] using hmax)
    (by simpa only [hv, State.onPower_col, State.onPower_bstep, State.onPower_bmt, State.elapse_col, State.elapse_bstep, h.bmt] using hdue)
  obtain ⟨hview, hsp⟩ := State.batchPause_reads hcol hlen hrun
  have hsafe : v.par (0x3018 + 0x40 * c) = s.par (0x3018 + 0x40 * c) := by
    rw [hv, State.onPower_par, State.elapse_par_ledger (by omega)]
  have hloop : v.pLdg c 0x16 = s.pLdg c 0x16 := by simp [hv]
  rw [hsafe, hloop] at hsp
  refine ⟨t, hexec, ?_, fun hl => ?_⟩
  · rw [State.col_congr hcols, hview]
    simp [hv]
  · rw [← hsp hl (by simpa [hv] using h.loops), State.loop, State.loop, hcle]

-- The obligation ---------------------------------------------------------------------------------------------------

/-- Settles O25: Table 5.6 through the view of the program that a step, an end or a pause leaves, Table 5.9 branch by branch, and
Table 5.8 through the bytes of the answer. -/
theorem batchProgramsRunByTheirSteps : Obligations.BatchProgramsRunByTheirSteps := by
  refine ⟨?conditions, ?step, ?read⟩
  case conditions =>
    rintro dt c _ s _ _ hc hlen rfl hlive hrunning hmode hrun hdue rfl halone hloops rfl
    have h : s.batchAlone dt c := ⟨hc, hlen, hrunning, hmode, hrun, hlive, hdue, halone, hloops⟩
    refine ⟨?taken, fun hA hB => ⟨?stays, fun hmax hover => ?tmax⟩⟩
    case taken =>
      rintro n _ hn rfl
      have htick : exec (.batchConditionTick dt) s = .next ((s.elapse dt).tickedTo c n) := congrArg Host.Outcome.next (h.tick_takes hn)
      refine ⟨_, _, htick, rfl, rfl, fun hn16 hlo hhi => ?_, fun hend => ?_, fun _ htoks hheat => h.tickedTo_frame htoks hheat⟩
      · obtain ⟨hview, hsp⟩ := h.tickedTo_step hn16 hlo hhi
        exact ⟨congrArg ProgramView.bst hview, congrArg ProgramView.step hview, congrArg ProgramView.entryMt hview,
          congrArg ProgramView.hostC hview, congrArg ProgramView.doOut hview, hsp, congrArg ProgramView.nextSeq hview⟩
      · obtain ⟨⟨q, hview, hseqs⟩, hsp⟩ := h.tickedTo_end hend
        refine ⟨congrArg ProgramView.bst hview, congrArg ProgramView.doOut hview, congrArg ProgramView.nextSeq hview, hsp, fun hdepth => ?_⟩
        obtain ⟨hopened, hclosed⟩ := hseqs hdepth
        exact ⟨(congrFun (congrArg ProgramView.seqs hview) 0).trans hopened, (congrFun (congrArg ProgramView.seqs hview) 1).trans hclosed⟩
    case stays => exact congrArg Host.Outcome.next (h.tick_stays hA hB)
    case tmax =>
      obtain ⟨t, hexec, hview, hsp⟩ := h.tmax_pauses hA hB hmax hover
      exact ⟨t, hexec, congrArg ProgramView.bst hview, congrArg ProgramView.doOut hview, congrArg ProgramView.step hview, hsp⟩
  case step =>
    intro dt f c op i status b b' s fl hfl hready hc hop hi hc4 hlen hb hmode hrun hlive hserved hi16 hlo hhi hslo hshi hs16 hrow
    obtain ⟨hop6, hout⟩ := batchOutcome_of_row _ hrow
    have hmay : (s.elapse dt).stepMayRun c i :=
      ⟨hc4, by simpa using hlen, by simpa using hmode, by simp [State.evaluating, hrun], hi16, by simpa using hlo, by simpa using hhi⟩
    have hms : (s.elapse dt).bmt / 100000 ≤ s.power.batchMs := by rwa [State.bmt_eq_now (by simpa using hlive)]
    obtain ⟨u, res, hbody, hbst, hrefused, hset, hhost⟩ :=
      batchStepBody_carriesOut (fl := fl) hmay hc hop hi hop6 (by simpa using ⟨hs16, hslo, hshi⟩) (by simpa using hb)
    have hout : batchOutcome op b = (status, b') := hout
    rw [hout] at hbody hbst hrefused hset hhost
    exact ⟨u, res, exec_batchStep_of_served hfl hready hms hbody, hbst, hrefused, hset, hhost⟩
  case read =>
    intro dt f c i v s fl hfl hready hc hc4 hv hi
    have hframe : sameBut [.cols, .power] (s.elapse dt) (s.elapse dt).heat := (s.elapse dt).heat_sameBut_cols.symm
    refine ⟨?status, fun hhalf hdepth => ?record, fun hbad => ?bad⟩
    case status =>
      rintro rfl
      obtain ⟨shifts, step, rpt, r, hbody⟩ := ledgerReadBody_status (s := s.elapse dt) hc hc4 hv
      rw [State.elapse_geo, State.elapse_col] at hbody
      exact ⟨_, _, exec_ledgerRead_of_ready hfl hready hbody, hframe, status_reads _ _ _ step rpt shifts _ r rfl⟩
    case record =>
      exact ⟨_, exec_ledgerRead_of_ready hfl hready (ledgerReadBody_record hc hc4 hv hi hhalf (by simpa using hdepth)), hframe⟩
    case bad => exact exec_ledgerRead_of_ready hfl hready (ledgerReadBody_bad hc hv hi (by simpa using hbad))

end Sys2Proof.Machine
end

section
/-! PROOFS. The channels and sequencers of the probe groups (06 R136, R146): what the rules of a group read, what a delivered
sample writes, and what a trigger and an abort make of a group. -/

namespace Sys2Proof.Machine

variable {s t u : State} {g k n ch : Nat}

-- Reads after writes ------------------------------------------------------------------------------------------

theorem State.group_congr (h : s.probe.groups = t.probe.groups) (g : Nat) : s.group g = t.group g := by
  simp only [State.group, h]
theorem State.chan_congr (h : s.probe.chans = t.probe.chans) (n : Nat) : s.chan n = t.chan n := by
  simp only [State.chan, h]

theorem State.onGroup_group_self (hg : g < s.probe.groups.length) (f : Group → Group) : (s.onGroup g f).group g = f (s.group g) := by
  simp [State.group, List.getD_eq_getElem?_getD, hg]
@[simp] theorem State.onGroup_group_ne (h : k ≠ g) (f : Group → Group) : (s.onGroup g f).group k = s.group k := by
  simp [State.group, List.getD_eq_getElem?_getD, List.getElem?_modify_ne _ _ h.symm]
theorem State.onChan_chan_self (hn : n < s.probe.chans.length) (f : Chan → Chan) : (s.onChan n f).chan n = f (s.chan n) := by
  simp [State.chan, List.getD_eq_getElem?_getD, hn]
@[simp] theorem State.onChan_chan_ne (h : k ≠ n) (f : Chan → Chan) : (s.onChan n f).chan k = s.chan k := by
  simp [State.chan, List.getD_eq_getElem?_getD, List.getElem?_modify_ne _ _ h.symm]
@[simp] theorem State.onGroup_chan (f : Group → Group) : (s.onGroup g f).chan n = s.chan n := rfl

/-- Two updates that agree on a group's present state are one update. -/
theorem State.onGroup_congr {f f' : Group → Group} (h : f (s.group g) = f' (s.group g)) : s.onGroup g f = s.onGroup g f' := by
  have hmodify : s.probe.groups.modify g f = s.probe.groups.modify g f' := by
    refine List.ext_getElem? fun i => ?_
    simp only [List.getElem?_modify]
    split
    next hi =>
      subst hi
      cases hx : s.probe.groups[g]? with
      | none => rfl
      | some x => simpa [State.group, List.getD_eq_getElem?_getD, hx] using h
    · rfl
  simp only [State.onGroup, State.onProbe, hmodify]

theorem State.onGroup_onGroup (s : State) (g : Nat) (f f' : Group → Group) : (s.onGroup g f).onGroup g f' = s.onGroup g (f' ∘ f) := by
  simp [State.onGroup, State.onProbe, List.modify_modify_eq]

@[simp] theorem State.elapse_group (s : State) (dt g : Nat) : (s.elapse dt).group g = s.group g := State.group_congr (by simp) g
@[simp] theorem State.elapse_chan (s : State) (dt n : Nat) : (s.elapse dt).chan n = s.chan n := State.chan_congr (by simp) n

-- What the rules read beside the group itself -----------------------------------------------------------------

section
variable {ps : List Part} (h : sameBut ps t.quiet s.quiet)
include h

theorem sameBut.pCh_eq (hs : .store ∉ ps) (hu : .sup ∉ ps) (n o : Nat) : t.pCh n o = s.pCh n o := by
  simp only [State.pCh, State.parN, h.par_eq hs hu]
theorem sameBut.pSq_eq (hs : .store ∉ ps) (hu : .sup ∉ ps) (g o : Nat) : t.pSq g o = s.pSq g o := by
  simp only [State.pSq, State.parN, h.par_eq hs hu]
theorem sameBut.unit_eq (hun : .unit ∉ ps) : t.unit = s.unit := h.part_eq (p := State.unit) fun x => by simp [State.but, hun]
theorem sameBut.converting_eq (hun : .unit ∉ ps) : t.converting = s.converting := by
  simp only [State.converting, State.isSt, h.unit_eq hun]
theorem sameBut.isResetting_eq (hu : .sup ∉ ps) (n : Nat) : t.isResetting n = s.isResetting n := by
  simp only [State.isResetting, h.sup_eq hu]
end

section
variable (s)
@[simp] theorem State.elapse_pCh (dt n o : Nat) : (s.elapse dt).pCh n o = s.pCh n o :=
  (s.elapse_frame dt).pCh_eq (by decide) (by decide) n o
@[simp] theorem State.elapse_pSq (dt g o : Nat) : (s.elapse dt).pSq g o = s.pSq g o :=
  (s.elapse_frame dt).pSq_eq (by decide) (by decide) g o
@[simp] theorem State.elapse_converting (dt : Nat) : (s.elapse dt).converting = s.converting :=
  (s.elapse_frame dt).converting_eq (by decide)
@[simp] theorem State.elapse_isResetting (dt n : Nat) : (s.elapse dt).isResetting n = s.isResetting n :=
  (s.elapse_frame dt).isResetting_eq (by decide) n
end

/-- A unit whose groups convert is in no reprint (06 R163). -/
theorem State.not_reprint_of_converting (h : s.converting = true) : s.isSt .reprint = false := by
  cases hst : s.unit.st <;> simp_all [State.converting, State.isSt]

-- A delivered sample (06 R143, R164) --------------------------------------------------------------------------

/-- A sample is the last of its channel, and counted by its status. -/
def Chan.took (x : Sample) (now : Nat) (c : Chan) : Chan :=
  { c with
    last := x, lastMt := now
    okVal := if x.code = .ok then x.value.map fun v => (v, x.stamp) else c.okVal
    nSusp := if x.code = .suspect then incW 16 c.nSusp else c.nSusp
    nBrok := if x.code = .broken then incW 16 c.nBrok else c.nBrok }

theorem State.fanOut_probe (s : State) (src : Source) (epoch : Nat) (code : SCode) (value : Option Int) (stamp : Nat) :
    (s.fanOut src epoch code value stamp).probe = s.probe := by
  refine List.foldlRecOn (motive := fun a : State => a.probe = s.probe) _ _ rfl fun a ha c _ => ?_
  dsimp only
  split <;> exact ha

theorem streamSample_probe (s : State) (g : Nat) (x : Sample) :
    (streamSample s g x).probe.chans = s.probe.chans ∧ (streamSample s g x).probe.groups = s.probe.groups := by
  have streamed (l : List Stream) : (l.foldl (fun a t => a.stream t.xq (sampleBytes x) (5 + g) 0 x.epoch) s).probe = s.probe :=
    List.foldlRecOn (motive := fun a : State => a.probe = s.probe) _ _ rfl fun a ha _ _ => ha
  unfold streamSample
  simp only [State.onProbe_probe, streamed, and_self]

theorem State.deliver_probe (s : State) (g : Nat) (x : Sample) :
    (s.deliver g x).probe.chans = s.probe.chans.modify x.ch (Chan.took x s.bmt) ∧ (s.deliver g x).probe.groups = s.probe.groups := by
  have hbreak (v : State) (old new : SCode) : (breakSlug v g x.ch old new).probe = v.probe :=
    (quiet_parts (breakSlug_quiet v g x.ch old new)).2.2.2.2.1
  unfold State.deliver
  dsimp only
  rw [State.fanOut_probe, (streamSample_probe _ g x).1, (streamSample_probe _ g x).2, State.record_probe, hbreak]
  exact ⟨rfl, rfl⟩

theorem State.deliver_chan_self (x : Sample) (hx : x.ch = ch) (hlen : ch < s.probe.chans.length) :
    (s.deliver g x).chan ch = (s.chan ch).took x s.bmt := by
  subst hx
  rw [State.chan_congr (t := s.onChan x.ch (Chan.took x s.bmt)) (s.deliver_probe g x).1, State.onChan_chan_self hlen]
theorem State.deliver_chan_ne (x : Sample) (hn : n ≠ x.ch) : (s.deliver g x).chan n = s.chan n := by
  rw [State.chan_congr (t := s.onChan x.ch (Chan.took x s.bmt)) (s.deliver_probe g x).1, State.onChan_chan_ne hn]

-- What a trigger makes of a group (06 R146 to R150) -----------------------------------------------------------

namespace Group
variable (x : Group)

/-- The pass that begins at `mt`. -/
def begun (src marks mt : Nat) : Group :=
  { x with phase := .settling, slotMt := mt, idx := 0, preFail := false, pass := incW 16 x.pass, src, marks }
def idled : Group := { x with phase := .idle, idx := 0, preFail := false }
def overran : Group := { x with overrun := incW 32 x.overrun }

/-- A trigger at `mt` of a sequencer with so many list entries and this SQ_POLICY: the acceptance, and the group (06 R147). -/
def triggered (entries policy src marks mt : Nat) : Acc × Group :=
  if entries = 0 then (.dropped, x.overran)
  else if x.phase = .idle then (.accepted, x.begun src marks mt)
  else if policy = 1 then (.replaced, { x with restart := incW 32 x.restart, pended := none }.begun src marks mt)
  else if policy = 0 ∧ x.pended = none then (.pended, { x with pended := some (src, marks) })
  else (.dropped, x.overran)

variable {x} {entries policy : Nat} (src marks mt : Nat)

theorem triggered_of_empty (h : entries = 0) : x.triggered entries policy src marks mt = (.dropped, x.overran) := if_pos h

section
variable (hlist : entries ≠ 0)
include hlist
theorem triggered_of_idle (h : x.phase = .idle) :
    x.triggered entries policy src marks mt = (.accepted, x.begun src marks mt) := by simp [triggered, hlist, h]

variable (hbusy : x.phase ≠ .idle)
include hbusy
theorem triggered_of_restart (h : policy = 1) : x.triggered entries policy src marks mt =
    (.replaced, { x with restart := incW 32 x.restart, pended := none }.begun src marks mt) := by simp [triggered, hlist, hbusy, h]
theorem triggered_of_room (h : policy = 0) (hnone : x.pended = none) :
    x.triggered entries policy src marks mt = (.pended, { x with pended := some (src, marks) }) := by
  simp [triggered, hlist, hbusy, h, hnone]
theorem triggered_of_drop (h : policy ≠ 1) (hfull : policy = 0 → x.pended ≠ none) :
    x.triggered entries policy src marks mt = (.dropped, x.overran) := by
  simp only [triggered, hlist, hbusy, h, if_false]
  exact if_neg fun hroom => hfull hroom.1 hroom.2
end

end Group

theorem State.startPass_eq (s : State) (g src marks mt : Nat) :
    s.startPass g src marks mt = s.onGroup g fun x => x.begun src marks mt := rfl

/-- An abort leaves the group idle with the abort counted; the other groups stay. -/
theorem State.abortPass_groups (hidle : (s.group g).phase ≠ .idle) :
    (s.abortPass g).probe.groups = s.probe.groups.modify g fun x => { x with restart := incW 32 x.restart }.idled := by
  have hcounted (v w : State) (c : Bool) (hv : v.probe.groups = w.probe.groups) :
      (if c then w else v).probe.groups = w.probe.groups := by
    split
    · rfl
    · exact hv
  unfold State.abortPass
  rw [if_neg hidle]
  dsimp only [State.onGroup_probe]
  rw [hcounted _ _ _ (State.deliver_probe ..).2, State.onGroup_probe, List.modify_modify_eq]
  rfl

section
variable (hlive : s.isSt .reprint = false) (hres : s.isResetting (5 + g) = false) (hconv : s.converting = true) (src marks : Nat)
include hlive hres hconv

/-- A trigger that aborts no pass changes its group only. -/
theorem State.trigger_of_calm (hcalm : s.pSq g 3 = 0 ∨ (s.group g).phase = .idle ∨ s.pSq g 0 ≠ 1) :
    s.trigger g src marks = (((s.group g).triggered (s.pSq g 3) (s.pSq g 0) src marks s.now).1,
      s.onGroup g fun x => (x.triggered (s.pSq g 3) (s.pSq g 0) src marks s.now).2) := by
  have put (a : Acc) (f : Group → Group) (h : (s.group g).triggered (s.pSq g 3) (s.pSq g 0) src marks s.now = (a, f (s.group g))) :
      (a, s.onGroup g f) = (((s.group g).triggered (s.pSq g 3) (s.pSq g 0) src marks s.now).1,
        s.onGroup g fun x => (x.triggered (s.pSq g 3) (s.pSq g 0) src marks s.now).2) := by
    rw [State.onGroup_congr (f' := fun x => (x.triggered (s.pSq g 3) (s.pSq g 0) src marks s.now).2) (by rw [h]), h]
  unfold State.trigger
  simp only [hres, hlive, hconv, Bool.not_true, Bool.false_eq_true, or_false, if_false]
  split
  next hlist => exact put _ _ (Group.triggered_of_empty _ _ _ hlist)
  next hlist =>
    split
    next hidle => exact put _ _ (Group.triggered_of_idle _ _ _ hlist hidle)
    next hbusy =>
      split
      next hpend =>
        split
        next hnone => exact put _ _ (Group.triggered_of_room _ _ _ hlist hbusy hpend (Option.isNone_iff_eq_none.1 hnone))
        next hsome =>
          exact put _ _ (Group.triggered_of_drop _ _ _ hlist hbusy (by omega) fun _ => mt Option.isNone_iff_eq_none.2 hsome)
      next hrestart => simp [hlist, hbusy, hrestart] at hcalm
      next hpend hrestart => exact put _ _ (Group.triggered_of_drop _ _ _ hlist hbusy hrestart fun h => absurd h hpend)

/-- A trigger under RESTART aborts the running pass and begins the next at once (06 R148). -/
theorem State.trigger_of_restart (hlist : s.pSq g 3 ≠ 0) (hbusy : (s.group g).phase ≠ .idle) (hrestart : s.pSq g 0 = 1) :
    (s.trigger g src marks).1 = .replaced ∧ (s.trigger g src marks).2.probe.groups = (s.onGroup g fun x =>
      { x with restart := incW 32 x.restart, pended := none }.begun src marks s.now).probe.groups := by
  unfold State.trigger
  simp only [hres, hlive, hconv, hlist, hbusy, hrestart, Bool.not_true, Bool.false_eq_true, or_false, if_false]
  rw [State.startPass_eq, State.onGroup_onGroup, State.onGroup_probe, State.abortPass_groups hbusy, List.modify_modify_eq]
  exact ⟨trivial, rfl⟩

/-- A trigger's acceptance, and its group by the policy; the other groups stay. -/
theorem State.trigger_reads (hg : g < s.probe.groups.length) :
    (s.trigger g src marks).1 = ((s.group g).triggered (s.pSq g 3) (s.pSq g 0) src marks s.now).1 ∧
    (s.trigger g src marks).2.group g = ((s.group g).triggered (s.pSq g 3) (s.pSq g 0) src marks s.now).2 ∧
    ∀ k, k ≠ g → (s.trigger g src marks).2.group k = s.group k := by
  by_cases hcalm : s.pSq g 3 = 0 ∨ (s.group g).phase = .idle ∨ s.pSq g 0 ≠ 1
  · rw [State.trigger_of_calm hlive hres hconv src marks hcalm]
    exact ⟨rfl, State.onGroup_group_self hg _, fun k hk => State.onGroup_group_ne hk _⟩
  · simp only [not_or, not_not] at hcalm
    obtain ⟨hlist, hbusy, hrestart⟩ := hcalm
    obtain ⟨hacc, hgroups⟩ := State.trigger_of_restart hlive hres hconv src marks hlist hbusy hrestart
    rw [Group.triggered_of_restart _ _ _ hlist hbusy hrestart]
    refine ⟨hacc, ?_, fun k hk => ?_⟩
    · rw [State.group_congr hgroups, State.onGroup_group_self hg]
    · rw [State.group_congr hgroups, State.onGroup_group_ne hk]
end
end Sys2Proof.Machine
end

section
/-! PROOFS. SEQ_TRIG and SEQ_TRIGGER (06 R146 to R150, Tables 6.5, 6.13). -/

namespace Sys2Proof.Machine

variable {s t u v w : State} {g dt : Nat}

theorem State.trigger_of_reset (hres : s.isResetting (5 + g) = true) (src marks : Nat) : s.trigger g src marks = (.discarded, s) :=
  if_pos hres

/-- Two states that agree in all but the imposition differ by a write of the imposition. -/
theorem sameBut.imp_only (h : sameBut [.imp] v u) : v = u.onImp fun _ => v.imp := by
  cases v
  cases u
  simpa [sameBut, State.but, State.onImp] using h

-- The action of a slot (03 R79, Table 3.3) ---------------------------------------------------------------------

theorem exec_seqTrig_of_taken {y : Firing} (htake : (s.elapse dt).takeAction 1 g = some (y, v)) :
    exec (.seqTrig dt g) s = .next ((v.trigger g 0 y.marks).2.reportAcc y.slot (v.trigger g 0 y.marks).1) := by
  show execSeqTrig dt g s = _
  simp only [execSeqTrig, htake]

/-- A sequencer answers the slot that triggered it: the slot is told, the inbox stays empty, the groups stay (03 R89). -/
theorem State.reportAcc_after_trigger (hw : sameBut sampleParts w.quiet v.quiet) (hrise : keysRise v.imp.slots) (slot : Nat) (a : Acc) :
    ((w.reportAcc slot a).slotLive slot).lastAcc = accCode a ∧ (w.reportAcc slot a).imp.inbox = v.imp.inbox ∧
    (w.reportAcc slot a).probe = w.probe := by
  have himp : w.imp = v.imp := hw.part_eq (p := State.imp) fun _ => rfl
  obtain ⟨hacc, hbox⟩ := State.reportAcc_told (himp ▸ hrise) slot a
  exact ⟨hacc, hbox.trans (by rw [himp]), (w.reportAcc_frame slot a).part_eq (p := State.probe) fun _ => rfl⟩

-- The command (06 Table 6.13) ----------------------------------------------------------------------------------

section
variable {f : Nat} {fl : Flight} (hf : s.flight? f = some fl) (hready : ready fl 0x38 = true) (htarget : fl.e.target = 5 + g)
include hf hready htarget

theorem exec_seqTrigger_of_empty (hlist : s.pSq g 3 = 0) :
    exec (.seqTrigger dt f) s = .next ((s.elapse dt).complete f sNOTST []) := by
  have hbody : seqTriggerBody fl (s.elapse dt) = .err (s.elapse dt) sNOTST := by simp [seqTriggerBody, htarget, hlist]
  show Host.Outcome.next (runCmd 0x38 f seqTriggerBody (s.elapse dt)) = _
  rw [runCmd_ready seqTriggerBody (by simpa using hf) hready, hbody]
  rfl

theorem exec_seqTrigger_of_freeRun (hlist : s.pSq g 3 ≠ 0) (hfree : s.pSq g 1 = 1) :
    exec (.seqTrigger dt f) s = .next ((s.elapse dt).complete f sBUSY []) := by
  have hbody : seqTriggerBody fl (s.elapse dt) = .err (s.elapse dt) sBUSY := by simp [seqTriggerBody, htarget, hlist, hfree]
  show Host.Outcome.next (runCmd 0x38 f seqTriggerBody (s.elapse dt)) = _
  rw [runCmd_ready seqTriggerBody (by simpa using hf) hready, hbody]
  rfl

/-- A command that aborts no pass answers with the acceptance, the PASS it runs in and the counters. -/
theorem exec_seqTrigger_of_calm (hlist : s.pSq g 3 ≠ 0) (hpaced : s.pSq g 1 ≠ 1) (hg : g < s.probe.groups.length)
    (hconv : s.converting = true) (hres : s.isResetting (5 + g) = false) (hcalm : (s.group g).phase = .idle ∨ s.pSq g 0 ≠ 1)
    (put : Group → Group) (a : Acc)
    (hput : (s.group g).triggered (s.pSq g 3) (s.pSq g 0) 1 0 (s.elapse dt).now = (a, put (s.group g))) :
    exec (.seqTrigger dt f) s = .next (((s.elapse dt).onGroup g put).complete f sOK ([accCode a, 0] ++
      le 2 (if a = .pended then incW 16 (put (s.group g)).pass else (put (s.group g)).pass) ++
      le 2 (put (s.group g)).overrun ++ le 2 (put (s.group g)).restart)) := by
  have hconvU : (s.elapse dt).converting = true := by simpa using hconv
  have htrigger := State.trigger_of_calm (s := s.elapse dt) (State.not_reprint_of_converting hconvU) (by simpa using hres) hconvU 1 0
    (by simpa using .inr hcalm)
  simp only [State.elapse_group, State.elapse_pSq, hput] at htrigger
  rw [State.onGroup_congr (f' := put) (by rw [State.elapse_group, hput])] at htrigger
  have hgroup : ((s.elapse dt).onGroup g put).group g = put (s.group g) := by
    rw [State.onGroup_group_self (by simpa using hg), State.elapse_group]
  have hbody : seqTriggerBody fl (s.elapse dt) = .ok ((s.elapse dt).onGroup g put) ([accCode a, 0] ++
      le 2 (if a = .pended then incW 16 (put (s.group g)).pass else (put (s.group g)).pass) ++
      le 2 (put (s.group g)).overrun ++ le 2 (put (s.group g)).restart) := by
    simp [seqTriggerBody, htarget, hlist, hpaced, htrigger, hgroup]
  show Host.Outcome.next (runCmd 0x38 f seqTriggerBody (s.elapse dt)) = _
  rw [runCmd_ready seqTriggerBody (by simpa using hf) hready, hbody]
  rfl
end

/-- Settles O26: a trigger makes of its group what the policy says, whether a slot's action or the command brings it (06 R147). -/
theorem sequencersTakeTriggersByPolicy : Obligations.SequencersTakeTriggersByPolicy := by
  rintro dt g mt s x hg hlen rfl hrep hconv rfl
  have hg4 : g < s.probe.groups.length := hlen ▸ hg
  refine ⟨fun y hbox hact hidx hrise => ?slot, fun f fl hf hready htarget hres => ?command⟩
  case slot =>
    obtain ⟨v, htake, himp, -, -, hsame⟩ := State.takeAction_of_single (s := s.elapse dt) (by simpa using hbox) hact hidx
    have hquiet : sameBut [.imp] v.quiet (s.elapse dt).quiet := by
      rw [hsame.imp_only]
      rfl
    have hprobeV : v.probe = s.probe := by simpa using hsame.part_eq (p := State.probe) fun _ => rfl
    have hgroup (k : Nat) : v.group k = s.group k := State.group_congr (by rw [hprobeV]) k
    have hpSq (o : Nat) : v.pSq g o = s.pSq g o := by simpa using hquiet.pSq_eq (by decide) (by decide) g o
    have hresV : v.isResetting (5 + g) = s.isResetting (5 + g) := by simpa using hquiet.isResetting_eq (by decide) (5 + g)
    have hconvV : v.converting = true := by simpa [hconv] using hquiet.converting_eq (by decide)
    have hliveV := State.not_reprint_of_converting hconvV
    have hnow : v.now = (s.elapse dt).now := hsame.part_eq (p := State.now) fun _ => rfl
    obtain ⟨hacc, hinbox, hprobe⟩ := State.reportAcc_after_trigger (v.trigger_frame g 0 y.marks)
      (by rw [himp]; simpa [keysRise] using hrise) y.slot (v.trigger g 0 y.marks).1
    have hread (k : Nat) := State.group_congr (congrArg ProbeSt.groups hprobe) k
    refine ⟨_, _, _, exec_seqTrig_of_taken htake, rfl, hacc, hinbox.trans (by rw [himp]), fun hres => ?reset, fun hres => ?live,
      fun k hk => ?others, fun hcalm => ?frame⟩
    case reset =>
      rw [hread, State.trigger_of_reset (hresV.trans hres)]
      exact ⟨rfl, hgroup g⟩
    case live =>
      obtain ⟨ha, hz, -⟩ := State.trigger_reads hliveV (hresV.trans hres) hconvV 0 y.marks (hprobeV ▸ hg4)
      rw [hread, ha, hz, hgroup, hpSq, hpSq, hnow]
      refine ⟨fun hlist => ?_, fun hlist hidle => ?_, fun hlist hbusy =>
        ⟨fun hp hnone => ?_, fun hp hsome => ?_, fun hp => ?_, fun hp => ?_⟩⟩
      · rw [Group.triggered_of_empty _ _ _ hlist]
        exact ⟨rfl, rfl⟩
      · rw [Group.triggered_of_idle _ _ _ hlist hidle]
        exact ⟨rfl, rfl⟩
      · rw [Group.triggered_of_room _ _ _ hlist hbusy hp hnone]
        exact ⟨rfl, rfl⟩
      · rw [Group.triggered_of_drop _ _ _ hlist hbusy (by omega) fun _ => hsome]
        exact ⟨rfl, rfl⟩
      · rw [Group.triggered_of_restart _ _ _ hlist hbusy hp]
        exact ⟨rfl, rfl⟩
      · rw [Group.triggered_of_drop _ _ _ hlist hbusy (by omega) (by omega)]
        exact ⟨rfl, rfl⟩
    case others =>
      rw [hread]
      by_cases hres : v.isResetting (5 + g) = true
      · rw [State.trigger_of_reset hres, hgroup]
      · obtain ⟨-, -, hothers⟩ := State.trigger_reads hliveV (by simpa using hres) hconvV 0 y.marks (hprobeV ▸ hg4)
        rw [hothers k hk, hgroup]
    case frame =>
      suffices hw : sameBut [.imp, .probe] (v.trigger g 0 y.marks).2.quiet v.quiet ∧
          (v.trigger g 0 y.marks).2.probe.chans = v.probe.chans by
        refine ⟨?_, by rw [hprobe, hw.2, hprobeV]⟩
        exact ((State.reportAcc_frame ..).mono (by decide)).trans (hw.1.trans (hquiet.mono (by decide)))
      by_cases hres : v.isResetting (5 + g) = true
      · rw [State.trigger_of_reset hres]
        exact ⟨rfl, rfl⟩
      · rw [State.trigger_of_calm hliveV (by simpa using hres) hconvV 0 y.marks (.inr (by rwa [hgroup, hpSq]))]
        exact ⟨rfl, rfl⟩
  case command =>
    have hanswers := fun hlist hpaced => exec_seqTrigger_of_calm (dt := dt) hf hready htarget hlist hpaced hg4 hconv hres
    refine ⟨exec_seqTrigger_of_empty hf hready htarget, exec_seqTrigger_of_freeRun hf hready htarget, fun hlist hpaced hidle => ?_,
      fun hlist hpaced hbusy hp hnone => ?_, fun hlist hpaced hbusy hdrop => ?_⟩
    · exact hanswers hlist hpaced (.inl hidle) _ .accepted (Group.triggered_of_idle _ _ _ hlist hidle)
    · exact hanswers hlist hpaced (.inr (by omega)) _ .pended (Group.triggered_of_room _ _ _ hlist hbusy hp hnone)
    · exact hanswers hlist hpaced (.inr (by omega)) _ .dropped (Group.triggered_of_drop _ _ _ hlist hbusy (by omega) fun hp =>
        hdrop.elim (by omega) And.right)

end Sys2Proof.Machine
end

section
/-! PROOFS. The grain tables of MOIST channels (06 R141). -/

namespace Sys2Proof.Machine

theorem rdiv_zero {b : Int} (hb : 0 < b) : rdiv 0 b = 0 := by
  rw [rdiv, mul_zero, zero_add]
  exact Int.ediv_eq_zero_of_lt hb.le (by omega)

theorem rdiv_mul_self {b : Int} (hb : 0 < b) (a : Int) : rdiv (a * b) b = a := by
  rw [rdiv, show 2 * (a * b) + b = b + a * (2 * b) by ring, Int.add_mul_ediv_right _ _ (by omega),
    Int.ediv_eq_zero_of_lt hb.le (by omega), zero_add]

/-- The value of a capacitance between point `i` of a grain table and the next, before compensation (06 R141). -/
def grainAt (gc gm : Nat → Int) (c : Int) (i : Nat) : Int :=
  gm i + rdiv ((gm (i + 1) - gm i) * (c - gc i)) (gc (i + 1) - gc i)

section
variable {gc gm : Nat → Int} {c : Int} {i j n : Nat} (hrise : ∀ i, i + 1 < n → gc i < gc (i + 1))
include hrise

theorem grain_le_of_le (hij : i ≤ j) (hj : j < n) : gc i ≤ gc j := by
  induction j, hij using Nat.le_induction with
  | base => rfl
  | succ j _ ih => exact (ih (by omega)).trans (hrise j hj).le

/-- The first interval of a rising table that holds a capacitance is any that holds it, or the one before, which meets it at
the capacitance. -/
theorem grain_interval (hi : i + 1 < n) (hlo : gc i ≤ c) (hhi : c ≤ gc (i + 1)) (hhiJ : c ≤ gc (j + 1))
    (hfirst : ∀ k, k < j → ¬(gc k ≤ c ∧ c ≤ gc (k + 1))) : j = i ∨ i = j + 1 ∧ c = gc i := by
  have hji : j ≤ i := by
    by_contra hlt
    exact hfirst i (by omega) ⟨hlo, hhi⟩
  rcases hji.eq_or_lt with heq | hlt
  · exact .inl heq
  · have hbefore : gc (j + 1) ≤ gc i := grain_le_of_le hrise hlt (by omega)
    have hc : c = gc i := le_antisymm (hhiJ.trans hbefore) hlo
    refine .inr ⟨?_, hc⟩
    by_contra hne
    have hgap : gc (j + 1) < gc (j + 2) := hrise (j + 1) (by omega)
    have hnext : gc (j + 2) ≤ gc i := grain_le_of_le hrise (by omega) (by omega)
    omega

/-- Two intervals of a rising table that meet give one value where they meet. -/
theorem grainAt_meet (hj : j + 2 < n) : grainAt gc gm (gc (j + 1)) j = grainAt gc gm (gc (j + 1)) (j + 1) := by
  have hlow : 0 < gc (j + 1) - gc j := Int.sub_pos.2 (hrise j (by omega))
  have hhigh : 0 < gc (j + 1 + 1) - gc (j + 1) := Int.sub_pos.2 (hrise (j + 1) hj)
  rw [grainAt, grainAt, rdiv_mul_self hlow, sub_self, mul_zero, rdiv_zero hhigh]
  ring

/-- Where a capacitance lies in an interval of a rising table, the table's search gives that interval's value. -/
theorem grain_find (hi : i + 1 < n) (hlo : gc i ≤ c) (hhi : c ≤ gc (i + 1)) :
    ∃ j, ((List.range (n - 1)).find? fun k => decide (gc k ≤ c ∧ c ≤ gc (k + 1))) = some j ∧
      grainAt gc gm c j = grainAt gc gm c i := by
  cases hfind : (List.range (n - 1)).find? fun k => decide (gc k ≤ c ∧ c ≤ gc (k + 1)) with
  | none =>
    rw [List.find?_eq_none] at hfind
    exact absurd (hfind i (by simpa using (by omega : i < n - 1))) (by simp [hlo, hhi])
  | some j =>
    obtain ⟨hin, hmem, hfirst⟩ := List.find?_range_eq_some.1 hfind
    rw [List.mem_range] at hmem
    rw [decide_eq_true_iff] at hin
    obtain rfl | ⟨rfl, rfl⟩ := grain_interval hrise hi hlo hhi hin.2 fun k hk => by
      simpa only [Bool.not_eq_true', decide_eq_false_iff_not] using hfirst k hk
    · exact ⟨_, rfl, rfl⟩
    · exact ⟨_, rfl, grainAt_meet hrise hi⟩

/-- A capacitance outside the points of a rising table lies in none of its intervals. -/
theorem grain_find_none (hout : c < gc 0 ∨ gc (n - 1) < c) :
    ((List.range (n - 1)).find? fun k => decide (gc k ≤ c ∧ c ≤ gc (k + 1))) = none := by
  rw [List.find?_eq_none]
  intro k hk
  rw [List.mem_range] at hk
  have hfirst : gc 0 ≤ gc k := grain_le_of_le hrise (Nat.zero_le k) (by omega)
  have hlast : gc (k + 1) ≤ gc (n - 1) := grain_le_of_le hrise (by omega) (by omega)
  simp only [decide_eq_true_eq]
  omega
end

/-- Settles O27: the table's search finds an interval that holds the capacitance, where there is one, and neighbouring intervals
agree where they meet (06 R141). -/
theorem grainTablesAreNeverExtrapolated : Obligations.GrainTablesAreNeverExtrapolated := by
  intro s ch tb n c tref kt gc gm _ htb hn hgc hgm htref hkt _ hrise
  unfold State.moist
  simp only [← htb, ← hn, ← hgc, ← hgm, ← htref, ← hkt]
  refine ⟨fun hempty => if_pos hempty, fun hfull hout => ?_, fun i m hfull hi hlo hhi hm => ?_⟩
  · rw [if_neg (not_lt.2 hfull), grain_find_none hrise hout]
  · obtain ⟨j, hfind, hval⟩ := grain_find hrise (gm := gm) hi hlo hhi
    rw [← grainAt, ← hval, grainAt] at hm
    rw [if_neg (not_lt.2 hfull), hfind]
    simp only [← hm, true_and]
    exact ⟨fun hout => if_pos hout, fun h0 h1 => if_neg (by omega)⟩

end Sys2Proof.Machine
end

section
/-! PROOFS. What a conversion may change (06 R138, R143, R151): the lead checks, the delivered sample, the averaging block. -/

namespace Sys2Proof.Machine

variable {s t u : State} {g k n ch : Nat}

-- What a conversion reads -------------------------------------------------------------------------------------

theorem State.lic_congr (h : ∀ o, t.pCh ch o = s.pCh ch o) : t.lic ch = s.lic ch := by simp only [State.lic, State.chMode, h]
theorem State.fourWire_congr (h : ∀ o, t.pCh ch o = s.pCh ch o) : t.fourWire ch = s.fourWire ch :=
  decide_eq_decide.2 (by simp only [State.chMode, h])
theorem State.integration_congr (h : ∀ o, t.pCh ch o = s.pCh ch o) : t.integration ch = s.integration ch := by
  simp [State.integration, State.chMode, h]

section
variable (s) (dt : Nat)
@[simp] theorem State.elapse_chMode (n : Nat) : (s.elapse dt).chMode n = s.chMode n := s.elapse_pCh dt n 0
@[simp] theorem State.elapse_lic (n : Nat) : (s.elapse dt).lic n = s.lic n := State.lic_congr fun o => s.elapse_pCh dt n o
@[simp] theorem State.elapse_fourWire (n : Nat) : (s.elapse dt).fourWire n = s.fourWire n :=
  State.fourWire_congr fun o => s.elapse_pCh dt n o
@[simp] theorem State.elapse_integration (n : Nat) : (s.elapse dt).integration n = s.integration n :=
  State.integration_congr fun o => s.elapse_pCh dt n o
@[simp] theorem State.elapse_epochOf (n : Nat) : (s.elapse dt).epochOf n = s.epochOf n := by simp [State.epochOf, State.node]
end

theorem State.onChan_of_length_le (h : s.probe.chans.length ≤ n) (f : Chan → Chan) : s.onChan n f = s := by
  have hmodify : s.probe.chans.modify n f = s.probe.chans := List.modify_eq_self h
  simp only [State.onChan, State.onProbe, hmodify]

theorem State.deliver_chans_length (s : State) (g : Nat) (x : Sample) :
    (s.deliver g x).probe.chans.length = s.probe.chans.length := by rw [(s.deliver_probe g x).1, List.length_modify]

-- What a conversion leaves alone ------------------------------------------------------------------------------

/-- What a conversion of channel `ch` leaves alone: the groups, and of every other channel all but the lead resistance, which
the check of a 4-wire pair writes in its other channel (06 R138, R151). -/
structure State.measured (ch : Nat) (t s : State) : Prop where
  frame : sameBut sampleParts t.quiet s.quiet
  groups : t.probe.groups = s.probe.groups
  len : t.probe.chans.length = s.probe.chans.length
  others : ∀ n, n ≠ ch → { t.chan n with leadR := 0 } = { s.chan n with leadR := 0 } ∧
    ((n ≠ ch + 1 ∨ s.fourWire ch = false) → t.chan n = s.chan n)

namespace State.measured

theorem refl (ch : Nat) (s : State) : s.measured ch s := ⟨rfl, rfl, rfl, fun _ _ => ⟨rfl, fun _ => rfl⟩⟩

section
variable (h : t.measured ch s)
include h

theorem pCh_eq (n o : Nat) : t.pCh n o = s.pCh n o := h.frame.pCh_eq (by decide) (by decide) n o
theorem pSq_eq (g o : Nat) : t.pSq g o = s.pSq g o := h.frame.pSq_eq (by decide) (by decide) g o
theorem chMode_eq (n : Nat) : t.chMode n = s.chMode n := h.pCh_eq n 0
theorem lic_eq (n : Nat) : t.lic n = s.lic n := State.lic_congr (h.pCh_eq n)
theorem fourWire_eq (n : Nat) : t.fourWire n = s.fourWire n := State.fourWire_congr (h.pCh_eq n)
theorem converting_eq : t.converting = s.converting := h.frame.converting_eq (by decide)
theorem group_eq (g : Nat) : t.group g = s.group g := State.group_congr h.groups g
theorem mkSample_eq (g : Nat) : t.mkSample g = s.mkSample g := by
  have hepoch : t.epochOf (5 + g) = s.epochOf (5 + g) := h.frame.part_eq (p := fun x => x.epochOf (5 + g)) fun _ => rfl
  funext n code value stamp
  simp only [State.mkSample, h.group_eq, hepoch]
end

theorem trans (h : t.measured ch u) (h' : u.measured ch s) : t.measured ch s where
  frame := h.frame.trans h'.frame
  groups := h.groups.trans h'.groups
  len := h.len.trans h'.len
  others n hn :=
    ⟨(h.others n hn).1.trans (h'.others n hn).1, fun hout =>
      ((h.others n hn).2 (by rwa [h'.fourWire_eq])).trans ((h'.others n hn).2 hout)⟩

theorem of_chan (hframe : sameBut sampleParts t.quiet s.quiet) (hgroups : t.probe.groups = s.probe.groups)
    (hlen : t.probe.chans.length = s.probe.chans.length) (hothers : ∀ n, n ≠ ch → t.chan n = s.chan n) : t.measured ch s :=
  ⟨hframe, hgroups, hlen, fun n hn => ⟨by rw [hothers n hn], fun _ => hothers n hn⟩⟩

theorem onChan (h : t.measured ch s) {f : Chan → Chan} : (t.onChan ch f).measured ch s :=
  trans (u := t) (of_chan rfl rfl (by simp) fun _ hn => State.onChan_chan_ne hn f) h

theorem deliver (h : t.measured ch s) {x : Sample} (hx : x.ch = ch) : (t.deliver g x).measured ch s :=
  trans (u := t) (of_chan (t.deliver_frame g x) (t.deliver_probe g x).2 (t.deliver_chans_length g x)
    fun _ hn => State.deliver_chan_ne x (hx ▸ hn)) h

theorem ite {c : Prop} [Decidable c] {a b : State} (ha : a.measured ch s) (hb : b.measured ch s) :
    (if c then a else b).measured ch s := by
  split
  · exact ha
  · exact hb

theorem endBlock (h : t.measured ch s) {n mt : Nat} : (t.endBlock g ch n mt).measured ch s :=
  ite (h.onChan.deliver rfl) (h.onChan.deliver rfl)

theorem converted (h : t.measured ch s) {q : Int} {overload postFail : Bool} {mt : Nat} :
    (t.converted g ch q overload postFail mt).measured ch s :=
  ite (h.onChan.deliver rfl) (ite (h.deliver rfl) (ite h.onChan h.onChan.endBlock))

end State.measured

-- The lead checks (06 R151) -----------------------------------------------------------------------------------

/-- The lead resistance that a check leaves on its channel. -/
def State.leadSeen (s : State) (ch a : Nat) : Nat := if s.lic ch then min a 0xFFFFFFFE else 0xFFFFFFFF

/-- The other channel of a 4-wire pair is written by its lead resistance only. -/
theorem State.onChan_pair_measured (ch b : Nat) (hpair : s.fourWire ch = true) :
    (s.onChan (ch + 1) fun c => { c with leadR := min b 0xFFFFFFFE }).measured ch s := by
  refine ⟨rfl, rfl, by simp, fun n hn => ⟨?_, fun hout => ?_⟩⟩
  · by_cases hn1 : n = ch + 1
    · subst hn1
      by_cases hlen : ch + 1 < s.probe.chans.length
      · rw [State.onChan_chan_self hlen]
      · rw [State.onChan_of_length_le (Nat.le_of_not_lt hlen)]
    · rw [State.onChan_chan_ne hn1]
  · exact State.onChan_chan_ne (hout.resolve_right (by simp [hpair])) _

theorem State.seeLeads_measured (s : State) (ch a b : Nat) : (s.seeLeads ch a b).measured ch s := by
  unfold State.seeLeads
  split
  · exact (State.measured.refl ch s).onChan
  · dsimp only
    split
    next hpair => exact .trans (State.onChan_pair_measured (s := s.onChan ch _) ch b hpair) (State.measured.refl ch s).onChan
    next => exact (State.measured.refl ch s).onChan

theorem State.seeLeads_chan (hlen : ch < s.probe.chans.length) (a b : Nat) :
    (s.seeLeads ch a b).chan ch = { s.chan ch with leadR := s.leadSeen ch a } := by
  unfold State.seeLeads State.leadSeen
  cases hlic : s.lic ch
  · simp [State.onChan_chan_self hlen]
  · simp only [Bool.not_true, Bool.false_eq_true, if_false, if_true]
    split
    · rw [State.onChan_chan_ne (by omega), State.onChan_chan_self hlen]
    · rw [State.onChan_chan_self hlen]

end Sys2Proof.Machine
end

section
/-! PROOFS. How a conversion is judged (06 R144, R145, R153, R154): its status and value by the channel's mode, a sample of its
own, and its averaging block. -/

namespace Sys2Proof.Machine

variable {s t u : State} {g ch : Nat}

theorem sat32_of_fits {v : Int} (hlo : -(2 ^ 31) ≤ v) (hhi : v < 2 ^ 31) : sat32 v = v := by
  simp only [sat32, clamp]
  omega

/-- Half of `n`, rounded up, is at most `k` where `n` is at most twice `k`. -/
theorem cdiv_two_le {n k : Nat} (h : n ≤ 2 * k) : cdiv n 2 ≤ k := by
  simp only [cdiv]
  omega

-- Status and value --------------------------------------------------------------------------------------------

/-- By the mode of a VOLT or RTD channel a quantity, or its resistance less the leads', has this value and this range (06 Table
6.1). -/
def State.ranges (s : State) (ch : Nat) (q r lo hi v : Int) : Prop :=
  s.chMode ch = 4 ∧ v = q ∧ lo = -12500000 ∧ hi = 12500000 ∨
  s.chMode ch = 1 ∧ v = rtdTemp 100 r ∧ lo = -5000 ∧ hi = 40000 ∨
  s.chMode ch = 2 ∧ v = rtdTemp 1000 r ∧ lo = -5000 ∧ hi = 40000

/-- A quantity of a VOLT or RTD channel is judged by the range of its mode (06 R137, R144, R154, R500). -/
theorem State.convert_of_range {q r lo hi v : Int} (hr : r = if s.pCh ch 1 = 2 then q - s.pCh ch 7 else q)
    (h : s.ranges ch q r lo hi v) : s.convert ch q = rangeConv lo hi v := by
  obtain ⟨hmode, rfl, rfl, rfl⟩ | ⟨hmode, rfl, rfl, rfl⟩ | ⟨hmode, rfl, rfl, rfl⟩ := h
  · simp only [State.convert, hmode]
  · simp only [State.convert, State.leadComp, hmode, hr]
    simp
  · simp only [State.convert, State.leadComp, hmode, hr]
    simp

/-- A converted value is SUSPECT after a failed post-check, OVERRANGE for an overload whose checks passed, else judged by its
range (06 R153). -/
theorem checked_rangeConv {lic overload post : Bool} (hpost : post = true → lic = true) (lo hi v : Int) :
    checked lic overload post (rangeConv lo hi v) =
      { code := if post then .suspect else if overload then (if lic then .overrange else .suspect)
          else if lo ≤ v ∧ v ≤ hi then .ok else .overrange
        value := some (sat32 v) } := by
  have hcode : (rangeConv lo hi v).code ≠ .broken := by
    simp only [rangeConv]
    split <;> simp
  rw [checked, if_neg hcode]
  cases post
  · cases overload <;> rfl
  · simp [hpost rfl, rangeConv]

/-- A current loop below its live range is BROKEN without value; beyond its signal range it is OVERRANGE (06 R154). -/
theorem State.convert_of_current (hmode : s.chMode ch = 5) (q : Int) : s.convert ch q =
    { code := if q < 5000 then .broken else if q ≤ 36000 ∨ 210000 < q then .overrange else .ok
      value := if q < 5000 then none else some (sat32 q) } := by
  simp only [State.convert, hmode]
  split <;> rfl

/-- A current loop has no lead check (06 R151). -/
theorem State.lic_of_current (hmode : s.chMode ch = 5) : s.lic ch = false := by simp [State.lic, hmode]

-- A sample of its own (06 R144) -------------------------------------------------------------------------------

section
variable {q : Int} {overload post : Bool} {mt : Nat} {c : Conv} (hlen : ch < s.probe.chans.length)
  (hc : checked (s.lic ch) overload post (s.convert ch q) = c)
include hlen hc

theorem State.converted_last_of_broken (hbroken : c.code = .broken) :
    ((s.converted g ch q overload post mt).chan ch).last = s.mkSample g ch .broken none mt := by
  unfold State.converted
  dsimp only
  rw [hc, if_pos hbroken, State.deliver_chan_self (ch := ch) _ rfl (by simpa using hlen)]
  rfl

theorem State.converted_last_of_single (hcode : c.code ≠ .broken) (hn : s.pCh ch 4 ≤ 1) :
    ((s.converted g ch q overload post mt).chan ch).last =
      { s.mkSample g ch c.code c.value mt with empty := c.empty, tcomp := c.tcomp } := by
  unfold State.converted
  dsimp only
  rw [hc, if_neg hcode, if_pos hn, State.deliver_chan_self (ch := ch) _ rfl hlen]
  rfl
end

-- The averaging block (06 R145) -------------------------------------------------------------------------------

/-- An OK value joins the block of its channel. -/
def Chan.joined (v : Int) (c : Chan) : Chan := { c with blkN := c.blkN + 1, blkOk := c.blkOk + 1, blkSum := c.blkSum + v }
@[simp] theorem Chan.joined_blkN (v : Int) (c : Chan) : (c.joined v).blkN = c.blkN + 1 := rfl
@[simp] theorem Chan.joined_blkOk (v : Int) (c : Chan) : (c.joined v).blkOk = c.blkOk + 1 := rfl

section
variable {q v : Int} {mt : Nat} (hlen : ch < s.probe.chans.length) (hmode : s.chMode ch ≠ 6)
include hlen hmode

/-- An OK conversion of an averaging channel joins the block, which ends with its last conversion. -/
theorem State.converted_of_block (hc : s.convert ch q = { code := .ok, value := some v }) (hn : 1 < s.pCh ch 4) :
    s.converted g ch q false false mt =
      if (s.chan ch).blkN + 1 < s.pCh ch 4 then s.onChan ch (Chan.joined v)
      else (s.onChan ch (Chan.joined v)).endBlock g ch (s.pCh ch 4) mt := by
  have hchecked : checked (s.lic ch) false false (s.convert ch q) = { code := .ok, value := some v } := by rw [hc]; rfl
  unfold State.converted
  dsimp only
  rw [hchecked]
  have hjoin : (s.onChan ch fun x => { x with
      blkN := x.blkN + 1, blkOk := x.blkOk + 1, blkSum := x.blkSum + v, blkOver := x.blkOver, blkEmpty := x.blkEmpty }) =
      s.onChan ch (Chan.joined v) := rfl
  simp [hmode, Nat.not_le.2 hn, b2n, hjoin, State.onChan_chan_self hlen]

/-- A block with enough OK conversions ends in an OK sample of their mean, and a new block begins. -/
theorem State.endBlock_chan {n : Nat} (hok : n ≤ 2 * (s.chan ch).blkOk) : ((s.endBlock g ch n mt).chan ch) =
    (clearBlk (s.chan ch)).took { s.mkSample g ch .ok (some (rdiv (s.chan ch).blkSum (s.chan ch).blkOk)) mt with
      avgShort := decide ((s.chan ch).blkOk < n) } s.bmt := by
  unfold State.endBlock
  dsimp only
  rw [if_pos (cdiv_two_le hok), if_neg hmode, State.deliver_chan_self (ch := ch) _ rfl (by simpa using hlen), State.onChan_chan_self hlen]
  rfl
end

end Sys2Proof.Machine
end

section
/-! PROOFS. SETTLE_END and CONVERSION_SLOT_END (06 R139, R140, R146, R149, R151, R152). -/

namespace Sys2Proof.Machine

variable {s t u : State} {g ch dt : Nat}

-- The end of a slot (06 R146, R147, R149) ----------------------------------------------------------------------

namespace Group
variable (x : Group)

/-- The group once its pass is over at `mt`: a pended trigger's pass, a free-running one, or idle. -/
def passEnded (free : Bool) (mt : Nat) : Group :=
  match x.pended with
  | some (src, marks) => { x with pended := none }.begun src marks (mt + 1)
  | none => if free then x.begun 3 0 (mt + 1) else x.idled

/-- The group once a slot of a list of so many entries is over at `mt`. -/
def slotEnded (entries : Nat) (free : Bool) (mt : Nat) : Group :=
  if x.idx + 1 < entries then { x with phase := .settling, slotMt := mt, idx := x.idx + 1, preFail := false }
  else x.passEnded free mt

variable {x} {entries mt : Nat} {free : Bool}

theorem slotEnded_of_more (h : x.idx + 1 < entries) :
    x.slotEnded entries free mt = { x with phase := .settling, slotMt := mt, idx := x.idx + 1, preFail := false } := if_pos h

section
variable (h : entries ≤ x.idx + 1)
include h
theorem slotEnded_of_idle (hnone : x.pended = none) (hpaced : free = false) : x.slotEnded entries free mt = x.idled := by
  simp [slotEnded, Nat.not_lt.2 h, passEnded, hnone, hpaced]
theorem slotEnded_of_pass {src marks : Nat}
    (hnext : x.pended = some (src, marks) ∨ x.pended = none ∧ free = true ∧ src = 3 ∧ marks = 0) :
    x.slotEnded entries free mt = { x with pended := none }.begun src marks (mt + 1) := by
  rw [slotEnded, if_neg (Nat.not_lt.2 h)]
  obtain hpended | ⟨hnone, hfree, rfl, rfl⟩ := hnext
  · simp only [passEnded, hpended]
  · simp [passEnded, hnone, hfree, begun]
end

end Group

/-- Does the sequencer begin a pass of its own after each (06 R149)? -/
def State.freeRunning (s : State) (g : Nat) : Bool := decide (s.pSq g 1 = 1 ∧ s.pSq g 3 ≠ 0)
@[simp] theorem State.elapse_freeRunning (s : State) (dt g : Nat) : (s.elapse dt).freeRunning g = s.freeRunning g := by
  simp [State.freeRunning]

theorem State.endPass_eq (hconv : s.converting = true) (g mt : Nat) :
    s.endPass g mt = s.onGroup g fun x => x.passEnded (s.freeRunning g) mt := by
  unfold State.endPass
  split
  next src marks hpended =>
    rw [State.startPass_eq, State.onGroup_onGroup]
    exact State.onGroup_congr (by simp [Group.passEnded, hpended])
  next hnone =>
    by_cases hfree : s.pSq g 1 = 1 ∧ s.pSq g 3 ≠ 0
    · rw [if_pos ⟨hfree.1, hfree.2, hconv⟩, State.startPass_eq]
      exact State.onGroup_congr (by simp [Group.passEnded, hnone, State.freeRunning, hfree])
    · rw [if_neg fun h => hfree ⟨h.1, h.2.1⟩]
      exact State.onGroup_congr (by simp [Group.passEnded, hnone, State.freeRunning, hfree, Group.idled])

/-- The slot in progress is over: the next entry's slot begins, or the pass ends (06 R146). -/
def State.slotOver (s : State) (g mt : Nat) : State :=
  if (s.group g).idx + 1 < s.pSq g 3 then
    s.onGroup g fun x => { x with phase := .settling, slotMt := mt, idx := x.idx + 1, preFail := false }
  else s.endPass g mt

theorem State.slotOver_eq (hconv : s.converting = true) (g mt : Nat) :
    s.slotOver g mt = s.onGroup g fun x => x.slotEnded (s.pSq g 3) (s.freeRunning g) mt := by
  unfold State.slotOver
  split
  next hmore => exact State.onGroup_congr (by rw [Group.slotEnded, if_pos hmore])
  next hlast =>
    rw [State.endPass_eq hconv]
    exact State.onGroup_congr (by rw [Group.slotEnded, if_neg hlast])

/-- What a conversion's measurement leaves on its channel before it is judged (06 Table 6.13). -/
def State.seen (s : State) (ch : Nat) (m : Meas) : State :=
  (s.seeLeads ch m.leadA m.leadB).onChan ch fun c => { c with
    raw := m.raw % 2 ^ 24, ovl := m.overload, postF := s.leadFails ch m.leadA m.leadB, q := uw 32 m.q
    cond := if s.chMode ch = 6 then m.cond % 65536 else c.cond }

theorem State.seen_measured (s : State) (ch : Nat) (m : Meas) : (s.seen ch m).measured ch s := (s.seeLeads_measured ch _ _).onChan

/-- The conversion of the slot in progress has been judged and delivered, or was none after a failed pre-check. -/
def State.judged (s : State) (g : Nat) (m : Meas) : State :=
  if (s.group g).preFail then s
  else (s.seen (s.seqCh g) m).converted g (s.seqCh g) m.q m.overload (s.leadFails (s.seqCh g) m.leadA m.leadB) (s.slotEndMt g - 4000)

theorem State.judged_of_failed (h : (s.group g).preFail = true) (m : Meas) : s.judged g m = s := if_pos h

theorem State.judged_measured (s : State) (g : Nat) (m : Meas) : (s.judged g m).measured (s.seqCh g) s :=
  .ite (.refl _ s) (s.seen_measured _ m).converted

theorem execConversionSlotEnd_of_due (m : Meas) (hphase : ((s.elapse dt).group g).phase = .integrating)
    (hconv : (s.elapse dt).converting = true) (hdue : (s.elapse dt).slotEndMt g ≤ (s.elapse dt).now) :
    exec (.conversionSlotEnd dt g m) s = .next (((s.elapse dt).judged g m).onGroup g fun x =>
      x.slotEnded ((s.elapse dt).pSq g 3) ((s.elapse dt).freeRunning g) ((s.elapse dt).slotEndMt g)) := by
  have hgoes : ¬(((s.elapse dt).group g).phase ≠ .integrating ∨ (!(s.elapse dt).converting) = true ∨
      (s.elapse dt).now < (s.elapse dt).slotEndMt g) := by
    rw [hphase, hconv]
    simpa using hdue
  show execConversionSlotEnd dt g m s = _
  unfold execConversionSlotEnd
  rw [if_neg hgoes]
  generalize s.elapse dt = u at *
  have hm := u.judged_measured g m
  have hfree : (u.judged g m).freeRunning g = u.freeRunning g := by simp only [State.freeRunning, hm.pSq_eq]
  have hover := State.slotOver_eq (hm.converting_eq.trans hconv) g (u.slotEndMt g)
  rw [hm.pSq_eq, hfree] at hover
  rw [← hover]
  exact (apply_ite Host.Outcome.next ..).symm

-- What is delivered (06 R144, R145, R153, R154) -----------------------------------------------------------------

/-- A measurement leaves the last sample and the averaging block as they are. -/
theorem State.seen_chan (hlen : ch < s.probe.chans.length) (m : Meas) : ((s.seen ch m).chan ch).last = (s.chan ch).last ∧
    ((s.seen ch m).chan ch).blkN = (s.chan ch).blkN ∧ ((s.seen ch m).chan ch).blkOk = (s.chan ch).blkOk ∧
    ((s.seen ch m).chan ch).blkSum = (s.chan ch).blkSum := by
  unfold State.seen
  rw [State.onChan_chan_self (by rwa [(s.seeLeads_measured ch _ _).len]), State.seeLeads_chan hlen]
  exact ⟨rfl, rfl, rfl, rfl⟩

section
variable {m : Meas} (hch : s.seqCh g = ch) (hlen : ch < s.probe.chans.length) (hpre : (s.group g).preFail = false)
include hch hpre

theorem State.judged_eq : s.judged g m =
    (s.seen ch m).converted g ch m.q m.overload (s.leadFails ch m.leadA m.leadB) (s.slotEndMt g - 4000) := by
  rw [State.judged, hpre, hch]
  rfl

include hlen

/-- A VOLT or RTD channel that does not average delivers its value, stamped with the end of the integration. -/
theorem State.judged_last_of_range {lo hi v r : Int} (havg : s.pCh ch 4 = 1) (hr : r = if s.pCh ch 1 = 2 then m.q - s.pCh ch 7 else m.q)
    (hrange : s.ranges ch m.q r lo hi v) (hlo : -(2 ^ 31) ≤ v) (hhi : v < 2 ^ 31) :
    ((s.judged g m).chan ch).last = s.mkSample g ch
      (if s.leadFails ch m.leadA m.leadB then .suspect else if m.overload then (if s.lic ch then .overrange else .suspect)
        else if lo ≤ v ∧ v ≤ hi then .ok else .overrange) (some v) (s.slotEndMt g - 4000) := by
  have hm := s.seen_measured ch m
  have hconvert : (s.seen ch m).convert ch m.q = rangeConv lo hi v :=
    State.convert_of_range (r := r) (by rwa [hm.pCh_eq, hm.pCh_eq]) (by rwa [State.ranges, hm.chMode_eq])
  have hpost : s.leadFails ch m.leadA m.leadB = true → s.lic ch = true := fun h => (Bool.and_eq_true_iff.1 h).1
  have hchecked := checked_rangeConv (overload := m.overload) hpost lo hi v
  rw [← hconvert, ← hm.lic_eq, sat32_of_fits hlo hhi] at hchecked
  rw [State.judged_eq hch hpre, State.converted_last_of_single (hm.len.symm ▸ hlen) hchecked _ (by rw [hm.pCh_eq, havg]),
    hm.mkSample_eq, hm.lic_eq]
  · rfl
  · split_ifs <;> simp

/-- A current loop that does not average is judged by its current. -/
theorem State.judged_last_of_current (havg : s.pCh ch 4 = 1) (hmode : s.chMode ch = 5) (hovl : m.overload = false) (hlo : 0 ≤ m.q)
    (hhi : m.q < 2 ^ 31) :
    ((s.judged g m).chan ch).last.code = (if m.q < 5000 then .broken else if m.q ≤ 36000 ∨ 210000 < m.q then .overrange else .ok) ∧
    ((s.judged g m).chan ch).last.value = if m.q < 5000 then none else some m.q := by
  have hm := s.seen_measured ch m
  have hmodeW : (s.seen ch m).chMode ch = 5 := by rw [hm.chMode_eq, hmode]
  have hconvert := State.convert_of_current hmodeW m.q
  have hpost : s.leadFails ch m.leadA m.leadB = false := by simp [State.leadFails, State.lic_of_current hmode]
  have hchecked : checked ((s.seen ch m).lic ch) m.overload (s.leadFails ch m.leadA m.leadB) ((s.seen ch m).convert ch m.q) =
      (s.seen ch m).convert ch m.q := by simp [checked, hovl, hpost]
  rw [sat32_of_fits (by omega) hhi] at hconvert
  rw [State.judged_eq hch hpre]
  by_cases hbroken : m.q < 5000
  · rw [State.converted_last_of_broken (hm.len.symm ▸ hlen) (hchecked.trans hconvert) (if_pos hbroken), if_pos hbroken,
      if_pos hbroken]
    exact ⟨rfl, rfl⟩
  · rw [State.converted_last_of_single (hm.len.symm ▸ hlen) (hchecked.trans hconvert) _ (by rw [hm.pCh_eq, havg])]
    · exact ⟨rfl, rfl⟩
    · rw [if_neg hbroken]
      split <;> simp

section
variable (hmode : s.chMode ch = 4) (havg : 1 < s.pCh ch 4) (hpost : s.leadFails ch m.leadA m.leadB = false)
  (hovl : m.overload = false) (hlo : -12500000 ≤ m.q) (hhi : m.q ≤ 12500000)
include hmode havg hpost hovl hlo hhi

/-- An OK value of an averaging VOLT channel joins the block of its channel, which ends with its last conversion. -/
theorem State.judged_of_block : s.judged g m =
    if (s.chan ch).blkN + 1 < s.pCh ch 4 then (s.seen ch m).onChan ch (Chan.joined m.q)
    else ((s.seen ch m).onChan ch (Chan.joined m.q)).endBlock g ch (s.pCh ch 4) (s.slotEndMt g - 4000) := by
  have hm := s.seen_measured ch m
  have hmodeW : (s.seen ch m).chMode ch = 4 := by rw [hm.chMode_eq, hmode]
  have hconvert : (s.seen ch m).convert ch m.q = { code := .ok, value := some m.q } := by
    rw [State.convert_of_range rfl (.inl ⟨hmodeW, rfl, rfl, rfl⟩), rangeConv, if_pos ⟨hlo, hhi⟩,
      sat32_of_fits (by omega) (by omega)]
  have hblock := State.converted_of_block (g := g) (mt := s.slotEndMt g - 4000) (hm.len.symm ▸ hlen) (by omega) hconvert
    (by rwa [hm.pCh_eq])
  obtain ⟨-, hblkN, -, -⟩ := State.seen_chan hlen m
  rw [State.judged_eq hch hpre, hovl, hpost, hblock, hblkN, hm.pCh_eq]

theorem State.judged_joined (hmore : (s.chan ch).blkN + 1 < s.pCh ch 4) :
    ((s.judged g m).chan ch).last = (s.chan ch).last ∧ ((s.judged g m).chan ch).blkN = (s.chan ch).blkN + 1 ∧
    ((s.judged g m).chan ch).blkOk = (s.chan ch).blkOk + 1 ∧ ((s.judged g m).chan ch).blkSum = (s.chan ch).blkSum + m.q := by
  obtain ⟨hlast, hblkN, hblkOk, hblkSum⟩ := State.seen_chan hlen m
  rw [State.judged_of_block hch hlen hpre hmode havg hpost hovl hlo hhi, if_pos hmore,
    State.onChan_chan_self ((s.seen_measured ch m).len.symm ▸ hlen), ← hlast, ← hblkN, ← hblkOk, ← hblkSum]
  exact ⟨rfl, rfl, rfl, rfl⟩

/-- The block's last conversion sends the mean of the OK ones, where they are half of the block at least (06 R145). -/
theorem State.judged_mean (hlast : (s.chan ch).blkN + 1 = s.pCh ch 4) (hok : s.pCh ch 4 ≤ 2 * ((s.chan ch).blkOk + 1)) :
    ((s.judged g m).chan ch).last.code = .ok ∧
    ((s.judged g m).chan ch).last.value = some (rdiv ((s.chan ch).blkSum + m.q) ((s.chan ch).blkOk + 1)) ∧
    ((s.judged g m).chan ch).blkN = 0 := by
  have hm := s.seen_measured ch m
  have hmode6 : ((s.seen ch m).onChan ch (Chan.joined m.q)).chMode ch ≠ 6 := by
    rw [hm.onChan.chMode_eq, hmode]
    decide
  obtain ⟨-, -, hblkOk, hblkSum⟩ := State.seen_chan hlen m
  have hjoined := State.onChan_chan_self (hm.len.symm ▸ hlen) (Chan.joined m.q)
  rw [State.judged_of_block hch hlen hpre hmode havg hpost hovl hlo hhi, if_neg (by omega),
    State.endBlock_chan (hm.onChan.len.symm ▸ hlen) hmode6 (by rwa [hjoined, Chan.joined_blkOk, hblkOk]), hjoined,
    ← hblkOk, ← hblkSum]
  exact ⟨rfl, rfl, rfl⟩
end
end

end Sys2Proof.Machine
end

section
/-! PROOFS. The lead check before a conversion, stale channels, and the commands SAMPLE_READ and STREAM_OPEN (06 R151, R152,
R160, R164, Table 6.13). -/

namespace Sys2Proof.Machine

variable {s t u : State} {g ch dt : Nat}

-- SETTLE_END (06 R139, R151, R152) -----------------------------------------------------------------------------

/-- The group once its slot's pre-check has been made. -/
def Group.integrates (fail : Bool) (x : Group) : Group := { x with phase := .integrating, preFail := fail }

/-- The pre-check has been made, and the slot integrates where it passed. -/
def State.preChecked (s : State) (g ch a b : Nat) : State :=
  ((s.onGroup g (Group.integrates (s.leadFails ch a b))).seeLeads ch a b).onChan ch fun c =>
    { c with preF := s.leadFails ch a b, broken := if s.lic ch then s.leadFails ch a b else c.broken }

/-- What the end of CH_SETTLE leaves: a failed check sends BROKEN without value, stamped with that instant. -/
def State.settled (s : State) (g ch a b : Nat) : State :=
  if s.leadFails ch a b then
    ((s.preChecked g ch a b).onChan ch clearBlk).deliver g ((s.preChecked g ch a b).mkSample g ch .broken none (s.settleEndMt g))
  else s.preChecked g ch a b

theorem execSettleEnd_of_early (a b : Nat) (hearly : (s.elapse dt).now < (s.elapse dt).settleEndMt g) :
    exec (.settleEnd dt g a b) s = .next (s.elapse dt) := if_pos (.inr (.inr hearly))

theorem execSettleEnd_of_due (a b : Nat) (hphase : ((s.elapse dt).group g).phase = .settling)
    (hconv : (s.elapse dt).converting = true) (hdue : (s.elapse dt).settleEndMt g ≤ (s.elapse dt).now) :
    exec (.settleEnd dt g a b) s = .next ((s.elapse dt).settled g ((s.elapse dt).seqCh g) a b) := by
  have hgoes : ¬(((s.elapse dt).group g).phase ≠ .settling ∨ (!(s.elapse dt).converting) = true ∨
      (s.elapse dt).now < (s.elapse dt).settleEndMt g) := by
    rw [hphase, hconv]
    simpa using hdue
  exact if_neg hgoes

section
variable (s) (a b : Nat)

/-- The lead check changes what a conversion may change, and its group. -/
theorem State.preChecked_measured (g ch : Nat) : (s.preChecked g ch a b).measured ch
    (s.onGroup g (Group.integrates (s.leadFails ch a b))) :=
  (State.seeLeads_measured _ ch a b).onChan

theorem State.settled_measured (g ch : Nat) : (s.settled g ch a b).measured ch
    (s.onGroup g (Group.integrates (s.leadFails ch a b))) :=
  .ite ((s.preChecked_measured a b g ch).onChan.deliver rfl) (s.preChecked_measured a b g ch)

theorem State.preChecked_sameBut (g ch : Nat) : sameBut [.probe] s (s.preChecked g ch a b) := by
  unfold State.preChecked State.seeLeads
  dsimp only
  split_ifs <;> rfl
end

theorem State.preChecked_chan (hlen : ch < s.probe.chans.length) (g a b : Nat) :
    ((s.preChecked g ch a b).chan ch).leadR = s.leadSeen ch a ∧ ((s.preChecked g ch a b).chan ch).last = (s.chan ch).last := by
  unfold State.preChecked
  rw [State.onChan_chan_self (by rwa [(State.seeLeads_measured _ ch a b).len]), State.seeLeads_chan (s := s.onGroup g _) hlen]
  exact ⟨rfl, rfl⟩

/-- The lead resistance is kept; the channel's last sample is BROKEN after a failed check, else as it was. -/
theorem State.settled_chan (hg : g < s.probe.groups.length) (hlen : ch < s.probe.chans.length) (a b : Nat) :
    ((s.settled g ch a b).chan ch).leadR = s.leadSeen ch a ∧
    ((s.settled g ch a b).chan ch).last =
      if s.leadFails ch a b then s.mkSample g ch .broken none (s.settleEndMt g) else (s.chan ch).last := by
  have hm := s.preChecked_measured a b g ch
  have hlenP : ch < (s.preChecked g ch a b).probe.chans.length := hm.len.symm ▸ hlen
  obtain ⟨hlead, hlast⟩ := State.preChecked_chan hlen g a b
  unfold State.settled
  split
  next hfail =>
    rw [State.deliver_chan_self (ch := ch) _ rfl (hm.onChan.len.symm ▸ hlen), State.onChan_chan_self hlenP]
    refine ⟨hlead, ?_⟩
    show (s.preChecked g ch a b).mkSample g ch .broken none (s.settleEndMt g) = _
    rw [hm.mkSample_eq]
    simp only [State.mkSample, State.onGroup_group_self hg]
    rfl
  next => exact ⟨hlead, hlast⟩

-- CHANNEL_STALE (06 R160) --------------------------------------------------------------------------------------

/-- The sample of a channel that has been silent for CH_STALE_T: of no pass, without value. -/
def State.staleSample (s : State) (ch : Nat) : Sample :=
  { s.mkSample (ch / 16) ch .stale none s.now with marks := 0, src := 0 }

theorem execChannelStale_of_early (hearly : (s.elapse dt).now < ((s.elapse dt).chan ch).lastMt + (s.elapse dt).pCh ch 13 * 10000000) :
    exec (.channelStale dt ch) s = .next (s.elapse dt) := if_pos (.inr (.inr (.inr (.inr hearly))))

theorem execChannelStale_of_due (hch : ch < 64) (hmode : (s.elapse dt).chMode ch ≠ 0) (hconv : (s.elapse dt).converting = true)
    (hres : (s.elapse dt).isResetting (5 + ch / 16) = false)
    (hdue : ((s.elapse dt).chan ch).lastMt + (s.elapse dt).pCh ch 13 * 10000000 ≤ (s.elapse dt).now) :
    exec (.channelStale dt ch) s = .next ((s.elapse dt).deliver (ch / 16) ((s.elapse dt).staleSample ch)) := by
  have hgoes : ¬(64 ≤ ch ∨ (s.elapse dt).chMode ch = 0 ∨ (!(s.elapse dt).converting) = true ∨
      (s.elapse dt).isResetting (5 + ch / 16) = true ∨
      (s.elapse dt).now < ((s.elapse dt).chan ch).lastMt + (s.elapse dt).pCh ch 13 * 10000000) := by
    rw [hconv, hres]
    simp only [Bool.not_true, Bool.false_eq_true, false_or, not_or]
    exact ⟨Nat.not_le.2 hch, hmode, Nat.not_lt.2 hdue⟩
  exact if_neg hgoes

-- SAMPLE_READ and STREAM_OPEN (06 R164, Table 6.13) ------------------------------------------------------------

section
variable {f : Nat} {fl : Flight} (hf : s.flight? f = some fl)
include hf

theorem exec_sampleRead_of_ready (hready : ready fl 0x39 = true) {status : Nat} {res : List Nat}
    (hbody : sampleReadBody fl (s.elapse dt) = .done (s.elapse dt) status res) :
    exec (.sampleRead dt f) s = .next ((s.elapse dt).complete f status res) := by
  show Host.Outcome.next (runCmd 0x39 f sampleReadBody (s.elapse dt)) = _
  rw [runCmd_ready sampleReadBody (by simpa using hf) hready, hbody]

theorem exec_streamOpen_of_ready (hready : ready fl 0x3A = true) {status : Nat} {res : List Nat}
    (hbody : streamOpenBody fl (s.elapse dt) = .done t status res) :
    exec (.streamOpen dt f) s = .next (t.complete f status res) := by
  show Host.Outcome.next (runCmd 0x3A f streamOpenBody (s.elapse dt)) = _
  rw [runCmd_ready streamOpenBody (by simpa using hf) hready, hbody]
end

section
variable {fl : Flight} {xq : Nat} {q : Queue}

theorem sampleReadBody_last {c : Chan} (hch : argB fl.e 0 = ch) (hc : s.chan ch = c) (hin : ch / 16 + 5 = fl.e.target)
    (hview : argB fl.e 1 = 0) : sampleReadBody fl s = .ok s (sampleBytes { c.last with ch }) := by
  simp [sampleReadBody, hch, hc, hin, hview]

theorem sampleReadBody_diagnosis {c : Chan} (hch : argB fl.e 0 = ch) (hc : s.chan ch = c) (hin : ch / 16 + 5 = fl.e.target)
    (hview : argB fl.e 1 = 1) : sampleReadBody fl s = .ok s
      (le 3 c.raw ++ [b2n c.ovl + 2 * b2n c.preF + 4 * b2n c.postF] ++ le 4 c.leadR ++ le 4 c.q ++ le 2 c.cond ++ le 2 c.nSusp ++
        le 2 c.nBrok) := by
  simp [sampleReadBody, hch, hc, hin, hview]

theorem sampleReadBody_bad (hout : argB fl.e 0 / 16 + 5 ≠ fl.e.target ∨ 1 < argB fl.e 1) : sampleReadBody fl s = .bad s := if_pos hout

theorem State.ownXq_of_range (s : State) (sid : Nat) (h : xq < 896 ∨ 1023 < xq) : s.ownXq sid xq = none := if_neg (by omega)

theorem State.ownXq_of_owner (hlo : 896 ≤ xq) (hhi : xq < 1024) (hq : s.queue? xq = some q) (howner : q.owner = fl.sid)
    (horphan : q.orphan = false) : s.ownXq fl.sid xq = some q := by
  simp [State.ownXq, hlo, Nat.le_of_lt_succ hhi, hq, Option.filter, howner, horphan]

variable (hxq : argN fl.e 0 2 = xq)
include hxq

theorem streamOpenBody_of_none (hown : s.ownXq fl.sid xq = none) : streamOpenBody fl s = .bad s := by
  simp [streamOpenBody, hxq, hown]

section
variable (hown : s.ownXq fl.sid xq = some q)
include hown

theorem streamOpenBody_binds {mask : Nat} (hmask : argN fl.e 2 2 = mask) (hop : argB fl.e 5 = 0) (hdec : argB fl.e 4 ≠ 0)
    (hfree : q.bound = false) (hnone : s.probe.streams = []) :
    streamOpenBody fl s = .ok ((s.onProbe fun p => { p with streams := [{
      xq, group := fl.e.target - 5, mask, decim := argB fl.e 4, cnts := List.replicate 16 0, written := 0 }] }).onQueue xq
        fun z => { z with bound := true }) (le 2 xq ++ le 2 mask ++ le 4 0) := by
  simp [streamOpenBody, hxq, hmask, hown, hop, hdec, hfree, hnone]

theorem streamOpenBody_of_bound (hop : argB fl.e 5 = 0) (hdec : argB fl.e 4 ≠ 0) (hbound : q.bound = true)
    (hnone : s.probe.streams = []) : streamOpenBody fl s = .err s sBUSY := by
  simp [streamOpenBody, hxq, hown, hop, hdec, hbound, hnone]

theorem streamOpenBody_ends {st : Stream} (hop : argB fl.e 5 = 1) (hstream : s.probe.streams = [st]) (hst : st.xq = xq)
    (hgroup : st.group = fl.e.target - 5) :
    streamOpenBody fl s = .ok ((s.onProbe fun p => { p with streams := [] }).onQueue xq fun z => { z with bound := false })
      (le 2 xq ++ le 2 0 ++ le 4 st.written) := by
  simp [streamOpenBody, hxq, hown, hop, hstream, hst, hgroup]
end
end

end Sys2Proof.Machine
end

section
/-! PROOFS. The probe rows together (06 R137 to R164): each on the unit as time has left it. -/

namespace Sys2Proof.Machine

variable {s t : State} {g ch dt : Nat}

theorem State.measured.onGroup (h : t.measured ch s) (g : Nat) (f : Group → Group) : (t.onGroup g f).measured ch (s.onGroup g f) where
  frame := (t.onGroup_frame g f).trans (h.frame.trans (s.onGroup_frame g f).symm)
  groups := by simp only [State.onGroup_probe, h.groups]
  len := h.len
  others := h.others

/-- What a conversion's row leaves of its own group, of the other channels, and of the rest of the unit. -/
theorem State.measured.row {f : Group → Group} (h : t.measured ch ((s.elapse dt).onGroup g f)) (hg : g < s.probe.groups.length) :
    t.group g = f (s.group g) ∧
    (∀ n, n ≠ ch → { t.chan n with leadR := 0 } = { s.chan n with leadR := 0 } ∧
      ((n ≠ ch + 1 ∨ s.fourWire ch = false) → t.chan n = s.chan n)) ∧
    t.quiet.but [.probe, .toks, .host] = (s.elapse dt).quiet.but [.probe, .toks, .host] := by
  refine ⟨?_, fun n hn => ?_, (h.frame.trans (State.onGroup_frame ..)).mono (by decide)⟩
  · rw [h.group_eq, State.onGroup_group_self (by simpa using hg), State.elapse_group]
  · obtain ⟨hlead, hsame⟩ := h.others n hn
    rw [State.onGroup_chan, State.elapse_chan] at hlead hsame
    exact ⟨hlead, fun hout => hsame (hout.imp_right (s.elapse_fourWire dt ch).trans)⟩

/-- Settles O28: each row is the lead check, the judged conversion or the sample's delivery on the unit as time has left it
(06 R137 to R164). -/
theorem conversionsAreJudgedAndDelivered : Obligations.ConversionsAreJudgedAndDelivered := by
  intro dt s hrep hconv hgroups hchans
  have hconvU : (s.elapse dt).converting = true := by simpa using hconv
  have hbmt : (s.elapse dt).bmt = (s.elapse dt).now := State.bmt_eq_now (by simpa using hrep)
  have inGroups {g : Nat} (hg : g < 4) : g < s.probe.groups.length := hgroups.symm ▸ hg
  have inChans {ch : Nat} (hch : ch < 64) : ch < (s.elapse dt).probe.chans.length := by simpa [hchans] using hch
  refine ⟨fun g ch x a b mt fail hg hx hphase hseq hchg hmt hfail => ?settle,
    fun g ch x m mt post r hg hx hphase hseq hchg hmt hpost hr hdue => ?slot, fun ch hch hmode hres => ?stale,
    fun f fl ch v c hf hready hch hv hc => ?read, fun f fl xq q mask hf hready hxq hmask => ?stream⟩
  case settle =>
    subst hx
    have hlen : ch < (s.elapse dt).probe.chans.length := inChans (by omega)
    have hch : (s.elapse dt).seqCh g = ch := by simp [State.seqCh, hseq]
    have hend : (s.elapse dt).settleEndMt g = mt := by simp [State.settleEndMt, State.settleTime, hch, hmt]
    have hleads : (s.elapse dt).leadFails ch a b = fail := by simp [State.leadFails, hfail]
    refine ⟨fun hearly => execSettleEnd_of_early a b (hend ▸ hearly), fun hdue => ?_⟩
    have hexec := execSettleEnd_of_due a b (by simpa using hphase) hconvU (hend ▸ hdue)
    obtain ⟨hlead, hlast⟩ := State.settled_chan (by simpa using inGroups hg) hlen a b
    obtain ⟨hgroup, hothers, hframe⟩ := ((s.elapse dt).settled_measured a b g ch).row (inGroups hg)
    rw [hch] at hexec
    rw [hleads] at hlast hgroup
    refine ⟨_, hexec, hgroup, ?_, fun hfailed => ?_, fun hpassed => ⟨?_, ?_⟩, hothers, hframe⟩
    · rw [hlead, State.leadSeen, State.elapse_lic]
    · rw [hlast, if_pos hfailed, hend]
      simp [State.mkSample]
    · rw [hlast, hpassed, State.elapse_chan]
      rfl
    · rw [State.settled, hleads, hpassed]
      exact State.preChecked_sameBut _ a b g ch
  case slot =>
    subst hx
    have hlen : ch < (s.elapse dt).probe.chans.length := inChans (by omega)
    have hch : (s.elapse dt).seqCh g = ch := by simp [State.seqCh, hseq]
    have hend : (s.elapse dt).slotEndMt g = mt := by
      simp [State.slotEndMt, State.slotTime, State.settleTime, hch, ← hmt, Nat.add_assoc]
    have hleads : (s.elapse dt).leadFails ch m.leadA m.leadB = post := by simp [State.leadFails, hpost]
    have hexec := execConversionSlotEnd_of_due m (by simpa using hphase) hconvU (hend ▸ hdue)
    have hm := (s.elapse dt).judged_measured g m
    rw [hend, State.elapse_pSq, State.elapse_freeRunning] at hexec
    rw [hch] at hm
    obtain ⟨hgroup, hothers, hframe⟩ := (hm.onGroup g fun x => x.slotEnded (s.pSq g 3) (s.freeRunning g) mt).row (inGroups hg)
    refine ⟨_, hexec, fun hfailed => ?failed, fun lo hi v hpre havg hrange hlo hhi => ?range,
      fun hpre hmode havg hovl hlo hhi => ?current, fun n c hpre hmode hn hlt hpassed hovl hlo hhi hc => ?block,
      fun hmore => ?more, fun hlast hnone hpaced => ?idle, fun src marks hlast hnext => ?pass, hothers, hframe⟩
    case failed => rw [State.onGroup_chan, State.judged_of_failed (by simpa using hfailed), State.elapse_chan]
    case range =>
      rw [State.onGroup_chan, State.judged_last_of_range hch hlen (by simpa using hpre) (by simpa using havg) (by simpa using hr)
        (by simpa [State.ranges] using hrange) hlo hhi, hleads, hend]
      simp [State.mkSample]
    case current =>
      exact State.judged_last_of_current hch hlen (by simpa using hpre) (by simpa using havg) (by simpa using hmode) hovl hlo hhi
    case block =>
      subst hc hn
      have hjoined := State.judged_joined (m := m) hch hlen (by simpa using hpre) (by simpa using hmode) (by simpa using hlt)
        (hleads.trans hpassed) hovl hlo hhi
      have hmean := State.judged_mean (m := m) hch hlen (by simpa using hpre) (by simpa using hmode) (by simpa using hlt)
        (hleads.trans hpassed) hovl hlo hhi
      rw [State.elapse_chan, State.elapse_pCh] at hjoined hmean
      exact ⟨hjoined, hmean⟩
    case more => rw [hgroup, Group.slotEnded_of_more hmore]
    case idle =>
      rw [hgroup, Group.slotEnded_of_idle hlast hnone (by simp [State.freeRunning, hpaced])]
      rfl
    case pass =>
      rw [hgroup, Group.slotEnded_of_pass hlast (by simpa [State.freeRunning, and_assoc] using hnext)]
      rfl
  case stale =>
    have hstale : ((s.elapse dt).chan ch).lastMt + (s.elapse dt).pCh ch 13 * 10000000 =
        (s.chan ch).lastMt + s.pCh ch 13 * 10000000 := by simp
    refine ⟨fun hearly => execChannelStale_of_early (hstale ▸ hearly), fun hdue => ?_⟩
    have hexec := execChannelStale_of_due hch (by simpa using hmode) hconvU (by simpa using hres) (hstale ▸ hdue)
    have hchan := State.deliver_chan_self (g := ch / 16) (ch := ch) ((s.elapse dt).staleSample ch) rfl (inChans hch)
    refine ⟨_, hexec, by rw [hchan]; rfl, by rw [hchan]; rfl, by rw [hchan]; exact hbmt, fun n hn => ?_, ?_,
      (State.deliver_frame ..).mono (by decide)⟩
    · rw [State.deliver_chan_ne _ hn, State.elapse_chan]
    · rw [(State.deliver_probe ..).2, State.elapse_probe]
  case read =>
    rw [← State.elapse_chan s dt] at hc
    refine ⟨fun hin hview => exec_sampleRead_of_ready hf hready (sampleReadBody_last hch hc hin (hv.trans hview)),
      fun hin hview => exec_sampleRead_of_ready hf hready (sampleReadBody_diagnosis hch hc hin (hv.trans hview)),
      fun hbad => exec_sampleRead_of_ready hf hready (sampleReadBody_bad ?_)⟩
    rwa [hch, hv]
  case stream =>
    refine ⟨fun hout => exec_streamOpen_of_ready hf hready (streamOpenBody_of_none hxq (State.ownXq_of_range _ _ hout)),
      fun hlo hhi hq howner horphan => ?_⟩
    have hown := State.ownXq_of_owner (s := s.elapse dt) (fl := fl) hlo hhi (by simpa using hq) howner horphan
    refine ⟨fun hop hdec hfree hnone => ?binds, fun st hop hst hstx hstg => ?ends, fun hop hdec hbound hnone => ?bound⟩
    case binds => exact exec_streamOpen_of_ready hf hready (streamOpenBody_binds hxq hown hmask hop hdec hfree (by simpa using hnone))
    case ends => exact exec_streamOpen_of_ready hf hready (streamOpenBody_ends hxq hown hop (by simpa using hst) hstx hstg)
    case bound => exact exec_streamOpen_of_ready hf hready (streamOpenBody_of_bound hxq hown hop hdec hbound (by simpa using hnone))

end Sys2Proof.Machine
end

section
/-! PROOFS. The Pica ports and their points (07 R169, R172): reads after writes, what the rules of a port read beside it, and
what an idle port starts. -/

namespace Sys2Proof.Machine

variable {s t : State} {p k sl i j : Nat}

-- Reads after writes ------------------------------------------------------------------------------------------

theorem State.port_congr (h : s.pica.ports = t.pica.ports) (p : Nat) : s.port p = t.port p := by simp only [State.port, h]
theorem State.point_congr (h : s.pica = t.pica) (sl i : Nat) : s.point sl i = t.point sl i := by
  simp only [State.point, State.port, h]

theorem State.onPort_port_self (hp : p < s.pica.ports.length) (f : Port → Port) : (s.onPort p f).port p = f (s.port p) := by
  simp [State.port, List.getD_eq_getElem?_getD, hp]
@[simp] theorem State.onPort_port_ne (h : k ≠ p) (f : Port → Port) : (s.onPort p f).port k = s.port k := by
  simp [State.port, List.getD_eq_getElem?_getD, List.getElem?_modify_ne _ _ h.symm]

/-- Two updates that agree on a port's present state are one update. -/
theorem State.onPort_congr {f f' : Port → Port} (h : f (s.port p) = f' (s.port p)) : s.onPort p f = s.onPort p f' := by
  have hmodify : s.pica.ports.modify p f = s.pica.ports.modify p f' := by
    rw [List.modify_eq_set_getElem?, List.modify_eq_set_getElem?]
    cases hx : s.pica.ports[p]? with
    | none => rfl
    | some x =>
      have hport : s.port p = x := by simp [State.port, List.getD_eq_getElem?_getD, hx]
      rw [hport] at h
      simp [h]
  simp only [State.onPort, State.onPica, hmodify]

theorem State.onPort_onPort (s : State) (p : Nat) (f f' : Port → Port) : (s.onPort p f).onPort p f' = s.onPort p (f' ∘ f) := by
  simp [State.onPort, State.onPica, List.modify_modify_eq]

/-- The points of a local port stand in its table. -/
theorem State.point_local (s : State) (hp : p < 8) (i : Nat) : s.point p i = (s.port p).table.getD i {} := if_pos hp
theorem State.point_node (s : State) (hsl : 8 ≤ sl) (i : Nat) : s.point sl i = spGetD {} s.pica.nodePts (64 * sl + i) :=
  if_neg (Nat.not_lt.2 hsl)
theorem State.onPoint_local (s : State) (hp : p < 8) (i : Nat) (f : Point → Point) :
    s.onPoint p i f = s.onPort p fun y => { y with table := y.table.modify i f } := if_pos hp
theorem State.onPoint_node (s : State) (hsl : 8 ≤ sl) (i : Nat) (f : Point → Point) :
    s.onPoint sl i f = s.onPica fun x =>
      { x with nodePts := spPut x.nodePts (64 * sl + i) (f (spGetD {} x.nodePts (64 * sl + i))) } := if_neg (Nat.not_lt.2 hsl)

theorem getD_modify_point_self {l : List Point} (h : i < l.length) (f : Point → Point) :
    (l.modify i f).getD i {} = f (l.getD i {}) := by simp [List.getD_eq_getElem?_getD, h]
theorem getD_modify_point_ne (h : j ≠ i) (l : List Point) (f : Point → Point) : (l.modify i f).getD j {} = l.getD j {} := by
  simp [List.getD_eq_getElem?_getD, List.getElem?_modify_ne _ _ h.symm]

section
variable (s) (dt : Nat)
@[simp] theorem State.elapse_port (p : Nat) : (s.elapse dt).port p = s.port p := State.port_congr (by simp) p
@[simp] theorem State.elapse_point (sl i : Nat) : (s.elapse dt).point sl i = s.point sl i := State.point_congr (by simp) sl i
end

-- What the rules read beside the port itself ------------------------------------------------------------------

/-- What the Pica buses change: their ports and points, and the tokens of the readings (07 R171). -/
def picaParts : List Part := [.pica, .toks]

theorem State.onPort_frame (s : State) (p : Nat) (f : Port → Port) : sameBut picaParts (s.onPort p f).quiet s.quiet := rfl

section
variable {ps : List Part} (h : sameBut ps t.quiet s.quiet)
include h

theorem sameBut.pPc_eq (hs : .store ∉ ps) (hu : .sup ∉ ps) (p o : Nat) : t.pPc p o = s.pPc p o := by
  simp only [State.pPc, State.parN, h.par_eq hs hu]
theorem sameBut.flight_eq (hh : .host ∉ ps) (f : Nat) : t.flight? f = s.flight? f :=
  h.part_eq (p := fun x => x.flight? f) fun x => by simp [State.flight?, State.but, hh]
theorem sameBut.now_eq (ht : .time ∉ ps) : t.now = s.now := by simp only [State.now, h.time_eq ht]
end

section
variable (s) (dt : Nat)
@[simp] theorem State.elapse_pPc (p o : Nat) : (s.elapse dt).pPc p o = s.pPc p o :=
  (s.elapse_frame dt).pPc_eq (by decide) (by decide) p o
@[simp] theorem State.elapse_portOn (p : Nat) : (s.elapse dt).portOn p = s.portOn p := by simp [State.portOn]
@[simp] theorem State.elapse_missN (p : Nat) : (s.elapse dt).missN p = s.missN p := by simp [State.missN]
@[simp] theorem State.elapse_nmap (p : Nat) : (s.elapse dt).nmap p = s.nmap p := by simp [State.nmap]
end

-- What an idle port starts (07 R169, R173, Table 7.8) ----------------------------------------------------------

/-- A scan begins at `now`: a CONVERT frame goes out. -/
def Port.scanBegun (now : Nat) (x : Port) : Port :=
  { x with scanning := true, converting := true, idx := 0, scan := incW 16 x.scan, startMt := now, pendScan := false
           sent := picaFrame 0x10 [] }
/-- A due scan begins at `now`, and the next one is due at the next expiry. -/
def Port.dueBegun (period now : Nat) (x : Port) : Port := Port.scanBegun now { x with nextMt := nextExpiry x.nextMt period now }
/-- An enumeration begins at `now`. -/
def Port.enumBegun (now : Nat) (x : Port) : Port := { x with enumg := true, pendEnum := false, startMt := now }

theorem State.startScan_eq (s : State) (p : Nat) : s.startScan p = s.onPort p (Port.scanBegun s.now) :=
  State.onPort_onPort s p ..
theorem State.startEnum_eq (s : State) (p : Nat) : s.startEnum p = s.onPort p (Port.enumBegun s.now) := rfl

/-- Nothing runs on the port and nothing keeps it from starting (07 R169, R174, R180). -/
structure State.portReady (s : State) (p : Nat) : Prop where
  scanning : (s.port p).scanning = false
  enumg : (s.port p).enumg = false
  opened : (s.port p).opened = false
  short : (s.port p).short = false
  converting : s.converting = true
  resetting : s.isResetting 9 = false

theorem State.portReady.passes (h : s.portReady p) : ((s.port p).scanning || (s.port p).enumg || (s.port p).opened ||
    (s.port p).short || !s.converting || s.isResetting 9) = false := by
  rw [h.scanning, h.enumg, h.opened, h.short, h.converting, h.resetting]
  rfl

theorem State.portIdle_of_busy (h : (s.port p).scanning = true ∨ (s.port p).enumg = true) : s.portIdle p = s := by
  refine if_pos ?_
  obtain h | h := h <;> simp [h]

section
variable (h : s.portReady p)
include h

theorem State.portIdle_of_enum (henum : (s.port p).pendEnum = true) : s.portIdle p = s.startEnum p := by
  simp only [State.portIdle, h.passes, henum, Bool.false_eq_true, if_true, if_false]
theorem State.portIdle_of_pended (henum : (s.port p).pendEnum = false) (hscan : (s.port p).pendScan = true) :
    s.portIdle p = s.startScan p := by
  simp only [State.portIdle, h.passes, henum, hscan, Bool.false_eq_true, if_true, if_false]
theorem State.portIdle_of_due (henum : (s.port p).pendEnum = false) (hscan : (s.port p).pendScan = false) (hon : s.portOn p = true)
    (hdue : s.pPc p 1 = 0 ∨ (s.port p).nextMt ≤ s.now) :
    s.portIdle p = s.onPort p (Port.dueBegun (s.pPc p 1 * tenth) s.now) := by
  have hgo : (decide (s.pPc p 1 * tenth = 0) || decide ((s.port p).nextMt ≤ s.now)) = true := by
    simpa [tenth] using hdue
  simp only [State.portIdle, h.passes, henum, hscan, hon, hgo, Bool.true_and, Bool.false_eq_true, if_true, if_false]
  exact (State.startScan_eq ..).trans (State.onPort_onPort ..)
theorem State.portIdle_of_early (henum : (s.port p).pendEnum = false) (hscan : (s.port p).pendScan = false)
    (hperiod : 0 < s.pPc p 1) (hearly : s.now < (s.port p).nextMt) : s.portIdle p = s := by
  have hwait : (decide (s.pPc p 1 * tenth = 0) || decide ((s.port p).nextMt ≤ s.now)) = false := by
    have hticks : s.pPc p 1 * tenth ≠ 0 := Nat.mul_ne_zero hperiod.ne' (by decide)
    simp [hticks, hearly]
  simp only [State.portIdle, h.passes, henum, hscan, hwait, Bool.and_false, Bool.false_eq_true, if_false]
end

/-- An expiry that has come leaves the next one ahead (07 Table 7.8). -/
theorem lt_nextExpiry {next period now : Nat} (hperiod : 0 < period) (hdue : next ≤ now) : now < nextExpiry next period now := by
  rw [nextExpiry, if_neg (by omega)]
  have hrest : (now - next) % period < period := Nat.mod_lt _ hperiod
  have hsplit : period * ((now - next) / period) + (now - next) % period = now - next := Nat.div_add_mod ..
  rw [Nat.add_mul, Nat.one_mul, Nat.mul_comm]
  omega

/-- An update of a port that leaves its points and the counts about them alone. -/
def Port.keepsPoints (g : Port → Port) : Prop :=
  ∀ y, (g y).table = y.table ∧ (g y).missTot = y.missTot ∧ (g y).overpop = y.overpop

/-- Whatever an idle port starts, its points stay. -/
theorem State.portIdle_update (s : State) (p : Nat) : ∃ g, s.portIdle p = s.onPort p g ∧ Port.keepsPoints g := by
  have hnothing : s = s.onPort p id := by simp [State.onPort, State.onPica]
  unfold State.portIdle
  dsimp only
  split_ifs
  · exact ⟨_, hnothing, fun _ => ⟨rfl, rfl, rfl⟩⟩
  · exact ⟨_, s.startEnum_eq p, fun _ => ⟨rfl, rfl, rfl⟩⟩
  · exact ⟨_, s.startScan_eq p, fun _ => ⟨rfl, rfl, rfl⟩⟩
  · exact ⟨_, (State.startScan_eq ..).trans (State.onPort_onPort ..), fun _ => ⟨rfl, rfl, rfl⟩⟩
  · exact ⟨_, hnothing, fun _ => ⟨rfl, rfl, rfl⟩⟩

theorem State.portIdle_frame (s : State) (p : Nat) : sameBut picaParts (s.portIdle p).quiet s.quiet := by
  obtain ⟨g, hg, -⟩ := s.portIdle_update p
  rw [hg]
  exact s.onPort_frame p g
/-- The points of an idle port that starts something, and whether it had too many. -/
theorem State.portIdle_keeps (hp : p < s.pica.ports.length) : ((s.portIdle p).port p).table = (s.port p).table ∧
    ((s.portIdle p).port p).overpop = (s.port p).overpop := by
  obtain ⟨g, hg, hkeeps⟩ := s.portIdle_update p
  obtain ⟨htable, -, hover⟩ := hkeeps (s.port p)
  rw [hg, State.onPort_port_self hp]
  exact ⟨htable, hover⟩

/-- A pended enumeration comes before every scan (07 Table 7.8). -/
theorem State.portIdle_enumg (h : s.portReady p) (hp : p < s.pica.ports.length) :
    ((s.portIdle p).port p).enumg = (s.port p).pendEnum := by
  cases henum : (s.port p).pendEnum with
  | true =>
    rw [State.portIdle_of_enum h henum, State.startEnum_eq, State.onPort_port_self hp]
    rfl
  | false =>
    simp only [State.portIdle, h.passes, henum, Bool.false_eq_true, if_false]
    split_ifs
    · rw [State.startScan_eq, State.onPort_port_self hp]
      exact h.enumg
    · rw [State.startScan_eq, State.onPort_port_self (by simpa using hp), State.onPort_port_self hp]
      exact h.enumg
    · exact h.enumg

end Sys2Proof.Machine
end

section
/-! PROOFS. Delivered readings (07 R171): what a delivery writes and what it leaves alone, and points that are made to read
BROKEN one after the other (07 R173, R174). -/

namespace Sys2Proof.Machine

variable {s t u : State} {p k sl i j : Nat}

/-- A reading is the last of its point. -/
def Point.took (x : Reading) (now : Nat) (q : Point) : Point := { q with rd := x, lastMt := now }

theorem State.fanOut_pica (s : State) (src : Source) (epoch : Nat) (code : SCode) (value : Option Int) (stamp : Nat) :
    (s.fanOut src epoch code value stamp).pica = s.pica := by
  refine List.foldlRecOn (motive := fun a : State => a.pica = s.pica) _ _ rfl fun a ha c _ => ?_
  dsimp only
  split <;> exact ha

theorem State.onPoint_frame (s : State) (sl i : Nat) (f : Point → Point) : sameBut picaParts (s.onPoint sl i f).quiet s.quiet := by
  unfold State.onPoint
  split <;> rfl

theorem State.deliverReading_frame (s : State) (sl i : Nat) (x : Reading) :
    sameBut picaParts (s.deliverReading sl i x).quiet s.quiet := by
  refine sameBut.trans (foldl_sameBut (fun a c => ?_) _ _) ?_
  · exact sameBut_ite rfl rfl
  · rw [State.record_quiet]
    exact s.onPoint_frame ..

theorem State.deliverReading_pica (s : State) (sl i : Nat) (x : Reading) :
    (s.deliverReading sl i x).pica = (s.onPoint sl i (Point.took x s.bmt)).pica := by
  rw [State.deliverReading, State.fanOut_pica, State.record_pica]
  rfl

-- A point of a local port (07 R172) ----------------------------------------------------------------------------

section
variable (hp : p < 8)
include hp

theorem State.deliverReading_ports (s : State) (i : Nat) (x : Reading) : (s.deliverReading p i x).pica.ports =
    (s.onPort p fun y => { y with table := y.table.modify i (Point.took x s.bmt) }).pica.ports := by
  rw [State.deliverReading_pica, State.onPoint_local s hp]

theorem State.deliverReading_port_self (hlen : p < s.pica.ports.length) (i : Nat) (x : Reading) : (s.deliverReading p i x).port p =
    { s.port p with table := (s.port p).table.modify i (Point.took x s.bmt) } := by
  rw [State.port_congr (State.deliverReading_ports hp s i x), State.onPort_port_self hlen]
theorem State.deliverReading_port_ne (h : k ≠ p) (i : Nat) (x : Reading) : (s.deliverReading p i x).port k = s.port k := by
  rw [State.port_congr (State.deliverReading_ports hp s i x), State.onPort_port_ne h]

section
variable (hlen : p < s.pica.ports.length)
include hlen

theorem State.deliverReading_point_self (hi : i < (s.port p).table.length) (x : Reading) :
    (s.deliverReading p i x).point p i = (s.point p i).took x s.bmt := by
  rw [State.point_local _ hp, State.point_local _ hp, State.deliverReading_port_self hp hlen, getD_modify_point_self hi]
theorem State.deliverReading_point_ne (h : j ≠ i) (x : Reading) : (s.deliverReading p i x).point p j = s.point p j := by
  rw [State.point_local _ hp, State.point_local _ hp, State.deliverReading_port_self hp hlen, getD_modify_point_ne h]
end

end

-- A point of a node's port (07 R171) ---------------------------------------------------------------------------

theorem State.deliverReading_node_point_self (hsl : 8 ≤ sl) (x : Reading) :
    (s.deliverReading sl i x).point sl i = (s.point sl i).took x s.bmt := by
  rw [State.point_congr (s.deliverReading_pica sl i x), State.onPoint_node s hsl, State.point_node _ hsl, State.point_node _ hsl]
  simp [spGetD]
theorem State.deliverReading_node_point_ne (hsl : 8 ≤ sl) (h : j ≠ i) (x : Reading) :
    (s.deliverReading sl i x).point sl j = s.point sl j := by
  rw [State.point_congr (s.deliverReading_pica sl i x), State.onPoint_node s hsl, State.point_node _ hsl, State.point_node _ hsl]
  simp [spGetD, h]
theorem State.deliverReading_node_port (hsl : 8 ≤ sl) (x : Reading) (k : Nat) : (s.deliverReading sl i x).port k = s.port k := by
  rw [State.port_congr (congrArg PicaSt.ports (s.deliverReading_pica sl i x)), State.onPoint_node s hsl]
  rfl

-- Deliveries to the points of one port -------------------------------------------------------------------------

/-- What deliveries to points of local port `p` leave alone: the port but for the readings in its table, the other ports, and
the unit but for the tokens. -/
structure State.served (p : Nat) (t s : State) : Prop where
  frame : sameBut picaParts t.quiet s.quiet
  bus : t.pica.ports.length = s.pica.ports.length
  others : ∀ k, k ≠ p → t.port k = s.port k
  port : { t.port p with table := [] } = { s.port p with table := [] }
  ids : (t.port p).table.map (·.id) = (s.port p).table.map (·.id)

namespace State.served

theorem refl (p : Nat) (s : State) : s.served p s := ⟨rfl, rfl, fun _ _ => rfl, rfl, rfl⟩

theorem trans (h : t.served p u) (h' : u.served p s) : t.served p s where
  frame := h.frame.trans h'.frame
  bus := h.bus.trans h'.bus
  others k hk := (h.others k hk).trans (h'.others k hk)
  port := h.port.trans h'.port
  ids := h.ids.trans h'.ids

theorem deliverReading (h : t.served p s) (hp : p < 8) (hlen : p < s.pica.ports.length) (i : Nat) (x : Reading) :
    (t.deliverReading p i x).served p s := by
  have hlenT : p < t.pica.ports.length := h.bus.symm ▸ hlen
  have hself := State.deliverReading_port_self hp hlenT i x
  refine trans ⟨t.deliverReading_frame p i x, ?_, fun k hk => State.deliverReading_port_ne hp hk i x, ?_, ?_⟩ h
  · rw [State.deliverReading_ports hp]
    exact List.length_modify ..
  · rw [hself]
  · rw [hself]
    refine List.ext_getElem (by simp) fun n _ _ => ?_
    simp only [List.getElem_map, List.getElem_modify]
    split <;> rfl

/-- The port with another table. -/
theorem port_eq (h : t.served p s) : t.port p = { s.port p with table := (t.port p).table } :=
  congrArg (fun y : Port => { y with table := (t.port p).table }) h.port
theorem table_length (h : t.served p s) : (t.port p).table.length = (s.port p).table.length := by
  simpa using congrArg List.length h.ids

end State.served

-- Points that are made to read BROKEN --------------------------------------------------------------------------

/-- The points of a port at these places read BROKEN, one after the other. -/
def State.breakPoints (s : State) (p : Nat) (l : List Nat) : State :=
  l.foldl (fun a i => a.deliverReading p i (a.emptyReading p i .broken)) s

/-- A point without a value, BROKEN. -/
def Point.dead (q : Point) : Prop := q.rd.code = .broken ∧ q.rd.temp = none

theorem State.breakPoints_served (hp : p < 8) (hlen : p < s.pica.ports.length) (l : List Nat) : (s.breakPoints p l).served p s :=
  List.foldlRecOn (motive := fun a : State => a.served p s) _ _ (.refl p s) fun _ ha i _ => ha.deliverReading hp hlen i _

theorem State.breakPoints_dead (hp : p < 8) {l : List Nat} (hlen : p < s.pica.ports.length) (hi : i < (s.port p).table.length)
    (h : i ∈ l ∨ (s.point p i).dead) : ((s.breakPoints p l).point p i).dead := by
  induction l generalizing s with
  | nil => exact h.resolve_left List.not_mem_nil
  | cons j l ih =>
    have hserved := (State.served.refl p s).deliverReading hp hlen j (s.emptyReading p j .broken)
    refine ih (hserved.bus.symm ▸ hlen) (hserved.table_length.symm ▸ hi) ?_
    by_cases hij : i = j
    · subst hij
      rw [State.deliverReading_point_self hp hlen hi]
      exact .inr ⟨rfl, rfl⟩
    · rw [State.deliverReading_point_ne hp hlen hij]
      exact h.imp_left fun hmem => (List.mem_cons.1 hmem).resolve_left hij

end Sys2Proof.Machine
end

section
/-! PROOFS. Port faults and ageing points (07 R174, R175). -/

namespace Sys2Proof.Machine

variable {s t u : State} {p k sl i dt : Nat} {f : Port → Port}

-- A fault of a port (07 R174) ----------------------------------------------------------------------------------

/-- A faulted port: no scan and no enumeration runs, and an enumeration that ran waits. -/
def Port.faulted (x : Port) : Port :=
  { x with pendEnum := x.pendEnum || x.enumg, scanning := false, converting := false, enumg := false }

theorem State.portFault_eq (s : State) (p : Nat) :
    s.portFault p = (s.onPort p Port.faulted).breakPoints p (List.range (s.port p).table.length) := by
  unfold State.portFault
  rw [State.onPort_onPort]
  rfl

/-- What a fault of port `p` makes of a unit, slugs aside. -/
structure State.faultedAt (p : Nat) (t u : State) : Prop where
  port : t.port p = { (u.port p).faulted with table := (t.port p).table }
  len : (t.port p).table.length = (u.port p).table.length
  dead : ∀ i, i < (u.port p).table.length → (t.point p i).dead
  others : ∀ k, k ≠ p → t.port k = u.port k
  frame : sameBut picaParts t.quiet u.quiet

theorem State.portFault_faultedAt (hp : p < 8) (hlen : p < u.pica.ports.length) : (u.portFault p).faultedAt p u := by
  rw [State.portFault_eq]
  have hlen' : p < (u.onPort p Port.faulted).pica.ports.length := by simpa using hlen
  have hport : (u.onPort p Port.faulted).port p = (u.port p).faulted := State.onPort_port_self hlen _
  have hserved := State.breakPoints_served hp hlen' (List.range (u.port p).table.length)
  refine ⟨?_, ?_, fun i hi => ?_, fun k hk => ?_, hserved.frame.trans (u.onPort_frame p _)⟩
  · rw [← hport]
    exact hserved.port_eq
  · rw [hserved.table_length, hport]
    rfl
  · exact State.breakPoints_dead hp hlen' (by rw [hport]; exact hi) (.inl (List.mem_range.2 hi))
  · rw [hserved.others k hk, State.onPort_port_ne hk]

/-- A fault that is told in a slug is the same fault (07 Table 7.11). -/
theorem State.faultedAt.slug (h : u.faultedAt p s) (after : Nat) :
    (u.slug 9 0x0901 .fault (obj := p) (after := after)).faultedAt p s := by
  obtain ⟨hport, hlen, hdead, hothers, hframe⟩ := h
  have hquiet : (u.slug 9 0x0901 .fault (obj := p) (after := after)).quiet = u.quiet := State.slug_quiet ..
  obtain ⟨-, -, -, -, -, hpica, -⟩ := quiet_parts hquiet
  simp only [← State.port_congr (congrArg PicaSt.ports hpica), ← State.point_congr hpica, ← hquiet] at hport hlen hdead hothers hframe
  exact ⟨hport, hlen, hdead, hothers, hframe⟩

/-- A port's short is told in a slug once a minute (07 R174). -/
def Port.shortTold (now : Nat) (x : Port) : Bool :=
  match x.slugMt with | some m => decide (m + 60 * Config.sec ≤ now) | none => true
/-- A shorted port is off from `now` on. -/
def Port.shorted (now : Nat) (x : Port) : Port :=
  { x with short := true, opened := false, offMt := now, slugMt := if x.shortTold now then some now else x.slugMt }

section
variable (hp : p < 8) (hshort : (s.port p).short = false) (hconv : s.converting = true) (hon : s.portOn p = true)
include hp hshort hconv hon

theorem execPortOpen_of_on (hopened : (s.port p).opened = false) : exec (.portOpen dt p) s =
    .next ((((s.elapse dt).onPort p fun y => { y with opened := true }).portFault p).slug 9 0x0901 .fault (obj := p) (after := 1)) := by
  have hgoes : ¬(8 ≤ p ∨ ((s.elapse dt).port p).opened = true ∨ ((s.elapse dt).port p).short = true ∨
      (!(s.elapse dt).converting) = true ∨ (!(s.elapse dt).portOn p) = true) := by
    simp [hopened, hshort, hconv, hon, hp]
  exact if_neg hgoes

theorem execPortShort_of_on (hu : u = ((s.elapse dt).onPort p (Port.shorted (s.elapse dt).now)).portFault p) :
    exec (.portShort dt p) s = .next (if ((s.elapse dt).port p).shortTold (s.elapse dt).now
      then u.slug 9 0x0901 .fault (obj := p) (after := 2) else u) := by
  have hgoes : ¬(8 ≤ p ∨ ((s.elapse dt).port p).short = true ∨ (!(s.elapse dt).converting) = true ∨
      (!(s.elapse dt).portOn p) = true) := by
    simp [hshort, hconv, hon, hp]
  rw [hu, State.onPort_congr (f' := fun y => { y with
    short := true, opened := false, offMt := (s.elapse dt).now
    slugMt := if ((s.elapse dt).port p).shortTold (s.elapse dt).now then some (s.elapse dt).now else y.slugMt }) rfl]
  exact if_neg hgoes
end

-- A port whose current is back (07 R174) -----------------------------------------------------------------------

theorem execPortShortRetry_of_early (hearly : (s.elapse dt).now < ((s.elapse dt).port p).offMt + 5 * Config.sec) :
    exec (.portShortRetry dt p) s = .next (s.elapse dt) := if_neg fun h => Nat.not_le.2 hearly h.2.2.1

theorem execPortShortRetry_of_due (hp : p < 8) (hshort : ((s.elapse dt).port p).short = true)
    (hdue : ((s.elapse dt).port p).offMt + 5 * Config.sec ≤ (s.elapse dt).now) (hconv : (s.elapse dt).converting = true) :
    exec (.portShortRetry dt p) s = .next (((s.elapse dt).onPort p fun y =>
      { y with short := false, pendScan := y.pendScan || (s.elapse dt).portOn p }).portIdle p) := if_pos ⟨hp, hshort, hdue, hconv⟩

theorem execPortFaultClear_of_opened (hp : p < 8) (hopened : ((s.elapse dt).port p).opened = true) :
    exec (.portFaultClear dt p) s = .next (((s.elapse dt).onPort p fun y =>
      { y with opened := false, pendScan := y.pendScan || (s.elapse dt).portOn p }).portIdle p) := if_pos ⟨hp, hopened⟩

/-- A port that is ready again starts its pended scan with a fresh CONVERT. -/
theorem State.onPort_portIdle_of_pended {x : Port} (hlen : p < s.pica.ports.length) (hport : f (s.port p) = x)
    (hscanning : x.scanning = false) (henumg : x.enumg = false) (hopened : x.opened = false) (hshort : x.short = false)
    (henum : x.pendEnum = false) (hscan : x.pendScan = true) (hconv : s.converting = true) (hres : s.isResetting 9 = false) :
    ((s.onPort p f).portIdle p).port p = x.scanBegun s.now ∧ sameBut [.pica] s ((s.onPort p f).portIdle p) := by
  have hx : (s.onPort p f).port p = x := (State.onPort_port_self hlen f).trans hport
  have hready : (s.onPort p f).portReady p := by
    refine ⟨?_, ?_, ?_, ?_, hconv, hres⟩ <;> rwa [hx]
  rw [State.portIdle_of_pended hready (by rw [hx, henum]) (by rw [hx, hscan]), State.startScan_eq,
    State.onPort_port_self (by simpa using hlen), hx]
  exact ⟨rfl, rfl⟩

-- Points that grow old (07 R175) -------------------------------------------------------------------------------

theorem execPicaPointStale_of_due (hpoint : (s.elapse dt).hasPoint sl i = true) (hconv : (s.elapse dt).converting = true)
    (hdue : ((s.elapse dt).point sl i).lastMt + (s.elapse dt).pPc sl 2 * tenth ≤ (s.elapse dt).now)
    (hon : (s.elapse dt).portOn sl = true) : exec (.picaPointStale dt sl i) s =
      .next ((s.elapse dt).deliverReading sl i ((s.elapse dt).emptyReading sl i .stale)) := if_pos ⟨hpoint, hconv, hdue, hon⟩

theorem spGet_isSome_of_mem {α : Type} {y : α} {tb : Sparse α} (h : (k, y) ∈ tb) : (spGet tb k).isSome = true := by
  induction tb with
  | nil => exact absurd h List.not_mem_nil
  | cons q tb ih =>
    unfold spGet
    split
    · rfl
    next hne => exact ih ((List.mem_cons.1 h).resolve_left fun he => hne (congrArg Prod.fst he).symm)

theorem State.hasPoint_local (hp : p < 8) (hi : i < (s.port p).table.length) : s.hasPoint p i = true := by
  simp [State.hasPoint, hp, hi]
theorem State.hasPoint_node (hsl : 8 ≤ sl) (hlast : sl < 488) (hi : i < 64)
    (h : i < s.nmap sl ∨ ∃ y, (64 * sl + i, y) ∈ s.pica.nodePts) : s.hasPoint sl i = true := by
  have hknown : i < s.nmap sl ∨ (spGet s.pica.nodePts (64 * sl + i)).isSome = true :=
    h.imp_right fun ⟨_, hy⟩ => spGet_isSome_of_mem hy
  rw [State.hasPoint, if_neg (Nat.not_lt.2 hsl)]
  simpa [hlast, hi] using hknown

/-- Settles O30: a fault breaks the points one after the other on the unit as time has left it, a port that is back starts
its pended scan, and a silent point takes a STALE reading (07 R174, R175). -/
theorem portFaultsBreakEveryPoint : Obligations.PortFaultsBreakEveryPoint := by
  intro dt p s x hp hports hx hrep hconv hres hon
  have hlen : p < (s.elapse dt).pica.ports.length := by simpa [hports] using hp
  obtain rfl : (s.elapse dt).port p = x := by simpa using hx
  have hconvU : (s.elapse dt).converting = true := by simpa using hconv
  have hresU : (s.elapse dt).isResetting 9 = false := by simpa using hres
  have honU : (s.elapse dt).portOn p = true := by simpa using hon
  have hbmt : (s.elapse dt).bmt = (s.elapse dt).now := State.bmt_eq_now (by simpa using hrep)
  have faulted (g : Port → Port) : (((s.elapse dt).onPort p g).portFault p).faultedAt p ((s.elapse dt).onPort p g) :=
    State.portFault_faultedAt hp (by simpa using hlen)
  have faultedPort (g : Port → Port) : ((s.elapse dt).onPort p g).port p = g ((s.elapse dt).port p) :=
    State.onPort_port_self hlen g
  refine ⟨fun hshort hopened => ?opens, fun hshort => ?shorts, fun hshort hopened hscanning henumg henum => ⟨?early, fun hdue => ?back⟩,
    fun hopened hshort hscanning henumg henum => ?clear, fun sl i hsl hlast hi _ hpoint hon hdue => ?node,
    fun i hi hdue => ?stale⟩
  case opens =>
    obtain ⟨hport, htable, hdead, hothers, hframe⟩ := (faulted fun y => { y with opened := true }).slug 1
    rw [faultedPort] at hport htable hdead
    refine ⟨_, execPortOpen_of_on hp (by rwa [hx]) hconv hon (by rwa [hx]), ?_, ?_, ?_, htable, hdead, fun k hk => ?_, hframe⟩
    · rw [hport]; rfl
    · rw [hport]; rfl
    · rw [hport]; rfl
    · rw [hothers k hk, State.onPort_port_ne hk, State.elapse_port]
  case shorts =>
    have hfault := faulted (Port.shorted (s.elapse dt).now)
    obtain ⟨t, hexec, hport, -, hdead, hothers, hframe⟩ : ∃ t, exec (.portShort dt p) s = .next t ∧
        t.faultedAt p ((s.elapse dt).onPort p (Port.shorted (s.elapse dt).now)) := by
      refine ⟨_, execPortShort_of_on hp (by rwa [hx]) hconv hon rfl, ?_⟩
      split
      · exact hfault.slug 2
      · exact hfault
    rw [faultedPort] at hport hdead
    refine ⟨t, hexec, ?_, ?_, ?_, fun i hi => (hdead i hi).1, fun k hk => ?_, hframe⟩
    · rw [hport]; rfl
    · rw [hport]; rfl
    · rw [hport]; rfl
    · rw [hothers k hk, State.onPort_port_ne hk, State.elapse_port]
  case early => exact execPortShortRetry_of_early
  case back =>
    obtain ⟨hport, hframe⟩ := State.onPort_portIdle_of_pended
      (f := fun y => { y with short := false, pendScan := y.pendScan || (s.elapse dt).portOn p })
      (x := { (s.elapse dt).port p with short := false, pendScan := true })
      hlen (by rw [honU, Bool.or_true]) hscanning henumg hopened rfl henum rfl hconvU hresU
    exact ⟨_, execPortShortRetry_of_due hp hshort hdue hconvU, hport, hframe⟩
  case clear =>
    obtain ⟨hport, hframe⟩ := State.onPort_portIdle_of_pended
      (f := fun y => { y with opened := false, pendScan := y.pendScan || (s.elapse dt).portOn p })
      (x := { (s.elapse dt).port p with opened := false, pendScan := true })
      hlen (by rw [honU, Bool.or_true]) hscanning henumg rfl hshort henum rfl hconvU hresU
    exact ⟨_, execPortFaultClear_of_opened hp hopened, hport, hframe⟩
  case node =>
    have hself := State.deliverReading_node_point_self (s := s.elapse dt) (i := i) hsl ((s.elapse dt).emptyReading sl i .stale)
    refine ⟨_, execPicaPointStale_of_due (State.hasPoint_node hsl hlast hi (by simpa using hpoint)) hconvU (by simpa [tenth] using hdue)
      (by simpa using hon), by rw [hself]; rfl, by rw [hself]; rfl, by rw [hself]; exact hbmt, fun k hk _ => ?_, fun k => ?_,
      State.deliverReading_frame ..⟩
    · rw [State.deliverReading_node_point_ne hsl hk, State.elapse_point]
    · rw [State.deliverReading_node_port hsl, State.elapse_port]
  case stale =>
    have hself := State.deliverReading_point_self hp hlen hi ((s.elapse dt).emptyReading p i .stale)
    refine ⟨_, execPicaPointStale_of_due (State.hasPoint_local hp hi) hconvU (by simpa [tenth] using hdue) honU,
      by rw [hself]; rfl, by rw [hself]; rfl, by rw [hself]; exact hbmt, fun k hk => ?_, State.deliverReading_frame ..⟩
    rw [State.deliverReading_point_ne hp hlen hk, State.elapse_point]

end Sys2Proof.Machine
end

section
/-! PROOFS. Scans and their read slots (07 R167 to R170, Table 7.2, Table 7.8), PICA_SCAN and PICA_ENUM (07 R173, R183). -/

namespace Sys2Proof.Machine

variable {s t u : State} {p k i dt : Nat} {r : PicaReply}

-- Commands and events that start a scan (07 R169, Table 7.8) ---------------------------------------------------

theorem execPicaScanPeriod_of_port (hp : p < 8) (dt : Nat) (s : State) :
    exec (.picaScanPeriod dt p) s = .next ((s.elapse dt).portIdle p) := congrArg Host.Outcome.next (if_pos hp)

section
variable {f : Nat} {fl : Flight} (hf : s.flight? f = some fl)
include hf

theorem exec_picaScan_of_ready (hready : ready fl 0x40 = true) {status : Nat} {res : List Nat}
    (hbody : picaScanBody fl (s.elapse dt) = .done t status res) : exec (.picaScan dt f) s = .next (t.complete f status res) := by
  show Host.Outcome.next (runCmd 0x40 f picaScanBody (s.elapse dt)) = _
  rw [runCmd_ready picaScanBody (by simpa using hf) hready, hbody]

theorem exec_picaEnum_of_ready (hready : ready fl 0x41 = true) {status : Nat} {res : List Nat}
    (hbody : picaEnumBody fl (s.elapse dt) = .done t status res) : exec (.picaEnum dt f) s = .next (t.complete f status res) := by
  show Host.Outcome.next (runCmd 0x41 f picaEnumBody (s.elapse dt)) = _
  rw [runCmd_ready picaEnumBody (by simpa using hf) hready, hbody]

theorem exec_picaEnum_of_later (hready : ready fl 0x41 = true) (hbody : picaEnumBody fl (s.elapse dt) = .later t) :
    exec (.picaEnum dt f) s = .next (t.onFlight f fun x => { x with deferred := true }) := by
  show Host.Outcome.next (runCmd 0x41 f picaEnumBody (s.elapse dt)) = _
  rw [runCmd_ready picaEnumBody (by simpa using hf) hready, hbody]

/-- A command that waits for a later event stays in flight. -/
theorem State.deferred_flight (hflights : t.flight? f = s.flight? f) :
    ((t.onFlight f fun x => { x with deferred := true }).flight? f).isSome = true := by
  rw [hf] at hflights
  simp only [State.flight?] at hflights
  have hkeep : (fun x : Flight => decide (x.f = f)) ∘ (fun x => if x.f = f then { x with deferred := true } else x) =
      fun x => decide (x.f = f) := by
    funext x
    simp only [Function.comp_apply]
    split <;> rfl
  rw [State.flight?, State.onFlight, State.onHost_host, List.find?_map, hkeep, hflights]
  rfl
end

section
variable {fl : Flight}

theorem picaScanBody_start (hp : p < 8) (hop : argB fl.e 0 = 0) (hport : argB fl.e 1 = p) :
    picaScanBody fl s = scanNow s p := by
  unfold picaScanBody
  simp only [hop, hport]
  exact if_neg (Nat.not_le.2 hp)

theorem picaScanBody_point (hp : p < 8) (hop : argB fl.e 0 = 1) (hport : argB fl.e 1 = p) (hi : argB fl.e 2 = i) :
    picaScanBody fl s = if i < (s.port p).table.length then .ok s (readingBytes { (s.point p i).rd with point := i, port := p })
      else .bad s := by
  unfold picaScanBody
  simp only [hop, hport, hi, Nat.not_le.2 hp, false_or]
  split
  · rw [if_neg (by omega)]
  · rw [if_pos (by omega)]

theorem picaEnumBody_of_waiting (hp : p < 8) (hport : argB fl.e 0 = p) (hop : argB fl.e 1 = 0) (henum : (s.port p).enumF.isSome = true) :
    picaEnumBody fl s = .err s sBUSY := by
  simp [picaEnumBody, hport, hop, henum, Nat.not_le.2 hp]

/-- A PICA_ENUM starts the enumeration of an idle port, and waits for its end (07 R173). -/
theorem picaEnumBody_begins (hp : p < 8) (hlen : p < s.pica.ports.length) (h : s.portReady p) (hport : argB fl.e 0 = p)
    (hop : argB fl.e 1 = 0) (henum : (s.port p).enumF = none) :
    picaEnumBody fl s = .later (s.onPort p fun y => Port.enumBegun s.now { y with enumF := some fl.f }) := by
  have hwaits : ((s.onPort p fun y => { y with enumF := some fl.f, pendEnum := y.pendEnum || !y.enumg }).port p) =
      { s.port p with enumF := some fl.f, pendEnum := true } := by
    rw [State.onPort_port_self hlen]
    simp [h.enumg]
  have hready : (s.onPort p fun y => { y with enumF := some fl.f, pendEnum := y.pendEnum || !y.enumg }).portReady p :=
    ⟨by rw [hwaits]; exact h.scanning, by rw [hwaits]; exact h.enumg, by rw [hwaits]; exact h.opened, by rw [hwaits]; exact h.short,
      h.converting, h.resetting⟩
  have hstart := State.portIdle_of_enum hready (by rw [hwaits])
  rw [State.startEnum_eq, State.onPort_onPort] at hstart
  rw [picaEnumBody, hport, hop]
  simp only [Nat.not_le.2 hp, henum, hstart, Nat.not_lt_zero, zero_ne_one, or_self, Option.isSome_none, Bool.false_eq_true, if_false]
  rfl
end

section
variable (hon : s.portOn p = true) (hconv : s.converting = true)
include hon hconv

theorem scanNow_of_idle (hlen : p < s.pica.ports.length) (h : s.portReady p) :
    scanNow s p = .ok (s.startScan p) (0 :: le 2 (incW 16 (s.port p).scan)) := by
  have hscan : ((s.startScan p).port p).scan = incW 16 (s.port p).scan := by
    rw [State.startScan_eq, State.onPort_port_self hlen]
    rfl
  simp [scanNow, hon, hconv, h.scanning, h.enumg, h.opened, h.short, hscan, accCode]

theorem scanNow_of_busy (hlen : p < s.pica.ports.length) (h : (s.port p).scanning = true ∨ (s.port p).enumg = true) :
    scanNow s p = if (s.port p).pendScan then .ok s (3 :: le 2 (s.port p).scan)
      else .ok (s.onPort p fun y => { y with pendScan := true }) (1 :: le 2 (s.port p).scan) := by
  have hbusy : ((s.port p).scanning || (s.port p).enumg || (s.port p).opened || (s.port p).short) = true := by
    obtain h | h := h <;> simp [h]
  have hscan : ((s.onPort p fun y => { y with pendScan := true }).port p).scan = (s.port p).scan := by
    rw [State.onPort_port_self hlen]
  unfold scanNow
  simp only [hon, hconv, hbusy, hscan, Bool.not_true, Bool.or_false, Bool.false_eq_true, if_false, if_true]
  rfl
end

-- The wait for the conversion (07 R169) ------------------------------------------------------------------------

section
variable {x : Port} (hx : (s.elapse dt).port p = x)
include hx

theorem execPicaConvertWaitEnd_of_early (hearly : (s.elapse dt).now < x.startMt + 50000000) :
    exec (.picaConvertWaitEnd dt p) s = .next (s.elapse dt) := by
  rw [← hx] at hearly
  exact if_neg fun h => Nat.not_le.2 hearly h.2.2.2

theorem execPicaConvertWaitEnd_of_due (hp : p < 8) (hscanning : x.scanning = true) (hwait : x.converting = true)
    (hdue : x.startMt + 50000000 ≤ (s.elapse dt).now) (htable : x.table ≠ []) : exec (.picaConvertWaitEnd dt p) s =
      .next (((s.elapse dt).onPort p fun y => { y with converting := false }).picaSend p 0x20 (le 6 ((s.elapse dt).point p 0).id)) := by
  subst hx
  exact (if_pos ⟨hp, hscanning, hwait, hdue⟩).trans (if_neg (by simpa using htable))
end

-- A read slot's reply (07 R167, R168, R170) --------------------------------------------------------------------

/-- A reply is read where it is whole, error-free, and starts in time. -/
theorem picaPayload_eq_some_iff {b : List Nat} : picaPayload r = some b ↔ b.length = 5 ∧ r.frame = 0x55 :: b ++ [crc8 b] ∧
    r.parity = false ∧ 50000 ≤ r.start ∧ r.start ≤ 100000 := by
  unfold picaPayload
  dsimp only
  constructor
  · intro h
    split at h
    next hgood =>
      obtain ⟨hlen, hsync, hcrc, hparity, hlo, hhi⟩ := hgood
      obtain rfl := Option.some.inj h
      obtain ⟨tail, htail⟩ : ∃ l, r.frame = 0x55 :: l := List.head?_eq_some_iff.1 hsync
      rw [htail] at hlen hcrc ⊢
      have hlast : tail.drop 5 = [crc8 (tail.take 5)] := by
        rw [List.drop_eq_getElem_cons (by simp at hlen; omega), List.drop_eq_nil_of_le (by simp at hlen; omega)]
        simpa [List.getD_eq_getElem?_getD, show 5 < tail.length by simp at hlen; omega] using hcrc
      refine ⟨by simp at hlen ⊢; omega, ?_, by simpa using hparity, hlo, hhi⟩
      show 0x55 :: tail = 0x55 :: (tail.take 5 ++ [crc8 (tail.take 5)])
      rw [← hlast, List.take_append_drop]
    · cases h
  · rintro ⟨hlen, hframe, hparity, hlo, hhi⟩
    have hpay : (r.frame.drop 1).take 5 = b := by simp [hframe, ← hlen]
    rw [hpay]
    exact if_pos ⟨by simp [hframe, hlen], by simp [hframe], by simp [hframe, List.getD_eq_getElem?_getD, hlen], by simp [hparity], hlo, hhi⟩

theorem picaPayload_eq_none (h : ∀ b : List Nat, b.length = 5 → r.frame = 0x55 :: b ++ [crc8 b] →
    r.parity = true ∨ r.start < 50000 ∨ 100000 < r.start) : picaPayload r = none := by
  refine Option.eq_none_iff_forall_ne_some.2 fun b hb => ?_
  obtain ⟨hlen, hframe, hparity, hlo, hhi⟩ := picaPayload_eq_some_iff.1 hb
  obtain hbad | hbad | hbad := h b hlen hframe
  · exact absurd (hparity.symm.trans hbad) (by decide)
  all_goals omega

theorem State.slotReading_stamp (s : State) (p i : Nat) (r : PicaReply) :
    (s.slotReading p i r).2.stamp = (s.now - if r.frame = [] then 0 else r.back) % 2 ^ 48 := by
  unfold State.slotReading
  simp only [List.isEmpty_iff]
  split
  · dsimp only
    split <;> rfl
  · rfl

theorem State.slotReading_of_payload {b : List Nat} (h : picaPayload r = some b) (s : State) (p i : Nat) :
    (s.slotReading p i r).1.misses = 0 ∧ (s.slotReading p i r).2.brown = bitOf (b.getD 0 0) 4 ∧
    (bitOf (b.getD 0 0) 0 = true → (s.slotReading p i r).2.code = .broken ∧ (s.slotReading p i r).2.temp = none) ∧
    (bitOf (b.getD 0 0) 0 = false → (s.slotReading p i r).2.code = (if bitOf (b.getD 0 0) 1 then .overrange else .ok) ∧
      (s.slotReading p i r).2.temp = some (rdiv (25 * intAt b 1 2) 4)) := by
  unfold State.slotReading
  simp only [h]
  cases bitOf (b.getD 0 0) 0 with
  | true => exact ⟨trivial, rfl, fun _ => ⟨rfl, rfl⟩, fun hno => absurd hno (by decide)⟩
  | false => exact ⟨trivial, rfl, fun hno => absurd hno (by decide), fun _ => ⟨rfl, by rw [Int.mul_comm]; rfl⟩⟩

theorem State.slotReading_of_miss (h : picaPayload r = none) (s : State) (p i : Nat) :
    (s.slotReading p i r).1.misses = min 15 ((s.point p i).misses + 1) ∧ (s.slotReading p i r).2.temp = none ∧
    (s.slotReading p i r).2.code = if s.missN p ≤ min 15 ((s.point p i).misses + 1) then .broken else .suspect := by
  unfold State.slotReading
  simp only [h]
  exact ⟨trivial, rfl, trivial⟩

-- The end of a read slot (07 R169) -----------------------------------------------------------------------------

/-- The point of port `p`'s read slot with the slot's reading. -/
def State.slotPoint (s : State) (p : Nat) (r : PicaReply) : Point :=
  (s.slotReading p (s.port p).idx r).1.took (s.slotReading p (s.port p).idx r).2 s.bmt

/-- What the end of a read slot of port `p` makes of a unit, slugs aside, before the next slot or the scan's end: the slot's
point takes the reading, and a miss is counted. -/
structure State.slotServed (p : Nat) (r : PicaReply) (u s : State) : Prop where
  bus : u.pica.ports.length = s.pica.ports.length
  port : u.port p = { s.port p with
    table := (s.port p).table.modify (s.port p).idx fun _ => s.slotPoint p r
    idx := (s.port p).idx + 1
    missTot := if (picaPayload r).isSome then (s.port p).missTot else incW 16 (s.port p).missTot }
  others : ∀ k, k ≠ p → u.port k = s.port k
  frame : sameBut picaParts u.quiet s.quiet

theorem State.slotServed_of_delivered {d : State} (hp : p < 8) (hlen : p < s.pica.ports.length)
    (hd : d.quiet = ((s.onPoint p (s.port p).idx fun _ => (s.slotReading p (s.port p).idx r).1).deliverReading p (s.port p).idx
      (s.slotReading p (s.port p).idx r).2).quiet) :
    (d.onPort p fun z => { z with
      idx := z.idx + 1, missTot := if (picaPayload r).isSome then z.missTot else incW 16 z.missTot }).slotServed p r s := by
  rw [State.onPoint_local s hp] at hd
  obtain ⟨-, -, -, -, -, hpica, -⟩ := quiet_parts hd
  have hports := (congrArg PicaSt.ports hpica).trans (State.deliverReading_ports hp ..)
  have hlenD : d.pica.ports.length = s.pica.ports.length := by rw [hports]; simp
  have hself : d.port p = { s.port p with table := (s.port p).table.modify (s.port p).idx fun _ => s.slotPoint p r } := by
    rw [State.port_congr hports, State.onPort_onPort, State.onPort_port_self hlen]
    simp only [Function.comp_apply, List.modify_modify_eq]
    rfl
  refine ⟨by simpa using hlenD, ?_, fun k hk => ?_, ?_⟩
  · rw [State.onPort_port_self (hlenD.symm ▸ hlen), hself]
  · rw [State.onPort_port_ne hk, State.port_congr hports, State.onPort_port_ne hk, State.onPort_port_ne hk]
  · refine (State.onPort_frame ..).trans ?_
    rw [hd]
    exact (State.deliverReading_frame ..).trans (State.onPort_frame ..)

/-- After slot `i` of `n`: the next slot's READ frame, or the end of the scan. -/
def State.readSlotOver (u : State) (p i n : Nat) : State :=
  if i + 1 < n then u.picaSend p 0x20 (le 6 (u.point p (i + 1)).id) else (u.portStop p).portIdle p

theorem State.readSlotOver_update (u : State) (p i n : Nat) : ∃ g, u.readSlotOver p i n = u.onPort p g ∧ Port.keepsPoints g := by
  unfold State.readSlotOver
  split
  · exact ⟨_, rfl, fun _ => ⟨rfl, rfl, rfl⟩⟩
  · obtain ⟨g, hg, hkeeps⟩ := (u.portStop p).portIdle_update p
    exact ⟨_, hg.trans (State.onPort_onPort ..), fun y => hkeeps _⟩

/-- What follows a slot leaves the points, the misses and the other ports alone. -/
theorem State.readSlotOver_keeps (hp : p < 8) (hlen : p < u.pica.ports.length) (i n : Nat) :
    (∀ j, (u.readSlotOver p i n).point p j = u.point p j) ∧
    ((u.readSlotOver p i n).port p).missTot = (u.port p).missTot ∧
    (∀ k, k ≠ p → (u.readSlotOver p i n).port k = u.port k) ∧ sameBut picaParts (u.readSlotOver p i n).quiet u.quiet := by
  obtain ⟨g, hover, hkeeps⟩ := u.readSlotOver_update p i n
  obtain ⟨htable, hmissTot, -⟩ := hkeeps (u.port p)
  rw [hover]
  refine ⟨fun j => ?_, ?_, fun k hk => State.onPort_port_ne hk g, u.onPort_frame p g⟩
  · rw [State.point_local _ hp, State.point_local _ hp, State.onPort_port_self hlen, htable]
  · rw [State.onPort_port_self hlen, hmissTot]

theorem execPicaReadSlotEnd_of_due (hp : p < 8) (hlen : p < (s.elapse dt).pica.ports.length)
    (hscanning : ((s.elapse dt).port p).scanning = true) (hread : ((s.elapse dt).port p).converting = false)
    (hconv : (s.elapse dt).converting = true)
    (hdue : ((s.elapse dt).port p).startMt + 50000000 + 1562500 * (((s.elapse dt).port p).idx + 1) ≤ (s.elapse dt).now) (r : PicaReply) :
    ∃ u : State, u.slotServed p r (s.elapse dt) ∧ exec (.picaReadSlotEnd dt p r) s =
      .next (u.readSlotOver p ((s.elapse dt).port p).idx ((s.elapse dt).port p).table.length) := by
  have hgo : p < 8 ∧ ((s.elapse dt).port p).scanning = true ∧ (!((s.elapse dt).port p).converting) = true ∧
      (s.elapse dt).converting = true ∧
      ((s.elapse dt).port p).startMt + 50000000 + 1562500 * (((s.elapse dt).port p).idx + 1) ≤ (s.elapse dt).now :=
    ⟨hp, hscanning, by rw [hread]; rfl, hconv, hdue⟩
  refine ⟨_, ?_, (if_pos hgo).trans (apply_ite Host.Outcome.next ..).symm⟩
  refine State.slotServed_of_delivered hp hlen ?_
  split
  · exact State.slug_quiet ..
  · rfl

namespace State.slotServed

variable (h : u.slotServed p r s)
include h

theorem point_self (hp : p < 8) (hi : (s.port p).idx < (s.port p).table.length) : u.point p (s.port p).idx = s.slotPoint p r := by
  rw [State.point_local _ hp, h.port]
  exact getD_modify_point_self hi _
theorem point_ne (hp : p < 8) (hi : i ≠ (s.port p).idx) : u.point p i = s.point p i := by
  rw [State.point_local _ hp, State.point_local _ hp, h.port]
  exact getD_modify_point_ne hi ..

/-- A slot that is not the last is followed by the next one's READ frame. -/
theorem more (hp : p < 8) (hlen : p < s.pica.ports.length) {n : Nat} (hmore : (s.port p).idx + 1 < n) :
    (u.readSlotOver p (s.port p).idx n).port p =
      { u.port p with sent := picaFrame 0x20 (le 6 (s.point p ((s.port p).idx + 1)).id) } := by
  rw [State.readSlotOver, if_pos hmore, h.point_ne hp (by omega)]
  exact State.onPort_port_self (h.bus.symm ▸ hlen) _

theorem stopped_port (hlen : p < s.pica.ports.length) (henumg : (s.port p).enumg = false) (henum : (s.port p).pendEnum = false) :
    (u.portStop p).port p = { u.port p with scanning := false, converting := false, enumg := false, pendEnum := false } := by
  have hself : (u.portStop p).port p = _ := State.onPort_port_self (h.bus.symm ▸ hlen) _
  rw [hself, h.port]
  simp [henumg, henum]

theorem stopped_frame : sameBut picaParts (u.portStop p).quiet s.quiet := (u.onPort_frame p _).trans h.frame

theorem stopped_ready (hlen : p < s.pica.ports.length) (henumg : (s.port p).enumg = false) (henum : (s.port p).pendEnum = false)
    (hopened : (s.port p).opened = false) (hshort : (s.port p).short = false) (hconv : s.converting = true)
    (hres : s.isResetting 9 = false) : (u.portStop p).portReady p where
  scanning := by rw [h.stopped_port hlen henumg henum]
  enumg := by rw [h.stopped_port hlen henumg henum]
  opened := by rw [h.stopped_port hlen henumg henum, h.port]; exact hopened
  short := by rw [h.stopped_port hlen henumg henum, h.port]; exact hshort
  converting := (h.stopped_frame.converting_eq (by decide)).trans hconv
  resetting := (h.stopped_frame.isResetting_eq (by decide) 9).trans hres

section
variable (hlen : p < s.pica.ports.length) (henumg : (s.port p).enumg = false) (henum : (s.port p).pendEnum = false)
  (hopened : (s.port p).opened = false) (hshort : (s.port p).short = false) (hconv : s.converting = true)
  (hres : s.isResetting 9 = false) (hscan : (s.port p).pendScan = false) {n : Nat} (hlast : n ≤ (s.port p).idx + 1)
include hlen henumg henum hopened hshort hconv hres hscan hlast

/-- After the last slot the scan is over until its period has passed. -/
theorem last_of_period (hperiod : 0 < s.pPc p 1) (hearly : s.now < (s.port p).nextMt) :
    ((u.readSlotOver p (s.port p).idx n).port p).scanning = false := by
  have hready := h.stopped_ready hlen henumg henum hopened hshort hconv hres
  have hport := h.stopped_port hlen henumg henum
  rw [State.readSlotOver, if_neg (by omega), State.portIdle_of_early hready (by rw [hport]) (by rw [hport, h.port]; exact hscan)
    (by rwa [h.stopped_frame.pPc_eq (by decide) (by decide)]) (by rw [hport, h.port, h.stopped_frame.now_eq (by decide)]; exact hearly)]
  exact hready.scanning

/-- Where there is no period, a scan follows the last slot at once. -/
theorem last_of_continuous (hon : s.portOn p = true) (hperiod : s.pPc p 1 = 0) :
    ((u.readSlotOver p (s.port p).idx n).port p).scanning = true ∧
    ((u.readSlotOver p (s.port p).idx n).port p).scan = incW 16 (s.port p).scan ∧
    ((u.readSlotOver p (s.port p).idx n).port p).converting = true := by
  have hready := h.stopped_ready hlen henumg henum hopened hshort hconv hres
  have hport := h.stopped_port hlen henumg henum
  have hpar : ∀ o, (u.portStop p).pPc p o = s.pPc p o := h.stopped_frame.pPc_eq (by decide) (by decide) p
  have hlenU : p < (u.portStop p).pica.ports.length := by
    simpa [State.portStop, h.bus] using hlen
  rw [State.readSlotOver, if_neg (by omega), State.portIdle_of_due hready (by rw [hport]) (by rw [hport, h.port]; exact hscan)
    (by rw [← hon, State.portOn, State.portOn, hpar]) (.inl (by rw [hpar, hperiod])),
    State.onPort_port_self hlenU, hport, h.port]
  exact ⟨rfl, rfl, rfl⟩
end

end State.slotServed

end Sys2Proof.Machine
end

section
/-! PROOFS. Enumeration (07 R172, R173, Table 7.10): the order of the point table, and the end of an enumeration. -/

namespace Sys2Proof.Machine

variable {s t u v : State} {p k i dt : Nat}

-- The order of the point table (07 R172) -----------------------------------------------------------------------

theorem insertPoint_perm (q : Point) (l : List Point) : (insertPoint q l).Perm (q :: l) := by
  induction l with
  | nil => rfl
  | cons r l ih =>
    unfold insertPoint
    split
    · rfl
    · exact (ih.cons r).trans (.swap q r l)

theorem insertPoint_rises (q : Point) {l : List Point} (h : l.Pairwise fun a b => a.id ≤ b.id) :
    (insertPoint q l).Pairwise fun a b => a.id ≤ b.id := by
  induction l with
  | nil => exact List.pairwise_singleton ..
  | cons r l ih =>
    obtain ⟨hhead, htail⟩ := List.pairwise_cons.1 h
    unfold insertPoint
    split
    next hlt =>
      refine List.pairwise_cons.2 ⟨fun a ha => ?_, h⟩
      obtain rfl | ha := List.mem_cons.1 ha
      · exact hlt.le
      · exact hlt.le.trans (hhead a ha)
    next hge =>
      refine List.pairwise_cons.2 ⟨fun a ha => ?_, ih htail⟩
      obtain rfl | ha := List.mem_cons.1 ((insertPoint_perm q l).mem_iff.1 ha)
      · exact Nat.not_lt.1 hge
      · exact hhead a ha

theorem foldr_insertPoint_perm (l : List Point) : (l.foldr insertPoint []).Perm l := by
  induction l with
  | nil => rfl
  | cons q l ih => exact (insertPoint_perm q _).trans (ih.cons q)

theorem foldr_insertPoint_rises (l : List Point) : (l.foldr insertPoint []).Pairwise fun a b => a.id ≤ b.id := by
  induction l with
  | nil => exact .nil
  | cons q l ih => exact insertPoint_rises q ih

/-- What a port knows of an ID, if only the ID, is of that ID. -/
theorem known_point_id (old : List Point) (id : Nat) : ((old.find? fun q => q.id = id).getD { id }).id = id := by
  cases hfind : old.find? fun q => q.id = id with
  | none => rfl
  | some q => simpa using List.find?_some hfind

variable (m : List Nat) (missN : Nat) (found : List PicaFound) (old : List Point)

/-- The map's IDs come first, the others found behind them in ascending order; what is beyond 64 does not fit. -/
theorem enumTable_ids : ∃ ex : List Nat, ex.Pairwise (fun a b => a ≤ b) ∧
    ex.Perm ((found.filter fun g => !m.contains g.id).map (·.id)) ∧
    (enumTable m missN found old).1.map (·.id) = (m ++ ex).take 64 ∧
    (!(enumTable m missN found old).2.isEmpty) = decide (64 < m.length + ex.length) := by
  unfold enumTable
  dsimp only
  generalize hextra : (found.filter fun g => !m.contains g.id).map (fun g =>
    { ((old.find? fun q => q.id = g.id).getD { id := g.id }) with mapped := false, found := true, rh := g.rh, fw := g.fw }) = extra
  have hids : extra.map (·.id) = (found.filter fun g => !m.contains g.id).map (·.id) := by
    rw [← hextra, List.map_map]
    exact List.map_congr_left fun g _ => known_point_id old g.id
  refine ⟨(extra.foldr insertPoint []).map (·.id), List.pairwise_map.2 (foldr_insertPoint_rises extra),
    hids ▸ (foldr_insertPoint_perm extra).map _, ?_, ?_⟩
  · rw [List.map_take, List.map_append, List.map_map]
    congr 2
    refine (List.map_congr_left fun id _ => ?_).trans m.map_id
    simp only [Function.comp_apply]
    split <;> exact known_point_id old id
  · rw [Bool.eq_iff_iff]
    simp

/-- A mapped ID that no point found has is not found. -/
theorem enumTable_missing (hi : i < m.length) (hi64 : i < 64) (hmiss : ∀ g ∈ found, g.id ≠ m.getD i 0) :
    ((enumTable m missN found old).1.getD i {}).found = false := by
  have hfind : (found.find? fun g => g.id = m[i]) = none := by
    refine List.find?_eq_none.2 fun g hg => ?_
    simpa [List.getD_eq_getElem?_getD, hi] using hmiss g hg
  unfold enumTable
  simp [List.getD_eq_getElem?_getD, List.getElem?_append, hi, hi64, hfind]

-- A completed command (14 R362, R369) --------------------------------------------------------------------------

/-- A command's completion and its audit reach the host's queues and the log. -/
theorem State.complete_frame (s : State) (f status : Nat) (res : List Nat) :
    sameBut [.host, .store, .svc] (s.complete f status res).quiet s.quiet := by
  simp [sameBut, State.but, State.quiet]

theorem State.auditCmd_flights (s : State) (fl : Flight) (status : Nat) : (s.auditCmd fl status).host.flights = s.host.flights := by
  unfold State.auditCmd State.audit
  split <;> simp

/-- A completed command is in flight no more. -/
theorem State.complete_flight_self (s : State) (f status : Nat) (res : List Nat) : (s.complete f status res).flight? f = none := by
  unfold State.complete
  cases hfl : s.flight? f with
  | none => exact hfl
  | some fl =>
    dsimp only
    rw [State.flight?, State.auditCmd_flights]
    split <;> simp [State.onQueue]

-- The end of an enumeration (07 R172, R173) --------------------------------------------------------------------

theorem foldl_enumSlug_quiet (p what : Nat) (l : List Nat) (s : State) :
    (l.foldl (fun a id => a.enumSlug p what id) s).quiet = s.quiet :=
  List.foldlRecOn (motive := fun a : State => a.quiet = s.quiet) _ _ rfl fun _ ha _ _ => (State.slug_quiet ..).trans ha

/-- Slugs tell what differs from the map, and that a port has too many points (07 Table 7.11). -/
theorem enumSlugs_quiet (p : Nat) (full : Bool) (missing dups extra : List Nat) (n : Int) (s : State) :
    (let t := extra.foldl (fun a id => a.enumSlug p 3 id) (dups.foldl (fun a id => a.enumSlug p 2 id)
        (missing.foldl (fun a id => a.enumSlug p 1 id) s))
      if full then t else t.slug 9 0x0902 .fault (obj := p) (v1 := n)).quiet = s.quiet := by
  dsimp only
  split <;> simp only [State.slug_quiet, foldl_enumSlug_quiet]

/-- The port table after the enumeration of port `p`. -/
def State.enumerated (s : State) (p : Nat) (found : List PicaFound) : List Point × List Point :=
  enumTable ((s.formeOf 9).picaMap p) (s.missN p) found (s.port p).table

/-- What an enumeration may change besides its port: its slugs, and the completion of the PICA_ENUM that waits for it. -/
def enumParts : List Part := [.pica, .toks, .host, .store, .svc]

/-- What the end of port `p`'s enumeration makes of a unit before the bus gets RESET: the new table, and the completion of a
PICA_ENUM that waited. -/
structure State.enumClosed (p : Nat) (found : List PicaFound) (v s : State) : Prop where
  bus : v.pica.ports.length = s.pica.ports.length
  port : ∃ a b c d, v.port p = { s.port p with
    enumg := false, table := (s.enumerated p found).1, overpop := !(s.enumerated p found).2.isEmpty
    nFound := a, nMissing := b, nExtra := c, nDup := d, enumF := none }
  frame : sameBut enumParts v.quiet s.quiet
  answered : ∀ f, (s.port p).enumF = some f → v.flight? f = none
  silent : (s.port p).enumF = none → sameBut picaParts v.quiet s.quiet

/-- The places of the points that were not found. -/
def State.unfound (s : State) (p : Nat) (found : List PicaFound) : List Nat :=
  (List.range (s.enumerated p found).1.length).filter fun i => !((s.enumerated p found).1.getD i {}).found

/-- The bus gets RESET, and the points that were not found read BROKEN. -/
def State.enumReset (v s : State) (p : Nat) (found : List PicaFound) : State :=
  (v.picaSend p 0x60 []).breakPoints p (s.unfound p found)

theorem State.enumClosed_of_quiet {g : Port → Port} {found : List PicaFound} {res : List Nat}
    (hlen : p < s.pica.ports.length) (hu : u.quiet = (s.onPort p g).quiet)
    (hg : ∃ a b c d, g (s.port p) = { s.port p with
      enumg := false, table := (s.enumerated p found).1, overpop := !(s.enumerated p found).2.isEmpty
      nFound := a, nMissing := b, nExtra := c, nDup := d, enumF := none }) :
    (match (s.port p).enumF with | some f => u.complete f sOK res | none => u).enumClosed p found s := by
  obtain ⟨-, -, -, -, -, hpica, -⟩ := quiet_parts hu
  have hport : u.port p = g (s.port p) := by rw [State.port_congr (congrArg PicaSt.ports hpica), State.onPort_port_self hlen]
  have hbus : u.pica.ports.length = s.pica.ports.length := by rw [hpica]; simp
  have hframe : sameBut picaParts u.quiet s.quiet := by rw [hu]; exact s.onPort_frame p g
  cases henumF : (s.port p).enumF with
  | none =>
    exact ⟨hbus, hport ▸ hg, hframe.mono (by decide), fun f hf => absurd (henumF.symm.trans hf) nofun, fun _ => hframe⟩
  | some f =>
    refine ⟨?_, ?_, ?_, fun f' hf => ?_, fun hf => absurd (henumF.symm.trans hf) nofun⟩
    · rw [State.complete_pica, hbus]
    · rw [State.port_congr (congrArg PicaSt.ports (State.complete_pica ..)), hport]
      exact hg
    · exact ((u.complete_frame f sOK res).mono (by decide)).trans (hframe.mono (by decide))
    · obtain rfl := Option.some.inj (henumF.symm.trans hf)
      exact State.complete_flight_self ..

theorem execPicaEnumEnd_of_running (hp : p < 8) (hlen : p < (s.elapse dt).pica.ports.length)
    (henumg : ((s.elapse dt).port p).enumg = true) (found : List PicaFound) :
    ∃ v : State, v.enumClosed p found (s.elapse dt) ∧ exec (.picaEnumEnd dt p found) s =
      .next ((v.enumReset (s.elapse dt) p found).portIdle p) := by
  have hgo : ¬(8 ≤ p ∨ (!((s.elapse dt).port p).enumg) = true) := by
    rw [henumg]
    simpa using hp
  refine ⟨_, ?_, if_neg hgo⟩
  exact State.enumClosed_of_quiet hlen (enumSlugs_quiet ..) ⟨_, _, _, _, rfl⟩

namespace State.enumClosed

variable {found : List PicaFound} (h : v.enumClosed p found s) (hlen : p < s.pica.ports.length)
include h hlen

theorem send_bus : p < (v.picaSend p 0x60 []).pica.ports.length := by
  simpa [State.picaSend, h.bus] using hlen
theorem send_port : (v.picaSend p 0x60 []).port p = { v.port p with sent := picaFrame 0x60 [] } :=
  State.onPort_port_self (h.bus.symm ▸ hlen) _

variable (hp : p < 8)
include hp

theorem reset_bus : p < (v.enumReset s p found).pica.ports.length :=
  (State.breakPoints_served hp (h.send_bus hlen) _).bus.symm ▸ h.send_bus hlen
theorem reset_served : (v.enumReset s p found).served p (v.picaSend p 0x60 []) :=
  State.breakPoints_served hp (h.send_bus hlen) _

/-- The port after the bus got RESET: the table has the new IDs. -/
theorem reset_port : ∃ a b c d e, (v.enumReset s p found).port p = { s.port p with
    enumg := false, table := ((v.enumReset s p found).port p).table, overpop := !(s.enumerated p found).2.isEmpty
    nFound := a, nMissing := b, nExtra := c, nDup := d, enumF := none, sent := e } := by
  obtain ⟨a, b, c, d, hport⟩ := h.port
  refine ⟨a, b, c, d, picaFrame 0x60 [], ?_⟩
  have hserved := (h.reset_served hlen hp).port_eq
  rw [h.send_port hlen, hport] at hserved
  exact hserved

theorem reset_ids : ((v.enumReset s p found).port p).table.map (·.id) = (s.enumerated p found).1.map (·.id) := by
  obtain ⟨a, b, c, d, hport⟩ := h.port
  rw [(h.reset_served hlen hp).ids, h.send_port hlen, hport]

theorem reset_frame : sameBut picaParts (v.enumReset s p found).quiet v.quiet :=
  (h.reset_served hlen hp).frame.trans (v.onPort_frame p _)

/-- A point that was not found reads BROKEN. -/
theorem reset_dead (hi : i < (s.enumerated p found).1.length) (hmiss : ((s.enumerated p found).1.getD i {}).found = false) :
    ((v.enumReset s p found).point p i).dead := by
  obtain ⟨a, b, c, d, hport⟩ := h.port
  refine State.breakPoints_dead hp (h.send_bus hlen) ?_ (.inl (List.mem_filter.2 ⟨List.mem_range.2 hi, by rw [hmiss]; rfl⟩))
  rw [h.send_port hlen, hport]
  exact hi

theorem reset_ready (hscanning : (s.port p).scanning = false) (hopened : (s.port p).opened = false)
    (hshort : (s.port p).short = false) (hconv : s.converting = true) (hres : s.isResetting 9 = false) :
    (v.enumReset s p found).portReady p := by
  obtain ⟨a, b, c, d, e, hport⟩ := h.reset_port hlen hp
  have hframe : sameBut enumParts (v.enumReset s p found).quiet s.quiet := ((h.reset_frame hlen hp).mono (by decide)).trans h.frame
  refine ⟨?_, ?_, ?_, ?_, (hframe.converting_eq (by decide)).trans hconv, (hframe.isResetting_eq (by decide) 9).trans hres⟩
  · rw [hport]; exact hscanning
  · rw [hport]
  · rw [hport]; exact hopened
  · rw [hport]; exact hshort

end State.enumClosed

end Sys2Proof.Machine
end

section
/-! PROOFS. The Pica rows together (07 R167 to R173): each on the unit as time has left it. -/

namespace Sys2Proof.Machine

variable {s t u v : State} {p k i dt : Nat}

/-- Settles O29: a port starts what is due or waits, its read slots deliver their points one after the other, and the end of an
enumeration files the new table (07 R167 to R173). -/
theorem picaScansReadEveryPoint : Obligations.PicaScansReadEveryPoint := by
  intro dt p s x hp hports hx hrep hconv hres hon hopened hshort
  have hlen : p < (s.elapse dt).pica.ports.length := by simpa [hports] using hp
  obtain rfl : (s.elapse dt).port p = x := by simpa using hx
  have hconvU : (s.elapse dt).converting = true := by simpa using hconv
  have hresU : (s.elapse dt).isResetting 9 = false := by simpa using hres
  have honU : (s.elapse dt).portOn p = true := by simpa using hon
  refine ⟨fun hscanning henumg henum hscan => ?idle, fun f fl hf hready hport hop hwaits => ?waits, fun hbusy => ?busy,
    fun f fl i hf hready hop hport hi => ?point, fun hscanning hwait => ⟨fun hearly => ?early, fun hdue htable => ?due⟩,
    fun r m hscanning hread hidx hdue hm => ?slot, fun found m henumg hscanning hm => ?ends⟩
  case idle =>
    have hfree : (s.elapse dt).portReady p := ⟨hscanning, henumg, hopened, hshort, hconvU, hresU⟩
    refine ⟨fun hdue => ?period, fun f fl hf hready hop hport => ?scan, fun f fl hf hready hport hop hfl hnone => ?enum⟩
    case period =>
      have hstart := State.portIdle_of_due hfree henum hscan honU (by rwa [State.elapse_pPc])
      refine ⟨_, (execPicaScanPeriod_of_port hp dt s).trans (congrArg _ hstart),
        ⟨nextExpiry ((s.elapse dt).port p).nextMt (s.pPc p 1 * tenth) (s.elapse dt).now, fun hperiod => ?_, ?_⟩, fun k hk => ?_, rfl⟩
      · exact lt_nextExpiry (Nat.mul_pos hperiod (by decide)) (hdue.resolve_left hperiod.ne')
      · rw [State.onPort_port_self hlen, State.elapse_pPc, Port.dueBegun, Port.scanBegun, hscan]
      · rw [State.onPort_port_ne hk, State.elapse_port]
    case scan =>
      have hbody := (picaScanBody_start (s := s.elapse dt) hp hop hport).trans (scanNow_of_idle honU hconvU hlen hfree)
      rw [State.startScan_eq, State.onPort_congr (f' := fun y => { y with
        scanning := true, converting := true, idx := 0, scan := incW 16 ((s.elapse dt).port p).scan, startMt := (s.elapse dt).now
        sent := picaFrame 0x10 [] }) (by rw [Port.scanBegun, hscan])] at hbody
      exact exec_picaScan_of_ready hf hready hbody
    case enum =>
      have hbody := picaEnumBody_begins hp hlen hfree hport hop hnone
      refine ⟨_, exec_picaEnum_of_later hf hready hbody, ?_, State.deferred_flight hf (s.elapse_flight dt f)⟩
      show ((s.elapse dt).onPort p _).port p = _
      rw [State.onPort_port_self hlen, Port.enumBegun, hfl, henum]
  case waits =>
    exact exec_picaEnum_of_ready hf hready (picaEnumBody_of_waiting hp hport hop hwaits)
  case busy =>
    refine ⟨(execPicaScanPeriod_of_port hp dt s).trans (congrArg _ (State.portIdle_of_busy hbusy)), fun f fl hf hready hop hport => ?_⟩
    have hbody := (picaScanBody_start (s := s.elapse dt) hp hop hport).trans (scanNow_of_busy honU hconvU hlen hbusy)
    split
    · exact exec_picaScan_of_ready hf hready (hbody.trans (if_pos ‹_›))
    · exact exec_picaScan_of_ready hf hready (hbody.trans (if_neg ‹_›))
  case point =>
    have hbody := picaScanBody_point (s := s.elapse dt) hp hop hport hi
    rw [State.elapse_point] at hbody
    split
    · exact exec_picaScan_of_ready hf hready (hbody.trans (if_pos ‹_›))
    · exact exec_picaScan_of_ready hf hready (hbody.trans (if_neg ‹_›))
  case early => exact execPicaConvertWaitEnd_of_early rfl hearly
  case due =>
    have hexec := execPicaConvertWaitEnd_of_due rfl hp hscanning hwait hdue htable
    rw [State.picaSend, State.onPort_onPort, State.elapse_point] at hexec
    exact hexec
  case slot =>
    subst hm
    obtain ⟨u, hserved, hexec⟩ := execPicaReadSlotEnd_of_due hp hlen hscanning hread hconvU hdue r
    have hpoint := hserved.point_self hp hidx
    have hmissTot := congrArg Port.missTot hserved.port
    obtain ⟨hpoints, htot, hothers, hframe⟩ := State.readSlotOver_keeps hp (hserved.bus.symm ▸ hlen) ((s.elapse dt).port p).idx
      ((s.elapse dt).port p).table.length
    refine ⟨_, _, hexec, (hpoints _).trans hpoint, ?stamp, fun b st hlen5 hreply hparity hlo hhi hst => ?reply, fun hbad => ?miss,
      fun i hi => ?points, fun k hk => ?ports, fun hmore => ?more, fun hlast henumg henum hscan => ⟨fun hperiod hearly => ?rests,
      fun hperiod => ?again⟩, ?frame⟩
    case stamp => exact State.slotReading_stamp ..
    case reply =>
      subst hst
      have hpay := picaPayload_eq_some_iff.2 ⟨hlen5, hreply, hparity, hlo, hhi⟩
      obtain ⟨hmisses, hbrown, hbroken, hfine⟩ := State.slotReading_of_payload hpay (s.elapse dt) p ((s.elapse dt).port p).idx
      exact ⟨hmisses, hbrown, htot.trans (hmissTot.trans (by rw [hpay]; rfl)), hbroken, hfine⟩
    case miss =>
      have hpay := picaPayload_eq_none hbad
      obtain ⟨hmisses, htemp, hcode⟩ := State.slotReading_of_miss hpay (s.elapse dt) p ((s.elapse dt).port p).idx
      rw [State.elapse_point] at hmisses hcode
      rw [State.elapse_missN] at hcode
      exact ⟨hmisses, htemp, htot.trans (hmissTot.trans (by rw [hpay]; rfl)), hcode⟩
    case points =>
      rw [hpoints, hserved.point_ne hp hi, State.elapse_point]
    case ports =>
      rw [hothers k hk, hserved.others k hk, State.elapse_port]
    case more =>
      rw [hserved.more hp hlen hmore, hserved.port, State.elapse_point]
      exact ⟨hscanning, rfl, rfl⟩
    case rests =>
      exact hserved.last_of_period hlen henumg henum hopened hshort hconvU hresU hscan hlast (by rwa [State.elapse_pPc]) hearly
    case again =>
      exact hserved.last_of_continuous hlen henumg henum hopened hshort hconvU hresU hscan hlast honU (by rwa [State.elapse_pPc])
    case frame => exact hframe.trans hserved.frame
  case ends =>
    obtain ⟨v, hclosed, hexec⟩ := execPicaEnumEnd_of_running hp hlen henumg found
    obtain ⟨ex, hrises, hperm, hids, hfull⟩ := enumTable_ids m (s.missN p) found ((s.elapse dt).port p).table
    have htable : (s.elapse dt).enumerated p found = enumTable m (s.missN p) found ((s.elapse dt).port p).table := by
      rw [State.enumerated, State.elapse_formeOf, State.elapse_missN, hm]
    obtain ⟨_, _, _, _, _, hreset⟩ := hclosed.reset_port hlen hp
    have hlenW := hclosed.reset_bus hlen hp
    have hready := hclosed.reset_ready hlen hp hscanning hopened hshort hconvU hresU
    have hframe := ((v.enumReset (s.elapse dt) p found).portIdle_frame p).trans (hclosed.reset_frame hlen hp)
    have hidsW := hclosed.reset_ids hlen hp
    obtain ⟨htab, hover⟩ := State.portIdle_keeps hlenW
    rw [htable, hids] at hidsW
    refine ⟨_, ex, hexec, ?enumg, hrises, hperm, ?ids, ?overpop, fun i hi hi64 hmiss => ?dead, fun f hf => ?flight, fun hf => ?frame⟩
    case enumg => rw [State.portIdle_enumg hready hlenW, hreset]
    case ids => rw [htab, hidsW]
    case overpop => rw [hover, hreset, htable, hfull]
    case dead =>
      have hlenT : (enumTable m (s.missN p) found ((s.elapse dt).port p).table).1.length = min 64 (m.length + ex.length) := by
        simpa using congrArg List.length hids
      rw [State.point_local _ hp, htab, ← State.point_local _ hp]
      refine (hclosed.reset_dead hlen hp ?_ ?_).1
      · rw [htable, hlenT]
        omega
      · rw [htable]
        exact enumTable_missing m _ found _ hi hi64 hmiss
    case flight => rw [hframe.flight_eq (by decide), hclosed.answered f hf]
    case frame => exact hframe.trans (hclosed.silent hf)

end Sys2Proof.Machine
end

section
/-! PROOFS. The arithmetic of an evaluation (08 R186 to R189, R210): what a rescale and a BUMPLESS release compute. -/

namespace Sys2Proof.Machine

-- Sums and shifts (08 R186) --------------------------------------------------------------------------------------

theorem sat64_of_bounds {x : Int} (hlo : -(2 ^ 63) ≤ x) (hhi : x < 2 ^ 63) : sat64 x = x := by
  unfold sat64 clamp
  omega

/-- A shift whose sum does not saturate adds half a step and drops the bits below. -/
theorem rnd_of_bounds {x : Int} {n : Nat} (hn : n ≠ 0) (hlo : -(2 ^ 63) ≤ x) (hhi : x + 2 ^ (n - 1) < 2 ^ 63) :
    rnd x n = (x + 2 ^ (n - 1)) / 2 ^ n := by
  have hpos : (0 : Int) < 2 ^ (n - 1) := by positivity
  rw [rnd, if_neg hn, sat64_of_bounds (by omega) hhi]

theorem two_pow_eq_twice {n : Nat} (hn : n ≠ 0) : (2 : Int) ^ n = 2 * 2 ^ (n - 1) := by
  rw [← pow_succ', Nat.sub_add_cancel (Nat.one_le_iff_ne_zero.2 hn)]

/-- A multiple of a step below the greatest sum is a whole step below it. -/
theorem mul_two_pow_add_le {x : Int} {n : Nat} (hn : n ≤ 63) (hhi : x * 2 ^ n < 2 ^ 63) : x * 2 ^ n + 2 ^ n ≤ 2 ^ 63 := by
  have hsplit : (2 : Int) ^ 63 = 2 ^ (63 - n) * 2 ^ n := by rw [← pow_add, Nat.sub_add_cancel hn]
  rw [hsplit] at hhi ⊢
  have hlt : x + 1 ≤ 2 ^ (63 - n) := lt_of_mul_lt_mul_right hhi (by positivity)
  calc x * 2 ^ n + 2 ^ n = (x + 1) * 2 ^ n := by ring
    _ ≤ 2 ^ (63 - n) * 2 ^ n := mul_le_mul_of_nonneg_right hlt (by positivity)

/-- Half a step does not change a multiple of the step. -/
theorem mul_two_pow_add_half_div (x : Int) {n : Nat} (hn : n ≠ 0) : (x * 2 ^ n + 2 ^ (n - 1)) / 2 ^ n = x := by
  have hpos : (0 : Int) < 2 ^ (n - 1) := by positivity
  have htwice := two_pow_eq_twice hn
  rw [add_comm, Int.add_mul_ediv_right _ _ (by positivity), Int.ediv_eq_zero_of_lt hpos.le (by omega), zero_add]

/-- What is shifted up without saturating comes back when it is shifted down. -/
theorem rnd_mul_two_pow {x : Int} {n : Nat} (hn : n ≤ 63) (hlo : -(2 ^ 63) ≤ x * 2 ^ n) (hhi : x * 2 ^ n < 2 ^ 63) :
    rnd (x * 2 ^ n) n = x := by
  by_cases h0 : n = 0
  · subst h0
    exact mul_one x
  · have hpos : (0 : Int) < 2 ^ (n - 1) := by positivity
    have htwice := two_pow_eq_twice h0
    have hroom := mul_two_pow_add_le hn hhi
    rw [rnd_of_bounds h0 hlo (by omega), mul_two_pow_add_half_div x h0]

-- A larger SHI (08 R189) -----------------------------------------------------------------------------------------

/-- The rescaled I_ACC gives the I term of before: its step and its half step have grown alike. -/
theorem rnd_rescale {acc : Int} {old new : Nat} (hlt : old < new) (hlo : -(2 ^ 63) ≤ acc * 2 ^ (new - old))
    (hhi : acc * 2 ^ (new - old) + 2 ^ (new - 1) < 2 ^ 63) : rnd (rescale acc old new) new = rnd acc old := by
  obtain ⟨j, rfl⟩ : ∃ j, new = old + j := ⟨new - old, by omega⟩
  have hj0 : j ≠ 0 := by omega
  rw [Nat.add_sub_cancel_left] at hlo hhi
  have hstep : (0 : Int) < 2 ^ j := by positivity
  have hhalf : (0 : Int) < 2 ^ (old + j - 1) := by positivity
  rw [rescale, if_pos hlt, Nat.add_sub_cancel_left, sat64_of_bounds hlo (by omega), rnd_of_bounds (by omega) hlo hhi]
  by_cases h0 : old = 0
  · subst h0
    rw [Nat.zero_add] at *
    exact mul_two_pow_add_half_div acc hj0
  · have hgrown : (2 : Int) ^ (old + j - 1) = 2 ^ (old - 1) * 2 ^ j := by
      rw [← pow_add]
      congr 1
      omega
    rw [hgrown, ← add_mul] at hhi ⊢
    rw [rnd_of_bounds h0 (by nlinarith) (by nlinarith), pow_add, Int.mul_ediv_mul_of_pos_left _ _ hstep]

-- A BUMPLESS release (08 R210) -----------------------------------------------------------------------------------

theorem Snap.shi_le (sn : Snap) : sn.shi ≤ 63 := by
  have hlt : sn.shi < 32 := Nat.mod_lt _ (by decide)
  omega

/-- The preset of a BUMPLESS release makes the I term what the other terms leave of U_LAST. -/
theorem evaluate_raw_of_bump {lp : Loop} {sn : Snap} {blk : Bool} {p d ff : Int} (hbump : sn.bump = true)
    (hp : p = (evaluate lp sn blk).p) (hd : d = (evaluate lp sn blk).d) (hff : ff = (evaluate lp sn blk).ff)
    (hplo : -(2 ^ 60) ≤ p) (hphi : p < 2 ^ 60) (hdlo : -(2 ^ 60) ≤ d) (hdhi : d < 2 ^ 60) (hflo : -(2 ^ 60) ≤ ff) (hfhi : ff < 2 ^ 60)
    (holo : -(2 ^ 31) ≤ lp.out) (hohi : lp.out < 2 ^ 31) (hlo : -(2 ^ 63) ≤ (lp.out - p - d - ff) * 2 ^ sn.shi)
    (hhi : (lp.out - p - d - ff) * 2 ^ sn.shi < 2 ^ 63) : (evaluate lp sn blk).raw = lp.out := by
  have hi : (evaluate lp sn blk).i = lp.out - p - d - ff := by
    have hpreset : (evaluate lp sn blk).i = rnd (sat64 (sat64 (sat64 (sat64 (lp.out - p) - d) - ff) * 2 ^ sn.shi)) sn.shi := by
      rw [hp, hd, hff]
      simp only [evaluate, hbump, if_true]
    rw [hpreset, sat64_of_bounds (x := lp.out - p) (by omega) (by omega), sat64_of_bounds (x := lp.out - p - d) (by omega) (by omega),
      sat64_of_bounds (x := lp.out - p - d - ff) (by omega) (by omega), sat64_of_bounds hlo hhi, rnd_mul_two_pow sn.shi_le hlo hhi]
  have hraw : (evaluate lp sn blk).raw = sat64 (sat64 (sat64 (p + (evaluate lp sn blk).i) + d) + ff) := by
    rw [hp, hd, hff]
    rfl
  rw [hraw, hi, sat64_of_bounds (x := p + _) (by omega) (by omega), sat64_of_bounds (x := p + _ + d) (by omega) (by omega),
    sat64_of_bounds (by omega) (by omega)]
  omega

/-- Settles O34: a larger SHI scales I_ACC and its half step alike, and the BUMPLESS preset leaves the I term to make up
U_LAST (08 R189, R210). -/
theorem rescaleAndBumplessKeepTheOutput : Obligations.RescaleAndBumplessKeepTheOutput := by
  refine ⟨fun acc old new hlt hlo hhi => rnd_rescale hlt hlo hhi, ?_⟩
  intro lp sn blk p d ff hbump hp hd hff hplo hphi hdlo hdhi hflo hfhi holo hohi hlo hhi
  have hraw := evaluate_raw_of_bump hbump hp hd hff hplo hphi hdlo hdhi hflo hfhi holo hohi hlo hhi
  refine ⟨hraw, fun hmin hmax => ?_⟩
  have hu : (evaluate lp sn blk).u = min (max (evaluate lp sn blk).raw sn.umin) sn.umax := rfl
  rw [hu, hraw, max_eq_left hmin, min_eq_left hmax]

end Sys2Proof.Machine
end

section
/-! PROOFS. The loops and galleys of the engine (08 R184, R204): one loop among the loops, one galley among the galleys, and what the
rules of one loop leave of the others and of the unit. -/

namespace Sys2Proof.Machine

variable {ps qs : List Part} {s t u v : State} {l m g k dt : Nat} {x y : Loop}

-- One loop, one galley (08 R184, R204) ----------------------------------------------------------------------------

theorem State.loop_congr (h : s.cle = t.cle) (l : Nat) : s.loop l = t.loop l := by simp only [State.loop, h]
theorem State.gal_congr (h : s.cle = t.cle) (g : Nat) : s.gal g = t.gal g := by simp only [State.gal, h]

@[simp] theorem State.onLoop_loop_ne (h : m ≠ l) (f : Loop → Loop) : (s.onLoop l f).loop m = s.loop m := by
  simp [State.loop, List.getD_eq_getElem?_getD, List.getElem?_modify_ne _ _ h.symm]
/-- What a change of one loop leaves of every loop, whichever it is. -/
theorem State.onLoop_keeps {α : Type} {g : Loop → α} {f : Loop → Loop} (hf : ∀ x, g (f x) = g x) (s : State) (l m : Nat) :
    g ((s.onLoop l f).loop m) = g (s.loop m) := by
  by_cases hm : m = l
  · subst hm
    by_cases hlen : m < s.cle.loops.length
    · rw [State.onLoop_loop_self hlen, hf]
    · have hnone : s.cle.loops.modify m f = s.cle.loops := List.modify_eq_self (Nat.le_of_not_lt hlen)
      rw [State.loop_congr (t := s) (by rw [State.onLoop_cle, hnone])]
  · rw [State.onLoop_loop_ne hm]

theorem State.onGal_gal_self (hg : g < s.cle.galleys.length) (f : Galley → Galley) : (s.onGal g f).gal g = f (s.gal g) := by
  simp [State.gal, List.getD_eq_getElem?_getD, hg]
@[simp] theorem State.onGal_gal_ne (h : k ≠ g) (f : Galley → Galley) : (s.onGal g f).gal k = s.gal k := by
  simp [State.gal, List.getD_eq_getElem?_getD, List.getElem?_modify_ne _ _ h.symm]

-- The settings of a loop (08 Table 8.5) ----------------------------------------------------------------------------

theorem sameBut.pL_eq (h : sameBut ps s.quiet t.quiet) (hs : .store ∉ ps) (hu : .sup ∉ ps) (l o : Nat) : s.pL l o = t.pL l o := by
  simp only [State.pL, State.parN, h.par_eq hs hu]
theorem sameBut.live_eq (h : sameBut ps s.quiet t.quiet) (hs : .store ∉ ps) (hu : .sup ∉ ps) (id : Nat) : s.live id = t.live id := by
  simp only [State.live, State.livePars, h.reprint_eq hs, h.sup_eq hu]
theorem sameBut.isSt_eq (h : sameBut ps s.quiet t.quiet) (hu : .unit ∉ ps) (st : UState) : s.isSt st = t.isSt st :=
  h.part_eq (p := fun a => a.isSt st) fun a => by simp [State.isSt, State.but, hu]

section
variable (s dt)
@[simp] theorem State.elapse_loop (l : Nat) : (s.elapse dt).loop l = s.loop l := State.loop_congr (by simp) l
@[simp] theorem State.elapse_gal (g : Nat) : (s.elapse dt).gal g = s.gal g := State.gal_congr (by simp) g
@[simp] theorem State.elapse_pL (l o : Nat) : (s.elapse dt).pL l o = s.pL l o := (s.elapse_frame dt).pL_eq (by decide) (by decide) l o
@[simp] theorem State.elapse_live (id : Nat) : (s.elapse dt).live id = s.live id := (s.elapse_frame dt).live_eq (by decide) (by decide) id
@[simp] theorem State.elapse_loopEn (l : Nat) : (s.elapse dt).loopEn l = s.loopEn l := by simp [State.loopEn]
end

-- What the rules of one loop change --------------------------------------------------------------------------------

/-- Loop l is y and every other loop is as in s; so is the unit, but for the engine, the parts given, slugs and input
records. -/
structure State.onlyLoop (t : State) (ps : List Part) (l : Nat) (s : State) (y : Loop) : Prop where
  len : l < t.cle.loops.length
  self : t.loop l = y
  others : ∀ m, m ≠ l → t.loop m = s.loop m
  frame : sameBut (.cle :: ps) t.quiet s.quiet

namespace State.onlyLoop

theorem refl (ps : List Part) (hl : l < s.cle.loops.length) : s.onlyLoop ps l s (s.loop l) := ⟨hl, rfl, fun _ _ => rfl, rfl⟩
theorem trans (h : u.onlyLoop ps l t y) (h' : t.onlyLoop ps l s x) : u.onlyLoop ps l s y :=
  ⟨h.len, h.self, fun m hm => (h.others m hm).trans (h'.others m hm), h.frame.trans h'.frame⟩
theorem mono (h : t.onlyLoop ps l s y) (hsub : ps ⊆ qs) : t.onlyLoop qs l s y :=
  ⟨h.len, h.self, h.others, h.frame.mono (List.cons_subset_cons _ hsub)⟩

/-- An update that leaves the loops alone. -/
theorem of_loops (h : t.onlyLoop ps l s y) (hloops : u.cle.loops = t.cle.loops) (hframe : sameBut (.cle :: ps) u.quiet t.quiet) :
    u.onlyLoop ps l s y := by
  have hloop (m : Nat) : u.loop m = t.loop m := by simp only [State.loop, hloops]
  exact ⟨hloops ▸ h.len, (hloop l).trans h.self, fun m hm => (hloop m).trans (h.others m hm), hframe.trans h.frame⟩
/-- A slug or an input record. -/
theorem of_quiet (h : t.onlyLoop ps l s y) (hq : u.quiet = t.quiet) : u.onlyLoop ps l s y := by
  obtain ⟨-, -, -, -, -, -, -, hcle, -⟩ := quiet_parts hq
  exact h.of_loops (by rw [hcle]) (congrArg (State.but _) hq)

theorem onLoop (h : t.onlyLoop ps l s y) {f : Loop → Loop} : (t.onLoop l f).onlyLoop ps l s (f y) where
  len := h.len.trans_eq (List.length_modify ..).symm
  self := by rw [State.onLoop_loop_self h.len, h.self]
  others m hm := by rw [State.onLoop_loop_ne hm, h.others m hm]
  frame := Eq.trans rfl h.frame
theorem onCle (h : t.onlyLoop ps l s y) {f : CleSt → CleSt} (hf : ∀ c, (f c).loops = c.loops) : (t.onCle f).onlyLoop ps l s y :=
  h.of_loops (hf _) rfl
theorem onGals (h : t.onlyLoop ps l s y) {n : Nat} {f : Galley → Galley} : (t.onGals n f).onlyLoop ps l s y :=
  of_loops (u := t.onGals n f) h rfl rfl

variable {sn : Snap} {outcome : Nat} {xs : List GalEntry}

section
variable (hunit : .unit ∉ ps) (hlive : s.isSt .reprint = false)
include hunit hlive

theorem live (h : t.onlyLoop ps l s y) : t.isSt .reprint = false :=
  (h.frame.isSt_eq (by simp [hunit]) .reprint).trans hlive

/-- Outside REPRINT the LOOP record is an input record (16 Table 16.6). -/
theorem loopRec (h : t.onlyLoop ps l s y) {n : Nat} {z : Int} : (t.loopRec n sn outcome z).onlyLoop ps l s y := by
  refine h.of_quiet ?_
  unfold State.loopRec
  rw [h.live hunit hlive, if_neg Bool.false_ne_true]
  exact State.record_quiet ..

end
end State.onlyLoop

end Sys2Proof.Machine
end

section
/-! PROOFS. LOOP_EVAL_COMPLETE (08 R186 to R203, R210): what an evaluation computes, and what a commit, a lost input and a missed
deadline leave of its loop. -/

namespace Sys2Proof.Machine

variable {ps : List Part} {s t : State} {l dt : Nat} {x y : Loop} {sn : Snap} {r : EvalRes} {z : Int}

-- The arithmetic (08 R187, R189) -----------------------------------------------------------------------------------

theorem Snap.shp_eq (sn : Snap) : sn.shp = sn.shift % 32 := by simp [Snap.shp, fld]
theorem Snap.shi_eq (sn : Snap) : sn.shi = sn.shift / 32 % 32 := rfl
theorem Snap.shd_eq (sn : Snap) : sn.shd = sn.shift / 1024 % 32 := rfl
theorem Snap.shf_eq (sn : Snap) : sn.shf = sn.shift / 32768 % 32 := rfl

theorem rescale_eq (acc : Int) (old new : Nat) : rescale acc old new =
    if new = old then acc else if old < new then sat64 (acc * 2 ^ (new - old)) else rnd acc (old - new) := by
  unfold rescale
  by_cases h : new = old
  · subst h
    simp [rnd]
  · simp only [if_neg h]

/-- Only the present loop's accumulator, output and Y_PREV enter an evaluation. -/
theorem evaluate_congr (hacc : y.iacc = x.iacc) (hshi : y.shiLast = x.shiLast) (hout : y.out = x.out) (hfirst : y.first = x.first)
    (hprev : y.yprev = x.yprev) (sn : Snap) (blk : Bool) : evaluate y sn blk = evaluate x sn blk := by
  simp only [evaluate, hacc, hshi, hout, hfirst, hprev]

-- What becomes of the loop (08 R192, R196 to R201, R210) -----------------------------------------------------------

/-- The deadline is missed: only DL_MISS and its count, and what the snapshot took with it goes to the next one. -/
@[simp] def Loop.missedBy (sn : Snap) (y : Loop) : Loop := { rearm sn y with dlMiss := true, nMiss := incW 32 y.nMiss, missed := true }
/-- Y is not valid: the evaluation is counted as held, and the next one is a first one. -/
@[simp] def Loop.lostBy (sn : Snap) (y : Loop) : Loop :=
  { y with inBad := true, ffBad := !sn.fOk, first := true, nHeld := incW 32 y.nHeld, bump := y.bump || (sn.bump && !y.hold) }
/-- The evaluation is committed; a held one leaves I_ACC and SHI_LAST. -/
@[simp] def Loop.committedBy (sn : Snap) (r : EvalRes) (y : Loop) : Loop :=
  { y with
    iacc := if sn.held then y.iacc else r.iacc, shiLast := if sn.held then y.shiLast else sn.shi
    yprev := sn.y, first := false, sat := evalSat sn r, inBad := false, ffBad := !sn.fOk, missed := false, active := true }
/-- U is handed over at once, or waits for its deadline; `c` are the setpoint copies then owed. -/
def Loop.givenU (sn : Snap) (u : Option Int) (c : List (Int × Nat)) (y : Loop) : Loop :=
  match u, sn.dl with
  | none, _ => y
  | some v, none => { y with out := v, copyU := c }
  | some v, some d => { y with outs := y.outs ++ [(d, v)] }
/-- What L_LOSS hands over without a valid Y (08 R201). -/
def State.lossU (s : State) (l : Nat) (sn : Snap) : Option Int :=
  if sn.held then sn.holdVal else if s.pL l 0x19 = 1 then some (s.live (0x601A + 0x40 * l)) else none

/-- Handing U over touches nothing else of a loop. -/
theorem Loop.givenU_keeps {α : Type} {g : Loop → α} (hg : ∀ (y : Loop) o c w, g { y with out := o, copyU := c, outs := w } = g y)
    (sn : Snap) (u : Option Int) (c : List (Int × Nat)) (y : Loop) : g (y.givenU sn u c) = g y := by
  unfold Loop.givenU
  split <;> exact hg ..

section
variable (sn : Snap) (u : Option Int) (c : List (Int × Nat)) (y : Loop)
@[simp] theorem Loop.givenU_busy : (y.givenU sn u c).busy = y.busy := givenU_keeps (fun _ _ _ _ => rfl) ..
@[simp] theorem Loop.givenU_nEval : (y.givenU sn u c).nEval = y.nEval := givenU_keeps (fun _ _ _ _ => rfl) ..
@[simp] theorem Loop.givenU_nMiss : (y.givenU sn u c).nMiss = y.nMiss := givenU_keeps (fun _ _ _ _ => rfl) ..
@[simp] theorem Loop.givenU_nHeld : (y.givenU sn u c).nHeld = y.nHeld := givenU_keeps (fun _ _ _ _ => rfl) ..
@[simp] theorem Loop.givenU_iacc : (y.givenU sn u c).iacc = y.iacc := givenU_keeps (fun _ _ _ _ => rfl) ..
@[simp] theorem Loop.givenU_shiLast : (y.givenU sn u c).shiLast = y.shiLast := givenU_keeps (fun _ _ _ _ => rfl) ..
@[simp] theorem Loop.givenU_yprev : (y.givenU sn u c).yprev = y.yprev := givenU_keeps (fun _ _ _ _ => rfl) ..
@[simp] theorem Loop.givenU_first : (y.givenU sn u c).first = y.first := givenU_keeps (fun _ _ _ _ => rfl) ..
@[simp] theorem Loop.givenU_inBad : (y.givenU sn u c).inBad = y.inBad := givenU_keeps (fun _ _ _ _ => rfl) ..
@[simp] theorem Loop.givenU_sat : (y.givenU sn u c).sat = y.sat := givenU_keeps (fun _ _ _ _ => rfl) ..
end

theorem Loop.givenU_none (sn : Snap) (c : List (Int × Nat)) (y : Loop) : y.givenU sn none c = y := rfl
/-- Outside DEADLINE mode U is handed over at the completion (08 R196). -/
theorem Loop.givenU_out (hdl : sn.dl = none) (u : Option Int) (c : List (Int × Nat)) (y : Loop) :
    (y.givenU sn u c).out = u.getD y.out := by
  cases u <;> simp [Loop.givenU, hdl]
/-- In DEADLINE mode it waits for the deadline (08 R197). -/
theorem Loop.givenU_later {d : Nat} (hdl : sn.dl = some d) (v : Int) (c : List (Int × Nat)) (y : Loop) :
    y.givenU sn (some v) c = { y with outs := y.outs ++ [(d, v)] } := by
  simp [Loop.givenU, hdl]

namespace State.onlyLoop

theorem onSv (h : t.onlyLoop ps l s y) (hvalve : .valve ∈ ps) {n : Nat} {f : Valve → Valve} : (t.onSv n f).onlyLoop ps l s y := by
  have hframe : sameBut [.valve] (t.onSv n f).quiet t.quiet := rfl
  exact h.of_loops rfl (hframe.mono (by simp [hvalve]))

theorem handU (h : t.onlyLoop ps l s y) (hvalve : .valve ∈ ps) (inMt : Option Nat) :
    ∃ c, (t.handU l z inMt).onlyLoop ps l s { y with out := z, copyU := c } := by
  unfold State.handU
  extract_lets copy s0 s1
  have h0 : s0.onlyLoop ps l s y := by
    unfold s0
    split
    · exact h.onSv hvalve
    · exact h
  split
  · exact ⟨_, h0.onLoop.onCle fun _ => rfl⟩
  · exact ⟨_, h0.onLoop⟩

theorem giveU (h : t.onlyLoop ps l s y) (hvalve : .valve ∈ ps) (u : Option Int) :
    ∃ c, (t.giveU l sn u).onlyLoop ps l s (y.givenU sn u c) := by
  cases u with
  | none => exact ⟨[], h⟩
  | some v =>
    unfold State.giveU Loop.givenU
    cases sn.dl with
    | none => exact h.handU hvalve _
    | some d => exact ⟨[], h.onLoop⟩

variable (hunit : .unit ∉ ps) (hlive : s.isSt .reprint = false)
include hunit hlive

theorem missEval (h : t.onlyLoop ps l s y) {outcome : Nat} {xs : List GalEntry} :
    (t.missEval l sn outcome xs).onlyLoop ps l s (y.missedBy sn) := by
  unfold State.missEval
  extract_lets was s1 s2
  have h2 : s2.onlyLoop ps l s (y.missedBy sn) := h.onLoop.onGals.loopRec hunit hlive
  split
  · exact h2
  · exact h2.of_quiet (State.slug_quiet ..)

theorem badEval (h : t.onlyLoop ps l s y) (hvalve : .valve ∈ ps) (hfree : .free ∈ ps) :
    ∃ c, (t.badEval l sn).onlyLoop ps l s ((y.lostBy sn).givenU sn (t.lossU l sn) c) := by
  have hused : sameBut [.free] ({ t with free := t.free + 6 } : State).quiet t.quiet := rfl
  have h0 : ({ t with free := t.free + 6 } : State).onlyLoop ps l s y := h.of_loops rfl (hused.mono (by simp [hfree]))
  unfold State.badEval
  extract_lets lp u fr r s1 s2
  have h1 : s1.onlyLoop ps l s (y.lostBy sn) := h0.onLoop
  have h2 : s2.onlyLoop ps l s (y.lostBy sn) := by
    unfold s2
    split
    · exact h1
    · exact h1.of_quiet (State.slug_quiet ..)
  exact (h2.onGals.loopRec hunit hlive).giveU hvalve _

theorem goodEval (h : t.onlyLoop ps l s y) (hvalve : .valve ∈ ps) :
    ∃ c, (t.goodEval l sn r).onlyLoop ps l s ((y.committedBy sn r).givenU sn (if sn.held then sn.holdVal else some r.u) c) := by
  have h1 : (t.onLoop l (Loop.committedBy sn r)).onlyLoop ps l s (y.committedBy sn r) := h.onLoop
  exact (h1.onGals.loopRec hunit hlive).giveU hvalve _

end State.onlyLoop

-- BLOCKED (08 R203) ------------------------------------------------------------------------------------------------

/-- A destination sees of a loop only U_LAST. -/
theorem State.onLoop_loopU {f : Loop → Loop} (hf : ∀ x, (f x).out = x.out) (s : State) (l kind idx : Nat) :
    (s.onLoop l f).loopU kind idx = s.loopU kind idx := by
  have hto : (s.onLoop l f).loopTo kind idx = s.loopTo kind idx := rfl
  have hst : (s.onLoop l f).isSt .run = s.isSt .run := rfl
  simp only [State.loopU, hto, hst, State.onLoop_keeps (g := Loop.out) hf]

theorem State.onLoop_dstBlocked {f : Loop → Loop} (hf : ∀ x, (f x).out = x.out) (s : State) (l d : Nat) :
    (s.onLoop l f).dstBlocked d = s.dstBlocked d := by
  have hfan (g : Nat) : (s.onLoop l f).fgBlocked g = s.fgBlocked g := by
    simp only [State.fgBlocked, State.fgDemand, State.fgLoop, State.onLoop_loopU hf]
    rfl
  simp only [State.dstBlocked, hfan]
  rfl

/-- Outside REPRINT the engine sees what its destination reports now, and a change is noted and recorded. -/
theorem State.seeBlocked_live (hl : l < s.cle.loops.length) (hlive : s.isSt .reprint = false) (d : Nat) :
    (s.seeBlocked d).1 = s.dstBlocked d ∧ (s.seeBlocked d).2.onlyLoop [] l s (s.loop l) := by
  have h : s.onlyLoop [] l s (s.loop l) := .refl [] hl
  unfold State.seeBlocked
  rw [hlive, if_neg Bool.false_ne_true]
  dsimp only
  split
  · exact ⟨rfl, h⟩
  · refine ⟨rfl, State.onlyLoop.of_quiet (h.onCle ?_) (State.record_quiet ..)⟩
    exact fun _ => rfl

-- The end of an evaluation (08 R196) -------------------------------------------------------------------------------

/-- The evaluation is counted, whatever becomes of it. -/
@[simp] def Loop.counted (y : Loop) : Loop := { y with nEval := incW 32 y.nEval }

/-- Outside REPRINT the deadline and Y decide how an evaluation ends. -/
theorem State.finish_live (hl : l < s.cle.loops.length) (hlive : s.isSt .reprint = false) (hrep : s.store.reprint = none) (sn : Snap) :
    ∃ (v : State) (xs : List GalEntry), v.onlyLoop [] l s (s.loop l).counted ∧
      s.finish l sn none =
        if sn.dl.any fun d => decide (d < s.now) then v.missEval l sn 2 xs
        else if sn.yOk then v.goodEval l sn (evaluate (s.loop l) sn (s.dstBlocked (s.pL l 0x13)))
        else v.badEval l sn := by
  have hcounted : (s.onLoop l Loop.counted).onlyLoop [] l s (s.loop l).counted := (State.onlyLoop.refl [] hl).onLoop
  let b := (s.onLoop l Loop.counted).seeBlocked (s.pL l 0x13)
  let r := evaluate (b.2.loop l) sn b.1
  obtain ⟨hblk, hseen⟩ := State.seeBlocked_live hcounted.len (hcounted.live (by decide) hlive) (s.pL l 0x13)
  have hv : b.2.onlyLoop [] l s (s.loop l).counted := hcounted.self ▸ hseen.trans hcounted
  have heval : r = evaluate (s.loop l) sn (s.dstBlocked (s.pL l 0x13)) := by
    unfold r b
    rw [hv.self, hblk, State.onLoop_dstBlocked (f := Loop.counted) fun _ => rfl]
    exact evaluate_congr rfl rfl rfl rfl rfl ..
  refine ⟨b.2, nodeEntries l sn (b.2.loop l).iacc r true (evalSat sn r) (b.2.loop l).first, hv, ?_⟩
  rw [← heval]
  unfold State.finish
  rw [State.bmt_eq_now hrep]
  cases sn.yOk <;> rfl

/-- The computation takes 500 ns (08 R194, R196). -/
theorem execLoopEvalComplete_of_early {q : Snap} (hbusy : (s.loop l).busy = some q) (hearly : (s.elapse dt).now < s.cle.busyMt + 50) :
    exec (.loopEvalComplete dt l) s = .next (s.elapse dt) := by
  show execLoopEvalComplete dt l s = _
  simp only [execLoopEvalComplete, State.elapse_loop, hbusy, State.elapse_cle, if_pos hearly]

/-- The computation ends: the engine is free, the evaluation is counted, and its deadline and its Y decide. -/
theorem execLoopEvalComplete_of_due {q : Snap} (hl : l < s.cle.loops.length) (hlive : s.isSt .reprint = false)
    (hrep : s.store.reprint = none) (hbusy : (s.loop l).busy = some q) (hdue : s.cle.busyMt + 50 ≤ (s.elapse dt).now) :
    ∃ (v : State) (xs : List GalEntry), v.onlyLoop [] l (s.elapse dt) { (s.loop l).counted with busy := none } ∧
      exec (.loopEvalComplete dt l) s = .next
        (if q.dl.any fun d => decide (d < (s.elapse dt).now) then v.missEval l q 2 xs
        else if q.yOk then v.goodEval l q (evaluate (s.loop l) q ((s.elapse dt).dstBlocked (s.pL l 0x13)))
        else v.badEval l q) := by
  have hfreed : ((s.elapse dt).onLoop l fun x => { x with busy := none }).onlyLoop [] l (s.elapse dt)
      { (s.elapse dt).loop l with busy := none } := (State.onlyLoop.refl [] (by simpa using hl)).onLoop
  rw [State.elapse_loop] at hfreed
  obtain ⟨v, xs, hv, hfinish⟩ := State.finish_live hfreed.len (hfreed.live (by decide) (by simpa using hlive)) (by simpa using hrep) q
  rw [hfreed.self] at hv hfinish
  refine ⟨v, xs, hv.trans hfreed, ?_⟩
  have hpar : ((s.elapse dt).onLoop l fun x => { x with busy := none }).pL l 0x13 = s.pL l 0x13 := (s.elapse_pL dt l 0x13 :)
  have heval : evaluate { s.loop l with busy := none } q = evaluate (s.loop l) q := funext (evaluate_congr rfl rfl rfl rfl rfl q)
  rw [hpar, State.onLoop_dstBlocked (f := fun x => { x with busy := none }) fun _ => rfl, heval] at hfinish
  have hexec : exec (.loopEvalComplete dt l) s =
      .next (((s.elapse dt).onLoop l fun x => { x with busy := none }).finish l q none) := by
    show execLoopEvalComplete dt l s = _
    simp only [execLoopEvalComplete, State.elapse_loop, hbusy, State.elapse_cle, if_neg (Nat.not_lt.2 hdue)]
  rw [hexec, hfinish]
  rfl

/-- Settles O32: the evaluation is counted and then misses its deadline, has no valid Y, or commits what its snapshot gives
(08 R186 to R203, R210). -/
theorem evaluationsComputeAndCommit : Obligations.EvaluationsComputeAndCommit := by
  intro dt l shp shi shd shf s lp q blk e p i d ff acc raw u hl
  refine ⟨fun hearly hbusy => ?_, ?_⟩
  · obtain ⟨q, hq⟩ := Option.ne_none_iff_exists'.1 hbusy
    exact execLoopEvalComplete_of_early hq hearly
  intro hlen hlp hbusy hdue hrep hlive hblk hbump hshp hshi hshd hshf he hp hacc hi hd hff hraw hu
  subst hlp
  have hliveU : (s.elapse dt).isSt .reprint = false := by simpa using hlive
  have hr : evaluate (s.loop l) q blk = { e, p, i, d, ff, raw, u, iacc :=
      if q.umin ≤ raw ∧ raw ≤ q.umax ∧ !q.held ∧ !blk then sat64 (acc + q.ki * e) else acc } := by
    subst hu hraw hff hd hi hacc hp he hshf hshd hshi hshp
    simp only [evaluate, hbump, Bool.false_eq_true, if_false, rescale_eq, Snap.shp_eq, Snap.shi_eq, Snap.shd_eq, Snap.shf_eq]
  obtain ⟨v, xs, hv, hexec⟩ := execLoopEvalComplete_of_due (hlen ▸ hl) hlive hrep hbusy hdue
  have hv' := hv.mono (qs := [.free, .valve]) (by decide)
  rw [← hblk, hr] at hexec
  have hothers {t : State} {y : Loop} (h : t.onlyLoop [.free, .valve] l (s.elapse dt) y) : ∀ m, m ≠ l → t.loop m = s.loop m :=
    fun m hm => (h.others m hm).trans (s.elapse_loop dt m)
  by_cases hmiss : ∃ dl, q.dl = some dl ∧ dl < (s.elapse dt).now
  · obtain ⟨dl, hdl, hlate⟩ := hmiss
    have h := hv'.missEval (sn := q) (outcome := 2) (xs := xs) (by decide) hliveU
    rw [if_pos (by simpa [hdl] using hlate)] at hexec
    refine ⟨_, _, hexec, h.self, rfl, rfl, hothers h, h.frame, fun _ _ _ => ?_, fun hmet => ?_⟩
    · simp [rearm]
    · exact absurd (hmet dl hdl) (Nat.not_le.2 hlate)
  · have hmet : ¬(q.dl.any fun d => decide (d < (s.elapse dt).now)) = true := by simpa [Option.any_eq_true] using hmiss
    rw [if_neg hmet] at hexec
    have hnot (dl : Nat) (hdl : q.dl = some dl) (hlate : dl < (s.elapse dt).now) : False := hmiss ⟨dl, hdl, hlate⟩
    cases hy : q.yOk with
    | true =>
      rw [hy, if_pos rfl] at hexec
      obtain ⟨c, h⟩ := hv'.goodEval (sn := q) (by decide) hliveU (by decide)
      refine ⟨_, _, hexec, h.self, by simp, by simp, hothers h, h.frame,
        fun dl hdl hlate => (hnot dl hdl hlate).elim, fun _ => ⟨by simp, fun _ => ?_, nofun⟩⟩
      refine ⟨by simp, by simp, by simp, by simp [evalSat], fun hfree => ?_, fun hheld => ?_⟩
      · refine ⟨by simp [hfree, Snap.shi_eq, hshi], by simp [hfree], fun hdl => ?_, fun dl hdl => ?_⟩
        · simp [Loop.givenU_out hdl, hfree]
        · simp [hfree, Loop.givenU_later hdl]
      · exact ⟨by simp [hheld], fun hdl => by simp [Loop.givenU_out hdl, hheld]⟩
    | false =>
      rw [hy, if_neg Bool.false_ne_true] at hexec
      obtain ⟨c, h⟩ := hv'.badEval (sn := q) (by decide) hliveU (by decide) (by decide)
      have hpar (o : Nat) : v.pL l o = s.pL l o := (hv.frame.pL_eq (by decide) (by decide) l o).trans (s.elapse_pL dt l o)
      have hloss : v.live (0x601A + 0x40 * l) = s.live (0x601A + 0x40 * l) :=
        (hv.frame.live_eq (by decide) (by decide) _).trans (s.elapse_live dt _)
      refine ⟨_, _, hexec, h.self, by simp, by simp, hothers h, h.frame,
        fun dl hdl hlate => (hnot dl hdl hlate).elim, fun _ => ⟨by simp, nofun, fun _ => ?_⟩⟩
      refine ⟨by simp, by simp, by simp, by simp, by simp, fun hfree hkeep => ?_, fun hfree hsafe hdl => ?_⟩
      · simp [State.lossU, hfree, hpar, hkeep, Loop.givenU_none]
      · simp [Loop.givenU_out hdl, State.lossU, hfree, hpar, hsafe, hloss]

end Sys2Proof.Machine
end

section
/-! PROOFS. What reaches a loop (08 R190, R191, R193, R194; 01 R20): the tokens in their order, and a trigger under each policy. -/

namespace Sys2Proof.Machine

variable {ps : List Part} {s t u v : State} {l m dt mt i : Nat} {x y : Loop} {k : VTok}

-- Tokens in their order (08 R191) ----------------------------------------------------------------------------------

/-- The one token that waits is the loop's: it is taken. -/
theorem State.takeTok_of_single (htoks : s.toks = [k]) (hobj : k.obj = l) (hcons : 2 ≤ k.cons) :
    s.takeTok 2 l = some (k, { s with toks := [] }) := by
  have hmine : k.cons = 2 ∨ 2 < k.cons := by omega
  simp [State.takeTok, htoks, hobj, hmine, State.onToks]

theorem execLoopEval_of_single (htoks : s.toks = [k]) (hcons : k.cons = 4) (hobj : k.obj = l) (hrep : s.store.reprint = none)
    (hshift : k.role = 0 → (s.elapse dt).awaitsShift l = false) :
    exec (.loopEval dt l) s = .next ((s.elapse dt).cleTake l k { s.elapse dt with toks := [] }) := by
  have htoksU : (s.elapse dt).toks = [k] := by simpa using htoks
  have howes : (s.elapse dt).owesWrite l = false := by simp [State.owesWrite, hrep]
  have hwait : ((decide (k.role = 0) && (s.elapse dt).awaitsShift l) || (s.elapse dt).owesWrite l) = false := by
    by_cases hrole : k.role = 0
    · simp [hshift hrole, howes]
    · simp [hrole, howes]
  have hdrain : State.cleDrain true l 1 (s.elapse dt) = (s.elapse dt).cleTake l k { s.elapse dt with toks := [] } := by
    unfold State.cleDrain
    simp [State.takeTok_of_single htoksU hobj (by omega), hcons]
  show execLoopEval dt l s = _
  simp only [execLoopEval, htoksU, List.find?_cons, hcons, hobj, decide_true, Bool.and_self, hwait, Bool.false_eq_true, if_false,
    List.length_cons, List.length_nil, hdrain]

theorem execCleValueToken_of_single (htoks : s.toks = [k]) (hobj : k.obj = l) (hcons : 2 ≤ k.cons) :
    exec (.cleValueToken dt l) s =
      .next (if k.cons = 4 then s.elapse dt else (s.elapse dt).cleTake l k { s.elapse dt with toks := [] }) := by
  show execCleValueToken dt l s = _
  simp only [execCleValueToken, State.takeTok_of_single (s := s.elapse dt) (by simpa using htoks) hobj hcons]

/-- What a station sent before its last reset is discarded (01 R20). -/
theorem State.cleTake_of_stale (hslot : k.cons = 4 → k.role ≠ 0) (hstale : k.epoch ≠ s.epochOf k.station) : s.cleTake l k t = t := by
  have hold : s.freshTok k = false := by simpa [State.freshTok] using hstale
  unfold State.cleTake
  split
  next hcons => simp [hslot hcons, hold]
  next => simp [hold]

section
variable (hfresh : k.epoch = s.epochOf k.station)
include hfresh

theorem State.cleTake_of_ffv (hcons : k.cons ≠ 4) (hkind : k.kind = 3) :
    s.cleTake l k t = t.onCol k.index fun c => { c with ffvCle := k.value.getD 0 } := by
  simp [State.cleTake, State.freshTok, hcons, hfresh, hkind]
theorem State.cleTake_of_y (hcons : k.cons = 2) (hkind : k.kind ≠ 3) :
    s.cleTake l k t = t.onLoop l fun x => { x with yOld := x.y, y := tokIn k } := by
  simp [State.cleTake, State.freshTok, hcons, hfresh, hkind]
theorem State.cleTake_of_f (hcons : k.cons = 3) (hkind : k.kind ≠ 3) :
    s.cleTake l k t = t.onLoop l fun x => { x with fOld := x.f, f := tokIn k } := by
  simp [State.cleTake, State.freshTok, hcons, hfresh, hkind]
theorem State.cleTake_of_token (hcons : k.cons = 4) (hrole : k.role ≠ 0) :
    s.cleTake l k t = (t.loopTrigger l k.stamp (k.value.getD 0).toNat).2 := by
  simp [State.cleTake, State.freshTok, hcons, hfresh, hrole]
end

theorem State.cleTake_of_slot {y : Firing} (hcons : k.cons = 4) (hrole : k.role = 0) (htake : t.takeAction 2 l = some (y, u)) :
    s.cleTake l k t = (u.loopTrigger l k.stamp (k.value.getD 0).toNat).2.reportAcc y.slot
      (u.loopTrigger l k.stamp (k.value.getD 0).toNat).1 := by
  simp [State.cleTake, hcons, hrole, htake]

-- A trigger's snapshot (08 R190, R210) -----------------------------------------------------------------------------

/-- The snapshot holds the trigger MT, the registers and the hold state as they stand. -/
structure Snap.holds (q : Snap) (mt : Nat) (x : Loop) : Prop where
  trigMt : q.trigMt = mt
  sp : q.sp = x.sp
  kp : q.kp = x.kp
  ki : q.ki = x.ki
  kd : q.kd = x.kd
  kff : q.kff = x.kff
  shift : q.shift = x.shift
  umin : q.umin = x.umin
  umax : q.umax = x.umax
  held : q.held = x.hold

/-- The deadline of a trigger in DEADLINE mode (08 R197). -/
def State.trigDl (s : State) (l mt : Nat) : Option Nat := if s.pL l 0x14 = 1 then some (mt + s.pL l 0x15 * 100) else none

/-- A snapshot takes the hold value or the release with it, and is counted. -/
@[simp] def Loop.snapped (y : Loop) : Loop :=
  { y with accN := incW 32 y.accN, bump := y.bump && y.hold, holdVal := if y.hold then none else y.holdVal }
/-- A trigger is not run: it is counted. -/
@[simp] def Loop.overrunBy (y : Loop) : Loop := { y with nOver := incW 32 y.nOver, overrun := true }
/-- The loop without what triggers and values write. -/
@[simp] def Loop.untriggered (y : Loop) : Loop :=
  { y with y := {}, yOld := {}, f := {}, fOld := {}, queued := none, pend := none, accN := 0, bump := false, holdVal := none
           nOver := 0, overrun := false }

theorem State.mkSnap_holds (s : State) (l mt i : Nat) (a : Acc) (yi fi : LIn) : (s.mkSnap l mt i a yi fi).1.holds mt (s.loop l) :=
  ⟨rfl, rfl, rfl, rfl, rfl, rfl, rfl, rfl, rfl, rfl⟩
theorem State.mkSnap_dl (s : State) (l mt i : Nat) (a : Acc) (yi fi : LIn) : (s.mkSnap l mt i a yi fi).1.dl = s.trigDl l mt := rfl

-- A trigger under each policy (08 R194, Table 8.1) -----------------------------------------------------------------

namespace State.onlyLoop

theorem mkSnap (h : t.onlyLoop ps l s y) {a : Acc} {yi fi : LIn} : (t.mkSnap l mt i a yi fi).2.onlyLoop ps l s y.snapped :=
  of_loops (t := t.onLoop l Loop.snapped) h.onLoop rfl rfl

variable (hunit : .unit ∉ ps) (hlive : s.isSt .reprint = false)
include hunit hlive

theorem dropTrig (h : t.onlyLoop ps l s y) : (t.dropTrig l mt).onlyLoop ps l s y.overrunBy :=
  loopRec hunit hlive h.onLoop

/-- Of its loop, a trigger touches the queue and what the snapshots count and take with them. -/
theorem loopTrigger (h : t.onlyLoop ps l s x) :
    ∃ y, (t.loopTrigger l mt i).2.onlyLoop ps l s y ∧ y.untriggered = x.untriggered := by
  unfold State.loopTrigger
  rw [h.live hunit hlive]
  dsimp only
  split
  · exact ⟨x, h, rfl⟩
  · rw [if_neg Bool.false_ne_true]
    split
    · exact ⟨_, h.mkSnap.onLoop, rfl⟩
    · split
      · split
        · exact ⟨_, h.mkSnap.onLoop, rfl⟩
        · exact ⟨_, h.dropTrig hunit hlive, rfl⟩
      · exact ⟨_, (loopRec hunit hlive h.onLoop.onLoop).mkSnap.onLoop, rfl⟩
      · exact ⟨_, h.dropTrig hunit hlive, rfl⟩

end State.onlyLoop

theorem State.isSt_reprint_of_run (hrun : s.isSt .run = true) : s.isSt .reprint = false := by
  simp only [State.isSt, decide_eq_true_eq] at hrun
  simp [State.isSt, hrun]

theorem State.loopTrigger_of_disabled (hoff : s.loopEn l = false) : s.loopTrigger l mt i = (.discarded, s) := by
  simp [State.loopTrigger, hoff]

section
variable (hrun : s.isSt .run = true) (hres : s.isResetting 0x0A = false) (hon : s.loopEn l = true)
include hrun hres hon

theorem State.trigger_passes : (!s.evaluating || !s.loopEn l || s.isResetting 0x0A) = false := by
  simp [State.evaluating, hrun, hres, hon]

variable (hl : l < s.cle.loops.length)
include hl

theorem State.loopTrigger_of_free (hfree : (s.loop l).queued = none) : ∃ q, (s.loopTrigger l mt i).1 = .accepted ∧
    (s.loopTrigger l mt i).2.loop l = { (s.loop l).snapped with queued := some q } ∧ q.holds mt (s.loop l) ∧ q.dl = s.trigDl l mt := by
  unfold State.loopTrigger
  simp only [State.trigger_passes hrun hres hon, State.isSt_reprint_of_run hrun, hfree, Bool.false_eq_true, if_false]
  exact ⟨_, trivial, (State.onlyLoop.refl [] hl).mkSnap.onLoop.self, s.mkSnap_holds .., s.mkSnap_dl ..⟩

/-- RESTART: the queued evaluation is replaced, and what it took with it goes to the new one. -/
theorem State.loopTrigger_of_restart {old : Snap} (hold : (s.loop l).queued = some old) (hpol : s.pL l 0x16 = 1) :
    ∃ q, (s.loopTrigger l mt i).1 = .replaced ∧
      (s.loopTrigger l mt i).2.loop l = { (rearm old (s.loop l)).overrunBy.snapped with queued := some q } ∧
      q.holds mt (s.loop l) ∧ q.dl = s.trigDl l mt := by
  have hlive := State.isSt_reprint_of_run hrun
  have hover : (((s.onLoop l (rearm old)).overLoop l).loopRec l old 3 (s.loop l).out).onlyLoop [] l s (rearm old (s.loop l)).overrunBy :=
    State.onlyLoop.loopRec (by decide) hlive (State.onlyLoop.refl [] hl).onLoop.onLoop
  have hholds := State.mkSnap_holds (((s.onLoop l (rearm old)).overLoop l).loopRec l old 3 (s.loop l).out) l mt i .replaced
    (s.loop l).y (s.loop l).f
  rw [hover.self] at hholds
  unfold State.loopTrigger
  simp only [State.trigger_passes hrun hres hon, hlive, hold, hpol, Bool.false_eq_true, if_false]
  refine ⟨_, trivial, hover.mkSnap.onLoop.self, ⟨hholds.trigMt, hholds.sp, hholds.kp, hholds.ki, hholds.kd, hholds.kff,
    hholds.shift, hholds.umin, hholds.umax, hholds.held⟩, ?_⟩
  rw [State.mkSnap_dl, State.trigDl, State.trigDl, hover.frame.pL_eq (by decide) (by decide), hover.frame.pL_eq (by decide) (by decide)]

/-- A trigger that finds the loop free, or replaces what waits, is queued; only a replacement is counted. -/
theorem State.loopTrigger_of_taken (htaken : (s.loop l).queued = none ∨ s.pL l 0x16 = 1) : ∃ q,
    (s.loopTrigger l mt i).1 = (if (s.loop l).queued = none then .accepted else .replaced) ∧
    ((s.loopTrigger l mt i).2.loop l).queued = some q ∧ ((s.loopTrigger l mt i).2.loop l).pend = (s.loop l).pend ∧
    ((s.loopTrigger l mt i).2.loop l).nOver = (if (s.loop l).queued = none then (s.loop l).nOver else incW 32 (s.loop l).nOver) ∧
    q.holds mt (s.loop l) ∧ q.dl = s.trigDl l mt := by
  cases hq : (s.loop l).queued with
  | none =>
    obtain ⟨q, hacc, hloop, hholds⟩ := State.loopTrigger_of_free hrun hres hon hl hq (mt := mt) (i := i)
    exact ⟨q, by simpa using hacc, by rw [hloop], by rw [hloop]; rfl, by rw [hloop]; rfl, hholds⟩
  | some old =>
    obtain ⟨q, hacc, hloop, hholds⟩ := State.loopTrigger_of_restart hrun hres hon hl hq (htaken.resolve_left (by simp [hq])) (mt := mt) (i := i)
    exact ⟨q, by simpa using hacc, by rw [hloop], by rw [hloop]; rfl, by rw [hloop]; rfl, hholds⟩

/-- PEND: the second trigger is kept. -/
theorem State.loopTrigger_of_pend {old : Snap} (hold : (s.loop l).queued = some old) (hpol : s.pL l 0x16 = 0)
    (hnone : (s.loop l).pend = none) : ∃ q, (s.loopTrigger l mt i).1 = .pended ∧
      (s.loopTrigger l mt i).2.loop l = { (s.loop l).snapped with pend := some q } ∧ q.holds mt (s.loop l) := by
  unfold State.loopTrigger
  simp only [State.trigger_passes hrun hres hon, State.isSt_reprint_of_run hrun, hold, hpol, hnone, Option.isNone_none,
    Bool.false_eq_true, if_false, if_true]
  exact ⟨_, trivial, (State.onlyLoop.refl [] hl).mkSnap.onLoop.self, s.mkSnap_holds ..⟩

/-- Under DROP, or beyond the one that PEND keeps, a trigger is counted. -/
theorem State.loopTrigger_of_drop {old : Snap} (hold : (s.loop l).queued = some old)
    (hpol : (s.pL l 0x16 = 0 ∧ (s.loop l).pend ≠ none) ∨ s.pL l 0x16 = 2) : (s.loopTrigger l mt i).1 = .dropped ∧
      (s.loopTrigger l mt i).2.loop l = (s.loop l).overrunBy := by
  have hlive := State.isSt_reprint_of_run hrun
  have hdrop : s.loopTrigger l mt i = (.dropped, s.dropTrig l mt) := by
    unfold State.loopTrigger
    simp only [State.trigger_passes hrun hres hon, hlive, hold, Bool.false_eq_true, if_false]
    obtain ⟨hpend, hkept⟩ | hpol := hpol
    · simp [hpend, hkept]
    · simp [hpol]
  rw [hdrop]
  exact ⟨rfl, ((State.onlyLoop.refl [] hl).dropTrig (by decide) hlive).self⟩

end

end Sys2Proof.Machine
end

section
/-! PROOFS. LOOP_EVAL, CLE_VALUE_TOKEN, LOOP_EVAL_START and LOOP_DEADLINE (08 R190 to R198): a trigger and a value that reach their
loop, the acceptance order, and the hand-over at a deadline. -/

namespace Sys2Proof.Machine

variable {s t u v : State} {l m dt mt i : Nat} {k : VTok} {x : Firing} {q : Snap}

-- A trigger of a slot, a timer or a Y token (08 R193) --------------------------------------------------------------

/-- The row takes the trigger to its loop on the unit v, time passed and its tokens taken; r is what the loop answers, and a slot is
told so. -/
structure State.triggerTaken (t v s : State) (dt : Nat) (k : VTok) (x : Firing) (r : Acc × State) : Prop where
  taken : sameBut [.imp, .toks] v (s.elapse dt)
  cle : t.cle = r.2.cle
  toks : t.toks = []
  slot : k.role = 0 → t.imp.inbox = [] ∧ (t.slotLive x.slot).lastAcc = accCode r.1
  token : k.role ≠ 0 → t.imp = s.imp
  frame : sameBut [.cle, .toks, .imp] t.quiet (s.elapse dt).quiet

/-- What a trigger reads stands on v as on s. -/
theorem State.triggerTaken.reads {r : Acc × State} (h : t.triggerTaken v s dt k x r) : v.cle = s.cle ∧ (∀ l o, v.pL l o = s.pL l o) ∧
    v.isSt .run = s.isSt .run ∧ v.isResetting 0x0A = s.isResetting 0x0A := by
  have hquiet : sameBut [.imp, .toks] v.quiet (s.elapse dt).quiet := congrArg State.quiet h.taken
  exact ⟨(h.taken.part_eq (p := State.cle) fun _ => rfl).trans (s.elapse_cle dt),
    fun l o => (hquiet.pL_eq (by decide) (by decide) l o).trans (s.elapse_pL dt l o),
    (hquiet.isSt_eq (by decide) .run).trans (s.elapse_isSt dt .run),
    (h.taken.part_eq (p := fun a => a.isResetting 0x0A) fun _ => rfl).trans (s.elapse_isResetting dt 0x0A)⟩

/-- What the loop answers reaches the slot (03 R89). -/
theorem State.triggerTaken_of_slot {r : Acc × State} (hrole : k.role = 0) (hv : sameBut [.imp, .toks] v (s.elapse dt))
    (himp : r.2.imp = { s.imp with inbox := [] }) (hrise : keysRise s.imp.slots) (htoks : r.2.toks = [])
    (hframe : sameBut [.cle, .toks, .imp] r.2.quiet (s.elapse dt).quiet) : (r.2.reportAcc x.slot r.1).triggerTaken v s dt k x r := by
  have htold := r.2.reportAcc_frame x.slot r.1
  obtain ⟨hacc, hinbox⟩ := State.reportAcc_told (s := r.2) (by rw [himp]; exact hrise) x.slot r.1
  refine ⟨hv, ?_, ?_, fun _ => ⟨hinbox.trans (by rw [himp]), hacc⟩, fun h => absurd hrole h, (htold.mono (by decide)).trans hframe⟩
  · exact htold.part_eq (p := State.cle) fun _ => rfl
  · exact (htold.part_eq (p := State.toks) fun _ => rfl).trans htoks

section
variable (hl : l < s.cle.loops.length) (hrep : s.store.reprint = none) (hrun : s.isSt .run = true)
variable (htoks : s.toks = [k]) (hcons : k.cons = 4) (hobj : k.obj = l)
include hl hrep hrun htoks hcons hobj

theorem execLoopEval_of_token (x : Firing) (hrole : k.role ≠ 0) (hfresh : k.epoch = s.epochOf k.station) :
    ∃ v t i, exec (.loopEval dt l) s = .next t ∧ t.triggerTaken v s dt k x (v.loopTrigger l k.stamp i) := by
  have hexec := execLoopEval_of_single (dt := dt) htoks hcons hobj hrep (fun h => absurd h hrole)
  rw [State.cleTake_of_token (by simpa using hfresh) hcons hrole] at hexec
  have htaken : sameBut [.imp, .toks] ({ s.elapse dt with toks := [] } : State) (s.elapse dt) := rfl
  have hlen : l < ({ s.elapse dt with toks := [] } : State).cle.loops.length := by simpa using hl
  have hlive : ({ s.elapse dt with toks := [] } : State).isSt .reprint = false :=
    (s.elapse_isSt dt .reprint).trans (State.isSt_reprint_of_run hrun)
  obtain ⟨y, hy, -⟩ := (State.onlyLoop.refl [] hlen).loopTrigger (mt := k.stamp) (i := (k.value.getD 0).toNat) (by decide) hlive
  refine ⟨_, _, _, hexec, htaken, rfl, ?_, fun h => absurd h hrole, fun _ => ?_, ?_⟩
  · exact hy.frame.part_eq (p := State.toks) fun _ => rfl
  · exact (hy.frame.part_eq (p := State.imp) fun _ => rfl).trans (s.elapse_imp dt)
  · exact (hy.frame.mono (by decide)).trans rfl

theorem execLoopEval_of_slot (hrole : k.role = 0) (hbox : s.imp.inbox = [x]) (hact : x.action = 2) (hidx : x.index = l)
    (hrise : s.imp.slots.Pairwise fun a b => a.1 < b.1) :
    ∃ v t i, exec (.loopEval dt l) s = .next t ∧ t.triggerTaken v s dt k x (v.loopTrigger l k.stamp i) := by
  have hahead : (s.elapse dt).awaitsShift l = false := by simp [State.awaitsShift, hbox, hact, hidx]
  have hexec := execLoopEval_of_single (dt := dt) htoks hcons hobj hrep fun _ => hahead
  obtain ⟨v, htake, himp, -, -, hv⟩ := State.takeAction_of_single (s := { s.elapse dt with toks := [] }) (by simpa using hbox) hact hidx
  rw [State.cleTake_of_slot hcons hrole htake] at hexec
  have htaken : sameBut [.imp, .toks] v (s.elapse dt) := (hv.mono (by decide)).trans rfl
  have hcle : v.cle = s.cle := (htaken.part_eq (p := State.cle) fun _ => rfl).trans (s.elapse_cle dt)
  have hlive : v.isSt .reprint = false := (htaken.part_eq (p := fun a => a.isSt .reprint) fun _ => rfl).trans
    ((s.elapse_isSt dt .reprint).trans (State.isSt_reprint_of_run hrun))
  have hframe : sameBut [.imp, .toks] v.quiet (s.elapse dt).quiet := congrArg State.quiet htaken
  obtain ⟨y, hy, -⟩ := (State.onlyLoop.refl [] (hcle ▸ hl)).loopTrigger (mt := k.stamp) (i := (k.value.getD 0).toNat) (by decide) hlive
  refine ⟨v, _, _, hexec, State.triggerTaken_of_slot hrole htaken ?_ hrise ?_ ?_⟩
  · exact (hy.frame.part_eq (p := State.imp) fun _ => rfl).trans (himp.trans (by simp))
  · exact (hy.frame.part_eq (p := State.toks) fun _ => rfl).trans (hv.part_eq (p := State.toks) fun _ => rfl)
  · exact (hy.frame.mono (by decide)).trans (hframe.mono (by decide))

end

-- The acceptance order (08 R195) -----------------------------------------------------------------------------------

/-- The earlier of the loop found so far and loop l, by the place of their queued evaluations. -/
def State.earlier (s : State) (b : Option Nat) (l : Nat) : Option Nat :=
  match (s.loop l).queued, b with
  | none, b => b
  | some _, none => some l
  | some q, some m => if ((s.loop m).queued.map (·.n)).getD 0 ≤ q.n then some m else some l

theorem State.nextLoop_eq (s : State) : s.nextLoop = (List.range 48).foldl s.earlier none := rfl

section
variable (hq : (s.loop l).queued = some q)
variable (hfirst : ∀ m r, m < 48 → m ≠ l → (s.loop m).queued = some r → q.n < r.n)
include hq

/-- The loop found first keeps its place before any other. -/
theorem State.earlier_of_first (hfirst : ∀ m r, m < 48 → m ≠ l → (s.loop m).queued = some r → q.n < r.n) (hm : m < 48) :
    s.earlier (some l) m = some l := by
  unfold State.earlier
  cases hr : (s.loop m).queued with
  | none => rfl
  | some r =>
    have hle : q.n ≤ r.n := by
      by_cases hml : m = l
      · subst hml
        rw [hq] at hr
        exact (congrArg Snap.n (Option.some.inj hr)).le
      · exact (hfirst m r hm hml hr).le
    simp [hq, hle]

/-- It takes the place of any loop found before it. -/
theorem State.earlier_takes {b : Option Nat} (hb : ∀ m, b = some m → m ≠ l → ∃ r, (s.loop m).queued = some r ∧ q.n < r.n) :
    s.earlier b l = some l := by
  unfold State.earlier
  rw [hq]
  cases b with
  | none => rfl
  | some m =>
    by_cases hml : m = l
    · simp [hml]
    · obtain ⟨r, hr, hlt⟩ := hb m rfl hml
      simp [hr, Nat.not_le.2 hlt]
end

/-- The loop found is the one before, or the one looked at, whose evaluation waits. -/
theorem State.earlier_cases (s : State) (b : Option Nat) (m : Nat) :
    s.earlier b m = b ∨ s.earlier b m = some m ∧ ∃ r, (s.loop m).queued = some r := by
  unfold State.earlier
  split
  · exact .inl rfl
  next h => exact .inr ⟨rfl, _, h⟩
  next h =>
    split
    · exact .inl rfl
    · exact .inr ⟨rfl, _, h⟩

/-- The evaluation accepted first is found. -/
theorem State.nextLoop_of_first (hl : l < 48) (hq : (s.loop l).queued = some q)
    (hfirst : ∀ m r, m < 48 → m ≠ l → (s.loop m).queued = some r → q.n < r.n) : s.nextLoop = some l := by
  obtain ⟨before, after, hrange⟩ := List.append_of_mem (List.mem_range.2 hl)
  have hin (m : Nat) (hm : m ∈ before ++ l :: after) : m < 48 := List.mem_range.1 (hrange ▸ hm)
  have hbefore : ∀ m, before.foldl s.earlier none = some m → m ≠ l → ∃ r, (s.loop m).queued = some r ∧ q.n < r.n := by
    refine List.foldlRecOn (motive := fun b : Option Nat => ∀ m, b = some m → m ≠ l → ∃ r, (s.loop m).queued = some r ∧ q.n < r.n)
      before _ nofun fun b hb n hn m hm hml => ?_
    obtain heq | ⟨heq, r, hr⟩ := s.earlier_cases b n
    · exact hb m (heq ▸ hm) hml
    · obtain rfl : n = m := Option.some.inj (heq.symm.trans hm)
      exact ⟨r, hr, hfirst n r (hin n (by simp [hn])) hml hr⟩
  have hafter : after.foldl s.earlier (some l) = some l :=
    List.foldlRecOn (motive := fun b : Option Nat => b = some l) after _ rfl fun b hb n hn => by
      rw [hb, State.earlier_of_first hq hfirst (hin n (by simp [hn]))]
  rw [State.nextLoop_eq, hrange, List.foldl_append, List.foldl_cons, State.earlier_takes hq hbefore, hafter]

-- The engine's start (08 R194, R195, R198) ---------------------------------------------------------------------------

/-- The queued evaluation leaves the queue, and the pended one takes its place behind the n accepted so far. -/
@[simp] def Loop.unqueued (n : Nat) (y : Loop) : Loop := { y with queued := y.pend.map fun z => { z with n }, pend := none }

theorem State.onlyLoop.unqueue {ps : List Part} {y : Loop} (h : t.onlyLoop ps l s y) :
    (t.unqueue l).onlyLoop ps l s (y.unqueued t.cle.accepted) :=
  of_loops (t := t.onLoop l (Loop.unqueued t.cle.accepted)) h.onLoop rfl rfl

section
variable (hrun : s.isSt .run = true) (hidle : ∀ x ∈ s.cle.loops, x.busy = none)
variable (hnext : s.nextLoop = some l) (hq : (s.loop l).queued = some q)
include hrun hidle hnext hq

theorem execLoopEvalStart_of_next : exec (.loopEvalStart dt) s = .next
    (if q.dl.any fun d => decide (d < (s.elapse dt).now) then ((s.elapse dt).unqueue l).missEval l q 3 []
    else if s.cle.accepted ≠ 0 ∧ (s.elapse dt).now < s.cle.busyMt + 50 then s.elapse dt
    else (((s.elapse dt).unqueue l).onLoop l fun x => { x with busy := some q }).onCle
      fun c => { c with busyMt := (s.elapse dt).now }) := by
  have hfree : ¬((s.cle.loops.any fun x => x.busy.isSome) = true ∨ (!(s.elapse dt).evaluating) = true) := by
    simpa [State.evaluating, hrun] using hidle
  have hnextU : (s.elapse dt).nextLoop = some l := by simpa only [State.nextLoop, State.elapse_loop] using hnext
  have hqU : ((s.elapse dt).loop l).queued = some q := by simpa using hq
  have hexec : exec (.loopEvalStart dt) s = execLoopEvalStart dt s := rfl
  rw [hexec]
  simp only [execLoopEvalStart, if_neg hfree, hnextU, hqU, State.elapse_cle, apply_ite Host.Outcome.next]
end

/-- Started evaluations leave the queue for the engine in one change of their loop. -/
theorem State.unqueue_started (s : State) (l mt : Nat) (q : Snap) :
    (((s.unqueue l).onLoop l fun x => { x with busy := some q }).onCle fun c => { c with busyMt := mt }) =
      { s with cle := { s.cle with
        loops := s.cle.loops.modify l fun x => { x.unqueued s.cle.accepted with busy := some q }
        accepted := s.cle.accepted + 1, busyMt := mt } } := by
  simp only [State.unqueue, State.onLoop, State.onCle, List.modify_modify_eq]
  rfl

-- A deadline (08 R197, R198) -----------------------------------------------------------------------------------------

theorem execLoopDeadline_of_late (houts : (s.loop l).outs = []) (hq : (s.loop l).queued = some q)
    (hlate : (q.dl.any fun d => decide (d < (s.elapse dt).now)) = true) :
    exec (.loopDeadline dt l) s = .next (((s.elapse dt).unqueue l).missEval l q 3 []) := by
  show execLoopDeadline dt l s = _
  simp only [execLoopDeadline, State.elapse_loop, houts, hq, if_pos hlate]

section
variable {dl : Nat} {z : Int} {rest : List (Nat × Int)} (houts : (s.loop l).outs = (dl, z) :: rest) (hrep : s.store.reprint = none)
include houts hrep

theorem execLoopDeadline_of_early (hearly : (s.elapse dt).now < dl) : exec (.loopDeadline dt l) s = .next (s.elapse dt) := by
  have hreach : (s.elapse dt).reach dl = none := by
    simp only [State.reach, State.elapse_store, hrep, if_neg (Nat.not_le.2 hearly)]
  show execLoopDeadline dt l s = _
  simp only [execLoopDeadline, State.elapse_loop, houts, hreach]
theorem execLoopDeadline_of_due (hdue : dl ≤ (s.elapse dt).now) : exec (.loopDeadline dt l) s =
    .next (((s.elapse dt).onLoop l fun x => { x with outs := rest }).handU l z none) := by
  show execLoopDeadline dt l s = _
  simp only [execLoopDeadline, State.elapse_loop, houts, State.reach_of_live (s := s.elapse dt) (by simpa using hrep) hdue]
end

/-- Handing U over at a deadline writes no slug and no input record. -/
theorem State.handU_sameBut (s : State) (l : Nat) (z : Int) : sameBut [.cle, .valve] (s.handU l z none) s := by
  unfold State.handU
  dsimp only
  split <;> rfl

end Sys2Proof.Machine
end

section
/-! PROOFS. The triggers' rows together (08 R190 to R198). -/

namespace Sys2Proof.Machine

variable {s t v : State} {l dt : Nat} {q : Snap}

/-- An evaluation past its deadline is abandoned: it is counted, and the pended one takes its place. -/
theorem State.abandoned_onlyLoop (hl : l < s.cle.loops.length) (hlive : s.isSt .reprint = false) (q : Snap) :
    (((s.elapse dt).unqueue l).missEval l q 3 []).onlyLoop [] l (s.elapse dt) (((s.loop l).unqueued s.cle.accepted).missedBy q) := by
  have h := (State.onlyLoop.refl (s := s.elapse dt) [] (by simpa using hl)).unqueue.missEval (sn := q) (outcome := 3) (xs := [])
    (by decide) (by simpa using hlive)
  rwa [State.elapse_loop, State.elapse_cle] at h

/-- Settles O33: each row acts on the unit as time has left it, and what reaches a loop goes to that loop only (08 R190 to R198;
01 R20). -/
theorem loopTriggersFollowThePolicy : Obligations.LoopTriggersFollowThePolicy := by
  intro dt l s lp hl48 hlen hlp hrep hrun hres
  subst hlp
  have hl : l < s.cle.loops.length := hlen ▸ hl48
  have hlive := State.isSt_reprint_of_run hrun
  refine ⟨fun k htoks hcons hobj hrole hstale => ?stale, fun k x htoks hcons hobj hsrc => ?trigger, fun k htoks hobj => ?value,
    fun q hq hidle hfirst => ?start, fun dl z rest houts => ?deadline⟩
  case stale =>
    rw [execLoopEval_of_single htoks hcons hobj hrep fun h => absurd h hrole,
      State.cleTake_of_stale (fun _ => hrole) (by simpa using hstale)]
  case trigger =>
    have hrow : ∃ v t i, exec (.loopEval dt l) s = .next t ∧ t.triggerTaken v s dt k x (v.loopTrigger l k.stamp i) := by
      obtain ⟨hrole, hbox, hact, hidx, hrise⟩ | ⟨hrole, hfresh⟩ := hsrc
      · exact execLoopEval_of_slot hl hrep hrun htoks hcons hobj hrole hbox hact hidx hrise
      · exact execLoopEval_of_token hl hrep hrun htoks hcons hobj x hrole hfresh
    obtain ⟨v, t, i, hexec, ht⟩ := hrow
    obtain ⟨hcle, hpar, hrunV, hresV⟩ := ht.reads
    have hloopV (m : Nat) : v.loop m = s.loop m := State.loop_congr hcle m
    have hself (m : Nat) : t.loop m = (v.loopTrigger l k.stamp i).2.loop m := State.loop_congr ht.cle m
    have henV : v.loopEn l = s.loopEn l := by simp only [State.loopEn, hpar]
    have hlV : l < v.cle.loops.length := hcle ▸ hl
    rw [hrun] at hrunV
    rw [hres] at hresV
    obtain ⟨y, hy, -⟩ := (State.onlyLoop.refl [] hlV).loopTrigger (mt := k.stamp) (i := i) (by decide) (State.isSt_reprint_of_run hrunV)
    refine ⟨t, t.loop l, (v.loopTrigger l k.stamp i).1, hexec, rfl, ht.toks, fun m hm => ?_, ht.slot, ht.token, ht.frame,
      fun hoff => ?disabled, fun hon => ⟨fun htaken => ?taken, fun hq hpend hnone => ?pended, fun hq hdrop => ?dropped⟩⟩
    · rw [hself, hy.others m hm, hloopV]
    case disabled =>
      rw [hself, State.loopTrigger_of_disabled (henV.trans hoff)]
      exact ⟨rfl, hloopV l⟩
    case taken =>
      obtain ⟨q, hacc, hqueued, hpend, hover, hholds, hdl⟩ := State.loopTrigger_of_taken hrunV hresV (henV.trans hon) hlV
        (mt := k.stamp) (i := i) (by rwa [hloopV, hpar])
      rw [← hself, hloopV] at hpend hover
      rw [← hself] at hqueued
      rw [hloopV] at hacc hholds
      rw [State.trigDl, hpar, hpar] at hdl
      exact ⟨hacc, q, hqueued, hpend, hholds.trigMt, hholds.sp, hholds.kp, hholds.ki, hholds.kd, hholds.kff, hholds.shift, hholds.umin,
        hholds.umax, hholds.held, hdl, hover⟩
    case pended =>
      obtain ⟨old, hold⟩ := Option.ne_none_iff_exists'.1 hq
      obtain ⟨q, hacc, hloop, hholds⟩ := State.loopTrigger_of_pend hrunV hresV (henV.trans hon) hlV (mt := k.stamp) (i := i)
        (by rwa [hloopV]) (by rwa [hpar]) (by rwa [hloopV])
      rw [← hself, hloopV] at hloop
      rw [hloopV] at hholds
      rw [hloop]
      exact ⟨hacc, rfl, rfl, q, rfl, hholds.trigMt, hholds.kp, hholds.sp⟩
    case dropped =>
      obtain ⟨old, hold⟩ := Option.ne_none_iff_exists'.1 hq
      obtain ⟨hacc, hloop⟩ := State.loopTrigger_of_drop hrunV hresV (henV.trans hon) hlV (mt := k.stamp) (i := i)
        (by rwa [hloopV]) (by rwa [hloopV, hpar])
      rw [← hself, hloopV] at hloop
      rw [hloop]
      exact ⟨hacc, rfl, rfl, rfl, rfl⟩
  case value =>
    have hexec (hcons : 2 ≤ k.cons) := execCleValueToken_of_single (dt := dt) htoks hobj hcons
    refine ⟨fun hcons => by rw [hexec (by omega), if_pos hcons], fun hcons hfresh => ?_, fun hcons hstale => ?_⟩
    · have hfreshU : k.epoch = (s.elapse dt).epochOf k.station := by simpa using hfresh
      have hv : ({ s.elapse dt with toks := [] } : State).onlyLoop [.toks] l (s.elapse dt) (s.loop l) :=
        s.elapse_loop dt l ▸ (State.onlyLoop.refl (s := s.elapse dt) [.toks] (by simpa using hl)).of_loops rfl rfl
      have hrow := hexec (by omega)
      rw [if_neg (by omega)] at hrow
      by_cases hkind : k.kind = 3
      · rw [State.cleTake_of_ffv hfreshU (by omega) hkind] at hrow
        exact ⟨_, hrow, rfl, fun h => absurd hkind h, fun h => absurd hkind h, fun _ => rfl, fun m _ => s.elapse_loop dt m⟩
      obtain hy | hf := hcons
      · rw [State.cleTake_of_y hfreshU hy hkind] at hrow
        have h := hv.onLoop (f := fun x => { x with yOld := x.y, y := tokIn k })
        refine ⟨_, hrow, rfl, fun _ _ => ?_, fun _ hf => by omega, fun h => absurd h hkind, fun m hm =>
          (h.others m hm).trans (s.elapse_loop dt m)⟩
        rw [h.self]
        exact ⟨rfl, rfl, rfl, rfl, rfl, rfl⟩
      · rw [State.cleTake_of_f hfreshU hf hkind] at hrow
        have h := hv.onLoop (f := fun x => { x with fOld := x.f, f := tokIn k })
        refine ⟨_, hrow, rfl, fun _ hy => by omega, fun _ _ => ?_, fun h => absurd h hkind, fun m hm =>
          (h.others m hm).trans (s.elapse_loop dt m)⟩
        rw [h.self]
        exact ⟨rfl, rfl, rfl, rfl, rfl, rfl⟩
    · rw [hexec (by omega), if_neg (by omega), State.cleTake_of_stale (fun h => by omega) (by simpa using hstale)]
  case start =>
    have hnext := State.nextLoop_of_first hl48 hq hfirst
    have hexec := execLoopEvalStart_of_next (dt := dt) hrun hidle hnext hq
    have hintime (h : ∀ dl, q.dl = some dl → (s.elapse dt).now ≤ dl) :
        ¬(q.dl.any fun d => decide (d < (s.elapse dt).now)) = true := by simpa [Option.any_eq_true] using h
    refine ⟨fun hdl hfree => ?_, fun hdl hacc hbusy => ?_, fun dl c hdl hlate hc => ?_⟩
    · rw [hexec, if_neg (hintime hdl), if_neg (by omega), State.unqueue_started, State.elapse_cle]
      rfl
    · rw [hexec, if_neg (hintime hdl), if_pos ⟨hacc, hbusy⟩]
    · have hrow : exec c s = .next (((s.elapse dt).unqueue l).missEval l q 3 []) := by
        have hany : (q.dl.any fun d => decide (d < (s.elapse dt).now)) = true := by simpa [hdl] using hlate
        obtain rfl | ⟨rfl, houts⟩ := hc
        · rw [hexec, if_pos hany]
        · exact execLoopDeadline_of_late houts hq hany
      have h := State.abandoned_onlyLoop (dt := dt) hl hlive q
      have hbusy : (s.loop l).busy = none := by
        refine hidle _ ?_
        simp only [State.loop, List.getD_eq_getElem?_getD, List.getElem?_eq_getElem hl, Option.getD_some]
        exact List.getElem_mem hl
      refine ⟨_, _, hrow, h.self, by simp [rearm], by simp [rearm], by simp [rearm, hbusy], by simp, by simp, by simp [rearm],
        by simp [rearm], by simp [rearm], fun m hm => (h.others m hm).trans (s.elapse_loop dt m), h.frame⟩
  case deadline =>
    refine ⟨execLoopDeadline_of_early houts hrep, fun hdue => ⟨_, execLoopDeadline_of_due houts hrep hdue, ?_⟩⟩
    have hfirst := State.onlyLoop.onLoop (f := fun x => { x with outs := rest }) (.refl (s := s.elapse dt) [.valve] (by simpa using hl))
    obtain ⟨c, h⟩ := hfirst.handU (z := z) (by decide) none
    rw [State.elapse_loop] at h
    refine ⟨by rw [h.self], by rw [h.self], by rw [h.self], fun m hm => (h.others m hm).trans (s.elapse_loop dt m), ?_⟩
    have hwaits : sameBut [.cle, .valve] ((s.elapse dt).onLoop l fun x => { x with outs := rest }) (s.elapse dt) := rfl
    exact ((State.handU_sameBut _ l z).trans hwaits).symm

end Sys2Proof.Machine
end

section
/-! PROOFS. Writes of a loop's registers (08 R191, R207, R209; 20 R482): what is applied before a write, and what the write sets. -/

namespace Sys2Proof.Machine

variable {ps : List Part} {s t u v : State} {l off o dt sid n : Nat} {x y : Loop} {z : Int}

-- Inputs applied ahead of a write (08 R191) --------------------------------------------------------------------------

/-- The parts that inputs reach beside the engine: the columns' applied FFV, the inboxes. -/
def inputParts : List Part := [.cols, .imp, .toks]

/-- Of its loop, only what triggers and values write differs. -/
def State.fed (t : State) (l : Nat) (s : State) : Prop :=
  ∃ y, t.onlyLoop inputParts l s y ∧ y.untriggered = (s.loop l).untriggered

namespace State.fed

theorem refl (hl : l < s.cle.loops.length) : s.fed l s := ⟨_, .refl _ hl, rfl⟩

/-- An update that leaves the loops alone. -/
theorem of_loops (h : t.fed l s) (hloops : u.cle.loops = t.cle.loops) (hframe : sameBut (.cle :: inputParts) u.quiet t.quiet) :
    u.fed l s := by
  obtain ⟨y, hy, hsame⟩ := h
  exact ⟨y, hy.of_loops hloops hframe, hsame⟩
theorem onLoop (h : t.fed l s) {f : Loop → Loop} (hf : ∀ x, (f x).untriggered = x.untriggered) : (t.onLoop l f).fed l s := by
  obtain ⟨y, hy, hsame⟩ := h
  exact ⟨_, hy.onLoop, (hf y).trans hsame⟩

theorem takeTok (h : t.fed l s) {cons obj : Nat} {k : VTok} (ht : t.takeTok cons obj = some (k, u)) : u.fed l s := by
  unfold State.takeTok at ht
  dsimp only at ht
  split at ht
  · obtain ⟨-, rfl⟩ := Prod.mk.inj (Option.some.inj ht)
    exact h.of_loops rfl rfl
  · exact nomatch ht
theorem takeAction (h : t.fed l s) {action index : Nat} {k : Firing} (ht : t.takeAction action index = some (k, u)) : u.fed l s := by
  unfold State.takeAction at ht
  split at ht
  · obtain ⟨-, rfl⟩ := Prod.mk.inj (Option.some.inj ht)
    exact h.of_loops rfl rfl
  · exact nomatch ht
theorem reportAcc (h : t.fed l s) {slot : Nat} {a : Acc} : (t.reportAcc slot a).fed l s := by
  have htold := t.reportAcc_frame slot a
  have hcle : (t.reportAcc slot a).cle = t.cle := htold.part_eq (p := State.cle) fun _ => rfl
  exact h.of_loops (by rw [hcle]) (htold.mono (by decide))

variable (hlive : s.isSt .reprint = false)
include hlive

theorem loopTrigger (h : t.fed l s) {mt i : Nat} : (t.loopTrigger l mt i).2.fed l s := by
  obtain ⟨y, hy, hsame⟩ := h
  obtain ⟨y', hy', hsame'⟩ := hy.loopTrigger (mt := mt) (i := i) (by decide) hlive
  exact ⟨y', hy', hsame'.trans hsame⟩

theorem cleTake (h : u.fed l s) {k : VTok} : (t.cleTake l k u).fed l s := by
  unfold State.cleTake
  split
  · split
    · split
      · exact h
      next htake => exact ((h.takeAction htake).loopTrigger hlive).reportAcc
    · split
      · exact h
      · exact h.loopTrigger hlive
  · split
    · exact h
    split
    · exact h.of_loops rfl rfl
    split
    · exact h.onLoop fun _ => rfl
    · exact h.onLoop fun _ => rfl

theorem cleDrain (h : t.fed l s) {trig : Bool} : (State.cleDrain trig l n t).fed l s := by
  induction n generalizing t with
  | zero => exact h
  | succ n ih =>
    unfold State.cleDrain
    split
    · exact h
    next k u htake =>
      have hnext : (t.cleTake l k u).fed l s := (h.takeTok htake).cleTake hlive
      dsimp only
      split
      · exact hnext
      · exact ih hnext

end State.fed

theorem State.cleAhead_fed (hl : l < s.cle.loops.length) (hlive : s.isSt .reprint = false) : (s.cleAhead l).fed l s := by
  unfold State.cleAhead
  rw [hlive, if_neg Bool.false_ne_true]
  exact (State.fed.refl hl).cleDrain hlive

-- The registers of a loop (08 Table 8.7) -----------------------------------------------------------------------------

theorem getReg_untriggered (o : Nat) (y : Loop) : getReg o y.untriggered = getReg o y := by
  unfold getReg
  split <;> rfl
theorem getReg_setReg_self (hoff : off < 8) (hshift : off = 4 → ∃ w : Nat, z = (w % 2 ^ 20 : Nat)) (y : Loop) :
    getReg off (setReg off z y) = z := by
  by_cases h4 : off = 4
  · obtain ⟨w, rfl⟩ := hshift h4
    subst h4
    simp only [getReg, setReg, uw]
    omega
  · interval_cases off <;> simp_all [getReg, setReg]
theorem getReg_setReg_ne (hoff : off < 8) (ho : o < 8) (hne : o ≠ off) (y : Loop) : getReg o (setReg off z y) = getReg o y := by
  interval_cases off <;> interval_cases o <;> simp_all [getReg, setReg]

-- The write (08 R191, R207, R209) ------------------------------------------------------------------------------------

/-- The inputs are applied, then the register and its live parameter are written, and the galleys note it. -/
theorem State.loopWrite_live (hlive : s.isSt .reprint = false) (hl : l < s.cle.loops.length) (off : Nat) (z : Int) :
    ∃ f, s.loopWrite l off z =
      (((s.cleAhead l).onSup fun u => { u with live := spSet 0 u.live (0x6000 + 0x40 * l + off) z }).onLoop l (setReg off z)).onGals l f := by
  obtain ⟨y, hy, -⟩ := State.cleAhead_fed hl hlive
  have hliveA : (s.cleAhead l).isSt .reprint = false := hy.live (by decide) hlive
  unfold State.loopWrite
  dsimp only
  rw [hliveA, if_neg Bool.false_ne_true]
  exact ⟨_, rfl⟩

section
variable (hlive : s.isSt .reprint = false) (hl : l < s.cle.loops.length)
include hlive hl

theorem State.loopWrite_sup (off : Nat) (z : Int) :
    (s.loopWrite l off z).sup = { s.sup with live := spSet 0 s.sup.live (0x6000 + 0x40 * l + off) z } := by
  have hsup : (s.cleAhead l).sup = s.sup := (s.cleAhead_applied l).frame.sup_eq (by decide)
  obtain ⟨f, hwrite⟩ := State.loopWrite_live hlive hl off z
  rw [hwrite, ← hsup]
  rfl

/-- The register takes the value, and the seven others stand. -/
theorem State.loopWrite_getReg (hoff : off < 8) (hshift : off = 4 → ∃ w : Nat, z = (w % 2 ^ 20 : Nat)) :
    getReg off ((s.loopWrite l off z).loop l) = z ∧
    ∀ o, o < 8 → o ≠ off → getReg o ((s.loopWrite l off z).loop l) = getReg o (s.loop l) := by
  obtain ⟨y, hy, hsame⟩ := State.cleAhead_fed hl hlive
  obtain ⟨f, hwrite⟩ := State.loopWrite_live hlive hl off z
  have hloop : (s.loopWrite l off z).loop l = setReg off z y := by
    rw [hwrite, ← hy.self]
    exact State.onLoop_loop_self (s := (s.cleAhead l).onSup _) hy.len _
  rw [hloop]
  refine ⟨getReg_setReg_self hoff hshift y, fun o ho hne => ?_⟩
  rw [getReg_setReg_ne hoff ho hne, ← getReg_untriggered o y, hsame, getReg_untriggered]
end

/-- Where nothing waits, only the register of its loop is written. -/
theorem State.loopWrite_onlyLoop (htoks : s.toks = []) (hl : l < s.cle.loops.length) (off : Nat) (z : Int) :
    (s.loopWrite l off z).onlyLoop [.sup] l s (setReg off z (s.loop l)) := by
  obtain ⟨g, f, hwrite⟩ := s.loopWrite_eq l off z
  rw [hwrite, State.cleAhead_of_empty htoks]
  have hsup : (s.onSup fun u => { u with live := g u.live }).onlyLoop [.sup] l s (s.loop l) :=
    State.onlyLoop.of_loops (.refl [.sup] hl) rfl rfl
  exact hsup.onLoop.onGals

-- A host's write (20 R482; 14 R377) ----------------------------------------------------------------------------------

/-- The words of a loop's eight registers and of L_STAT are the Operator's or the Engineer's (08 Table 8.7). -/
theorem regAcc_loop (hl : l < 48) (hoff : off < 10) (h8 : off ≠ 8) : regAcc (0x600 + 10 * l + off) =
    if off = 5 then .rw else if off = 9 then .w1c else .rwl := by
  have hrem : (0x600 + 10 * l + off - 0x600) % 10 = off := by omega
  unfold regAcc accStations
  rw [if_neg (by omega), if_pos (by omega), if_neg (by omega), if_neg (by omega), if_neg (by omega), if_neg (by omega), if_neg (by omega),
    if_neg (by omega), if_pos (by omega), hrem]
  interval_cases off <;> simp_all

theorem State.writeStations_loop (hl : l < 48) (hoff : off < 10) (s : State) (n : Nat) : s.writeStations (0x600 + 10 * l + off) n =
    if off = 9 then (sOK, s.onLoop l fun x => { x with dlMiss := x.dlMiss && !bitOf n 7, overrun := x.overrun && !bitOf n 8 })
    else s.writeLoop l off n := by
  have hquot : (0x600 + 10 * l + off - 0x600) / 10 = l := by omega
  have hrem : (0x600 + 10 * l + off - 0x600) % 10 = off := by omega
  unfold State.writeStations
  rw [if_neg (by omega), if_neg (by omega), if_neg (by omega), if_neg (by omega), if_neg (by omega), if_neg (by omega), if_neg (by omega)]
  dsimp only
  rw [hquot, hrem]

/-- Outside REPRINT an admitted write to a station is the station's, whatever it answers, and an input record where it is taken. -/
theorem State.writeReg_stations {a : Nat} (hws : regAcc a ≠ .ws) (hlow : a < 0x800) (hrep : s.store.reprint = none) (sid n : Nat) :
    (s.writeReg sid a n).1 = (s.writeStations a n).1 ∧ (s.writeReg sid a n).2.quiet = (s.writeStations a n).2.quiet := by
  have hstations : s.onLiveStations (fun t => t.writeStations a n) = s.writeStations a n := by simp [State.onLiveStations, hrep]
  simp only [State.writeReg, if_neg hws, if_pos hlow, hstations]
  split
  next h => exact ⟨h.1.symm, State.recHost_quiet ..⟩
  next => exact ⟨rfl, rfl⟩

/-- A session of the role that the word needs: the station answers the write, and the reply says how. -/
theorem State.writeOne_stations {a r : Nat} (hcan : canWrite s sid r = true) (hn : n < 2 ^ 32) (hacc : accRole (regAcc a) = some r)
    (hws : regAcc a ≠ .ws) (hlow : a < 0x800) :
    (s.writeOne sid a n).quiet = ((s.writeStations a n).2.reply a n (s.writeStations a n).1).quiet := by
  simp only [canWrite, Bool.and_eq_true, Bool.not_eq_true', Option.any_eq_true, decide_eq_true_eq, List.isEmpty_iff,
    Option.isNone_iff_eq_none] at hcan
  obtain ⟨⟨⟨⟨x, hx, hrole⟩, hhold⟩, hres⟩, hrep⟩ := hcan
  have hw : s.writeWord x a n = s.writeReg x.sid a n := by
    rw [State.writeWord_of_accRole hacc, if_neg (Nat.not_lt.2 hrole)]
    simp [hhold, State.isResetting, hres]
  obtain ⟨hstatus, hquiet⟩ := State.writeReg_stations hws hlow hrep x.sid n
  rw [State.writeOne_eq hx hn, hw, hstatus]
  simp [hquiet]

end Sys2Proof.Machine
end

section
/-! PROOFS. LOOP_REGISTER_WRITE, SETPOINT_COPY, LOOP_HOLD and LOOP_RELEASE (08 R185, R209, R210, R215). -/

namespace Sys2Proof.Machine

variable {ps : List Part} {s t u v : State} {l m off o dt sid n f : Nat} {x y : Loop} {z : Int} {fl : Flight}

-- LOOP_REGISTER_WRITE (08 R191, R209) --------------------------------------------------------------------------------

@[simp] theorem State.wakeUp_cle (s : State) : s.wakeUp.cle = s.cle := sameBut.part_eq (p := State.cle) s.wakeUp_sameBut fun _ => rfl

/-- The frame wakes the unit; the word of the register is written. -/
theorem execLoopRegisterWrite_eq (hl : l < 48) (hoff : off < 10) (s : State) (dt sid n : Nat) : exec (.loopRegisterWrite dt sid l off n) s =
    .next ((s.elapse dt).wakeUp.writeOne sid (0x600 + 10 * l + off) n) := by
  show execLoopRegisterWrite dt sid l off n s = _
  rw [execLoopRegisterWrite, if_pos ⟨hl, hoff⟩]

section
variable (hl : l < 48) (hn : n < 2 ^ 32)
include hl hn

/-- A write of one of the eight registers is taken where the register may hold the value, and refused otherwise. -/
theorem State.writeOne_register (hoff : off < 8) (hcan : canWrite s sid (if off = 5 then 1 else 2) = true)
    (hz : z = if off = 4 then ((n % 2 ^ 20 : Nat) : Int) else sx 32 n) : (s.writeOne sid (0x600 + 10 * l + off) n).quiet =
      if s.loopWriteOk l off z then ((s.loopWrite l off z).reply (0x600 + 10 * l + off) n sOK).quiet
      else (s.reply (0x600 + 10 * l + off) n sBAD).quiet := by
  have hacc := regAcc_loop (off := off) hl (by omega) (by omega)
  have h9 : off ≠ 9 := by omega
  have hwrite : s.writeStations (0x600 + 10 * l + off) n = if s.loopWriteOk l off z then (sOK, s.loopWrite l off z) else (sBAD, s) := by
    rw [State.writeStations_loop hl (by omega), if_neg h9, hz]
    rfl
  have hrole : accRole (regAcc (0x600 + 10 * l + off)) = some (if off = 5 then 1 else 2) := by
    rw [hacc, if_neg h9]
    split <;> rfl
  have hws : regAcc (0x600 + 10 * l + off) ≠ .ws := by
    rw [hacc, if_neg h9]
    split <;> nofun
  rw [State.writeOne_stations hcan hn hrole hws (by omega), hwrite]
  split <;> rfl

/-- L_STAT's flags are cleared where written 1. -/
theorem State.writeOne_stat (hcan : canWrite s sid 1 = true) : (s.writeOne sid (0x600 + 10 * l + 9) n).quiet =
    ((s.onLoop l fun x => { x with dlMiss := x.dlMiss && !bitOf n 7, overrun := x.overrun && !bitOf n 8 }).reply
      (0x600 + 10 * l + 9) n sOK).quiet := by
  have hacc : regAcc (0x600 + 10 * l + 9) = .w1c := regAcc_loop hl (by decide) (by decide)
  rw [State.writeOne_stations hcan hn (by rw [hacc]; rfl) (by rw [hacc]; nofun) (by omega),
    State.writeStations_loop hl (by decide), if_pos rfl]
end

/-- A register may not take a value beyond the other limit, or a limit beyond its destination. -/
theorem State.loopWriteOk_false {z : Int} (hbad : off = 6 ∧ (s.loop l).umax < z ∨ off = 7 ∧ z < (s.loop l).umin ∨
    s.loopEn l = true ∧ (off = 6 ∨ off = 7) ∧ inDst (s.pL l 0x13) z = false) : s.loopWriteOk l off z = false := by
  obtain ⟨rfl, hmax⟩ | ⟨rfl, hmin⟩ | ⟨hon, hlim, hdst⟩ := hbad
  · simp [State.loopWriteOk, Int.not_le.2 hmax]
  · simp [State.loopWriteOk, Int.not_le.2 hmin]
  · obtain rfl | rfl := hlim <;> simp [State.loopWriteOk, hon, hdst]

/-- Slugs, input records and the host's side aside, an answered write leaves its station's state. -/
theorem State.answered_reads {a status : Nat} (h : t.quiet = (u.reply a n status).quiet) : sameBut [.host] t.quiet u.quiet ∧
    (∀ k, t.loop k = u.loop k) ∧ t.host.lastWord = some (a, n, status) := by
  have hframe : sameBut [.host] t.quiet u.quiet := by
    rw [h]
    rfl
  obtain ⟨-, hword, -⟩ := State.reply_reads h
  exact ⟨hframe, State.loop_congr (hframe.part_eq (p := State.cle) fun _ => rfl), hword⟩

-- SETPOINT_COPY (08 R185) --------------------------------------------------------------------------------------------

theorem execSetpointCopy_of_owed {mt : Nat} {rest : List (Int × Nat)} (howed : (s.loop l).copyU = (z, mt) :: rest)
    (hm : m = s.pL l 0x13 % 64) : ∃ t, exec (.setpointCopy dt l) s = .next t ∧
      t.quiet = (((s.elapse dt).onLoop l fun x => { x with copyU := rest }).loopWrite m 5 z).quiet := by
  have hrow : exec (.setpointCopy dt l) s = execSetpointCopy dt l s := rfl
  rw [hrow, hm]
  simp only [execSetpointCopy, State.elapse_loop, howed, State.elapse_pL]
  exact ⟨_, rfl, State.recHost_quiet ..⟩

-- LOOP_HOLD and LOOP_RELEASE (08 R210, R215) -------------------------------------------------------------------------

/-- What a loop's result shows stands outside slugs and input records. -/
theorem State.loopResult_of_quiet (h : t.quiet = s.quiet) (l : Nat) : t.loopResult l = s.loopResult l := by
  have hsame : sameBut [] t.quiet s.quiet := congrArg (State.but []) h
  have hloop : t.loop l = s.loop l := State.loop_congr (hsame.part_eq (p := State.cle) fun _ => rfl) l
  simp only [State.loopResult, State.loopState, State.loopEn, State.evaluating, hsame.pL_eq (by decide) (by decide),
    hsame.isSt_eq (by decide), hsame.reprint_eq (by decide), hloop]
  rfl

/-- The loop is held, with the value to hand over where one is given. -/
def Loop.heldAt (v : Option Int) (y : Loop) : Loop := { y with hold := true, holdVal := v, bump := false }
/-- The hold ends, with or without BUMPLESS. -/
def Loop.released (bump : Bool) (y : Loop) : Loop := { y with hold := false, holdVal := none, bump := if y.hold then bump else y.bump }

section
variable (hl : l < 48) (harg : argB fl.e 0 = l)
include hl harg

theorem loopHoldBody_off (hgive : bitOf (argB fl.e 1) 0 = false) (hoff : s.loopEn l = false) :
    loopHoldBody fl s = .err s sNOTST := by
  unfold loopHoldBody
  dsimp only
  rw [harg, hgive, hoff, if_neg (by omega), if_neg (by simp), if_pos (by decide)]
theorem loopReleaseBody_off (hoff : s.loopEn l = false) : loopReleaseBody fl s = .err s sNOTST := by
  unfold loopReleaseBody
  dsimp only
  rw [harg, hoff, if_neg (by omega), if_pos (by decide)]

variable (htoks : s.toks = [])
include htoks

theorem loopHoldBody_ok {give : Bool} {w : Int} (hgive : bitOf (argB fl.e 1) 0 = give) (hw : argI fl.e 4 4 = w)
    (hon : s.loopEn l = true) (hin : give = true → (s.loop l).umin ≤ w ∧ w ≤ (s.loop l).umax) :
    ∃ u : State, loopHoldBody fl s = .ok u (u.loopResult l) ∧
      u.quiet = ((s.onLoop l (Loop.heldAt (if give then some w else none))).galNote l 1).quiet := by
  have hrange : ¬(give = true ∧ (w < (s.loop l).umin ∨ (s.loop l).umax < w)) := by
    rintro ⟨hgiven, hout⟩
    have := hin hgiven
    omega
  unfold loopHoldBody
  dsimp only
  rw [harg, hgive, hw, State.cleAhead_of_empty htoks, if_neg (by omega), if_neg hrange, hon, if_neg (by decide)]
  refine ⟨_, congrArg _ ?_, State.recHost_quiet ..⟩
  exact State.loopResult_of_quiet (State.recHost_quiet ..).symm l

theorem loopHoldBody_bad (hgive : bitOf (argB fl.e 1) 0 = true)
    (hout : argI fl.e 4 4 < (s.loop l).umin ∨ (s.loop l).umax < argI fl.e 4 4) : loopHoldBody fl s = .bad s := by
  unfold loopHoldBody
  dsimp only
  rw [harg, State.cleAhead_of_empty htoks, if_neg (by omega), if_pos ⟨hgive, hout⟩]

theorem loopReleaseBody_ok (hon : s.loopEn l = true) : ∃ u : State, loopReleaseBody fl s = .ok u (u.loopResult l) ∧
    u.quiet = ((s.onLoop l (Loop.released (bitOf (argB fl.e 1) 0))).galNote l 2).quiet := by
  unfold loopReleaseBody
  dsimp only
  rw [harg, State.cleAhead_of_empty htoks, if_neg (by omega), hon, if_neg (by decide)]
  refine ⟨_, congrArg _ ?_, State.recHost_quiet ..⟩
  exact State.loopResult_of_quiet (State.recHost_quiet ..).symm l
end

section
variable (hf : s.flight? f = some fl) {status : Nat} {res : List Nat}
include hf

theorem exec_loopHold_of_ready (hready : ready fl 0x48 = true) (hbody : loopHoldBody fl (s.elapse dt) = .done u status res) :
    exec (.loopHold dt f) s = .next (u.complete f status res) := by
  show Host.Outcome.next (runCmd 0x48 f loopHoldBody (s.elapse dt)) = _
  rw [runCmd_ready _ (by simpa using hf) hready, hbody]
theorem exec_loopRelease_of_ready (hready : ready fl 0x49 = true) (hbody : loopReleaseBody fl (s.elapse dt) = .done u status res) :
    exec (.loopRelease dt f) s = .next (u.complete f status res) := by
  show Host.Outcome.next (runCmd 0x49 f loopReleaseBody (s.elapse dt)) = _
  rw [runCmd_ready _ (by simpa using hf) hready, hbody]
end

/-- A hold or a release changes its loop, and the galleys note it. -/
theorem State.galNoted_onlyLoop (hl : l < s.cle.loops.length) {g : Loop → Loop} {kind : Nat}
    (h : u.quiet = (((s.elapse dt).onLoop l g).galNote l kind).quiet) : u.onlyLoop [] l (s.elapse dt) (g (s.loop l)) := by
  have hgals : (((s.elapse dt).onLoop l g).galNote l kind).onlyLoop [] l (s.elapse dt) (g ((s.elapse dt).loop l)) :=
    (State.onlyLoop.refl (s := s.elapse dt) [] (by simpa using hl)).onLoop.onGals
  rw [State.elapse_loop] at hgals
  exact hgals.of_quiet h

/-- Settles O35: a write is its word's, a setpoint copy a write of L_SP, and a hold or a release a change of its loop that the
galleys note (08 R185, R209, R210, R215; 20 R482). -/
theorem loopRegistersAndHolds : Obligations.LoopRegistersAndHolds := by
  intro dt l s u hl hu hlen hlive
  have hcleU : u.cle = s.cle := by simp [hu]
  have hloopU (k : Nat) : u.loop k = s.loop k := State.loop_congr hcleU k
  have hlU : l < u.cle.loops.length := by rw [hcleU, hlen]; exact hl
  have hliveU : u.isSt .reprint = false := by simpa [hu, State.isSt] using hlive
  have hcanU (sid r : Nat) (h : canWrite s sid r = true) : canWrite u sid r = true := by rw [hu]; simpa using h
  refine ⟨fun sid off n z hcan hoff hn hz => ⟨fun hok => ?write, fun hbad => ?refused⟩, fun sid n hcan hn => ?stat,
    fun z mt rest m howed hm hm48 htoks => ?copy, fun f fl hf hready harg htoks => ?hold, fun f fl hf hready harg htoks => ?release⟩
  case write =>
    have hquiet := State.writeOne_register hl hn hoff (hcanU _ _ hcan) hz
    rw [if_pos hok] at hquiet
    obtain ⟨hframe, hloops, hword⟩ := State.answered_reads hquiet
    obtain ⟨hself, hothers⟩ := State.loopWrite_getReg hliveU hlU hoff fun h4 => ⟨n, hz.trans (if_pos h4)⟩
    rw [hloopU] at hothers
    refine ⟨_, by rw [execLoopRegisterWrite_eq hl (by omega), ← hu], by rw [hloops, hself], fun o ho hne => by rw [hloops, hothers o ho hne],
      (hframe.sup_eq (by decide)).trans (State.loopWrite_sup hliveU hlU off z), hword, fun htoks => ?_⟩
    have honly := State.loopWrite_onlyLoop htoks hlU off z
    exact ⟨fun k hk => by rw [hloops, honly.others k hk, hloopU],
      (hframe.mono (by decide)).trans (honly.frame.mono (by decide))⟩
  case refused =>
    have hbadU : u.loopWriteOk l off z = false := by
      refine State.loopWriteOk_false ?_
      have hz6 : off = 6 ∨ off = 7 → z = sx 32 n := fun h => by rw [hz, if_neg (by omega)]
      rw [hloopU]
      obtain ⟨h6, hmax⟩ | ⟨h7, hmin⟩ | ⟨hon, hlim, hdst⟩ := hbad
      · exact .inl ⟨h6, hz6 (.inl h6) ▸ hmax⟩
      · exact .inr (.inl ⟨h7, hz6 (.inr h7) ▸ hmin⟩)
      · exact .inr (.inr ⟨hon, hlim, hz6 hlim ▸ hdst⟩)
    have hquiet := State.writeOne_register hl hn hoff (hcanU _ _ hcan) hz
    rw [hbadU, if_neg Bool.false_ne_true] at hquiet
    exact ⟨_, by rw [execLoopRegisterWrite_eq hl (by omega), ← hu], hquiet⟩
  case stat =>
    obtain ⟨hframe, hloops, hword⟩ := State.answered_reads (State.writeOne_stat hl hn (hcanU _ _ hcan))
    have honly := (State.onlyLoop.refl [] hlU).onLoop (f := fun x =>
      { x with dlMiss := x.dlMiss && !bitOf n 7, overrun := x.overrun && !bitOf n 8 })
    refine ⟨_, by rw [execLoopRegisterWrite_eq hl (by decide), ← hu], ?_, fun k hk => ?_, ?_,
      (hframe.mono (by decide)).trans (honly.frame.mono (by decide))⟩
    · rw [hloops, honly.self, hloopU]
    · rw [hloops, honly.others k hk, hloopU]
    · rw [hword, Nat.add_right_comm]
  case copy =>
    obtain ⟨t, hexec, hquiet⟩ := execSetpointCopy_of_owed (dt := dt) howed hm
    have hlS : l < (s.elapse dt).cle.loops.length := by simpa [hlen] using hl
    have hpaid := (State.onlyLoop.refl [] hlS).onLoop (f := fun x => { x with copyU := rest })
    have hcopied := State.loopWrite_onlyLoop (s := (s.elapse dt).onLoop l fun x => { x with copyU := rest }) (l := m)
      (by simpa using htoks) (by simpa [hlen] using hm48) 5 z
    have hrecorded := hcopied.of_quiet hquiet
    refine ⟨t, hexec, by rw [hrecorded.self]; rfl, ?_, fun k hkm hkl => ?_,
      hrecorded.frame.trans (hpaid.frame.mono (by decide))⟩
    · by_cases hlm : l = m
      · subst hlm
        rw [hrecorded.self, hpaid.self]
        rfl
      · rw [hrecorded.others l hlm, hpaid.self]
    · rw [hrecorded.others k hkm, hpaid.others k hkl, State.elapse_loop]
  case hold =>
    have htoksS : (s.elapse dt).toks = [] := by simpa using htoks
    refine ⟨fun hoff hgive => ?_, fun hgive hout => ?_, fun hon hin => ?_⟩
    · exact exec_loopHold_of_ready hf hready (loopHoldBody_off hl harg hgive (by simpa using hoff))
    · exact exec_loopHold_of_ready hf hready (loopHoldBody_bad hl harg htoksS hgive (by simpa using hout))
    · obtain ⟨w, hbody, hquiet⟩ := loopHoldBody_ok hl harg htoksS rfl rfl (by simpa using hon) (by simpa using hin)
      have honly := State.galNoted_onlyLoop (hlen ▸ hl) hquiet
      exact ⟨w, exec_loopHold_of_ready hf hready hbody, honly.self, fun k hk => (honly.others k hk).trans (s.elapse_loop dt k), honly.frame⟩
  case release =>
    have htoksS : (s.elapse dt).toks = [] := by simpa using htoks
    refine ⟨fun hoff => ?_, fun hon => ?_⟩
    · exact exec_loopRelease_of_ready hf hready (loopReleaseBody_off hl harg (by simpa using hoff))
    · obtain ⟨w, hbody, hquiet⟩ := loopReleaseBody_ok hl harg htoksS (by simpa using hon)
      have honly := State.galNoted_onlyLoop (hlen ▸ hl) hquiet
      exact ⟨w, exec_loopRelease_of_ready hf hready hbody, honly.self, fun k hk => (honly.others k hk).trans (s.elapse_loop dt k),
        honly.frame⟩

end Sys2Proof.Machine
end

section
/-! PROOFS. The galleys (08 R204 to R206, R211, R215): GALLEY_ARM, GALLEY_SNAP, GALLEY_COPY and GALLEY_DUMP. -/

namespace Sys2Proof.Machine

variable {s t u v : State} {g k dt f mt : Nat} {x : Firing} {y : Galley} {q : Queue} {fl : Flight}

-- A galley's entries and states (08 R204, R205) ----------------------------------------------------------------------

/-- WAIT to REC: the galley records, with a START marker where code 14 is selected. -/
theorem galStart_eq (mt : Nat) (y : Galley) : galStart mt y = { y with
    st := .recording
    entries := if galSel y 14 then (evtEntry y 4 mt :: y.entries).take 4096 else y.entries
    total := if galSel y 14 then y.total + 1 else y.total
    sinceStart := 0 } := by
  simp only [galStart, galMark, show galSel { y with st := .recording } 14 = galSel y 14 from rfl]
  split <;> rfl
/-- REC to FROZEN, or to POST where entries are to follow. -/
theorem galStop_st (mt : Nat) (y : Galley) : (galStop mt y).st = if y.post = 0 then .frozen else .post := rfl
theorem galStop_postLeft (mt : Nat) (y : Galley) : (galStop mt y).postLeft = y.post := rfl

theorem galPut_of_recording (hst : y.st = .recording) (hstop : y.stop ≠ 2) (mt : Nat) (e : GalEntry) : galPut mt y e = galWrite y e := by
  simp [galPut, hst, hstop]

/-- An event that is no start and no stop of the galley brings it its entries only. -/
theorem galEvent_entries (mt : Nat) (xs : List GalEntry) (y : Galley) : galEvent mt false false xs y = xs.foldl (galPut mt) y := rfl
theorem galEvent_start (hst : y.st = .wait) (mt : Nat) : galEvent mt true false [] y = galStart mt y := by
  simp [galEvent, hst]
theorem galEvent_stop (hst : y.st = .recording) (mt : Nat) : galEvent mt false true [] y = galStop mt y := by
  simp [galEvent, hst]

-- GALLEY_ARM (08 R205) -----------------------------------------------------------------------------------------------

/-- The empty galley in WAIT that a GALLEY_ARM asks for. -/
def armAsked (fl : Flight) : Galley where
  loop := argB fl.e 2
  start := argB fl.e 3
  stop := argB fl.e 4
  trip := argB fl.e 5
  nodes := argN fl.e 6 2
  post := argN fl.e 8 2
  st := .wait
/-- Under START 0 it records at once. -/
def armGiven (fl : Flight) (mt : Nat) : Galley := if argB fl.e 3 = 0 then galStart mt (armAsked fl) else armAsked fl

theorem armGiven_wait (h : argB fl.e 3 ≠ 0) (mt : Nat) : armGiven fl mt = armAsked fl := if_neg h
theorem armGiven_recording (h : argB fl.e 3 = 0) (mt : Nat) : armGiven fl mt = galStart mt (armAsked fl) := if_pos h
/-- What records at once stays as asked for, but for what recording changes. -/
theorem armGiven_keeps {α : Type} {p : Galley → α} (hp : ∀ (y : Galley) a e n k, p { y with st := a, entries := e, total := n, sinceStart := k } = p y)
    (fl : Flight) (mt : Nat) : p (armGiven fl mt) = p (armAsked fl) := by
  by_cases h : argB fl.e 3 = 0
  · rw [armGiven_recording h, galStart_eq, hp]
  · rw [armGiven_wait h]

section
variable (hg : g < 8) (harg : argB fl.e 0 = g)
include hg harg

/-- A galley is disarmed. -/
theorem galleyArmBody_disarm (hop : argB fl.e 1 = 1) (s : State) :
    galleyArmBody fl s = .ok (s.onGal g fun y => { y with st := .idle, copying := false }) [g, 0] := by
  unfold galleyArmBody
  dsimp only
  rw [harg, hop, if_neg (by omega), if_pos rfl]

/-- A galley that neither waits nor records is emptied. -/
theorem galleyArmBody_arm (hop : argB fl.e 1 = 0)
    (hvalid : argB fl.e 2 < 48 ∧ argB fl.e 3 < 5 ∧ argB fl.e 4 < 6 ∧ argB fl.e 5 < 16 ∧ argN fl.e 8 2 < 4096 ∧
      bitOf (argN fl.e 6 2) 11 = false ∧ bitOf (argN fl.e 6 2) 15 = false) (s : State) :
    galleyArmBody fl s = if (s.gal g).st ≠ .idle ∧ (s.gal g).st ≠ .frozen then .err s sNOTST
      else .ok (s.onGal g fun _ => armGiven fl s.bmt) [g, galCode ((s.onGal g fun _ => armGiven fl s.bmt).gal g).st] := by
  obtain ⟨hloop, hstart, hstop, htrip, hpost, hbit11, hbit15⟩ := hvalid
  unfold galleyArmBody
  dsimp only
  rw [harg, hop, hbit11, hbit15, if_neg (by omega), if_neg (by decide), if_neg (by simp; omega)]
  rfl
end

-- GALLEY_SNAP (08 R205, R211) ----------------------------------------------------------------------------------------

theorem execGalleySnap_of_resting (htake : (s.elapse dt).takeAction 0xA g = some (x, v))
    (hst : (v.gal g).st = .idle ∨ (v.gal g).st = .frozen) :
    exec (.galleySnap dt g) s = .next (v.reportAcc x.slot .discarded) := by
  show execGalleySnap dt g s = _
  simp only [execGalleySnap, htake]
  exact if_pos (.inr hst)

/-- A galley in WAIT, REC or POST starts, stops, or is marked. -/
theorem execGalleySnap_of_armed (htake : (s.elapse dt).takeAction 0xA g = some (x, v)) (hrun : v.evaluating = true) (hy : v.gal g = y)
    (hidle : y.st ≠ .idle) (hfrozen : y.st ≠ .frozen) :
    ∃ h : Galley → Galley, exec (.galleySnap dt g) s = .next ((v.onGal g h).reportAcc x.slot .accepted) ∧
      (y.st = .wait → y.start = 4 → h y = galStart v.bmt y) ∧
      (y.st = .wait ∧ y.start ≠ 4 ∨ y.st = .recording ∧ y.stop ≠ 1 ∧ y.stop ≠ 2 → h y = galMark y 0 v.bmt) ∧
      (y.st = .recording → y.stop = 1 → h y = galStop v.bmt y) := by
  have hrow : exec (.galleySnap dt g) s = execGalleySnap dt g s := rfl
  rw [hrow]
  simp only [execGalleySnap, htake, hy, hrun]
  rw [if_neg (by simp [hidle, hfrozen])]
  refine ⟨_, rfl, fun hst hstart => ?start, fun hmark => ?mark, fun hst hstop => ?stop⟩
  case start => simpa [hst, hstart] using galEvent_start hst v.bmt
  case stop => simpa [hst, hstop] using galEvent_stop hst v.bmt
  case mark =>
    obtain ⟨hst, hstart⟩ | ⟨hst, hstop1, hstop2⟩ := hmark
    · cases hsel : galSel y 14 <;> simp [galMark, hst, hstart, hsel]
    · cases hsel : galSel y 14 <;> simp [galMark, hst, hstop1, hsel, galEvent_entries, galPut_of_recording hst hstop2]

-- GALLEY_COPY (08 R206; 16 Table 16.1) -------------------------------------------------------------------------------

section
variable (hg : g < 8) (hcopy : (s.gal g).copying = true)
include hg hcopy

theorem execGalleyCopy_of_unstored (hstore : s.store.mounted = false ∨ s.store.readOnly = true) :
    exec (.galleyCopy dt g) s = .next ((s.elapse dt).onGal g fun z => { z with copying := false }) := by
  show execGalleyCopy dt g s = _
  simp only [execGalleyCopy, State.elapse_gal, hcopy]
  rw [if_neg (by simp; omega), if_pos (by simpa using hstore)]

/-- The copy is the galley's entries, oldest first, in the next folio of the ring. -/
theorem execGalleyCopy_of_stored (hmounted : s.store.mounted = true) (hwritable : s.store.readOnly = false) :
    ∃ t, exec (.galleyCopy dt g) s = .next t ∧ t.cle = ((s.elapse dt).onGal g fun z => { z with copying := false }).cle ∧
      t.store.galCopies = spPut s.store.galCopies (88 + s.store.galFolio % 936) (s.gal g).entries.reverse ∧
      t.store.galFolio = s.store.galFolio + 1 := by
  have hrow : exec (.galleyCopy dt g) s = execGalleyCopy dt g s := rfl
  rw [hrow]
  simp only [execGalleyCopy, State.elapse_gal, hcopy]
  rw [if_neg (by simp; omega), if_neg (by simp [hmounted, hwritable])]
  refine ⟨_, rfl, State.slug_cle .., ?_, ?_⟩
  · exact (congrArg (fun a : State => a.store.galCopies) (State.slug_quiet ..)).trans (by rw [← s.elapse_store dt]; rfl)
  · exact (congrArg (fun a : State => a.store.galFolio) (State.slug_quiet ..)).trans (by rw [← s.elapse_store dt]; rfl)
end

-- GALLEY_DUMP (08 R215) ----------------------------------------------------------------------------------------------

/-- Stream entries reach their queue only. -/
theorem State.streamAll_sameBut (s : State) (n src kind : Nat) (recs : List (List Nat)) :
    sameBut [.host] s (s.streamAll n src kind recs).1 :=
  List.foldlRecOn (motive := fun a : State × Nat => sameBut [.host] s a.1) _ _ rfl fun _ ha _ _ => ha.trans rfl

@[simp] theorem State.elapse_ownXq (s : State) (dt sid xq : Nat) : (s.elapse dt).ownXq sid xq = s.ownXq sid xq := by
  simp only [State.ownXq, State.elapse_queue]

section
variable (hg : g < 8) (harg : argB fl.e 0 = g) (hxq : s.ownXq fl.sid (argN fl.e 2 2) = some q)
include hg harg hxq

theorem galleyDumpBody_busy (h : (s.gal g).st ≠ .frozen ∨ q.bound = true) : galleyDumpBody fl s = .err s sBUSY := by
  unfold galleyDumpBody
  dsimp only
  rw [harg, if_neg (by omega), hxq]
  exact if_pos h.symm

theorem galleyDumpBody_frozen (hst : (s.gal g).st = .frozen) (hfree : q.bound = false) :
    ∃ u res, galleyDumpBody fl s = .ok u res ∧ sameBut [.host] s u ∧ res.getD 2 0 = 4 := by
  unfold galleyDumpBody
  dsimp only
  rw [harg, if_neg (by omega), hxq]
  dsimp only
  rw [if_neg (by simp [hst, hfree])]
  exact ⟨_, _, rfl, State.streamAll_sameBut .., rfl⟩
end

-- The rows -----------------------------------------------------------------------------------------------------------

section
variable (hf : s.flight? f = some fl) {status : Nat} {res : List Nat}
include hf

theorem exec_galleyArm_of_ready (hready : ready fl 0x4A = true) (hbody : galleyArmBody fl (s.elapse dt) = .done u status res) :
    exec (.galleyArm dt f) s = .next (u.complete f status res) := by
  show Host.Outcome.next (runCmd 0x4A f galleyArmBody (s.elapse dt)) = _
  rw [runCmd_ready _ (by simpa using hf) hready, hbody]
theorem exec_galleyDump_of_ready (hready : ready fl 0x4B = true) (hbody : galleyDumpBody fl (s.elapse dt) = .done u status res) :
    exec (.galleyDump dt f) s = .next (u.complete f status res) := by
  show Host.Outcome.next (runCmd 0x4B f galleyDumpBody (s.elapse dt)) = _
  rw [runCmd_ready _ (by simpa using hf) hready, hbody]
end

/-- Settles O36: an arm asks for an empty galley, a snap starts, stops or marks one, a copy reads it into the next folio of the ring,
and a dump streams it (08 R204 to R206, R211, R215; 16 Table 16.1). -/
theorem galleysArmSnapFreezeAndDump : Obligations.GalleysArmSnapFreezeAndDump := by
  rintro dt g s y hg hlen rfl
  have hlenE : g < (s.elapse dt).cle.galleys.length := by simpa [hlen] using hg
  refine ⟨fun f fl hf hready harg hop hloop hstart hstop htrip hpost hbit11 hbit15 => ?arm, fun f fl hf hready harg hop => ?disarm,
    fun x hbox hact hidx hrun hrise => ?snap, fun hcopy hstore => ?unstored, fun hcopy hmounted hwritable => ?stored,
    fun f fl q hf hready harg hxq => ⟨fun hbusy => ?busy, fun hst hfree => ?dump⟩⟩
  case arm =>
    have hbody := galleyArmBody_arm hg harg hop ⟨hloop, hstart, hstop, htrip, hpost, hbit11, hbit15⟩ (s.elapse dt)
    rw [State.elapse_gal] at hbody
    refine ⟨fun hrest => ?_, fun hidle hfrozen => ?_⟩
    · rw [if_neg (by tauto), State.onGal_gal_self hlenE] at hbody
      refine ⟨_, armGiven fl (s.elapse dt).bmt, exec_galleyArm_of_ready hf hready hbody, State.onGal_gal_self hlenE _,
        armGiven_keeps (p := Galley.loop) (fun _ _ _ _ _ => rfl) .., armGiven_keeps (p := Galley.nodes) (fun _ _ _ _ _ => rfl) ..,
        armGiven_keeps (p := Galley.post) (fun _ _ _ _ _ => rfl) .., armGiven_keeps (p := Galley.trip) (fun _ _ _ _ _ => rfl) ..,
        armGiven_keeps (p := Galley.byTrip) (fun _ _ _ _ _ => rfl) .., fun hwait => ?_, fun hrec => ?_, fun k hk => ?_, rfl⟩
      · rw [armGiven_wait hwait]
        exact ⟨rfl, rfl⟩
      · rw [armGiven_recording hrec, galStart_eq]
        refine ⟨rfl, ?_⟩
        show (if galSel (armAsked fl) 14 then _ else _ : List GalEntry).length = b2n (galSel (armAsked fl) 14)
        cases galSel (armAsked fl) 14 <;> rfl
      · rw [State.onGal_gal_ne hk, State.elapse_gal]
    · rw [if_pos ⟨hidle, hfrozen⟩] at hbody
      exact exec_galleyArm_of_ready hf hready hbody
  case disarm =>
    refine ⟨_, exec_galleyArm_of_ready hf hready (galleyArmBody_disarm hg harg hop (s.elapse dt)), ?_⟩
    rw [State.onGal_gal_self hlenE]
  case snap =>
    obtain ⟨v, htake, himp, -, -, hv⟩ := State.takeAction_of_single (s := s.elapse dt) (n := g) (by simpa using hbox) hact hidx
    have hcle : v.cle = (s.elapse dt).cle := hv.part_eq (p := State.cle) fun _ => rfl
    have hgal (k : Nat) : v.gal k = s.gal k := (State.gal_congr hcle k).trans (s.elapse_gal dt k)
    have hbmt : v.bmt = (s.elapse dt).bmt := hv.part_eq (p := State.bmt) fun _ => rfl
    have hrunV : v.evaluating = true := by
      rw [hv.part_eq (p := State.evaluating) fun _ => rfl]
      simpa [State.evaluating] using hrun
    have hriseV : keysRise v.imp.slots := by
      rw [himp, State.elapse_imp]
      exact hrise
    have htaken : sameBut [.imp] v.quiet (s.elapse dt).quiet := congrArg State.quiet hv
    have hquiet : sameBut [.cle, .imp] v.quiet (s.elapse dt).quiet := htaken.mono (by decide)
    have hgalR (w : State) (a : Acc) (k : Nat) : (w.reportAcc x.slot a).gal k = w.gal k :=
      State.gal_congr ((w.reportAcc_frame x.slot a).part_eq (p := State.cle) fun _ => rfl) k
    by_cases hrest : (s.gal g).st = .idle ∨ (s.gal g).st = .frozen
    · obtain ⟨hacc, hinbox⟩ := State.reportAcc_told hriseV x.slot .discarded
      refine ⟨_, execGalleySnap_of_resting htake (by rwa [hgal]), hinbox.trans (by rw [himp]), fun k _ => by rw [hgalR, hgal],
        fun _ => ⟨by rw [hgalR, hgal], hacc⟩, ?_, ?_, ?_, ((v.reportAcc_frame ..).mono (by decide)).trans hquiet, ?_⟩ <;>
      · intro hst
        simp [hst] at hrest
    · obtain ⟨hidle, hfrozen⟩ := not_or.1 hrest
      obtain ⟨h, hexec, hstart, hmark, hstop⟩ := execGalleySnap_of_armed htake hrunV (hgal g) hidle hfrozen
      obtain ⟨hacc, hinbox⟩ := State.reportAcc_told (s := v.onGal g h) hriseV x.slot .accepted
      have hself : ((v.onGal g h).reportAcc x.slot .accepted).gal g = h (s.gal g) := by
        rw [hgalR, State.onGal_gal_self (by rwa [hcle]), hgal]
      rw [hbmt] at hstart hmark hstop
      have hbox' : (v.onGal g h).imp.inbox = [] := congrArg ImpSt.inbox himp
      refine ⟨_, hexec, hinbox.trans hbox', fun k hk => by rw [hgalR, State.onGal_gal_ne hk, hgal],
        fun h => absurd h hrest, fun hst h4 => ⟨?_, hacc⟩, fun hst h4 => ⟨?_, hacc⟩, fun hst h1 h2 => ⟨?_, hacc⟩,
        ((State.reportAcc_frame ..).mono (by decide)).trans hquiet, fun hst h1 => ?_⟩
      · rw [hself, hstart hst h4, galStart_eq]
      · rw [hself, hmark (.inl ⟨hst, h4⟩)]
        rfl
      · rw [hself, hmark (.inr ⟨hst, h1, h2⟩)]
        rfl
      · rw [hself, hstop hst h1]
        exact ⟨galStop_st .., galStop_postLeft ..⟩
  case unstored => exact execGalleyCopy_of_unstored hg hcopy hstore
  case stored =>
    obtain ⟨t, hexec, hcle, hcopies, hnext⟩ := execGalleyCopy_of_stored (dt := dt) hg hcopy hmounted hwritable
    have hself : t.gal g = { s.gal g with copying := false } := by
      rw [State.gal_congr hcle, State.onGal_gal_self hlenE, State.elapse_gal]
    refine ⟨t, hexec, by rw [hself], by rw [hself], ?_, hnext, fun k hk => ?_⟩
    · rw [hcopies, spGetD, spGet_spPut_self, Option.getD_some]
    · rw [State.gal_congr hcle, State.onGal_gal_ne hk, State.elapse_gal]
  case busy =>
    exact exec_galleyDump_of_ready hf hready (galleyDumpBody_busy hg harg (by simpa using hxq) (by simpa using hbusy))
  case dump =>
    obtain ⟨u, res, hbody, hframe, hlist⟩ := galleyDumpBody_frozen (s := s.elapse dt) hg harg (by simpa using hxq) (by simpa using hst) hfree
    refine ⟨u, res, exec_galleyDump_of_ready hf hready hbody, ?_, hframe, hlist⟩
    exact (hframe.part_eq (p := State.cle) fun _ => rfl).symm.trans (s.elapse_cle dt)

end Sys2Proof.Machine
end
